-- ==== Sys2Proof/Word.lean ====
section
/-! DEFINITION. Words, sparse tables and byte memories of the KZA-6418 model.

`Word` is the 32-bit value every parameter is carried as (R374). `Tbl` is a sparse table: a list of
(key, value) pairs with strictly rising keys and no entry equal to the default, so that equal tables are equal
data. `Mem` is a byte memory in the same canonical form. -/

namespace Sys2Proof

/-- A parameter value: every value is carried as 32 bits (R374). -/
abbrev Word := BitVec 32

/-- One byte. -/
abbrev Byte := BitVec 8

/-- An exact fraction; the denominator is positive wherever the model builds one. -/
structure Frac where
  num : Int := 0
  den : Nat := 1
deriving DecidableEq, Repr

/-- A sparse table keyed by `Nat`; an absent key reads as the table's default. -/
abbrev Tbl (α : Type) := List (Nat × α)

/-- The value a table holds for key `k`; `d` where it lists none. -/
def tblGet {α : Type} (d : α) : Tbl α → Nat → α
  | [], _ => d
  | (j, v) :: t, k => if j = k then v else tblGet d t k

/-- The table without its entry for `k`. -/
def tblErase {α : Type} : Tbl α → Nat → Tbl α
  | [], _ => []
  | (j, v) :: t, k => if j = k then tblErase t k else (j, v) :: tblErase t k

/-- The table with (`k`, `v`) put before the first larger key. -/
def tblInsert {α : Type} : Tbl α → Nat → α → Tbl α
  | [], k, v => [(k, v)]
  | (j, w) :: t, k, v => if k < j then (k, v) :: (j, w) :: t else (j, w) :: tblInsert t k v

/-- The table with key `k` set to `v`; the default `d` is represented by absence. -/
def tblSet {α : Type} [DecidableEq α] (d : α) (t : Tbl α) (k : Nat) (v : α) : Tbl α :=
  if v = d then tblErase t k else tblInsert (tblErase t k) k v

/-- The keys of a table rise strictly. -/
def tblRising {α : Type} : Tbl α → Bool
  | [] => true
  | [_] => true
  | (j, _) :: (k, w) :: t => decide (j < k) && tblRising ((k, w) :: t)

/-- A table in canonical form: rising keys, no entry equal to the default. -/
def tblWf {α : Type} [DecidableEq α] (d : α) (t : Tbl α) : Bool :=
  tblRising t && t.all (fun e => decide (e.2 ≠ d))

/-- Keep the entries whose key satisfies `p`. -/
def tblKeep {α : Type} (p : Nat → Bool) (t : Tbl α) : Tbl α := t.filter (fun e => p e.1)

/-- Union of two tables with disjoint keys, in rising order. -/
def tblUnion {α : Type} (t : Tbl α) : Tbl α → Tbl α
  | [] => t
  | (k, v) :: u => tblInsert (tblUnion t u) k v

/-- A byte memory: pairs of address and byte, in the canonical form of `tblWf`. -/
abbrev Mem := List (Nat × Byte)

/-- The byte at address `a`; an unlisted address reads as `d`. -/
def memRead (d : Byte) (m : Mem) (a : Nat) : Byte := tblGet d m a

/-- The memory with byte `b` stored at address `a`. -/
def memWrite (d : Byte) (m : Mem) (a : Nat) (b : Byte) : Mem := tblSet d m a b

/-- The memory with the bytes `bs` stored from address `a` on. -/
def memWriteAll (d : Byte) (m : Mem) (a : Nat) : List Byte → Mem
  | [] => m
  | b :: bs => memWriteAll d (memWrite d m a b) (a + 1) bs

/-- `n` bytes from address `a` on. -/
def memReadAll (d : Byte) (m : Mem) (a : Nat) : Nat → List Byte
  | 0 => []
  | n + 1 => memRead d m a :: memReadAll d m (a + 1) n

/-- The canonical form of a memory whose unlisted bytes read as `d`. -/
def memWf (d : Byte) (m : Mem) : Bool := tblWf d m

end Sys2Proof
end

