-- ==== Sys2Proof/Syntax.lean ====
section
/-! DEFINITION. The commands and events the KZA-6418 takes: one constructor of `Instr` for each row of the table of
operations, with the row's operands. What reaches the device from outside (levels, samples, raw codes, frames, packets)
is an operand; what the device itself holds is not. -/

namespace Sys2Proof

/-- The host ports (Table 14.1). -/
inductive HostPort where
  | s1 | s2 | u | e
deriving DecidableEq, Repr

/-- A station on Port E: MAC address, IPv4 address and UDP port. -/
structure Peer where
  mac : BitVec 48
  ip : BitVec 32
  udp : BitVec 16
deriving DecidableEq, Repr

/-- A native or personality packet that has passed steps 1–4 of Table 12.5 (Table 12.1): the port it reached, whether it
carries code 0x22, whether it is a U broadcast (R407), its header fields and payload, and, on Port E, its source. The
opcode is the row's. -/
structure Packet where
  port : HostPort
  pers : Bool
  broadcast : Bool
  seq : BitVec 16
  flags : BitVec 8
  target : BitVec 16
  payload : List Byte
  src : Peer
deriving DecidableEq, Repr

/-- Why COMMAND_PACKET_REJECTED rejects a packet (Table 12.5, steps 1–4), with the opcode byte a reply names. -/
inductive Reject where
  | header
  | length (opcode : BitVec 8)
  | trailer (opcode : BitVec 8)
  | opcode (opcode : BitVec 8)
deriving DecidableEq, Repr

/-- A personality command (Table 14.7): a Gen-1 frame's ARG and DATA on S1, or a packet with code 0x22. -/
inductive PersCommand where
  | frame (arg : BitVec 8) (data : BitVec 16)
  | packet (p : Packet)
deriving DecidableEq, Repr

/-- A system-calibration step: a write of `SAR_SYSCAL` of a group naming a cell, or SYSCAL_STEP. -/
inductive SysStep where
  | ctrl (g : Fin 4) (cell : Fin 64)
  | packet (p : Packet)
deriving DecidableEq, Repr

/-- An acknowledgement: FAULT_ACK, or `FLT_CTRL` ACK with its fault block and class. -/
inductive AckCommand where
  | ctrl (block : BitVec 8) (cls : BitVec 4)
  | packet (p : Packet)
deriving DecidableEq, Repr

/-- What the quadrature decoder sees at one TCLK edge: a step in a direction, before `WH_QDIR`, or both inputs
changed. -/
inductive QuadStep where
  | forward | reverse | both
deriving DecidableEq, Repr

/-- An error that a read of the action store finds in an entry (R46). -/
structure StoreError where
  handle : BitVec 17
  uncorrectable : Bool
deriving DecidableEq, Repr

/-- What a converter meets when it samples: the outside world's part in the source's signal (see `ballSignal`), in nV or
nA, and the converter's own error in its codes. -/
structure Sampled where
  signal : Int
  err : Int
deriving DecidableEq, Repr

/-- What an integrating converter meets over a window: the mean of the outside world's part in the cell's signal, its own
error in codes, whether the cell has reported its PGIA output beyond span within the window, and whether the integrator
has reached its limit (R158, R169). -/
structure Integrated where
  signal : Int
  err : Int
  overSpan : Bool
  limit : Bool
deriving DecidableEq, Repr

/-- The outside world's part in the signal of a cell as it stands at its comparator's tap, before and after the anti-alias
filter (R67). -/
structure TapSample where
  direct : Int := 0
  filtered : Int := 0
deriving DecidableEq, Repr

/-- A reference buffer: a SAR group's, or the one the integrating converters share. -/
inductive RefBuf where
  | sar (g : Fin 4)
  | ic
deriving DecidableEq, Repr

/-- What the user logic does at one FCLK edge: the flip-flops that change at the clocking, the levels of its output lines
(Table 8.1), the block RAMs whose read at the edge has a parity error, its writes of block RAM (RAM, address and data in the
configured width, R219), and whether the shadow plane is corrupt where a swap is due. `upsets` are the parity bits, by RAM
and word, that have flipped since the edge before. -/
structure FabEdge where
  flips : BitVec 1536
  gpo : BitVec 48
  gpoe : BitVec 48
  swout : BitVec 32
  tmcap : BitVec 64
  tmtrig : BitVec 64
  tmcen : BitVec 64
  parity : BitVec 24
  writes : List (Nat × Nat × Word)
  upsets : List (Nat × Nat × BitVec 4)
  shadowBad : Bool
deriving DecidableEq, Repr

/-- What the PHY answers to a poll (R398, Table 14.8). -/
inductive PhyAnswer where
  | up | down | silent
deriving DecidableEq, Repr

/-- The DHCP replies a client takes. -/
inductive DhcpKind where
  | offer | ack | nak
deriving DecidableEq, Repr

/-- A DHCP reply: the lease it offers or grants; times in seconds. -/
structure DhcpMessage where
  kind : DhcpKind
  ip : BitVec 32
  mask : BitVec 32
  gw : BitVec 32
  lease : BitVec 32
  t1 : BitVec 32
  t2 : BitVec 32
deriving DecidableEq, Repr

/-- Why Port E drops a frame: a cause of Table 14.5 by instance of `HP_ERXDROP`, or no receive buffer (RXOVF). -/
inductive EthDrop where
  | cause (k : Fin 4)
  | noBuffer
deriving DecidableEq, Repr

/-- An Announce message: its domain, the sender's port identity, the dataset fields in the order of the standard's
comparison, the grandmaster's identity, and the base-2 logarithm of the announce interval. -/
structure PtpAnnounce where
  domain : BitVec 8
  port : BitVec 80
  rank : List Nat
  gm : BitVec 64
  interval : Int
deriving DecidableEq, Repr

/-- A Sync message: origin time and correction in nanoseconds, and whether a Follow_Up carries the origin. -/
structure PtpSync where
  domain : BitVec 8
  port : BitVec 80
  seq : BitVec 16
  twoStep : Bool
  origin : Int
  correction : Int
  interval : Int
deriving DecidableEq, Repr

/-- A Follow_Up message. -/
structure PtpFollowUp where
  domain : BitVec 8
  port : BitVec 80
  seq : BitVec 16
  origin : Int
  correction : Int
deriving DecidableEq, Repr

/-- A Delay_Resp message to the device's own request. -/
structure PtpDelayResp where
  domain : BitVec 8
  port : BitVec 80
  seq : BitVec 16
  receive : Int
  correction : Int
  interval : Int
deriving DecidableEq, Repr

/-- What a run step of calibration measures (Table 10.3): V_CR in µV, and whether the CDAC's 16 levels lie on the line
through it; the sums of 64 raw codes of a cell's PGIA output at the two levels (R291); or the pair that a node and an
output point, or a converter's reference, give (R294). -/
inductive CalMeasure where
  | line (vcr : BitVec 32) (linear : Bool)
  | levels (low high : BitVec 18)
  | pair (gain : BitVec 32) (offset : Int)
deriving DecidableEq, Repr

/-- An OTP word with an error in phase 4 (Table 19.8), by word address: corrected, or the item that is lost. -/
inductive OtpError where
  | corrected (addr : BitVec 16)
  | pair (addr : BitVec 16) (kind : Fin 5) (index : BitVec 9)
  | key (addr : BitVec 16) (slot : Fin 4)
  | mac (addr : BitVec 16)
deriving DecidableEq, Repr

/-- The rails that are monitored for presence (R560). -/
inductive Rail where
  | vioB | avpos | avneg
deriving DecidableEq, Repr

/-- One command or event: one constructor per row of the table of operations, those with operands first, each part
in the table's order. -/
inductive Instr where
  /-- `QUAD_EDGE` (R26). -/
  | quadEdge (k : QuadStep)
  /-- `SSI_FRAME` (R30). -/
  | ssiFrame (data : BitVec 32) (startHigh endLow : Bool)
  /-- `MAINS_ZERO_CROSSING` (R161). -/
  | mainsZeroCrossing (rising : Bool)
  /-- `ENCFLT_PIN_CHANGE` (R541). -/
  | encfltPinChange (pin : Fin 48) (level : Bool)
  /-- `EVALUATION_STEP` (R38). -/
  | evaluationStep (ecc : List StoreError)
  /-- `TIME_QUEUE_DUE` (R49). -/
  | timeQueueDue (q : Fin 16) (ecc : List StoreError)
  /-- `WH_TQCTL_ENABLE` (R51). -/
  | whTqctlEnable (q : Fin 16)
  /-- `WH_TQCTL_DISABLE` (R51). -/
  | whTqctlDisable (q : Fin 16)
  /-- `WH_TQCTL_CLEAR` (R60). -/
  | whTqctlClear (q : Fin 16)
  /-- `SETTLING_END` (R69). -/
  | settlingEnd (n : Fin 64)
  /-- `AC_OUT_WRITE` (R74). -/
  | acOutWrite (n : Fin 64) (v : Word)
  /-- `AC_CTRL_RESUME` (R82). -/
  | acCtrlResume (n : Fin 64)
  /-- `AC_CTRL_CLEAR_COUNTERS` (R95). -/
  | acCtrlClearCounters (n : Fin 64)
  /-- `OVR` (R93). -/
  | ovr (n : Fin 64)
  /-- `INCLAMP` (R93). -/
  | inclamp (n : Fin 64)
  /-- `OPENIN` (R93). -/
  | openin (n : Fin 64)
  /-- `EXCFLT` (R93). -/
  | excflt (n : Fin 64)
  /-- `OUTOPEN` (R93). -/
  | outopen (n : Fin 64)
  /-- `OUTLIM` (R93). -/
  | outlim (n : Fin 64) (logBad : Bool)
  /-- `HVRAIL` (R93). -/
  | hvrail (n : Fin 64)
  /-- `DELIVERED_EDGE` (R109). -/
  | deliveredEdge (n : Fin 64) (x : TapSample)
  /-- `BLANK_END` (R100). -/
  | blankEnd (n : Fin 64)
  /-- `HELD_RELEASE` (R108). -/
  | heldRelease (n : Fin 64) (x : TapSample)
  /-- `CMP_THR_WRITE` (R97). -/
  | cmpThrWrite (n : Fin 64) (v : Word)
  /-- `CMP_CTRL_ENABLE` (R105). -/
  | cmpCtrlEnable (n : Fin 64)
  /-- `CMP_CTRL_DISABLE` (R105). -/
  | cmpCtrlDisable (n : Fin 64)
  /-- `CMP_CTRL_ARM` (R106). -/
  | cmpCtrlArm (n : Fin 64)
  /-- `CMP_CTRL_DISARM` (R106). -/
  | cmpCtrlDisarm (n : Fin 64)
  /-- `CMP_CTRL_RESUME` (R105). -/
  | cmpCtrlResume (n : Fin 64)
  /-- `CMP_CTRL_CLEAR_COUNTERS` (R117). -/
  | cmpCtrlClearCounters (n : Fin 64)
  /-- `DACCHK` (R115). -/
  | dacchk (n : Fin 64)
  /-- `SCLK` (R115). -/
  | sclk (n : Fin 64)
  /-- `SLOT_BOUNDARY` (R150). -/
  | slotBoundary (g : Fin 4) (half : Bool)
  /-- `CONVERSION_COMPLETE` (R120). -/
  | conversionComplete (g : Fin 4) (i : Fin 5) (x : Sampled) (parity : Bool)
  /-- `SLICE_TIMEOUT` (R152). -/
  | sliceTimeout (g : Fin 4) (i : Fin 5)
  /-- `SAR_CTRL_START` (R130). -/
  | sarCtrlStart (g : Fin 4) (list : Fin 16)
  /-- `SAR_CTRL_STOP` (R130). -/
  | sarCtrlStop (g : Fin 4)
  /-- `SAR_CTRL_RESUME` (R148). -/
  | sarCtrlResume (g : Fin 4)
  /-- `SAR_CTRL_CLEAR_COUNTERS` (R155). -/
  | sarCtrlClearCounters (g : Fin 4)
  /-- `SYSCAL_CLEAR` (R147). -/
  | syscalClear (c : SysStep)
  /-- `SYSCAL_ZERO` (R144). -/
  | syscalZero (c : SysStep)
  /-- `SYSCAL_FULL` (R144). -/
  | syscalFull (c : SysStep)
  /-- `SYSCAL_APPLY` (R147). -/
  | syscalApply (c : SysStep)
  /-- `SYSCAL_DONE` (R144). -/
  | syscalDone (g : Fin 4)
  /-- `SYSCAL_TIMEOUT` (R145). -/
  | syscalTimeout (g : Fin 4)
  /-- `REFSET_ELAPSED` (R135). -/
  | refsetElapsed (b : RefBuf)
  /-- `REFOOT` (R153). -/
  | refoot (b : RefBuf)
  /-- `SARCLK` (R153). -/
  | sarclk (g : Fin 4)
  /-- `INTEGRATION_END` (R158). -/
  | integrationEnd (i : Fin 8)
  /-- `OVERHEAD_END` (R157). -/
  | overheadEnd (i : Fin 8) (x : Integrated) (parity : Bool)
  /-- `CYCLE_WINDOW_TIMEOUT` (R160). -/
  | cycleWindowTimeout (i : Fin 8)
  /-- `OVERHEAD_TIMEOUT` (R176). -/
  | overheadTimeout (i : Fin 8)
  /-- `IC_CTRL_START` (R166). -/
  | icCtrlStart (i : Fin 8) (slot : Fin 4)
  /-- `IC_CTRL_STOP` (R166). -/
  | icCtrlStop (i : Fin 8)
  /-- `IC_CTRL_RESUME` (R172). -/
  | icCtrlResume (i : Fin 8)
  /-- `IC_CTRL_CLEAR_COUNTERS` (R179). -/
  | icCtrlClearCounters (i : Fin 8)
  /-- `LANE_OUTPUT` (R194). -/
  | laneOutput (n : Fin 32)
  /-- `ANGLE_BLOCK_TIMEOUT` (R201). -/
  | angleBlockTimeout (n : Fin 32)
  /-- `LANE_STALL` (R213). -/
  | laneStall (n : Fin 32)
  /-- `FL_CTRL_RESUME` (R216). -/
  | flCtrlResume (n : Fin 32)
  /-- `FL_CTRL_RESTART` (R216). -/
  | flCtrlRestart (n : Fin 32)
  /-- `FL_CTRL_CLEAR_COUNTERS` (R216). -/
  | flCtrlClearCounters (n : Fin 32)
  /-- `FL_DCM_WRITE` (R185). -/
  | flDcmWrite (n : Fin 32) (v : Word)
  /-- `FAB_RAMDAT_ACCESS` (R220). -/
  | fabRamdatAccess (r : Fin 24) (write : Option Word)
  /-- `FABRIC_MB_POST` (R227). -/
  | fabricMbPost (k : Fin 4) (payload : List Byte)
  /-- `FABRIC_MB_TAKE` (R227). -/
  | fabricMbTake (k : Fin 4)
  /-- `TIMER_CAPTURE` (R230). -/
  | timerCapture (n : Fin 64)
  /-- `TIMER_COMPARE` (R230). -/
  | timerCompare (n : Fin 64)
  /-- `TIMER_TRIGGER` (R229). -/
  | timerTrigger (n : Fin 64)
  /-- `TM_CTRL_START` (R245). -/
  | tmCtrlStart (n : Fin 64)
  /-- `TM_CTRL_STOP` (R245). -/
  | tmCtrlStop (n : Fin 64)
  /-- `TM_CTRL_RESUME` (R245). -/
  | tmCtrlResume (n : Fin 64)
  /-- `TM_CTRL_CLEAR_COUNTERS` (R245). -/
  | tmCtrlClearCounters (n : Fin 64)
  /-- `TM_CTRL_TRIG` (R229). -/
  | tmCtrlTrig (n : Fin 64)
  /-- `TM_LASTANG_READ` (R233). -/
  | tmLastangRead (n : Fin 64)
  /-- `CONFIG_SCRUB` (R242). -/
  | configScrub (bad : Bool)
  /-- `BLOCK_GATED` (R260). -/
  | blockGated (b : BitVec 8)
  /-- `THERMAL_SAMPLE` (R254). -/
  | thermalSample (temps : List Int) (currents : List Nat)
  /-- `KL_CTRL_RUN` (R265). -/
  | klCtrlRun (c : Option Packet)
  /-- `KL_CTRL_IDLE` (R265). -/
  | klCtrlIdle (c : Option Packet)
  /-- `KL_CTRL_HIBERNATE` (R266). -/
  | klCtrlHibernate (c : Option Packet)
  /-- `KL_CTRL_RESUME` (R265). -/
  | klCtrlResume (c : Option Packet)
  /-- `SPARE_CAL_START` (R286). -/
  | spareCalStart (g : Fin 4)
  /-- `SPARE_CAL_DONE` (R286): the sums of the 128 conversions of AGND and of V_CR. -/
  | spareCalDone (g : Fin 4) (zero full : BitVec 19) (vcr : BitVec 32)
  /-- `SPARE_CAL_TIMEOUT` (R307). -/
  | spareCalTimeout (g : Fin 4)
  /-- `CAL_STEP_DONE` (R289): what has been measured on the bus, or in the overhead of a converter. -/
  | calStepDone (ic : Option (Fin 8)) (x : CalMeasure)
  /-- `INJECTION_RECOVERY_END` (R292). -/
  | injectionRecoveryEnd (n : Fin 64)
  /-- `OUTPUT_BLEND_TICK` (R288). -/
  | outputBlendTick (idx : Fin 128)
  /-- `CAL_CTRL_START` (R285). -/
  | calCtrlStart (c : Option Packet)
  /-- `CAL_CTRL_ABORT` (R304). -/
  | calCtrlAbort (c : Option Packet)
  /-- `CAL_CTRL_COMMIT` (R304). -/
  | calCtrlCommit (c : Option Packet)
  /-- `CAL_COEF_WRITE` (R304). -/
  | calCoefWrite (gain : Bool) (v : Word)
  /-- `GRIST_OPEN` (R318). -/
  | gristOpen (p : Packet)
  /-- `GRIST_DATA` (R319). -/
  | gristData (p : Packet)
  /-- `GRIST_CLOSE` (R320). -/
  | gristClose (p : Packet)
  /-- `GRIST_INFO` (R362). -/
  | gristInfo (p : Packet)
  /-- `KEY_PROGRAM` (R323). -/
  | keyProgram (p : Packet)
  /-- `BANK_READ` (R362). -/
  | bankRead (p : Packet)
  /-- `FLASH_READ` (R362). -/
  | flashRead (p : Packet)
  /-- `FLASH_ERASE` (R365). -/
  | flashErase (p : Packet)
  /-- `FLASH_WRITE` (R365). -/
  | flashWrite (p : Packet)
  /-- `GR_CTRL_KEYREVOKE` (R323). -/
  | grCtrlKeyrevoke (slot : BitVec 8)
  /-- `NOP` (R362). -/
  | nop (p : Packet)
  /-- `SESSION_OPEN` (R351). -/
  | sessionOpen (p : Packet)
  /-- `SESSION_CLOSE` (R353). -/
  | sessionClose (p : Packet)
  /-- `IDENTIFY` (R362). -/
  | identify (p : Packet)
  /-- `OWN_TAKE` (R357). -/
  | ownTake (p : Packet)
  /-- `OWN_RELEASE` (R358). -/
  | ownRelease (p : Packet)
  /-- `OWN_QUERY` (R362). -/
  | ownQuery (p : Packet)
  /-- `ECHO` (R362). -/
  | echo (p : Packet)
  /-- `GET_TIME` (R362). -/
  | getTime (p : Packet)
  /-- `GET_STATUS` (R362). -/
  | getStatus (p : Packet)
  /-- `RESET_HOPPER_RESTART` (R354). -/
  | resetHopperRestart (p : Packet)
  /-- `RESET_DEVICE` (R566). -/
  | resetDevice (p : Packet)
  /-- `GET_PARAM` (R375). -/
  | getParam (p : Packet)
  /-- `SET_PARAM` (R375). -/
  | setParam (p : Packet)
  /-- `GET_MULTI` (R381). -/
  | getMulti (p : Packet)
  /-- `SET_MULTI` (R363). -/
  | setMulti (p : Packet)
  /-- `GET_RANGE` (R381). -/
  | getRange (p : Packet)
  /-- `SET_GROUP` (R383). -/
  | setGroup (p : Packet)
  /-- `COMMIT` (R386). -/
  | commit (p : Packet)
  /-- `GROUP_CANCEL` (R388). -/
  | groupCancel (p : Packet)
  /-- `GROUP_LAPSE` (R388). -/
  | groupLapse (port : HostPort)
  /-- `PARAM_INFO` (R645). -/
  | paramInfo (p : Packet)
  /-- `SET_BITS` (R364). -/
  | setBits (p : Packet)
  /-- `POST_ACTION` (R42). -/
  | postAction (p : Packet)
  /-- `CANCEL_ACTION` (R44). -/
  | cancelAction (p : Packet)
  /-- `CLEAR_QUEUE` (R44). -/
  | clearQueue (p : Packet)
  /-- `POST_MULTI` (R366). -/
  | postMulti (p : Packet)
  /-- `READ_QUEUE` (R362). -/
  | readQueue (p : Packet) (ecc : List StoreError)
  /-- `READ_ACTION` (R362). -/
  | readAction (p : Packet) (ecc : List StoreError)
  /-- `GET_ANGLE` (R362). -/
  | getAngle (p : Packet)
  /-- `WAIT_BIN` (R367). -/
  | waitBin (p : Packet)
  /-- `READ_RESULT` (R362). -/
  | readResult (p : Packet)
  /-- `READ_LANE` (R362). -/
  | readLane (p : Packet)
  /-- `SCAN_LOAD` (R362). -/
  | scanLoad (p : Packet)
  /-- `COEF_LOAD` (R362). -/
  | coefLoad (p : Packet)
  /-- `COEF_READ` (R362). -/
  | coefRead (p : Packet)
  /-- `SCAN_READ` (R362). -/
  | scanRead (p : Packet)
  /-- `COEF_GET` (R303). -/
  | coefGet (p : Packet)
  /-- `COEF_PUT` (R304). -/
  | coefPut (p : Packet)
  /-- `COEF_DUMP` (R362). -/
  | coefDump (p : Packet)
  /-- `STREAM_READ` (R452). -/
  | streamRead (p : Packet) (poolBad : Bool)
  /-- `STREAM_STATUS` (R362). -/
  | streamStatus (p : Packet)
  /-- `STREAM_FLUSH` (R457). -/
  | streamFlush (p : Packet)
  /-- `MB_READ` (R434). -/
  | mbRead (p : Packet)
  /-- `MB_WRITE` (R433). -/
  | mbWrite (p : Packet)
  /-- `MB_STATUS` (R362). -/
  | mbStatus (p : Packet)
  /-- `FAULT_SUMMARY` (R362). -/
  | faultSummary (p : Packet)
  /-- `FAULT_READ` (R477). -/
  | faultRead (p : Packet)
  /-- `FAULT_ACK` (R475). -/
  | faultAck (c : AckCommand)
  /-- `LOG_READ` (R484). -/
  | logRead (p : Packet) (bad : Option (BitVec 9))
  /-- `LOG_CLEAR` (R484). -/
  | logClear (c : Option Packet)
  /-- `KILN_REPORT` (R362). -/
  | kilnReport (p : Packet)
  /-- `KILN_JOBS` (R362). -/
  | kilnJobs (p : Packet)
  /-- `SL_STATUS` (R362). -/
  | slStatus (p : Packet)
  /-- `SL_ROLE` (R526). -/
  | slRole (p : Packet)
  /-- `SL_COPY` (R520). -/
  | slCopy (p : Packet)
  /-- `SL_TAKEOVER` (R522). -/
  | slTakeover (p : Packet)
  /-- `TEST_ENTER` (R588). -/
  | testEnter (p : Packet) (pinLow : Bool)
  /-- `TEST_RESPONSE` (R588). -/
  | testResponse (p : Packet)
  /-- `TEST_EXIT` (R589). -/
  | testExit (p : Packet)
  /-- `FAULT_INJECT` (R590). -/
  | faultInject (p : Packet)
  /-- `MEM_READ` (R591). -/
  | memRead (p : Packet)
  /-- `TRACE_READ` (R596). -/
  | traceRead (p : Packet) (ecc : Option (BitVec 12 × Bool))
  /-- `TRACE_START` (R601). -/
  | traceStart (c : Option Packet)
  /-- `TRACE_STOP` (R601). -/
  | traceStop (c : Option Packet)
  /-- `TRACE_CLEAR` (R601). -/
  | traceClear (c : Option Packet)
  /-- `PENDING_TIMEOUT` (R360). -/
  | pendingTimeout (port : HostPort) (seq : BitVec 16)
  /-- `READ_ID` (R421). -/
  | readId (c : PersCommand)
  /-- `READ_STATUS` (R421). -/
  | readStatus (c : PersCommand)
  /-- `SOFT_RESET` (R421). -/
  | softReset (c : PersCommand)
  /-- `SET_GAIN` (R421). -/
  | setGain (c : PersCommand)
  /-- `GET_GAIN` (R421). -/
  | getGain (c : PersCommand)
  /-- `SET_FILTER` (R421). -/
  | setFilter (c : PersCommand)
  /-- `SET_MODE` (R422). -/
  | setMode (c : PersCommand)
  /-- `START_SCAN` (R423). -/
  | startScan (c : PersCommand)
  /-- `STOP_SCAN` (R421). -/
  | stopScan (c : PersCommand)
  /-- `READ_CH` (R421). -/
  | readCh (c : PersCommand)
  /-- `SET_RATE` (R421). -/
  | setRate (c : PersCommand)
  /-- `SET_THRH` (R421). -/
  | setThrh (c : PersCommand)
  /-- `SET_THRL` (R421). -/
  | setThrl (c : PersCommand)
  /-- `PERS_CMP_CTRL` (R421). -/
  | persCmpCtrl (c : PersCommand)
  /-- `READ_CMP` (R421). -/
  | readCmp (c : PersCommand)
  /-- `SET_OUT` (R421). -/
  | setOut (c : PersCommand)
  /-- `READ_BLOCK` (R424). -/
  | readBlock (c : PersCommand)
  /-- `XSEL` (R421). -/
  | xsel (c : PersCommand)
  /-- `XRDLO` (R421). -/
  | xrdlo (c : PersCommand)
  /-- `XRDHI` (R421). -/
  | xrdhi (c : PersCommand)
  /-- `XWRLO` (R421). -/
  | xwrlo (c : PersCommand)
  /-- `XWRHI` (R421). -/
  | xwrhi (c : PersCommand)
  /-- `FAITHFUL_REPLY_RELEASE` (R425). -/
  | faithfulReplyRelease (port : HostPort)
  /-- `S2_READ` (R405). -/
  | s2Read (whole : Bool)
  /-- `U_FRAME_GAP` (R407). -/
  | uFrameGap (complete : Bool)
  /-- `U_TRANSMIT` (R408). -/
  | uTransmit (collision : Option Nat)
  /-- `LINK_TIMEOUT` (R398). -/
  | linkTimeout (port : HostPort)
  /-- `PHY_POLL` (R398). -/
  | phyPoll (r : PhyAnswer)
  /-- `DHCP_MESSAGE` (R411). -/
  | dhcpMessage (m : DhcpMessage)
  /-- `ARP_REQUEST` (R410). -/
  | arpRequest (target sender : BitVec 32)
  /-- `ETH_FRAME_DISCARD` (R410). -/
  | ethFrameDiscard (cause : EthDrop)
  /-- `PTP_ANNOUNCE` (R414). -/
  | ptpAnnounce (m : PtpAnnounce)
  /-- `PTP_SYNC` (R415). -/
  | ptpSync (m : PtpSync)
  /-- `PTP_FOLLOW_UP` (R415). -/
  | ptpFollowUp (m : PtpFollowUp)
  /-- `PTP_DELAY_RESP` (R415). -/
  | ptpDelayResp (m : PtpDelayResp)
  /-- `HP_PORTEN_WRITE` (R396). -/
  | hpPortenWrite (v : Word)
  /-- `MB_RELAY` (R436). -/
  | mbRelay (k : Fin 8)
  /-- `MB_RELAY_TIMEOUT` (R436). -/
  | mbRelayTimeout (k : Fin 8)
  /-- `MB_CTRL_CLEAR` (R463). -/
  | mbCtrlClear (n : Fin 16)
  /-- `MB_CTRL_CLEAR_COUNTERS` (R463). -/
  | mbCtrlClearCounters (n : Fin 16)
  /-- `STREAM_DATAGRAM_SEND` (R453). -/
  | streamDatagramSend (n : Fin 64) (poolBad : Bool)
  /-- `ST_CTRL_ENABLE` (R448). -/
  | stCtrlEnable (n : Fin 64)
  /-- `ST_CTRL_DISABLE` (R456). -/
  | stCtrlDisable (n : Fin 64)
  /-- `ST_CTRL_FLUSH` (R463). -/
  | stCtrlFlush (n : Fin 64)
  /-- `ST_MARK` (R443). -/
  | stMark (n : Fin 64) (tag : BitVec 16)
  /-- `ST_CTRL_CLEAR_COUNTERS` (R463). -/
  | stCtrlClearCounters (n : Fin 64)
  /-- `FREELIST_CHECK` (R460). -/
  | freelistCheck (bad : Bool)
  /-- `GRACE_EXPIRY` (R473). -/
  | graceExpiry (b : BitVec 8)
  /-- `MASK_WINDOW_CLOSE` (R490). -/
  | maskWindowClose (b : BitVec 8)
  /-- `HOPPER_MEMORY_ECC` (R494). -/
  | hopperMemoryEcc (uncorrectable : Bool)
  /-- `SYNC_FRAME` (R500). -/
  | syncFrame (frame : List Byte)
  /-- `SL_ENABLE_WRITE` (R507). -/
  | slEnableWrite (v : Word)
  /-- `SUPPLY_DROP` (R560). -/
  | supplyDrop (rail : Fin 3)
  /-- `END_OF_DEVICE_RESET` (R570). -/
  | endOfDeviceReset (otp : List OtpError) (patchBad : Bool)
  /-- `SELF_TEST_DONE` (R571). -/
  | selfTestDone (fail : Option (Fin 8))
  /-- `HOPPER_RESTART_DONE` (R568). -/
  | hopperRestartDone (patchBad : Bool)
  /-- `BLOCK_RESET` (R592). -/
  | blockReset (v : Word)
  /-- `BLOCK_RESET_DONE` (R569). -/
  | blockResetDone (b : BitVec 8)
  /-- `VIORANGE` (R581). -/
  | viorange (a b : Bool)
  /-- `SAMPLE_PRELOAD` (R583). -/
  | samplePreload (balls shifted : BitVec 341)
  /-- `RECSEL` (R587). -/
  | recsel (sel : BitVec 16)
  /-- `TRACE_MARK` (R593). -/
  | traceMark (v : Word)
  /-- `COMMAND_PACKET_REJECTED` (R347). -/
  | commandPacketRejected (p : Packet) (why : Reject)
  /-- `GEN1_FRAME_REJECTED` (R400). -/
  | gen1FrameRejected (op : BitVec 6) (undefinedOp : Bool)
  /-- `HOST_PORT_ACTIVITY_WAKE` (R268). -/
  | hostPortActivityWake (port : HostPort)
  /-- `CROSSING_AT_THE_TAP` (R102). -/
  | crossingAtTheTap (n : Fin 64) (x : TapSample)
  /-- `URGENT_REQUEST_DISPATCH` (R112). -/
  | urgentRequestDispatch (n : Fin 64)
  /-- `FABRIC_CLOCK_EDGE` (R218). -/
  | fabricClockEdge (e : FabEdge)
  /-- `BLOCK_POWERED` (R260). -/
  | blockPowered (b : BitVec 8)
  /-- `RAIL_PRESENCE_CHANGE` (R560). -/
  | railPresenceChange (rail : Rail) (present : Bool)
  /-- `CAPTURE_PARITY_ERROR` (R494). -/
  | captureParityError (b : BitVec 8)
  /-- `EPISODE_END` (R466). -/
  | episodeEnd (b d : BitVec 8)
  /-- `REVERSE_LIMIT` (R52). -/
  | reverseLimit
  /-- `Z_EDGE` (R28). -/
  | zEdge
  /-- `ZMISS` (R28). -/
  | zmiss
  /-- `MAINS_TIMEOUT` (R161). -/
  | mainsTimeout
  /-- `COAST_LIMIT` (R53). -/
  | coastLimit
  /-- `HOLD_RELEASE` (R33). -/
  | holdRelease
  /-- `STANDSTILL_TIMEOUT` (R34). -/
  | standstillTimeout
  /-- `WH_CTRL_RUN` (R60). -/
  | whCtrlRun
  /-- `WH_CTRL_STOP` (R60). -/
  | whCtrlStop
  /-- `WH_CTRL_REREF` (R59). -/
  | whCtrlReref
  /-- `WH_CTRL_CLEAR_COUNTERS` (R60). -/
  | whCtrlClearCounters
  /-- `FCLK_LOSS` (R242). -/
  | fclkLoss
  /-- `FAB_CTRL_RESUME` (R238). -/
  | fabCtrlResume
  /-- `FAB_CTRL_CLEAR_COUNTERS` (R245). -/
  | fabCtrlClearCounters
  /-- `FAB_CTRL_REINIT` (R245). -/
  | fabCtrlReinit
  /-- `TIMED_PLAN` (R252). -/
  | timedPlan
  /-- `KL_CTRL_CLEAR_COUNTERS` (R276). -/
  | klCtrlClearCounters
  /-- `WAKE_TIMER` (R268). -/
  | wakeTimer
  /-- `HIBERNATE_EXIT` (R269). -/
  | hibernateExit
  /-- `CAL_RUN_TIMEOUT` (R305). -/
  | calRunTimeout
  /-- `CAL_CTRL_RETRIG` (R306). -/
  | calCtrlRetrig
  /-- `CAL_CTRL_CLEAR_COUNTERS` (R309). -/
  | calCtrlClearCounters
  /-- `GRIST_CHECK_DONE` (R320). -/
  | gristCheckDone
  /-- `GRIST_LOAD_TIMEOUT` (R321). -/
  | gristLoadTimeout
  /-- `RESTORE_DONE` (R336). -/
  | restoreDone
  /-- `AUTOCOMMIT` (R329). -/
  | autocommit
  /-- `FLASH_OP_DONE` (R365). -/
  | flashOpDone
  /-- `GR_CTRL_ARM` (R325). -/
  | grCtrlArm
  /-- `GR_CTRL_ABORT` (R337). -/
  | grCtrlAbort
  /-- `GR_CTRL_COMMIT` (R329). -/
  | grCtrlCommit
  /-- `GR_CTRL_ROLLBACK` (R330). -/
  | grCtrlRollback
  /-- `GR_CTRL_IMMEDIATE` (R331). -/
  | grCtrlImmediate
  /-- `GR_CTRL_FLASH` (R333). -/
  | grCtrlFlash
  /-- `GR_CTRL_CLEAR_COUNTERS` (R341). -/
  | grCtrlClearCounters
  /-- `GEN1_NOP` (R401). -/
  | gen1Nop
  /-- `GEN1_FRAME_DISCARD` (R400). -/
  | gen1FrameDiscard
  /-- `S2_STATUS` (R403). -/
  | s2Status
  /-- `S2_WRITE_ABORT` (R404). -/
  | s2WriteAbort
  /-- `DHCP_RENEW` (R411). -/
  | dhcpRenew
  /-- `DHCP_REBIND` (R411). -/
  | dhcpRebind
  /-- `DHCP_LEASE_EXPIRY` (R411). -/
  | dhcpLeaseExpiry
  /-- `PTP_DELAY_REQ_SEND` (R414). -/
  | ptpDelayReqSend
  /-- `PTP_TIMEOUT` (R416). -/
  | ptpTimeout
  /-- `EVENT_HOLDOFF_EXPIRY` (R419). -/
  | eventHoldoffExpiry
  /-- `HP_PCTRL_CLEAR_COUNTERS` (R393). -/
  | hpPctrlClearCounters
  /-- `HP_TIMEL_READ` (R382). -/
  | hpTimelRead
  /-- `HP_PTPOFSL_READ` (R382). -/
  | hpPtpofslRead
  /-- `ST_POOLCTRL_RESUME` (R456). -/
  | stPoolctrlResume
  /-- `ST_POOLCTRL_CLEAR` (R463). -/
  | stPoolctrlClear
  /-- `FLT_CTRL_ACKALL` (R497). -/
  | fltCtrlAckall
  /-- `FLT_CTRL_CLEAR_COUNTERS` (R497). -/
  | fltCtrlClearCounters
  /-- `FLT_CAP0_READ` (R382). -/
  | fltCap0Read
  /-- `HOPPER_WATCHDOG` (R494). -/
  | hopperWatchdog
  /-- `LOCKSTEP_MISMATCH` (R494). -/
  | lockstepMismatch
  /-- `SYNC_FRAME_ORIGINATE` (R498). -/
  | syncFrameOriginate
  /-- `SL_LOSS_TIMEOUT` (R506). -/
  | slLossTimeout
  /-- `REFORM_END` (R503). -/
  | reformEnd
  /-- `UID_COMPARE` (R505). -/
  | uidCompare
  /-- `TIME_DIVERGENCE_TIMEOUT` (R509). -/
  | timeDivergenceTimeout
  /-- `HASH_MISMATCH` (R513). -/
  | hashMismatch
  /-- `SYNC_HOLD_EXIT` (R514). -/
  | syncHoldExit
  /-- `SL_CTRL_REFORM` (R503). -/
  | slCtrlReform
  /-- `SL_CTRL_RELEASE` (R521). -/
  | slCtrlRelease
  /-- `SL_CTRL_RESUME` (R515). -/
  | slCtrlResume
  /-- `SL_CTRL_CLEAR_COUNTERS` (R526). -/
  | slCtrlClearCounters
  /-- `POWER_ON` (R560). -/
  | powerOn
  /-- `RESET_N` (R566). -/
  | resetN
  /-- `CLOCK_LOSS` (R564). -/
  | clockLoss
  /-- `PLL_LOSS_OF_LOCK` (R565). -/
  | pllLossOfLock
  /-- `CLOCK_QUALIFIED` (R564). -/
  | clockQualified
  /-- `PLL_LOCKED` (R565). -/
  | pllLocked
  /-- `FLASH_DIRECTORY_READ` (R332). -/
  | flashDirectoryRead
  /-- `BOOT_IMAGE_LOADED` (R333). -/
  | bootImageLoaded
  /-- `VREFIO_READY` (R573). -/
  | vrefioReady
  /-- `ICAL_SETTLED` (R574). -/
  | icalSettled
  /-- `VIOBLOW` (R581). -/
  | vioblow
  /-- `JTAG_TEST_LOGIC_RESET` (R582). -/
  | jtagTestLogicReset
  /-- `EXTEST` (R586). -/
  | extest
  /-- `IDCODE` (R583). -/
  | idcode
  /-- `JTAG_CLAMP` (R586). -/
  | jtagClamp
  /-- `HIGHZ` (R586). -/
  | highz
  /-- `RECDATA` (R587). -/
  | recdata
  /-- `BYPASS` (R583). -/
  | bypass
  /-- `TESTMODE_N_HIGH` (R589). -/
  | testmodeNHigh
  /-- `TEST_MODE_IDLE_TIMEOUT` (R589). -/
  | testModeIdleTimeout
  /-- `TST_CTRL_CLEAR_COUNTERS` (R601). -/
  | tstCtrlClearCounters
  /-- `TRACE_FIFO_DRAIN` (R594). -/
  | traceFifoDrain
  /-- `U_FRAMING_ERROR` (R407). -/
  | uFramingError
  /-- `KEY_PROGRAM_COMPLETE` (R323). -/
  | keyProgramComplete
  /-- `DEVICE_RESET_CAUSE_END` (R570). -/
  | deviceResetCauseEnd
deriving DecidableEq, Repr

end Sys2Proof
end

