-- ==== Sys2Proof/Decode.lean ====
section
/-! DEFINITION. The commands that words spell by the opcode table's bits. -/

namespace Sys2Proof

/-- The command that a word spells by the bits of the opcode table. No row of the table gives bits (commands are events
at ports, pins and blocks, and the chapter on command packets lays out packets, not words of the table), so no word spells
one. -/
def decodeTableWord (_nbits _w : Nat) : Option Instr := none

end Sys2Proof
end

