-- ==== Sys2Proof/Machine/Bits.lean ====
section
/-! DEFINITION. Bit fields, byte orders, roundings and small list operations that every block of the model uses. -/

namespace Sys2Proof

/-- Bits [`lo` + `w` − 1 : `lo`] of a natural number. -/
def bitsOf (x lo w : Nat) : Nat := (x / 2 ^ lo) % 2 ^ w

/-- Bit `i` of a natural number. -/
def bitOf (x i : Nat) : Bool := (x / 2 ^ i) % 2 == 1

/-- 1 for true, 0 for false. -/
def b2n (b : Bool) : Nat := if b then 1 else 0

/-- Two's-complement reading of the low `w` bits. -/
def signedOf (w x : Nat) : Int :=
  let y := x % 2 ^ w
  if y < 2 ^ (w - 1) then (y : Int) else (y : Int) - (2 ^ w : Nat)

/-- The low `w` bits of an integer, as a natural number. -/
def wrapTo (w : Nat) (x : Int) : Nat := (x % (2 ^ w : Nat)).toNat

/-- `x` limited to [`lo`, `hi`]. -/
def clampInt (lo hi x : Int) : Int := if x < lo then lo else if hi < x then hi else x

/-- Little-endian bytes of a natural number. -/
def leBytes : Nat → Nat → List Byte
  | 0, _ => []
  | n + 1, x => BitVec.ofNat 8 x :: leBytes n (x / 256)

/-- The natural number whose little-endian bytes are given. -/
def leNat : List Byte → Nat
  | [] => 0
  | b :: bs => b.toNat + 256 * leNat bs

/-- Big-endian reading of bytes. -/
def beNat (bs : List Byte) : Nat := bs.foldl (fun a b => a * 256 + b.toNat) 0

/-- Bytes `off` … `off + n − 1` of a list, 0 beyond its end. -/
def slice (bs : List Byte) (off n : Nat) : List Byte :=
  let r := (bs.drop off).take n
  r ++ List.replicate (n - r.length) 0

/-- The little-endian number in bytes `off` … `off + n − 1`. -/
def fieldAt (bs : List Byte) (off n : Nat) : Nat := leNat (slice bs off n)

/-- Smallest integer at or above `a / b`. -/
def ceilDiv (a b : Nat) : Nat := (a + b - 1) / b

/-- Nearest integer to `a / b`, ties away from zero. -/
def roundHalfAway (a : Int) (b : Nat) : Int :=
  if 0 ≤ a then ((2 * a + b) / (2 * b : Nat)) else -((2 * (-a) + b) / (2 * b : Nat))

/-- Sum of two fractions. -/
def fracAdd (x y : Frac) : Frac := ⟨x.num * (y.den : Int) + y.num * (x.den : Int), x.den * y.den⟩

/-- Difference of two fractions. -/
def fracSub (x y : Frac) : Frac := ⟨x.num * (y.den : Int) - y.num * (x.den : Int), x.den * y.den⟩

/-- A fraction times an integer. -/
def fracMul (x : Frac) (n : Int) : Frac := ⟨x.num * n, x.den⟩

/-- A fraction divided by a positive natural number. -/
def fracDiv (x : Frac) (n : Nat) : Frac := ⟨x.num, x.den * n⟩

/-- The largest integer not above a fraction. -/
def fracFloor (x : Frac) : Int := x.num / (x.den : Int)

/-- Saturating addition on a 32-bit counter: counters saturate at 0xFFFF_FFFF. -/
def satAdd (a b : Nat) : Nat := if a + b < 2 ^ 32 then a + b else 2 ^ 32 - 1

/-- The number with bit `i` set. -/
def setBit (x i : Nat) : Nat := if bitOf x i then x else x + 2 ^ i

/-- The member of a list at position `i`, or `d`. -/
def nthD {α : Type} (d : α) : List α → Nat → α
  | [], _ => d
  | a :: _, 0 => a
  | _ :: t, n + 1 => nthD d t n

/-- Insert into a list kept in rising order of a key. -/
def insertBy {α : Type} (key : α → Nat) (a : α) : List α → List α
  | [] => [a]
  | b :: t => if key a < key b then a :: b :: t else b :: insertBy key a t

/-- Sort by a key, stable, structural. -/
def sortBy {α : Type} (key : α → Nat) : List α → List α
  | [] => []
  | a :: t =>
    let r := sortBy key t
    insertFirst key a r
where
  /-- Insert before every element with the same key. -/
  insertFirst (key : α → Nat) (a : α) : List α → List α
    | [] => [a]
    | b :: t => if key a ≤ key b then a :: b :: t else b :: insertFirst key a t

end Sys2Proof
end

