-- ==== Sys2Proof/Machine/Check.lean ====
section
/-! DEFINITION. The checks the spec names by their standards: CRC-16/CCITT-FALSE and CRC-32 (R345), and AES-128-CMAC
(R320). -/

namespace Sys2Proof

/-- One bit of a CRC-16 register, most significant bit first. -/
def crc16Bit (c : BitVec 16) : BitVec 16 := if c.msb then (c <<< 1) ^^^ 0x1021 else c <<< 1

/-- One byte into a CRC-16/CCITT-FALSE register. -/
def crc16Byte (c : BitVec 16) (b : Byte) : BitVec 16 :=
  let c := c ^^^ (b.zeroExtend 16 <<< 8)
  crc16Bit (crc16Bit (crc16Bit (crc16Bit (crc16Bit (crc16Bit (crc16Bit (crc16Bit c)))))))

/-- CRC-16/CCITT-FALSE of bytes: polynomial 0x1021, initial value 0xFFFF, no reflection. -/
def crc16 (bs : List Byte) : Nat := (bs.foldl crc16Byte 0xFFFF).toNat

/-- One bit of a reflected CRC-32 register. -/
def crc32Bit (c : BitVec 32) : BitVec 32 := if c.getLsbD 0 then (c >>> 1) ^^^ 0xEDB88320 else c >>> 1

/-- One byte into a CRC-32 register. -/
def crc32Byte (c : BitVec 32) (b : Byte) : BitVec 32 :=
  let c := c ^^^ b.zeroExtend 32
  crc32Bit (crc32Bit (crc32Bit (crc32Bit (crc32Bit (crc32Bit (crc32Bit (crc32Bit c)))))))

/-- CRC-32 of bytes: polynomial 0x04C1_1DB7, initial value and final XOR 0xFFFF_FFFF, reflected. -/
def crc32 (bs : List Byte) : Nat := (bs.foldl crc32Byte 0xFFFFFFFF ^^^ 0xFFFFFFFF).toNat

/-! ### AES-128 -/

/-- The S-box, sixteen entries to a number, the entry of the lowest index in the lowest byte. -/
def aesSbox : List Nat :=
  [0x76ABD7FE2B670130C56F6BF27B777C63, 0xC072A49CAFA2D4ADF04759FA7DC982CA] ++ [0x1531D871F1E5A534CCF73F362693FDB7, 0x75B227EBE28012079A059618C323C704] ++
  [0x842FE329B3D63B52A05A6E1B1A2C8309, 0xCF584C4A39BECB6A5BB1FC20ED00D153] ++ [0xA89F3C507F02F94585334D43FBAAEFD0, 0xD2F3FF1021DAB6BCF5389D928F40A351] ++
  [0x73195D643D7EA7C41744975FEC130CCD, 0xDB0B5EDE14B8EE4688902A22DC4F8160] ++ [0x79E4959162ACD3C25C2406490A3A32E0, 0x08AE7A65EAF4566CA94ED58D6D37C8E7] ++
  [0x8A8BBD4B1F74DDE8C6B4A61C2E2578BA, 0x9E1DC186B95735610EF6034866B53E70] ++ [0xDF2855CEE9871E9B948ED9691198F8E1, 0x16BB54B00F2D99416842E6BF0D89A18C]

/-- SubBytes of one byte. -/
def aesSub (b : Byte) : Byte := BitVec.ofNat 8 (nthD 0 aesSbox (b.toNat / 16) / 256 ^ (b.toNat % 16))

/-- Multiplication by x in GF(2^8). -/
def aesX (b : Byte) : Byte := if b.msb then (b <<< 1) ^^^ 0x1B else b <<< 1

/-- Bytes combined by exclusive OR. -/
def xorBytes (a b : List Byte) : List Byte := List.zipWith (· ^^^ ·) a b

/-- The next round key of a 16-byte round key. -/
def aesNextKey (rcon : Byte) (k : List Byte) : List Byte :=
  let at' := fun i => nthD 0 k i
  let t := [aesSub (at' 13) ^^^ rcon, aesSub (at' 14), aesSub (at' 15), aesSub (at' 12)]
  let w0 := xorBytes (k.take 4) t
  let w1 := xorBytes ((k.drop 4).take 4) w0
  let w2 := xorBytes ((k.drop 8).take 4) w1
  let w3 := xorBytes ((k.drop 12).take 4) w2
  w0 ++ w1 ++ w2 ++ w3

/-- ShiftRows of a state held column by column. -/
def aesShift (s : List Byte) : List Byte :=
  (List.range 16).map (fun i => nthD 0 s ((i + 4 * (i % 4)) % 16))

/-- MixColumns of one column. -/
def aesMixCol (a b c d : Byte) : List Byte :=
  [aesX a ^^^ (aesX b ^^^ b) ^^^ c ^^^ d, a ^^^ aesX b ^^^ (aesX c ^^^ c) ^^^ d,
   a ^^^ b ^^^ aesX c ^^^ (aesX d ^^^ d), (aesX a ^^^ a) ^^^ b ^^^ c ^^^ aesX d]

/-- MixColumns. -/
def aesMix (s : List Byte) : List Byte :=
  (List.range 4).flatMap (fun c =>
    aesMixCol (nthD 0 s (4 * c)) (nthD 0 s (4 * c + 1)) (nthD 0 s (4 * c + 2)) (nthD 0 s (4 * c + 3)))

/-- The rounds from round key `k` on: `n` more of them. -/
def aesRounds : Nat → Byte → List Byte → List Byte → List Byte
  | 0, _, _, s => s
  | n + 1, rcon, k, s =>
    let k := aesNextKey rcon k
    let s := aesShift (s.map aesSub)
    let s := if n = 0 then s else aesMix s
    aesRounds n (aesX rcon) k (xorBytes s k)

/-- AES-128 encryption of a 16-byte block. -/
def aesEncrypt (key block : List Byte) : List Byte := aesRounds 10 1 key (xorBytes block key)

/-- The bytes of a number, most significant first. -/
def beBytes (n x : Nat) : List Byte := (leBytes n x).reverse

/-- Doubling in GF(2^128), as AES-CMAC derives its subkeys. -/
def cmacDouble (l : List Byte) : List Byte :=
  let v := beNat l
  let w := 2 * v % 2 ^ 128
  beBytes 16 (if 2 ^ 127 ≤ v then w ^^^ 0x87 else w)

/-- The blocks of a message but its last, chained. -/
def cmacChain (key : List Byte) : Nat → List Byte → List Byte → List Byte × List Byte
  | 0, x, m => (x, m)
  | fuel + 1, x, m =>
    if m.length ≤ 16 then (x, m) else cmacChain key fuel (aesEncrypt key (xorBytes x (m.take 16))) (m.drop 16)

/-- AES-128-CMAC of a message. -/
def aesCmac (key msg : List Byte) : List Byte :=
  let k1 := cmacDouble (aesEncrypt key (List.replicate 16 0))
  let k2 := cmacDouble k1
  let (x, last) := cmacChain key (msg.length / 16 + 1) (List.replicate 16 0) msg
  let block := if last.length = 16 then xorBytes last k1
    else xorBytes (last ++ [0x80] ++ List.replicate (15 - last.length) 0) k2
  aesEncrypt key (xorBytes x block)

end Sys2Proof
end

