-- ==== Sys2Proof/Config.lean ====
section
/-! DEFINITION. What the spec leaves open: free values, as opaque constants. Nothing in Lean can evaluate one, so a
statement that mentions one holds for every value. -/

namespace Sys2Proof.Config

/-- Whether an exact quotient that the spec does not say how to round is rounded up. `tag` names the quantity. -/
opaque roundUp : (tag num den : Nat) → Bool

/-- The handle POST_ACTION proposes for the n-th post (R42 gives 17 bits and no order). -/
opaque handleSeed : Nat → Nat

/-- Whether the i-th action (from 9) of the step at a time stamp took effect later than 200 ns (R40). -/
opaque actionLate : (time index : Nat) → Bool

/-- The delay, in TCLK periods, from acceptance of a cell's RW-LIVE write to the boundary the cell makes (R77 text:
at most 1 µs). -/
opaque cellBoundaryDelay : (cell time : Nat) → Nat

/-- Contents of the part's OTP words and of its factory trims: unique number, MAC address, grade (R646). -/
opaque otpUid : BitVec 64
opaque otpMac : BitVec 48
opaque otpGrade : Bool

/-- Factory coefficient pair of an item of a kind: gain × 2^30 and offset (R646 measures them per part). -/
opaque factoryGain : (kind index : Nat) → Nat
opaque factoryOffset : (kind index : Nat) → Int

/-- The factory key of the factory-test gate (R646). -/
opaque factoryKey : BitVec 128

/-- Challenge number n of TEST_ENTER (R588 gives its length only). -/
opaque challenge : Nat → BitVec 64

/-- Coefficient h[i], Q2.16, of the AUTO FIR set for decimation D, and tap t of phase p of the resampler's prototype: the
spec bounds their responses and gives no figures (R189, R195). -/
opaque autoFir : (decimation index : Nat) → BitVec 18
opaque polyphase : (phase tap : Nat) → Int

/-- Error of the sin/cos resolver's angle for a pair of tracks; the spec bounds it by 4 units (R202). -/
opaque atanError : (sine cosine : Int) → Nat

/-- How far between its neighbours' stamps the stamps of a filled copy lie (R207 gives copies no stamp). -/
opaque fillStamp : (lane time index : Nat) → Nat

/-- The buffer-pool word (of 131,072) where a ring keeps its n-th held word: the spec does not say which buffers a ring is
given. -/
opaque poolWord : (ring index : Nat) → Nat

/-- A byte that MEM_READ number n returns from a memory place whose contents the spec does not give, and the sizes in bytes
of Hopper's RAM and ROM (R591; the address map is not bound, Table 22.1). -/
opaque memoryByte : (n memory address : Nat) → BitVec 8
opaque hopperSize : (memory : Nat) → Nat

/-- OWN_QUERY's time since the owner's last command where no port owns the device (Table 12.7). -/
opaque noOwnerTime : (time : Nat) → Nat

/-- The stamps of READ_RESULT and READ_LANE where no result exists yet (Table 12.11). -/
opaque noResultStamp : (target time : Nat) → Nat

/-- Word `key` of the block RAMs after reset number `n` of the fabric leaves their contents undefined (R243). -/
opaque blockRam : (n key : Nat) → BitVec 32

/-- Whether the ninth bits of the bytes of word `key` are wrong there. -/
opaque blockRamParity : (n key : Nat) → BitVec 4

/-- What a configuration plane says, whose format the spec does not give: the flip-flops' initial values, those with swap
attribute KEEP, whether block RAM `r` leaves its port B to the host, its width (0: 2,048 × 9, 1: 1,024 × 18, 2: 512 × 36,
R219), the GPO lines on reflex routes, and what those routes make of the flip-flops and the CMPIN lines (R225, R226). -/
opaque planeInit : Mem → BitVec 1536
opaque planeKeep : Mem → BitVec 1536
opaque planeHostRam : (plane : Mem) → (ram : Nat) → Bool
opaque planeWidth : (plane : Mem) → (ram : Nat) → Fin 3
opaque reflexLines : (plane : Mem) → BitVec 48
opaque reflexOut : (plane : Mem) → (ffs : BitVec 1536) → (cmpin : BitVec 64) → BitVec 48

/-- Whether a configuration plane keeps R225 and R226. -/
opaque planeOk : Mem → Bool

/-- A byte of the flash page or sector that a device reset leaves undefined during its write or erase (R580). -/
opaque flashByte : (n address : Nat) → BitVec 8

/-- `GR_ERRPOS` after check 9, which concerns no field or record of its own. -/
opaque gristErrPos : (image : List (BitVec 8)) → Nat

end Sys2Proof.Config
end

