-- ==== Sys2Proof/Machine/Flags.lean ====
section
/-! DEFINITION. The flags of a sample record and the record's word (R23, Table 1.7), and the sample formats of results
(R132, R167, Table 5.3). -/

namespace Sys2Proof.Machine

namespace Flag
/-- Flag bits of Table 1.7. -/
def stl : Nat := 0x80
def sat : Nat := 0x40
def gov : Nat := 0x20
def rnr : Nat := 0x10
def xck : Nat := 0x08
def dfr : Nat := 0x04
def cal : Nat := 0x02
def seq : Nat := 0x01
end Flag

/-- A flag that is set when its condition holds. -/
def flagIf (c : Bool) (f : Nat) : Nat := if c then f else 0

/-- A sample record: data in [31:14], source index in [13:8], flags in [7:0] (Table 1.7). -/
def sampleWord (data : Int) (source flags : Nat) : Word :=
  BitVec.ofNat 32 (wrapTo 18 data * 2 ^ 14 + source % 64 * 2 ^ 8 + flags % 256)

/-- The least and the greatest 18-bit signed value. -/
def min18 : Int := -131072
def max18 : Int := 131071

/-- A value saturated to 18 bits. -/
def sat18 (x : Int) : Int := clampInt min18 max18 x

/-- The integer nearest to num / den, ties away from zero, and whether it lies outside [lo, hi]; then clamped. -/
def roundClamp (lo hi num : Int) (den : Nat) : Int × Bool :=
  let r := roundHalfAway num den
  (clampInt lo hi r, decide (r < lo) || decide (hi < r))

/-- The 18-bit native sample word of a 12-bit code (Table 5.3); `signed` is the cell's sample format, which AUTO
follows. -/
def sarFormat (fmt code : Nat) (signed : Bool) : Int :=
  if fmt = 0 then (code : Int)
  else if fmt = 1 then (code * 64 : Nat)
  else if fmt = 2 then (code : Int) - 2048
  else if signed then (code : Int) - 2048
  else (code : Int)

end Sys2Proof.Machine
end

