-- ==== Sys2Proof/Machine/Operands.lean ====
section
/-! DEFINITION. The fields of the operand words the spec defines: action words (Tables 2.4 and 2.5), scan entries and
list words (Tables 5.1 and 5.2), destination words, and cross-check pairs. -/

namespace Sys2Proof.Machine

/-! ### Action words -/

namespace Act
/-- Action types of Table 2.5. -/
def convStart : Nat := 0x01
def convStop : Nat := 0x02
def urgentConv : Nat := 0x03
def cmpArm : Nat := 0x04
def cmpDisarm : Nat := 0x05
def cmpThr : Nat := 0x06
def outSet : Nat := 0x07
def outRamp : Nat := 0x08
def fabPulse : Nat := 0x09
def stamp : Nat := 0x0A
def mbPost : Nat := 0x0B
def bankSwap : Nat := 0x0C
def kilnPlan : Nat := 0x0D
def idleOpen : Nat := 0x0E
def idleClose : Nat := 0x0F
def laneSync : Nat := 0x10
end Act

/-- TYPE, bits [63:59]. -/
def actType (w : BitVec 64) : Nat := bitsOf w.toNat 59 5

/-- ONESHOT, bit [58]. -/
def actOneshot (w : BitVec 64) : Bool := bitOf w.toNat 58

/-- CLASS, bits [57:56]. -/
def actClass (w : BitVec 64) : Nat := bitsOf w.toNat 56 2

/-- TARGET, bits [55:48]. -/
def actTarget (w : BitVec 64) : Nat := bitsOf w.toNat 48 8

/-- ARG, bits [47:0]. -/
def actArg (w : BitVec 64) : Nat := bitsOf w.toNat 0 48

/-- An action word from its fields. -/
def actWord (typ : Nat) (oneshot : Bool) (cls target arg : Nat) : BitVec 64 :=
  BitVec.ofNat 64 (typ * 2 ^ 59 + (if oneshot then 2 ^ 58 else 0) + cls * 2 ^ 56 + target * 2 ^ 48 + arg)

/-- Dispatch rank of a type within a queue (Table 2.6). -/
def actRank (typ : Nat) : Nat :=
  if typ = Act.bankSwap then 1
  else if typ = Act.idleClose then 2
  else if typ = Act.convStop ∨ typ = Act.cmpDisarm then 3
  else if typ = Act.cmpThr then 4
  else if typ = Act.cmpArm then 5
  else if typ = Act.outSet ∨ typ = Act.outRamp then 6
  else if typ = Act.convStart ∨ typ = Act.urgentConv then 7
  else if typ = Act.laneSync then 8
  else if typ = Act.fabPulse then 9
  else if typ = Act.stamp then 10
  else if typ = Act.mbPost then 11
  else if typ = Act.idleOpen then 12
  else 13

/-- Block codes that BANK_SWAP can name (Table 11.1). -/
def isBlockCode (c : Nat) : Bool :=
  decide (c ≤ 0x83) || (decide (0x88 ≤ c) && decide (c ≤ 0x8F)) || (decide (0xA0 ≤ c) && decide (c ≤ 0xBF))
    || (decide (0xC0 ≤ c) && decide (c ≤ 0xC4))

/-- TARGET lies in the range for the type (Table 2.5). -/
def actTargetOk (typ target : Nat) : Bool :=
  if typ ≤ Act.urgentConv then decide (target ≤ 3) || (decide (0x10 ≤ target) && decide (target ≤ 0x17))
  else if typ ≤ Act.stamp then decide (target < 64)
  else if typ = Act.mbPost then decide (target < 16)
  else if typ = Act.bankSwap then isBlockCode target
  else if typ = Act.kilnPlan then target == 0
  else if typ ≤ Act.idleClose then decide (target < 8)
  else decide (target < 32)

/-- The ARG bits that a type uses (Table 2.5). -/
def actArgMask (typ : Nat) : Nat :=
  if typ = Act.convStart then 0xFF
  else if typ = Act.urgentConv then 0x3F
  else if typ = Act.cmpThr then 0x0FFF0FFF
  else if typ = Act.outSet then 0xFFFF
  else if typ = Act.outRamp then 0xFFFFFFFF
  else if typ = Act.stamp ∨ typ = Act.mbPost then 0xFFFF
  else 0

/-- ARG uses no unused bit, and a ramp's length is at least 1 (Table 2.5). -/
def actArgOk (typ arg : Nat) : Bool :=
  (arg &&& actArgMask typ) == arg && !(typ == Act.outRamp && bitsOf arg 16 16 == 0)

/-- TYPE is one of Table 2.5. -/
def actTypeOk (typ : Nat) : Bool := decide (1 ≤ typ) && decide (typ ≤ 0x10)

/-! ### Scan entries, lists and destinations -/

/-- SRC of a scan entry (Table 5.1). -/
def scanSrc (e : Nat) : Nat := bitsOf e 0 6
/-- DIAG. -/
def scanDiag (e : Nat) : Bool := bitOf e 6
/-- FMT. -/
def scanFmt (e : Nat) : Nat := bitsOf e 7 2
/-- SIM. -/
def scanSim (e : Nat) : Bool := bitOf e 9
/-- LANE and LANEEN. -/
def scanLane (e : Nat) : Option Nat := if bitOf e 15 then some (bitsOf e 10 5) else none
/-- STREAM and STREN. -/
def scanStream (e : Nat) : Option Nat := if bitOf e 22 then some (bitsOf e 16 6) else none

/-- A scan entry has no reserved bit and no reserved diagnostic code (R122, R134). -/
def scanOk (e : Nat) : Bool := decide (e < 2 ^ 23) && !(scanDiag e && decide (0x0C ≤ scanSrc e))

/-- FIRST of a list word (Table 5.2). -/
def listFirst (w : Nat) : Nat := bitsOf w 0 6
/-- LENGTH. -/
def listLength (w : Nat) : Nat := bitsOf w 6 6
/-- MODE: CONTINUOUS. -/
def listContinuous (w : Nat) : Bool := bitOf w 12
/-- A list word has no reserved bit, begins at an entry and ends within the 48 entries (R123, Table 5.2). -/
def listOk (w : Nat) : Bool := decide (w < 2 ^ 13) && decide (listFirst w < 48) && decide (listFirst w + listLength w ≤ 48)

/-- Lane of a destination word in the layout of `SAR_URGDST` (Table 5.9). -/
def dstLane (d : Nat) : Option Nat := if bitOf d 5 then some (bitsOf d 0 5) else none
/-- Stream of a destination word. -/
def dstStream (d : Nat) : Option Nat := if bitOf d 12 then some (bitsOf d 6 6) else none

/-- A cross-check pair of `SAR_XCSEL` (R142): enable, group and entry of A, group and entry of B. -/
structure XcPair where
  on : Bool
  ga : Nat
  ea : Nat
  gb : Nat
  eb : Nat
deriving DecidableEq, Repr

/-- The pair a word of `SAR_XCSEL` names (R142). -/
def xcPair (w : Nat) : XcPair :=
  { on := bitOf w 0, ga := bitsOf w 1 2, ea := bitsOf w 3 6, gb := bitsOf w 9 2, eb := bitsOf w 11 6 }

end Sys2Proof.Machine
end

