-- ==== Sys2Proof/Machine/ParamTable.lean ====
section
/-! DEFINITION. The parameter map of the KZA-6418 under KC-4: the 540 definitions of Table 13.3, each with its
ID, access attribute, instance count, reset value and range as its owning chapter's table gives them (R372, R395),
and the reading of the Range column (R644). -/

namespace Sys2Proof

/-- The six access attributes of Table 13.1 (R375), in the order of their PARAM_INFO codes. -/
inductive Attr where
  | ro | rwLive | rwShadow | rwLocked | w1c | cmd
deriving DecidableEq, Repr

/-- The range of a parameter, as R644 reads the Range column. -/
inductive RangeSpec where
  /-- A union of numeric ranges; a negative bound makes the value signed. -/
  | spans (alts : List (Int × Int))
  /-- Every `step`-th value from `lo` to `hi` (even cells, odd filter lengths). -/
  | stepped (lo hi step : Nat)
  /-- Named bit fields; every bit outside the mask is reserved (R374). -/
  | bits (mask : Nat)
  /-- A command word: a command from 1 to `last` in [7:0] (R374), and named bit fields. -/
  | command (last mask : Nat)
  /-- A MAC address pair: 32 bits in instance 0, [15:0] in instance 1. -/
  | macPair
  /-- `FLT_STICKY`: Table 16.7 in instance 0, Table 16.8 in instance 1. -/
  | sticky2
deriving DecidableEq, Repr

/-- The reset value of a parameter, by instance where the table gives it so (R645). -/
inductive ResetSpec where
  | all (v : Nat)
  | each (vs : List Nat)
  | index
  /-- `FL_CU0`–`FL_CU3`: h[31] is 1.0 in Q2.16 and every other coefficient 0 (R215). -/
  | firUser
  /-- `KL_JCLASS`: the class column of Table 9.1; 0 for jobs 0x19–0x1F. -/
  | jobClass
deriving DecidableEq, Repr

/-- One parameter definition (R372). -/
structure ParamDef where
  id : Nat
  attr : Attr
  count : Nat
  reset : ResetSpec
  range : RangeSpec
deriving DecidableEq, Repr

namespace P
/-- `HP_IDCODE` [0x000]. -/
abbrev HP_IDCODE : Nat := 0x000
/-- `HP_PARTNO` [0x001]. -/
abbrev HP_PARTNO : Nat := 0x001
/-- `HP_STEPPING` [0x002]. -/
abbrev HP_STEPPING : Nat := 0x002
/-- `HP_ROMVER` [0x003]. -/
abbrev HP_ROMVER : Nat := 0x003
/-- `HP_CONTRACTS` [0x004]. -/
abbrev HP_CONTRACTS : Nat := 0x004
/-- `HP_GRADE` [0x005]. -/
abbrev HP_GRADE : Nat := 0x005
/-- `HP_UID` [0x006]. -/
abbrev HP_UID : Nat := 0x006
/-- `HP_PCOUNT` [0x007]. -/
abbrev HP_PCOUNT : Nat := 0x007
/-- `HP_PMAPREV` [0x008]. -/
abbrev HP_PMAPREV : Nat := 0x008
/-- `HP_DEVSTATE` [0x009]. -/
abbrev HP_DEVSTATE : Nat := 0x009
/-- `HP_TIMEL` [0x00A]. -/
abbrev HP_TIMEL : Nat := 0x00A
/-- `HP_TIMEH` [0x00B]. -/
abbrev HP_TIMEH : Nat := 0x00B
/-- `HP_SELF` [0x00C]. -/
abbrev HP_SELF : Nat := 0x00C
/-- `HP_GRPCNT` [0x010]. -/
abbrev HP_GRPCNT : Nat := 0x010
/-- `HP_GRPMAX` [0x011]. -/
abbrev HP_GRPMAX : Nat := 0x011
/-- `HP_GRPTO` [0x012]. -/
abbrev HP_GRPTO : Nat := 0x012
/-- `HP_CMTCNT` [0x013]. -/
abbrev HP_CMTCNT : Nat := 0x013
/-- `HP_CMTREF` [0x014]. -/
abbrev HP_CMTREF : Nat := 0x014
/-- `HP_CMTSTAMP` [0x015]. -/
abbrev HP_CMTSTAMP : Nat := 0x015
/-- `HP_WRCNT` [0x016]. -/
abbrev HP_WRCNT : Nat := 0x016
/-- `HP_SCRATCH` [0x017]. -/
abbrev HP_SCRATCH : Nat := 0x017
/-- `HP_PCTRL` [0x018]. -/
abbrev HP_PCTRL : Nat := 0x018
/-- `WH_SRC` [0x040]. -/
abbrev WH_SRC : Nat := 0x040
/-- `WH_CTRL` [0x041]. -/
abbrev WH_CTRL : Nat := 0x041
/-- `WH_STATE` [0x042]. -/
abbrev WH_STATE : Nat := 0x042
/-- `WH_STATUS` [0x043]. -/
abbrev WH_STATUS : Nat := 0x043
/-- `WH_ANGLE` [0x044]. -/
abbrev WH_ANGLE : Nat := 0x044
/-- `WH_CYCLE` [0x045]. -/
abbrev WH_CYCLE : Nat := 0x045
/-- `WH_SPEED` [0x046]. -/
abbrev WH_SPEED : Nat := 0x046
/-- `WH_QLINES` [0x047]. -/
abbrev WH_QLINES : Nat := 0x047
/-- `WH_QDIR` [0x048]. -/
abbrev WH_QDIR : Nat := 0x048
/-- `WH_ZOFS` [0x049]. -/
abbrev WH_ZOFS : Nat := 0x049
/-- `WH_ZTOL` [0x04A]. -/
abbrev WH_ZTOL : Nat := 0x04A
/-- `WH_INTERP` [0x04B]. -/
abbrev WH_INTERP : Nat := 0x04B
/-- `WH_INTERR` [0x04C]. -/
abbrev WH_INTERR : Nat := 0x04C
/-- `WH_STALLT` [0x04D]. -/
abbrev WH_STALLT : Nat := 0x04D
/-- `WH_QFILT` [0x04E]. -/
abbrev WH_QFILT : Nat := 0x04E
/-- `WH_ENCFLTEN` [0x04F]. -/
abbrev WH_ENCFLTEN : Nat := 0x04F
/-- `WH_SSIBITS` [0x050]. -/
abbrev WH_SSIBITS : Nat := 0x050
/-- `WH_SSISTB` [0x051]. -/
abbrev WH_SSISTB : Nat := 0x051
/-- `WH_SSICODE` [0x052]. -/
abbrev WH_SSICODE : Nat := 0x052
/-- `WH_SSICLK` [0x053]. -/
abbrev WH_SSICLK : Nat := 0x053
/-- `WH_SSIPER` [0x054]. -/
abbrev WH_SSIPER : Nat := 0x054
/-- `WH_SSIJMP` [0x055]. -/
abbrev WH_SSIJMP : Nat := 0x055
/-- `WH_SCCELL` [0x056]. -/
abbrev WH_SCCELL : Nat := 0x056
/-- `WH_SCLANE` [0x057]. -/
abbrev WH_SCLANE : Nat := 0x057
/-- `WH_SCPER` [0x058]. -/
abbrev WH_SCPER : Nat := 0x058
/-- `WH_SCAMIN` [0x059]. -/
abbrev WH_SCAMIN : Nat := 0x059
/-- `WH_VSPEED` [0x05A]. -/
abbrev WH_VSPEED : Nat := 0x05A
/-- `WH_SCAMAX` [0x05B]. -/
abbrev WH_SCAMAX : Nat := 0x05B
/-- `WH_LOSSACT` [0x05C]. -/
abbrev WH_LOSSACT : Nat := 0x05C
/-- `WH_COASTMAX` [0x05D]. -/
abbrev WH_COASTMAX : Nat := 0x05D
/-- `WH_REVLIM` [0x05E]. -/
abbrev WH_REVLIM : Nat := 0x05E
/-- `WH_HWM` [0x05F]. -/
abbrev WH_HWM : Nat := 0x05F
/-- `WH_FREE` [0x060]. -/
abbrev WH_FREE : Nat := 0x060
/-- `WH_STEPMAX` [0x061]. -/
abbrev WH_STEPMAX : Nat := 0x061
/-- `WH_LATECNT` [0x062]. -/
abbrev WH_LATECNT : Nat := 0x062
/-- `WH_SKIPCNT` [0x063]. -/
abbrev WH_SKIPCNT : Nat := 0x063
/-- `WH_DFRCNT` [0x064]. -/
abbrev WH_DFRCNT : Nat := 0x064
/-- `WH_SRCERR` [0x065]. -/
abbrev WH_SRCERR : Nat := 0x065
/-- `WH_ZSLIPCNT` [0x066]. -/
abbrev WH_ZSLIPCNT : Nat := 0x066
/-- `WH_GAPCNT` [0x067]. -/
abbrev WH_GAPCNT : Nat := 0x067
/-- `WH_ECCCNT` [0x068]. -/
abbrev WH_ECCCNT : Nat := 0x068
/-- `WH_STICKY` [0x069]. -/
abbrev WH_STICKY : Nat := 0x069
/-- `WH_TQDUEL` [0x06A]. -/
abbrev WH_TQDUEL : Nat := 0x06A
/-- `WH_TQDUEH` [0x06B]. -/
abbrev WH_TQDUEH : Nat := 0x06B
/-- `WH_TQPER` [0x06C]. -/
abbrev WH_TQPER : Nat := 0x06C
/-- `WH_TQCTL` [0x06D]. -/
abbrev WH_TQCTL : Nat := 0x06D
/-- `AC_CTRL` [0x0C0]. -/
abbrev AC_CTRL : Nat := 0x0C0
/-- `AC_STATE` [0x0C1]. -/
abbrev AC_STATE : Nat := 0x0C1
/-- `AC_STATUS` [0x0C2]. -/
abbrev AC_STATUS : Nat := 0x0C2
/-- `AC_MODE` [0x0C3]. -/
abbrev AC_MODE : Nat := 0x0C3
/-- `AC_GAIN` [0x0C4]. -/
abbrev AC_GAIN : Nat := 0x0C4
/-- `AC_TRIM` [0x0C5]. -/
abbrev AC_TRIM : Nat := 0x0C5
/-- `AC_AAF` [0x0C6]. -/
abbrev AC_AAF : Nat := 0x0C6
/-- `AC_CMPTAP` [0x0C7]. -/
abbrev AC_CMPTAP : Nat := 0x0C7
/-- `AC_BURNOUT` [0x0C8]. -/
abbrev AC_BURNOUT : Nat := 0x0C8
/-- `AC_EXCV` [0x0C9]. -/
abbrev AC_EXCV : Nat := 0x0C9
/-- `AC_EXCI` [0x0CA]. -/
abbrev AC_EXCI : Nat := 0x0CA
/-- `AC_OUT` [0x0CB]. -/
abbrev AC_OUT : Nat := 0x0CB
/-- `AC_INIT` [0x0CC]. -/
abbrev AC_INIT : Nat := 0x0CC
/-- `AC_OUTMIN` [0x0CD]. -/
abbrev AC_OUTMIN : Nat := 0x0CD
/-- `AC_OUTMAX` [0x0CE]. -/
abbrev AC_OUTMAX : Nat := 0x0CE
/-- `AC_SAFEMODE` [0x0CF]. -/
abbrev AC_SAFEMODE : Nat := 0x0CF
/-- `AC_SAFE` [0x0D0]. -/
abbrev AC_SAFE : Nat := 0x0D0
/-- `AC_SETTLE` [0x0D1]. -/
abbrev AC_SETTLE : Nat := 0x0D1
/-- `AC_OVRCNT` [0x0D2]. -/
abbrev AC_OVRCNT : Nat := 0x0D2
/-- `AC_STICKY` [0x0D3]. -/
abbrev AC_STICKY : Nat := 0x0D3
/-- `AC_SUPPLY` [0x0D4]. -/
abbrev AC_SUPPLY : Nat := 0x0D4
/-- `CMP_CTRL` [0x140]. -/
abbrev CMP_CTRL : Nat := 0x140
/-- `CMP_STATE` [0x141]. -/
abbrev CMP_STATE : Nat := 0x141
/-- `CMP_STATUS` [0x142]. -/
abbrev CMP_STATUS : Nat := 0x142
/-- `CMP_MODE` [0x143]. -/
abbrev CMP_MODE : Nat := 0x143
/-- `CMP_THR` [0x144]. -/
abbrev CMP_THR : Nat := 0x144
/-- `CMP_MAJ` [0x145]. -/
abbrev CMP_MAJ : Nat := 0x145
/-- `CMP_DIV` [0x146]. -/
abbrev CMP_DIV : Nat := 0x146
/-- `CMP_POL` [0x147]. -/
abbrev CMP_POL : Nat := 0x147
/-- `CMP_DISVAL` [0x148]. -/
abbrev CMP_DISVAL : Nat := 0x148
/-- `CMP_HOLDSET` [0x149]. -/
abbrev CMP_HOLDSET : Nat := 0x149
/-- `CMP_EDGE` [0x14A]. -/
abbrev CMP_EDGE : Nat := 0x14A
/-- `CMP_IRQEN` [0x14B]. -/
abbrev CMP_IRQEN : Nat := 0x14B
/-- `CMP_WAKEEN` [0x14C]. -/
abbrev CMP_WAKEEN : Nat := 0x14C
/-- `CMP_URGEN` [0x14D]. -/
abbrev CMP_URGEN : Nat := 0x14D
/-- `CMP_URGDST` [0x14E]. -/
abbrev CMP_URGDST : Nat := 0x14E
/-- `CMP_EVENT` [0x14F]. -/
abbrev CMP_EVENT : Nat := 0x14F
/-- `CMP_EDGECNT` [0x150]. -/
abbrev CMP_EDGECNT : Nat := 0x150
/-- `CMP_URGLOST` [0x151]. -/
abbrev CMP_URGLOST : Nat := 0x151
/-- `CMP_CHATLIM` [0x152]. -/
abbrev CMP_CHATLIM : Nat := 0x152
/-- `CMP_STICKY` [0x153]. -/
abbrev CMP_STICKY : Nat := 0x153
/-- `SAR_CTRL` [0x180]. -/
abbrev SAR_CTRL : Nat := 0x180
/-- `SAR_STATE` [0x181]. -/
abbrev SAR_STATE : Nat := 0x181
/-- `SAR_STATUS` [0x182]. -/
abbrev SAR_STATUS : Nat := 0x182
/-- `SAR_REFEN` [0x183]. -/
abbrev SAR_REFEN : Nat := 0x183
/-- `SAR_URGPOL` [0x184]. -/
abbrev SAR_URGPOL : Nat := 0x184
/-- `SAR_URGDST` [0x185]. -/
abbrev SAR_URGDST : Nat := 0x185
/-- `SAR_ROTEN` [0x186]. -/
abbrev SAR_ROTEN : Nat := 0x186
/-- `SAR_ROTPER` [0x187]. -/
abbrev SAR_ROTPER : Nat := 0x187
/-- `SAR_LIST` [0x188]. -/
abbrev SAR_LIST : Nat := 0x188
/-- `SAR_PACE` [0x189]. -/
abbrev SAR_PACE : Nat := 0x189
/-- `SAR_G0SCAN` [0x18A]. -/
abbrev SAR_G0SCAN : Nat := 0x18A
/-- `SAR_G1SCAN` [0x18B]. -/
abbrev SAR_G1SCAN : Nat := 0x18B
/-- `SAR_G2SCAN` [0x18C]. -/
abbrev SAR_G2SCAN : Nat := 0x18C
/-- `SAR_G3SCAN` [0x18D]. -/
abbrev SAR_G3SCAN : Nat := 0x18D
/-- `SAR_SLICE` [0x18E]. -/
abbrev SAR_SLICE : Nat := 0x18E
/-- `SAR_XCSEL` [0x18F]. -/
abbrev SAR_XCSEL : Nat := 0x18F
/-- `SAR_XCTOL` [0x190]. -/
abbrev SAR_XCTOL : Nat := 0x190
/-- `SAR_XCWIN` [0x191]. -/
abbrev SAR_XCWIN : Nat := 0x191
/-- `SAR_XCCNT` [0x192]. -/
abbrev SAR_XCCNT : Nat := 0x192
/-- `SAR_XCMISS` [0x193]. -/
abbrev SAR_XCMISS : Nat := 0x193
/-- `SAR_SYSCAL` [0x194]. -/
abbrev SAR_SYSCAL : Nat := 0x194
/-- `SAR_SYSST` [0x195]. -/
abbrev SAR_SYSST : Nat := 0x195
/-- `SAR_SYSFS` [0x196]. -/
abbrev SAR_SYSFS : Nat := 0x196
/-- `SAR_SYSGAIN` [0x197]. -/
abbrev SAR_SYSGAIN : Nat := 0x197
/-- `SAR_SYSOFS` [0x198]. -/
abbrev SAR_SYSOFS : Nat := 0x198
/-- `SAR_URGCNT` [0x199]. -/
abbrev SAR_URGCNT : Nat := 0x199
/-- `SAR_URGABT` [0x19A]. -/
abbrev SAR_URGABT : Nat := 0x19A
/-- `SAR_URGDROP` [0x19B]. -/
abbrev SAR_URGDROP : Nat := 0x19B
/-- `SAR_RNRCNT` [0x19C]. -/
abbrev SAR_RNRCNT : Nat := 0x19C
/-- `SAR_SKIPSLOT` [0x19D]. -/
abbrev SAR_SKIPSLOT : Nat := 0x19D
/-- `SAR_STICKY` [0x19E]. -/
abbrev SAR_STICKY : Nat := 0x19E
/-- `IC_CTRL` [0x200]. -/
abbrev IC_CTRL : Nat := 0x200
/-- `IC_STATE` [0x201]. -/
abbrev IC_STATE : Nat := 0x201
/-- `IC_STATUS` [0x202]. -/
abbrev IC_STATUS : Nat := 0x202
/-- `IC_MODE` [0x203]. -/
abbrev IC_MODE : Nat := 0x203
/-- `IC_NPER` [0x204]. -/
abbrev IC_NPER : Nat := 0x204
/-- `IC_CYCBINS` [0x205]. -/
abbrev IC_CYCBINS : Nat := 0x205
/-- `IC_TINT` [0x206]. -/
abbrev IC_TINT : Nat := 0x206
/-- `IC_CYCMAX` [0x207]. -/
abbrev IC_CYCMAX : Nat := 0x207
/-- `IC_SRC` [0x208]. -/
abbrev IC_SRC : Nat := 0x208
/-- `IC_RUN` [0x209]. -/
abbrev IC_RUN : Nat := 0x209
/-- `IC_DST` [0x20A]. -/
abbrev IC_DST : Nat := 0x20A
/-- `IC_REFEN` [0x20B]. -/
abbrev IC_REFEN : Nat := 0x20B
/-- `IC_MSTATE` [0x20C]. -/
abbrev IC_MSTATE : Nat := 0x20C
/-- `IC_XCSEL` [0x20D]. -/
abbrev IC_XCSEL : Nat := 0x20D
/-- `IC_XCTOL` [0x20E]. -/
abbrev IC_XCTOL : Nat := 0x20E
/-- `IC_XCMIN` [0x20F]. -/
abbrev IC_XCMIN : Nat := 0x20F
/-- `IC_MPER` [0x210]. -/
abbrev IC_MPER : Nat := 0x210
/-- `IC_MNOM` [0x211]. -/
abbrev IC_MNOM : Nat := 0x211
/-- `IC_MAVG` [0x212]. -/
abbrev IC_MAVG : Nat := 0x212
/-- `IC_RESULT` [0x213]. -/
abbrev IC_RESULT : Nat := 0x213
/-- `IC_TLEN` [0x214]. -/
abbrev IC_TLEN : Nat := 0x214
/-- `IC_XCCNT` [0x215]. -/
abbrev IC_XCCNT : Nat := 0x215
/-- `IC_XCMISS` [0x216]. -/
abbrev IC_XCMISS : Nat := 0x216
/-- `IC_URGCNT` [0x217]. -/
abbrev IC_URGCNT : Nat := 0x217
/-- `IC_URGDROP` [0x218]. -/
abbrev IC_URGDROP : Nat := 0x218
/-- `IC_CYCTO` [0x219]. -/
abbrev IC_CYCTO : Nat := 0x219
/-- `IC_MLOSSCNT` [0x21A]. -/
abbrev IC_MLOSSCNT : Nat := 0x21A
/-- `IC_STICKY` [0x21B]. -/
abbrev IC_STICKY : Nat := 0x21B
/-- `FL_CTRL` [0x240]. -/
abbrev FL_CTRL : Nat := 0x240
/-- `FL_STATE` [0x241]. -/
abbrev FL_STATE : Nat := 0x241
/-- `FL_STATUS` [0x242]. -/
abbrev FL_STATUS : Nat := 0x242
/-- `FL_MODE` [0x243]. -/
abbrev FL_MODE : Nat := 0x243
/-- `FL_DEC` [0x244]. -/
abbrev FL_DEC : Nat := 0x244
/-- `FL_FIRSET` [0x245]. -/
abbrev FL_FIRSET : Nat := 0x245
/-- `FL_RATIO` [0x246]. -/
abbrev FL_RATIO : Nat := 0x246
/-- `FL_APC` [0x247]. -/
abbrev FL_APC : Nat := 0x247
/-- `FL_AOFS` [0x248]. -/
abbrev FL_AOFS : Nat := 0x248
/-- `FL_INUNS` [0x249]. -/
abbrev FL_INUNS : Nat := 0x249
/-- `FL_DCMODE` [0x24A]. -/
abbrev FL_DCMODE : Nat := 0x24A
/-- `FL_DCK` [0x24B]. -/
abbrev FL_DCK : Nat := 0x24B
/-- `FL_DCM` [0x24C]. -/
abbrev FL_DCM : Nat := 0x24C
/-- `FL_OSHIFT` [0x24D]. -/
abbrev FL_OSHIFT : Nat := 0x24D
/-- `FL_DST` [0x24E]. -/
abbrev FL_DST : Nat := 0x24E
/-- `FL_TNOM` [0x24F]. -/
abbrev FL_TNOM : Nat := 0x24F
/-- `FL_GAPMAX` [0x250]. -/
abbrev FL_GAPMAX : Nat := 0x250
/-- `FL_S1MIN` [0x251]. -/
abbrev FL_S1MIN : Nat := 0x251
/-- `FL_SCOFS` [0x252]. -/
abbrev FL_SCOFS : Nat := 0x252
/-- `FL_SCGAIN` [0x253]. -/
abbrev FL_SCGAIN : Nat := 0x253
/-- `FL_SCAMP` [0x254]. -/
abbrev FL_SCAMP : Nat := 0x254
/-- `FL_DELAY` [0x255]. -/
abbrev FL_DELAY : Nat := 0x255
/-- `FL_SCANG` [0x256]. -/
abbrev FL_SCANG : Nat := 0x256
/-- `FL_OUTCNT` [0x257]. -/
abbrev FL_OUTCNT : Nat := 0x257
/-- `FL_GOVCNT` [0x258]. -/
abbrev FL_GOVCNT : Nat := 0x258
/-- `FL_GAPCNT` [0x259]. -/
abbrev FL_GAPCNT : Nat := 0x259
/-- `FL_RSTCNT` [0x25A]. -/
abbrev FL_RSTCNT : Nat := 0x25A
/-- `FL_ASKIP` [0x25B]. -/
abbrev FL_ASKIP : Nat := 0x25B
/-- `FL_OVRCNT` [0x25C]. -/
abbrev FL_OVRCNT : Nat := 0x25C
/-- `FL_SCPAIR` [0x25D]. -/
abbrev FL_SCPAIR : Nat := 0x25D
/-- `FL_S1DROP` [0x25E]. -/
abbrev FL_S1DROP : Nat := 0x25E
/-- `FL_STICKY` [0x25F]. -/
abbrev FL_STICKY : Nat := 0x25F
/-- `FL_CU0` [0x260]. -/
abbrev FL_CU0 : Nat := 0x260
/-- `FL_CU1` [0x261]. -/
abbrev FL_CU1 : Nat := 0x261
/-- `FL_CU2` [0x262]. -/
abbrev FL_CU2 : Nat := 0x262
/-- `FL_CU3` [0x263]. -/
abbrev FL_CU3 : Nat := 0x263
/-- `FAB_CTRL` [0x2C0]. -/
abbrev FAB_CTRL : Nat := 0x2C0
/-- `FAB_STATE` [0x2C1]. -/
abbrev FAB_STATE : Nat := 0x2C1
/-- `FAB_STATUS` [0x2C2]. -/
abbrev FAB_STATUS : Nat := 0x2C2
/-- `FAB_CLKSEL` [0x2C3]. -/
abbrev FAB_CLKSEL : Nat := 0x2C3
/-- `FAB_CFGID` [0x2C4]. -/
abbrev FAB_CFGID : Nat := 0x2C4
/-- `FAB_SWIN` [0x2C5]. -/
abbrev FAB_SWIN : Nat := 0x2C5
/-- `FAB_SWOUT` [0x2C6]. -/
abbrev FAB_SWOUT : Nat := 0x2C6
/-- `FAB_GPOUT` [0x2C7]. -/
abbrev FAB_GPOUT : Nat := 0x2C7
/-- `FAB_RAMADR` [0x2C8]. -/
abbrev FAB_RAMADR : Nat := 0x2C8
/-- `FAB_RAMDAT` [0x2C9]. -/
abbrev FAB_RAMDAT : Nat := 0x2C9
/-- `FAB_PULSECNT` [0x2CA]. -/
abbrev FAB_PULSECNT : Nat := 0x2CA
/-- `FAB_PULSEMRG` [0x2CB]. -/
abbrev FAB_PULSEMRG : Nat := 0x2CB
/-- `FAB_MBREFUSE` [0x2CC]. -/
abbrev FAB_MBREFUSE : Nat := 0x2CC
/-- `FAB_PARCNT` [0x2CD]. -/
abbrev FAB_PARCNT : Nat := 0x2CD
/-- `FAB_SCRUB` [0x2CE]. -/
abbrev FAB_SCRUB : Nat := 0x2CE
/-- `FAB_STICKY` [0x2CF]. -/
abbrev FAB_STICKY : Nat := 0x2CF
/-- `TM_CTRL` [0x2D0]. -/
abbrev TM_CTRL : Nat := 0x2D0
/-- `TM_STATE` [0x2D1]. -/
abbrev TM_STATE : Nat := 0x2D1
/-- `TM_MODE` [0x2D2]. -/
abbrev TM_MODE : Nat := 0x2D2
/-- `TM_CAPSRC` [0x2D3]. -/
abbrev TM_CAPSRC : Nat := 0x2D3
/-- `TM_EDGE` [0x2D4]. -/
abbrev TM_EDGE : Nat := 0x2D4
/-- `TM_CLKSRC` [0x2D5]. -/
abbrev TM_CLKSRC : Nat := 0x2D5
/-- `TM_PRESC` [0x2D6]. -/
abbrev TM_PRESC : Nat := 0x2D6
/-- `TM_CMPA` [0x2D7]. -/
abbrev TM_CMPA : Nat := 0x2D7
/-- `TM_CMPB` [0x2D8]. -/
abbrev TM_CMPB : Nat := 0x2D8
/-- `TM_CNT` [0x2D9]. -/
abbrev TM_CNT : Nat := 0x2D9
/-- `TM_DST` [0x2DA]. -/
abbrev TM_DST : Nat := 0x2DA
/-- `TM_LASTANG` [0x2DB]. -/
abbrev TM_LASTANG : Nat := 0x2DB
/-- `TM_LASTCYC` [0x2DC]. -/
abbrev TM_LASTCYC : Nat := 0x2DC
/-- `TM_LASTTL` [0x2DD]. -/
abbrev TM_LASTTL : Nat := 0x2DD
/-- `TM_LASTTH` [0x2DE]. -/
abbrev TM_LASTTH : Nat := 0x2DE
/-- `TM_CAPCNT` [0x2DF]. -/
abbrev TM_CAPCNT : Nat := 0x2DF
/-- `TM_CAPLOST` [0x2E0]. -/
abbrev TM_CAPLOST : Nat := 0x2E0
/-- `TM_STICKY` [0x2E1]. -/
abbrev TM_STICKY : Nat := 0x2E1
/-- `KL_CTRL` [0x300]. -/
abbrev KL_CTRL : Nat := 0x300
/-- `KL_STATE` [0x301]. -/
abbrev KL_STATE : Nat := 0x301
/-- `KL_STATUS` [0x302]. -/
abbrev KL_STATUS : Nat := 0x302
/-- `KL_PBUDGET` [0x303]. -/
abbrev KL_PBUDGET : Nat := 0x303
/-- `KL_THETA` [0x304]. -/
abbrev KL_THETA : Nat := 0x304
/-- `KL_TAU` [0x305]. -/
abbrev KL_TAU : Nat := 0x305
/-- `KL_TLIM` [0x306]. -/
abbrev KL_TLIM : Nat := 0x306
/-- `KL_TCRIT` [0x307]. -/
abbrev KL_TCRIT : Nat := 0x307
/-- `KL_RAILV` [0x308]. -/
abbrev KL_RAILV : Nat := 0x308
/-- `KL_RAILMAX` [0x309]. -/
abbrev KL_RAILMAX : Nat := 0x309
/-- `KL_PLANMAX` [0x30A]. -/
abbrev KL_PLANMAX : Nat := 0x30A
/-- `KL_GATEEN` [0x30B]. -/
abbrev KL_GATEEN : Nat := 0x30B
/-- `KL_JCLASS` [0x30C]. -/
abbrev KL_JCLASS : Nat := 0x30C
/-- `KL_ACCLASS` [0x30D]. -/
abbrev KL_ACCLASS : Nat := 0x30D
/-- `KL_OUTLOAD` [0x30E]. -/
abbrev KL_OUTLOAD : Nat := 0x30E
/-- `KL_RPTMB` [0x30F]. -/
abbrev KL_RPTMB : Nat := 0x30F
/-- `KL_EBUDGET` [0x310]. -/
abbrev KL_EBUDGET : Nat := 0x310
/-- `KL_EADM` [0x311]. -/
abbrev KL_EADM : Nat := 0x311
/-- `KL_EREQ` [0x312]. -/
abbrev KL_EREQ : Nat := 0x312
/-- `KL_EMEAS` [0x313]. -/
abbrev KL_EMEAS : Nat := 0x313
/-- `KL_TPER` [0x314]. -/
abbrev KL_TPER : Nat := 0x314
/-- `KL_TNOW` [0x315]. -/
abbrev KL_TNOW : Nat := 0x315
/-- `KL_TPRED` [0x316]. -/
abbrev KL_TPRED : Nat := 0x316
/-- `KL_TSENS` [0x317]. -/
abbrev KL_TSENS : Nat := 0x317
/-- `KL_PF` [0x318]. -/
abbrev KL_PF : Nat := 0x318
/-- `KL_DEFMAP` [0x319]. -/
abbrev KL_DEFMAP : Nat := 0x319
/-- `KL_CLASSE` [0x31A]. -/
abbrev KL_CLASSE : Nat := 0x31A
/-- `KL_CLASSD` [0x31B]. -/
abbrev KL_CLASSD : Nat := 0x31B
/-- `KL_RAILI` [0x31C]. -/
abbrev KL_RAILI : Nat := 0x31C
/-- `KL_PLANCNT` [0x31D]. -/
abbrev KL_PLANCNT : Nat := 0x31D
/-- `KL_DEFCNT` [0x31E]. -/
abbrev KL_DEFCNT : Nat := 0x31E
/-- `KL_TIMEDCNT` [0x31F]. -/
abbrev KL_TIMEDCNT : Nat := 0x31F
/-- `KL_RPTLOST` [0x320]. -/
abbrev KL_RPTLOST : Nat := 0x320
/-- `KL_GATEHIT` [0x321]. -/
abbrev KL_GATEHIT : Nat := 0x321
/-- `KL_GATEDROP` [0x322]. -/
abbrev KL_GATEDROP : Nat := 0x322
/-- `KL_BDREFUSE` [0x323]. -/
abbrev KL_BDREFUSE : Nat := 0x323
/-- `KL_OVRTOL` [0x324]. -/
abbrev KL_OVRTOL : Nat := 0x324
/-- `KL_WAKESRC` [0x325]. -/
abbrev KL_WAKESRC : Nat := 0x325
/-- `KL_WAKEBIN` [0x326]. -/
abbrev KL_WAKEBIN : Nat := 0x326
/-- `KL_WAKET` [0x327]. -/
abbrev KL_WAKET : Nat := 0x327
/-- `KL_WAKEST` [0x328]. -/
abbrev KL_WAKEST : Nat := 0x328
/-- `KL_LASTWAKE` [0x329]. -/
abbrev KL_LASTWAKE : Nat := 0x329
/-- `KL_STICKY` [0x32A]. -/
abbrev KL_STICKY : Nat := 0x32A
/-- `CAL_CTRL` [0x340]. -/
abbrev CAL_CTRL : Nat := 0x340
/-- `CAL_STATE` [0x341]. -/
abbrev CAL_STATE : Nat := 0x341
/-- `CAL_STATUS` [0x342]. -/
abbrev CAL_STATUS : Nat := 0x342
/-- `CAL_DTEMP` [0x343]. -/
abbrev CAL_DTEMP : Nat := 0x343
/-- `CAL_TIMEOUT` [0x344]. -/
abbrev CAL_TIMEOUT : Nat := 0x344
/-- `CAL_SLEW` [0x345]. -/
abbrev CAL_SLEW : Nat := 0x345
/-- `CAL_TREF` [0x346]. -/
abbrev CAL_TREF : Nat := 0x346
/-- `CAL_IWCELL` [0x347]. -/
abbrev CAL_IWCELL : Nat := 0x347
/-- `CAL_CELLEN` [0x348]. -/
abbrev CAL_CELLEN : Nat := 0x348
/-- `CAL_VCR` [0x349]. -/
abbrev CAL_VCR : Nat := 0x349
/-- `CAL_CSEL` [0x34A]. -/
abbrev CAL_CSEL : Nat := 0x34A
/-- `CAL_CGAIN` [0x34B]. -/
abbrev CAL_CGAIN : Nat := 0x34B
/-- `CAL_COFS` [0x34C]. -/
abbrev CAL_COFS : Nat := 0x34C
/-- `CAL_CTEMP` [0x34D]. -/
abbrev CAL_CTEMP : Nat := 0x34D
/-- `CAL_MAXSTEP` [0x34E]. -/
abbrev CAL_MAXSTEP : Nat := 0x34E
/-- `CAL_RUNCNT` [0x34F]. -/
abbrev CAL_RUNCNT : Nat := 0x34F
/-- `CAL_FAILCNT` [0x350]. -/
abbrev CAL_FAILCNT : Nat := 0x350
/-- `CAL_REJCNT` [0x351]. -/
abbrev CAL_REJCNT : Nat := 0x351
/-- `CAL_SKIPCNT` [0x352]. -/
abbrev CAL_SKIPCNT : Nat := 0x352
/-- `CAL_SPARECNT` [0x353]. -/
abbrev CAL_SPARECNT : Nat := 0x353
/-- `CAL_LASTDUR` [0x354]. -/
abbrev CAL_LASTDUR : Nat := 0x354
/-- `CAL_STICKY` [0x355]. -/
abbrev CAL_STICKY : Nat := 0x355
/-- `GR_CTRL` [0x380]. -/
abbrev GR_CTRL : Nat := 0x380
/-- `GR_STATE` [0x381]. -/
abbrev GR_STATE : Nat := 0x381
/-- `GR_STATUS` [0x382]. -/
abbrev GR_STATUS : Nat := 0x382
/-- `GR_STARTBIN` [0x383]. -/
abbrev GR_STARTBIN : Nat := 0x383
/-- `GR_ARMCYC` [0x384]. -/
abbrev GR_ARMCYC : Nat := 0x384
/-- `GR_FAILACT` [0x385]. -/
abbrev GR_FAILACT : Nat := 0x385
/-- `GR_AUTOCOMMIT` [0x386]. -/
abbrev GR_AUTOCOMMIT : Nat := 0x386
/-- `GR_LOADTO` [0x387]. -/
abbrev GR_LOADTO : Nat := 0x387
/-- `GR_RPTMB` [0x388]. -/
abbrev GR_RPTMB : Nat := 0x388
/-- `GR_LIVEID` [0x389]. -/
abbrev GR_LIVEID : Nat := 0x389
/-- `GR_LIVEREV` [0x38A]. -/
abbrev GR_LIVEREV : Nat := 0x38A
/-- `GR_LIVEHASH` [0x38B]. -/
abbrev GR_LIVEHASH : Nat := 0x38B
/-- `GR_SHID` [0x38C]. -/
abbrev GR_SHID : Nat := 0x38C
/-- `GR_SHREV` [0x38D]. -/
abbrev GR_SHREV : Nat := 0x38D
/-- `GR_SHHASH` [0x38E]. -/
abbrev GR_SHHASH : Nat := 0x38E
/-- `GR_ERRPOS` [0x38F]. -/
abbrev GR_ERRPOS : Nat := 0x38F
/-- `GR_ERRCODE` [0x390]. -/
abbrev GR_ERRCODE : Nat := 0x390
/-- `GR_BLKSTATE` [0x391]. -/
abbrev GR_BLKSTATE : Nat := 0x391
/-- `GR_SWAPCNT` [0x392]. -/
abbrev GR_SWAPCNT : Nat := 0x392
/-- `GR_RBCNT` [0x393]. -/
abbrev GR_RBCNT : Nat := 0x393
/-- `GR_SWAPSKIP` [0x394]. -/
abbrev GR_SWAPSKIP : Nat := 0x394
/-- `GR_FAILCNT` [0x395]. -/
abbrev GR_FAILCNT : Nat := 0x395
/-- `GR_KEYSTATE` [0x396]. -/
abbrev GR_KEYSTATE : Nat := 0x396
/-- `GR_FSLOT` [0x397]. -/
abbrev GR_FSLOT : Nat := 0x397
/-- `GR_FSPEED` [0x398]. -/
abbrev GR_FSPEED : Nat := 0x398
/-- `GR_PATCHREV` [0x399]. -/
abbrev GR_PATCHREV : Nat := 0x399
/-- `GR_PATCHST` [0x39A]. -/
abbrev GR_PATCHST : Nat := 0x39A
/-- `GR_ACTNEED` [0x39B]. -/
abbrev GR_ACTNEED : Nat := 0x39B
/-- `GR_STICKY` [0x39C]. -/
abbrev GR_STICKY : Nat := 0x39C
/-- `HP_PORTEN` [0x3C0]. -/
abbrev HP_PORTEN : Nat := 0x3C0
/-- `HP_PSTATUS` [0x3C1]. -/
abbrev HP_PSTATUS : Nat := 0x3C1
/-- `HP_LINKTO` [0x3C2]. -/
abbrev HP_LINKTO : Nat := 0x3C2
/-- `HP_PERS` [0x3C3]. -/
abbrev HP_PERS : Nat := 0x3C3
/-- `HP_TFAITH` [0x3C4]. -/
abbrev HP_TFAITH : Nat := 0x3C4
/-- `HP_PMAP` [0x3C5]. -/
abbrev HP_PMAP : Nat := 0x3C5
/-- `HP_S1AUTO` [0x3C6]. -/
abbrev HP_S1AUTO : Nat := 0x3C6
/-- `HP_S1FRAMES` [0x3C7]. -/
abbrev HP_S1FRAMES : Nat := 0x3C7
/-- `HP_S1SHORT` [0x3C8]. -/
abbrev HP_S1SHORT : Nat := 0x3C8
/-- `HP_S2QUAD` [0x3C9]. -/
abbrev HP_S2QUAD : Nat := 0x3C9
/-- `HP_UBAUD` [0x3CA]. -/
abbrev HP_UBAUD : Nat := 0x3CA
/-- `HP_UADDR` [0x3CB]. -/
abbrev HP_UADDR : Nat := 0x3CB
/-- `HP_UTURN` [0x3CC]. -/
abbrev HP_UTURN : Nat := 0x3CC
/-- `HP_UDEHOLD` [0x3CD]. -/
abbrev HP_UDEHOLD : Nat := 0x3CD
/-- `HP_UFRERR` [0x3CE]. -/
abbrev HP_UFRERR : Nat := 0x3CE
/-- `HP_UCOLL` [0x3CF]. -/
abbrev HP_UCOLL : Nat := 0x3CF
/-- `HP_EMAC` [0x3D0]. -/
abbrev HP_EMAC : Nat := 0x3D0
/-- `HP_EIPMODE` [0x3D1]. -/
abbrev HP_EIPMODE : Nat := 0x3D1
/-- `HP_EIP` [0x3D2]. -/
abbrev HP_EIP : Nat := 0x3D2
/-- `HP_EMASK` [0x3D3]. -/
abbrev HP_EMASK : Nat := 0x3D3
/-- `HP_EGW` [0x3D4]. -/
abbrev HP_EGW : Nat := 0x3D4
/-- `HP_EIPNOW` [0x3D5]. -/
abbrev HP_EIPNOW : Nat := 0x3D5
/-- `HP_ECMDPORT` [0x3D6]. -/
abbrev HP_ECMDPORT : Nat := 0x3D6
/-- `HP_ESTRIP` [0x3D7]. -/
abbrev HP_ESTRIP : Nat := 0x3D7
/-- `HP_ESTRPORT` [0x3D8]. -/
abbrev HP_ESTRPORT : Nat := 0x3D8
/-- `HP_ESTRMAC` [0x3D9]. -/
abbrev HP_ESTRMAC : Nat := 0x3D9
/-- `HP_EPHYADR` [0x3DA]. -/
abbrev HP_EPHYADR : Nat := 0x3DA
/-- `HP_ERXDROP` [0x3DB]. -/
abbrev HP_ERXDROP : Nat := 0x3DB
/-- `HP_PTPCTRL` [0x3DC]. -/
abbrev HP_PTPCTRL : Nat := 0x3DC
/-- `HP_PTPSTATE` [0x3DD]. -/
abbrev HP_PTPSTATE : Nat := 0x3DD
/-- `HP_PTPOFSL` [0x3DE]. -/
abbrev HP_PTPOFSL : Nat := 0x3DE
/-- `HP_PTPOFSH` [0x3DF]. -/
abbrev HP_PTPOFSH : Nat := 0x3DF
/-- `HP_PTPDELAY` [0x3E0]. -/
abbrev HP_PTPDELAY : Nat := 0x3E0
/-- `HP_PTPRATE` [0x3E1]. -/
abbrev HP_PTPRATE : Nat := 0x3E1
/-- `HP_PTPGM` [0x3E2]. -/
abbrev HP_PTPGM : Nat := 0x3E2
/-- `HP_IRQEN` [0x3E3]. -/
abbrev HP_IRQEN : Nat := 0x3E3
/-- `HP_IRQSTAT` [0x3E4]. -/
abbrev HP_IRQSTAT : Nat := 0x3E4
/-- `HP_EEVTMIN` [0x3E5]. -/
abbrev HP_EEVTMIN : Nat := 0x3E5
/-- `HP_TFLATE` [0x3E6]. -/
abbrev HP_TFLATE : Nat := 0x3E6
/-- `HP_PSTICKY` [0x3E7]. -/
abbrev HP_PSTICKY : Nat := 0x3E7
/-- `HP_OWNER` [0x3F0]. -/
abbrev HP_OWNER : Nat := 0x3F0
/-- `HP_OWNIDLE` [0x3F1]. -/
abbrev HP_OWNIDLE : Nat := 0x3F1
/-- `HP_PENDMAX` [0x3F2]. -/
abbrev HP_PENDMAX : Nat := 0x3F2
/-- `HP_SESSION` [0x3F3]. -/
abbrev HP_SESSION : Nat := 0x3F3
/-- `HP_EXPSEQ` [0x3F4]. -/
abbrev HP_EXPSEQ : Nat := 0x3F4
/-- `HP_HDRERR` [0x3F5]. -/
abbrev HP_HDRERR : Nat := 0x3F5
/-- `HP_CRCERR` [0x3F6]. -/
abbrev HP_CRCERR : Nat := 0x3F6
/-- `HP_GAPCNT` [0x3F7]. -/
abbrev HP_GAPCNT : Nat := 0x3F7
/-- `HP_RETXCNT` [0x3F8]. -/
abbrev HP_RETXCNT : Nat := 0x3F8
/-- `HP_CMDCNT` [0x3F9]. -/
abbrev HP_CMDCNT : Nat := 0x3F9
/-- `HP_TOCNT` [0x3FA]. -/
abbrev HP_TOCNT : Nat := 0x3FA
/-- `HP_RSTCNT` [0x3FB]. -/
abbrev HP_RSTCNT : Nat := 0x3FB
/-- `MB_CTRL` [0x400]. -/
abbrev MB_CTRL : Nat := 0x400
/-- `MB_STATE` [0x401]. -/
abbrev MB_STATE : Nat := 0x401
/-- `MB_DIR` [0x402]. -/
abbrev MB_DIR : Nat := 0x402
/-- `MB_PORT` [0x403]. -/
abbrev MB_PORT : Nat := 0x403
/-- `MB_ROUTE` [0x404]. -/
abbrev MB_ROUTE : Nat := 0x404
/-- `MB_TIMEOUT` [0x405]. -/
abbrev MB_TIMEOUT : Nat := 0x405
/-- `MB_IRQEN` [0x406]. -/
abbrev MB_IRQEN : Nat := 0x406
/-- `MB_DSTAT` [0x407]. -/
abbrev MB_DSTAT : Nat := 0x407
/-- `MB_GEN` [0x408]. -/
abbrev MB_GEN : Nat := 0x408
/-- `MB_POSTLIST` [0x409]. -/
abbrev MB_POSTLIST : Nat := 0x409
/-- `MB_POSTSEL` [0x40A]. -/
abbrev MB_POSTSEL : Nat := 0x40A
/-- `MB_MSGCNT` [0x40B]. -/
abbrev MB_MSGCNT : Nat := 0x40B
/-- `MB_DISCNT` [0x40C]. -/
abbrev MB_DISCNT : Nat := 0x40C
/-- `MB_ORPHCNT` [0x40D]. -/
abbrev MB_ORPHCNT : Nat := 0x40D
/-- `MB_TOCNT` [0x40E]. -/
abbrev MB_TOCNT : Nat := 0x40E
/-- `MB_REFUSE` [0x40F]. -/
abbrev MB_REFUSE : Nat := 0x40F
/-- `MB_STICKY` [0x410]. -/
abbrev MB_STICKY : Nat := 0x410
/-- `ST_CTRL` [0x411]. -/
abbrev ST_CTRL : Nat := 0x411
/-- `ST_STATE` [0x412]. -/
abbrev ST_STATE : Nat := 0x412
/-- `ST_CFG` [0x413]. -/
abbrev ST_CFG : Nat := 0x413
/-- `ST_RESV` [0x414]. -/
abbrev ST_RESV : Nat := 0x414
/-- `ST_MAXBUF` [0x415]. -/
abbrev ST_MAXBUF : Nat := 0x415
/-- `ST_ANCHOR` [0x416]. -/
abbrev ST_ANCHOR : Nat := 0x416
/-- `ST_PUSHN` [0x417]. -/
abbrev ST_PUSHN : Nat := 0x417
/-- `ST_PUSHT` [0x418]. -/
abbrev ST_PUSHT : Nat := 0x418
/-- `ST_ATTN` [0x419]. -/
abbrev ST_ATTN : Nat := 0x419
/-- `ST_HELD` [0x41A]. -/
abbrev ST_HELD : Nat := 0x41A
/-- `ST_BUFS` [0x41B]. -/
abbrev ST_BUFS : Nat := 0x41B
/-- `ST_AGE` [0x41C]. -/
abbrev ST_AGE : Nat := 0x41C
/-- `ST_RECCNT` [0x41D]. -/
abbrev ST_RECCNT : Nat := 0x41D
/-- `ST_LOST` [0x41E]. -/
abbrev ST_LOST : Nat := 0x41E
/-- `ST_NOBUF` [0x41F]. -/
abbrev ST_NOBUF : Nat := 0x41F
/-- `ST_DGSEQ` [0x420]. -/
abbrev ST_DGSEQ : Nat := 0x420
/-- `ST_DGCNT` [0x421]. -/
abbrev ST_DGCNT : Nat := 0x421
/-- `ST_POOL` [0x422]. -/
abbrev ST_POOL : Nat := 0x422
/-- `ST_POOLCTRL` [0x423]. -/
abbrev ST_POOLCTRL : Nat := 0x423
/-- `ST_ATTNMAP` [0x424]. -/
abbrev ST_ATTNMAP : Nat := 0x424
/-- `ST_STICKY` [0x425]. -/
abbrev ST_STICKY : Nat := 0x425
/-- `FLT_CTRL` [0x440]. -/
abbrev FLT_CTRL : Nat := 0x440
/-- `FLT_STATE` [0x441]. -/
abbrev FLT_STATE : Nat := 0x441
/-- `FLT_PEND0` [0x442]. -/
abbrev FLT_PEND0 : Nat := 0x442
/-- `FLT_PEND1` [0x443]. -/
abbrev FLT_PEND1 : Nat := 0x443
/-- `FLT_PEND2` [0x444]. -/
abbrev FLT_PEND2 : Nat := 0x444
/-- `FLT_PEND3` [0x445]. -/
abbrev FLT_PEND3 : Nat := 0x445
/-- `FLT_GRACE0` [0x446]. -/
abbrev FLT_GRACE0 : Nat := 0x446
/-- `FLT_GRACE1` [0x447]. -/
abbrev FLT_GRACE1 : Nat := 0x447
/-- `FLT_GRACE2` [0x448]. -/
abbrev FLT_GRACE2 : Nat := 0x448
/-- `FLT_GRACE3` [0x449]. -/
abbrev FLT_GRACE3 : Nat := 0x449
/-- `FLT_GREM0` [0x44A]. -/
abbrev FLT_GREM0 : Nat := 0x44A
/-- `FLT_GREM1` [0x44B]. -/
abbrev FLT_GREM1 : Nat := 0x44B
/-- `FLT_GREM2` [0x44C]. -/
abbrev FLT_GREM2 : Nat := 0x44C
/-- `FLT_GREM3` [0x44D]. -/
abbrev FLT_GREM3 : Nat := 0x44D
/-- `FLT_MORE0` [0x44E]. -/
abbrev FLT_MORE0 : Nat := 0x44E
/-- `FLT_MORE1` [0x44F]. -/
abbrev FLT_MORE1 : Nat := 0x44F
/-- `FLT_MORE2` [0x450]. -/
abbrev FLT_MORE2 : Nat := 0x450
/-- `FLT_MORE3` [0x451]. -/
abbrev FLT_MORE3 : Nat := 0x451
/-- `FLT_FCNT0` [0x452]. -/
abbrev FLT_FCNT0 : Nat := 0x452
/-- `FLT_FCNT1` [0x453]. -/
abbrev FLT_FCNT1 : Nat := 0x453
/-- `FLT_FCNT2` [0x454]. -/
abbrev FLT_FCNT2 : Nat := 0x454
/-- `FLT_FCNT3` [0x455]. -/
abbrev FLT_FCNT3 : Nat := 0x455
/-- `FLT_AACK0` [0x456]. -/
abbrev FLT_AACK0 : Nat := 0x456
/-- `FLT_AACK1` [0x457]. -/
abbrev FLT_AACK1 : Nat := 0x457
/-- `FLT_AACK2` [0x458]. -/
abbrev FLT_AACK2 : Nat := 0x458
/-- `FLT_AACK3` [0x459]. -/
abbrev FLT_AACK3 : Nat := 0x459
/-- `FLT_GPSAFE` [0x45A]. -/
abbrev FLT_GPSAFE : Nat := 0x45A
/-- `FLT_FNCFG` [0x45B]. -/
abbrev FLT_FNCFG : Nat := 0x45B
/-- `FLT_MASKT` [0x45C]. -/
abbrev FLT_MASKT : Nat := 0x45C
/-- `FLT_IRQMIN` [0x45D]. -/
abbrev FLT_IRQMIN : Nat := 0x45D
/-- `FLT_LOGMODE` [0x45E]. -/
abbrev FLT_LOGMODE : Nat := 0x45E
/-- `FLT_LOGCNT` [0x45F]. -/
abbrev FLT_LOGCNT : Nat := 0x45F
/-- `FLT_LOGSEQ` [0x460]. -/
abbrev FLT_LOGSEQ : Nat := 0x460
/-- `FLT_LOGOVR` [0x461]. -/
abbrev FLT_LOGOVR : Nat := 0x461
/-- `FLT_LOGLOSS` [0x462]. -/
abbrev FLT_LOGLOSS : Nat := 0x462
/-- `FLT_LOGRET` [0x463]. -/
abbrev FLT_LOGRET : Nat := 0x463
/-- `FLT_OVFCNT` [0x464]. -/
abbrev FLT_OVFCNT : Nat := 0x464
/-- `FLT_CONSCNT` [0x465]. -/
abbrev FLT_CONSCNT : Nat := 0x465
/-- `FLT_ESCCNT` [0x466]. -/
abbrev FLT_ESCCNT : Nat := 0x466
/-- `FLT_GRCCNT` [0x467]. -/
abbrev FLT_GRCCNT : Nat := 0x467
/-- `FLT_ACKCNT` [0x468]. -/
abbrev FLT_ACKCNT : Nat := 0x468
/-- `FLT_CLASSCNT` [0x469]. -/
abbrev FLT_CLASSCNT : Nat := 0x469
/-- `FLT_FIRST` [0x46A]. -/
abbrev FLT_FIRST : Nat := 0x46A
/-- `FLT_LAST` [0x46B]. -/
abbrev FLT_LAST : Nat := 0x46B
/-- `FLT_SEL` [0x46C]. -/
abbrev FLT_SEL : Nat := 0x46C
/-- `FLT_CAP0` [0x46D]. -/
abbrev FLT_CAP0 : Nat := 0x46D
/-- `FLT_CAP1` [0x46E]. -/
abbrev FLT_CAP1 : Nat := 0x46E
/-- `FLT_CAP2` [0x46F]. -/
abbrev FLT_CAP2 : Nat := 0x46F
/-- `FLT_CAP3` [0x470]. -/
abbrev FLT_CAP3 : Nat := 0x470
/-- `FLT_CAP4` [0x471]. -/
abbrev FLT_CAP4 : Nat := 0x471
/-- `FLT_CAP5` [0x472]. -/
abbrev FLT_CAP5 : Nat := 0x472
/-- `FLT_CAP6` [0x473]. -/
abbrev FLT_CAP6 : Nat := 0x473
/-- `FLT_CAP7` [0x474]. -/
abbrev FLT_CAP7 : Nat := 0x474
/-- `FLT_HPWDT` [0x475]. -/
abbrev FLT_HPWDT : Nat := 0x475
/-- `FLT_HPECC` [0x476]. -/
abbrev FLT_HPECC : Nat := 0x476
/-- `FLT_HPRSTF` [0x477]. -/
abbrev FLT_HPRSTF : Nat := 0x477
/-- `FLT_INJCNT` [0x478]. -/
abbrev FLT_INJCNT : Nat := 0x478
/-- `FLT_STICKY` [0x479]. -/
abbrev FLT_STICKY : Nat := 0x479
/-- `SL_CTRL` [0x4C0]. -/
abbrev SL_CTRL : Nat := 0x4C0
/-- `SL_STATE` [0x4C1]. -/
abbrev SL_STATE : Nat := 0x4C1
/-- `SL_RING` [0x4C2]. -/
abbrev SL_RING : Nat := 0x4C2
/-- `SL_ENABLE` [0x4C3]. -/
abbrev SL_ENABLE : Nat := 0x4C3
/-- `SL_ROLECFG` [0x4C4]. -/
abbrev SL_ROLECFG : Nat := 0x4C4
/-- `SL_ROLE` [0x4C5]. -/
abbrev SL_ROLE : Nat := 0x4C5
/-- `SL_POS` [0x4C6]. -/
abbrev SL_POS : Nat := 0x4C6
/-- `SL_NDEV` [0x4C7]. -/
abbrev SL_NDEV : Nat := 0x4C7
/-- `SL_CONTRACT` [0x4C8]. -/
abbrev SL_CONTRACT : Nat := 0x4C8
/-- `SL_TTOL` [0x4C9]. -/
abbrev SL_TTOL : Nat := 0x4C9
/-- `SL_SLEWMAX` [0x4CA]. -/
abbrev SL_SLEWMAX : Nat := 0x4CA
/-- `SL_CONVT` [0x4CB]. -/
abbrev SL_CONVT : Nat := 0x4CB
/-- `SL_TERR` [0x4CC]. -/
abbrev SL_TERR : Nat := 0x4CC
/-- `SL_RATE` [0x4CD]. -/
abbrev SL_RATE : Nat := 0x4CD
/-- `SL_RTT` [0x4CE]. -/
abbrev SL_RTT : Nat := 0x4CE
/-- `SL_DLYADJ` [0x4CF]. -/
abbrev SL_DLYADJ : Nat := 0x4CF
/-- `SL_LOSSTO` [0x4D0]. -/
abbrev SL_LOSSTO : Nat := 0x4D0
/-- `SL_EXPHASH` [0x4D1]. -/
abbrev SL_EXPHASH : Nat := 0x4D1
/-- `SL_HASHCYC` [0x4D2]. -/
abbrev SL_HASHCYC : Nat := 0x4D2
/-- `SL_PEERST` [0x4D3]. -/
abbrev SL_PEERST : Nat := 0x4D3
/-- `SL_PEERHASH` [0x4D4]. -/
abbrev SL_PEERHASH : Nat := 0x4D4
/-- `SL_SNAPBIN` [0x4D5]. -/
abbrev SL_SNAPBIN : Nat := 0x4D5
/-- `SL_COPYPER` [0x4D6]. -/
abbrev SL_COPYPER : Nat := 0x4D6
/-- `SL_COPYSEL` [0x4D7]. -/
abbrev SL_COPYSEL : Nat := 0x4D7
/-- `SL_RAMCOPY` [0x4D8]. -/
abbrev SL_RAMCOPY : Nat := 0x4D8
/-- `SL_COPYST` [0x4D9]. -/
abbrev SL_COPYST : Nat := 0x4D9
/-- `SL_SNAPSEQ` [0x4DA]. -/
abbrev SL_SNAPSEQ : Nat := 0x4DA
/-- `SL_SNAPLEN` [0x4DB]. -/
abbrev SL_SNAPLEN : Nat := 0x4DB
/-- `SL_SNAPAGE` [0x4DC]. -/
abbrev SL_SNAPAGE : Nat := 0x4DC
/-- `SL_TOCFG` [0x4DD]. -/
abbrev SL_TOCFG : Nat := 0x4DD
/-- `SL_TOCNT` [0x4DE]. -/
abbrev SL_TOCNT : Nat := 0x4DE
/-- `SL_COPYCNT` [0x4DF]. -/
abbrev SL_COPYCNT : Nat := 0x4DF
/-- `SL_FRMERR` [0x4E0]. -/
abbrev SL_FRMERR : Nat := 0x4E0
/-- `SL_STICKY` [0x4E1]. -/
abbrev SL_STICKY : Nat := 0x4E1
/-- `TST_CTRL` [0x500]. -/
abbrev TST_CTRL : Nat := 0x500
/-- `TST_STATE` [0x501]. -/
abbrev TST_STATE : Nat := 0x501
/-- `TST_BLKRST` [0x502]. -/
abbrev TST_BLKRST : Nat := 0x502
/-- `TST_TRCMODE` [0x503]. -/
abbrev TST_TRCMODE : Nat := 0x503
/-- `TST_TRCMASK` [0x504]. -/
abbrev TST_TRCMASK : Nat := 0x504
/-- `TST_TRCAUTO` [0x505]. -/
abbrev TST_TRCAUTO : Nat := 0x505
/-- `TST_TRCTRIG` [0x506]. -/
abbrev TST_TRCTRIG : Nat := 0x506
/-- `TST_TRCCNT` [0x507]. -/
abbrev TST_TRCCNT : Nat := 0x507
/-- `TST_TRCDEPTH` [0x508]. -/
abbrev TST_TRCDEPTH : Nat := 0x508
/-- `TST_TRCLOST` [0x509]. -/
abbrev TST_TRCLOST : Nat := 0x509
/-- `TST_TRCSEQ` [0x50A]. -/
abbrev TST_TRCSEQ : Nat := 0x50A
/-- `TST_TRCSTART` [0x50B]. -/
abbrev TST_TRCSTART : Nat := 0x50B
/-- `TST_TRCECC` [0x50C]. -/
abbrev TST_TRCECC : Nat := 0x50C
/-- `TST_MARK` [0x50D]. -/
abbrev TST_MARK : Nat := 0x50D
/-- `TST_SLEEPCNT` [0x50E]. -/
abbrev TST_SLEEPCNT : Nat := 0x50E
/-- `TST_LASTRST` [0x50F]. -/
abbrev TST_LASTRST : Nat := 0x50F
/-- `TST_BRSTCNT` [0x510]. -/
abbrev TST_BRSTCNT : Nat := 0x510
/-- `TST_TESTTO` [0x511]. -/
abbrev TST_TESTTO : Nat := 0x511
/-- `TST_TESTCNT` [0x512]. -/
abbrev TST_TESTCNT : Nat := 0x512
/-- `TST_AUTHFAIL` [0x513]. -/
abbrev TST_AUTHFAIL : Nat := 0x513
/-- `TST_INJLAST` [0x514]. -/
abbrev TST_INJLAST : Nat := 0x514
/-- `TST_JTAGIR` [0x515]. -/
abbrev TST_JTAGIR : Nat := 0x515
/-- `TST_JTAGCNT` [0x516]. -/
abbrev TST_JTAGCNT : Nat := 0x516
/-- `TST_BSDLREV` [0x517]. -/
abbrev TST_BSDLREV : Nat := 0x517
/-- `TST_SUPSTICKY` [0x518]. -/
abbrev TST_SUPSTICKY : Nat := 0x518
/-- `TST_STICKY` [0x519]. -/
abbrev TST_STICKY : Nat := 0x519
end P

/-- The definitions of Table 13.2. -/
def paramsSession : List ParamDef := [
  ⟨P.HP_IDCODE, .ro, 1, .all 0x2B6A41D3, .spans [(728383955, 728383955)]⟩,
  ⟨P.HP_PARTNO, .ro, 1, .all 0xB6A4, .spans [(46756, 46756)]⟩,
  ⟨P.HP_STEPPING, .ro, 1, .all 0x43, .spans [(67, 67)]⟩,
  ⟨P.HP_ROMVER, .ro, 1, .all 0x302, .spans [(770, 770)]⟩,
  ⟨P.HP_CONTRACTS, .ro, 1, .all 0x404, .bits 0xFFFF⟩,
  ⟨P.HP_GRADE, .ro, 1, .each [], .spans [(0, 1)]⟩,
  ⟨P.HP_UID, .ro, 2, .each [], .spans [(0, 4294967295)]⟩,
  ⟨P.HP_PCOUNT, .ro, 1, .all 0x21C, .spans [(540, 540)]⟩,
  ⟨P.HP_PMAPREV, .ro, 1, .all 1, .spans [(1, 1)]⟩,
  ⟨P.HP_DEVSTATE, .ro, 1, .all 0, .bits 0x1⟩,
  ⟨P.HP_TIMEL, .ro, 1, .all 0, .spans [(0, 4294967295)]⟩,
  ⟨P.HP_TIMEH, .ro, 1, .all 0, .spans [(0, 4294967295)]⟩,
  ⟨P.HP_SELF, .ro, 1, .each [], .spans [(1, 4)]⟩,
  ⟨P.HP_GRPCNT, .ro, 4, .all 0, .spans [(0, 256)]⟩,
  ⟨P.HP_GRPMAX, .ro, 1, .all 0x100, .spans [(256, 256)]⟩,
  ⟨P.HP_GRPTO, .rwLive, 1, .all 0x1388, .spans [(0, 0), (10, 600000)]⟩,
  ⟨P.HP_CMTCNT, .ro, 4, .all 0, .spans [(0, 4294967295)]⟩,
  ⟨P.HP_CMTREF, .ro, 4, .all 0, .spans [(0, 4294967295)]⟩,
  ⟨P.HP_CMTSTAMP, .ro, 4, .all 0, .spans [(0, 4294967295)]⟩,
  ⟨P.HP_WRCNT, .ro, 4, .all 0, .spans [(0, 4294967295)]⟩,
  ⟨P.HP_SCRATCH, .rwLive, 16, .all 0, .spans [(0, 4294967295)]⟩,
  ⟨P.HP_PCTRL, .cmd, 1, .each [], .spans [(1, 1)]⟩]

/-- The definitions of Table 2.9. -/
def paramsWheel : List ParamDef := [
  ⟨P.WH_SRC, .rwLocked, 1, .all 4, .spans [(0, 5)]⟩,
  ⟨P.WH_CTRL, .cmd, 1, .each [], .spans [(1, 4)]⟩,
  ⟨P.WH_STATE, .ro, 1, .all 0, .spans [(0, 4)]⟩,
  ⟨P.WH_STATUS, .ro, 1, .all 0, .bits 0x1F⟩,
  ⟨P.WH_ANGLE, .ro, 1, .all 0, .spans [(0, 16777215)]⟩,
  ⟨P.WH_CYCLE, .ro, 1, .all 0, .spans [(0, 16777215)]⟩,
  ⟨P.WH_SPEED, .ro, 1, .all 0, .spans [(-2147483648, 2147483647)]⟩,
  ⟨P.WH_QLINES, .rwLocked, 1, .all 0x400, .spans [(1, 1048576)]⟩,
  ⟨P.WH_QDIR, .rwLocked, 1, .all 0, .spans [(0, 1)]⟩,
  ⟨P.WH_ZOFS, .rwLocked, 1, .all 0, .spans [(0, 16777215)]⟩,
  ⟨P.WH_ZTOL, .rwLive, 1, .all 4, .spans [(0, 255)]⟩,
  ⟨P.WH_INTERP, .rwLive, 1, .all 2, .spans [(0, 2)]⟩,
  ⟨P.WH_INTERR, .ro, 1, .all 0, .spans [(0, 16777215)]⟩,
  ⟨P.WH_STALLT, .rwLive, 1, .all 0x186A0, .spans [(1, 1000000)]⟩,
  ⟨P.WH_QFILT, .rwLocked, 1, .all 0, .spans [(0, 2)]⟩,
  ⟨P.WH_ENCFLTEN, .rwLocked, 1, .all 0, .spans [(0, 1)]⟩,
  ⟨P.WH_SSIBITS, .rwLocked, 1, .all 0x19, .spans [(13, 32)]⟩,
  ⟨P.WH_SSISTB, .rwLocked, 1, .all 0xD, .spans [(8, 32)]⟩,
  ⟨P.WH_SSICODE, .rwLocked, 1, .all 1, .spans [(0, 1)]⟩,
  ⟨P.WH_SSICLK, .rwLocked, 1, .all 0x3E8, .spans [(100, 4000)]⟩,
  ⟨P.WH_SSIPER, .rwLocked, 1, .all 0x32, .spans [(10, 10000)]⟩,
  ⟨P.WH_SSIJMP, .rwLive, 1, .all 0x400, .spans [(1, 32768)]⟩,
  ⟨P.WH_SCCELL, .rwLocked, 1, .all 0, .stepped 0 62 2⟩,
  ⟨P.WH_SCLANE, .rwLocked, 1, .all 0x1F, .spans [(0, 31)]⟩,
  ⟨P.WH_SCPER, .rwLocked, 1, .all 1, .spans [(1, 1024)]⟩,
  ⟨P.WH_SCAMIN, .rwLive, 1, .all 0x4000, .spans [(0, 131071)]⟩,
  ⟨P.WH_VSPEED, .rwLive, 1, .all 0, .spans [(-16777216, 16777216)]⟩,
  ⟨P.WH_SCAMAX, .rwLive, 1, .all 0x1E000, .spans [(0, 131071)]⟩,
  ⟨P.WH_LOSSACT, .rwLocked, 1, .all 0, .spans [(0, 1)]⟩,
  ⟨P.WH_COASTMAX, .rwLive, 1, .all 0x10000, .spans [(1, 1048576)]⟩,
  ⟨P.WH_REVLIM, .rwLive, 1, .all 0, .spans [(0, 65535)]⟩,
  ⟨P.WH_HWM, .ro, 2, .all 0, .spans [(0, 4294967295)]⟩,
  ⟨P.WH_FREE, .ro, 1, .all 0x20000, .spans [(0, 131072)]⟩,
  ⟨P.WH_STEPMAX, .ro, 1, .all 0, .spans [(0, 65535)]⟩,
  ⟨P.WH_LATECNT, .ro, 1, .all 0, .spans [(0, 4294967295)]⟩,
  ⟨P.WH_SKIPCNT, .ro, 1, .all 0, .spans [(0, 4294967295)]⟩,
  ⟨P.WH_DFRCNT, .ro, 1, .all 0, .spans [(0, 4294967295)]⟩,
  ⟨P.WH_SRCERR, .ro, 1, .all 0, .spans [(0, 4294967295)]⟩,
  ⟨P.WH_ZSLIPCNT, .ro, 1, .all 0, .spans [(0, 4294967295)]⟩,
  ⟨P.WH_GAPCNT, .ro, 1, .all 0, .spans [(0, 4294967295)]⟩,
  ⟨P.WH_ECCCNT, .ro, 2, .all 0, .spans [(0, 4294967295)]⟩,
  ⟨P.WH_STICKY, .w1c, 1, .all 0, .bits 0x1FFF⟩,
  ⟨P.WH_TQDUEL, .rwLive, 16, .all 0, .spans [(0, 4294967295)]⟩,
  ⟨P.WH_TQDUEH, .rwLive, 16, .all 0, .spans [(0, 4294967295)]⟩,
  ⟨P.WH_TQPER, .rwLive, 16, .all 0, .spans [(0, 0), (100, 4294967295)]⟩,
  ⟨P.WH_TQCTL, .cmd, 16, .each [], .spans [(1, 3)]⟩]

/-- The definitions of Table 3.7. -/
def paramsCells : List ParamDef := [
  ⟨P.AC_CTRL, .cmd, 64, .each [], .spans [(1, 2)]⟩,
  ⟨P.AC_STATE, .ro, 64, .all 0, .spans [(0, 4)]⟩,
  ⟨P.AC_STATUS, .ro, 64, .all 0, .bits 0x7F⟩,
  ⟨P.AC_MODE, .rwShadow, 64, .all 0, .spans [(0, 8)]⟩,
  ⟨P.AC_GAIN, .rwLive, 64, .all 0, .spans [(0, 7)]⟩,
  ⟨P.AC_TRIM, .rwLive, 64, .all 0, .spans [(-512, 511)]⟩,
  ⟨P.AC_AAF, .rwLive, 64, .all 0x3F, .spans [(0, 63)]⟩,
  ⟨P.AC_CMPTAP, .rwLive, 64, .all 0, .spans [(0, 1)]⟩,
  ⟨P.AC_BURNOUT, .rwLive, 64, .all 0, .spans [(0, 1)]⟩,
  ⟨P.AC_EXCV, .rwShadow, 64, .all 0x9C4, .spans [(1000, 4500)]⟩,
  ⟨P.AC_EXCI, .rwShadow, 64, .all 0x3E8, .spans [(50, 2000)]⟩,
  ⟨P.AC_OUT, .rwLive, 64, .all 0x8000, .spans [(0, 65535)]⟩,
  ⟨P.AC_INIT, .rwShadow, 64, .all 0x10000, .spans [(0, 65536)]⟩,
  ⟨P.AC_OUTMIN, .rwLive, 64, .all 0, .spans [(0, 65535)]⟩,
  ⟨P.AC_OUTMAX, .rwLive, 64, .all 0xFFFF, .spans [(0, 65535)]⟩,
  ⟨P.AC_SAFEMODE, .rwLive, 64, .all 0, .spans [(0, 2)]⟩,
  ⟨P.AC_SAFE, .rwLive, 64, .all 0x8000, .spans [(0, 65535)]⟩,
  ⟨P.AC_SETTLE, .ro, 64, .all 0, .spans [(0, 4294967295)]⟩,
  ⟨P.AC_OVRCNT, .ro, 64, .all 0, .spans [(0, 4294967295)]⟩,
  ⟨P.AC_STICKY, .w1c, 64, .all 0, .bits 0xFF⟩,
  ⟨P.AC_SUPPLY, .ro, 1, .each [], .bits 0x3⟩]

/-- The definitions of Table 4.6. -/
def paramsComparators : List ParamDef := [
  ⟨P.CMP_CTRL, .cmd, 64, .each [], .spans [(1, 6)]⟩,
  ⟨P.CMP_STATE, .ro, 64, .all 0, .spans [(0, 4)]⟩,
  ⟨P.CMP_STATUS, .ro, 64, .all 0, .bits 0x3F⟩,
  ⟨P.CMP_MODE, .rwShadow, 64, .all 0, .spans [(0, 2)]⟩,
  ⟨P.CMP_THR, .rwLive, 64, .all 0xFFF0000, .bits 0x0FFF0FFF⟩,
  ⟨P.CMP_MAJ, .rwShadow, 64, .all 5, .stepped 1 31 2⟩,
  ⟨P.CMP_DIV, .rwShadow, 64, .all 1, .spans [(1, 256)]⟩,
  ⟨P.CMP_POL, .rwShadow, 64, .all 0, .spans [(0, 1)]⟩,
  ⟨P.CMP_DISVAL, .rwLive, 64, .all 0, .spans [(0, 1)]⟩,
  ⟨P.CMP_HOLDSET, .rwLive, 64, .all 1, .spans [(0, 1)]⟩,
  ⟨P.CMP_EDGE, .rwShadow, 64, .all 0, .spans [(0, 2)]⟩,
  ⟨P.CMP_IRQEN, .rwLive, 64, .all 0, .spans [(0, 1)]⟩,
  ⟨P.CMP_WAKEEN, .rwLive, 64, .all 0, .spans [(0, 1)]⟩,
  ⟨P.CMP_URGEN, .rwShadow, 64, .all 0, .spans [(0, 1)]⟩,
  ⟨P.CMP_URGDST, .rwShadow, 64, .all 0, .spans [(0, 3), (16, 23)]⟩,
  ⟨P.CMP_EVENT, .w1c, 64, .all 0, .bits 0x1⟩,
  ⟨P.CMP_EDGECNT, .ro, 64, .all 0, .spans [(0, 4294967295)]⟩,
  ⟨P.CMP_URGLOST, .ro, 64, .all 0, .spans [(0, 4294967295)]⟩,
  ⟨P.CMP_CHATLIM, .rwLive, 64, .all 0, .spans [(0, 65535)]⟩,
  ⟨P.CMP_STICKY, .w1c, 64, .all 0, .bits 0x1F⟩]

/-- The definitions of Table 5.9. -/
def paramsSar : List ParamDef := [
  ⟨P.SAR_CTRL, .cmd, 4, .each [], .command 4 0xFFF⟩,
  ⟨P.SAR_STATE, .ro, 4, .all 0, .spans [(0, 3)]⟩,
  ⟨P.SAR_STATUS, .ro, 4, .all 0x1200, .bits 0x1FFF⟩,
  ⟨P.SAR_REFEN, .rwLive, 4, .all 0, .spans [(0, 1)]⟩,
  ⟨P.SAR_URGPOL, .rwShadow, 4, .all 1, .spans [(0, 1)]⟩,
  ⟨P.SAR_URGDST, .rwShadow, 4, .all 0, .bits 0x1FFF⟩,
  ⟨P.SAR_ROTEN, .rwLive, 4, .all 1, .spans [(0, 1)]⟩,
  ⟨P.SAR_ROTPER, .rwLive, 4, .all 0x64, .spans [(1, 60000)]⟩,
  ⟨P.SAR_LIST, .rwShadow, 64, .all 0, .bits 0x1FFF⟩,
  ⟨P.SAR_PACE, .rwShadow, 64, .all 0, .spans [(0, 4294967295)]⟩,
  ⟨P.SAR_G0SCAN, .rwShadow, 48, .all 0, .bits 0x7FFFFF⟩,
  ⟨P.SAR_G1SCAN, .rwShadow, 48, .all 0, .bits 0x7FFFFF⟩,
  ⟨P.SAR_G2SCAN, .rwShadow, 48, .all 0, .bits 0x7FFFFF⟩,
  ⟨P.SAR_G3SCAN, .rwShadow, 48, .all 0, .bits 0x7FFFFF⟩,
  ⟨P.SAR_SLICE, .ro, 20, .each [], .bits 0xFFFF0007⟩,
  ⟨P.SAR_XCSEL, .rwShadow, 16, .all 0, .bits 0x1FFFF⟩,
  ⟨P.SAR_XCTOL, .rwLive, 16, .all 8, .spans [(0, 4095)]⟩,
  ⟨P.SAR_XCWIN, .rwLive, 16, .all 0x64, .spans [(1, 100000)]⟩,
  ⟨P.SAR_XCCNT, .ro, 16, .all 0, .spans [(0, 4294967295)]⟩,
  ⟨P.SAR_XCMISS, .ro, 16, .all 0, .spans [(0, 4294967295)]⟩,
  ⟨P.SAR_SYSCAL, .cmd, 4, .each [], .bits 0x33F⟩,
  ⟨P.SAR_SYSST, .ro, 4, .all 0, .spans [(0, 5)]⟩,
  ⟨P.SAR_SYSFS, .rwLive, 64, .all 0xFA0, .spans [(0, 4095)]⟩,
  ⟨P.SAR_SYSGAIN, .rwLive, 64, .all 0x40000000, .spans [(536870912, 2147483647)]⟩,
  ⟨P.SAR_SYSOFS, .rwLive, 64, .all 0, .spans [(-131072, 131071)]⟩,
  ⟨P.SAR_URGCNT, .ro, 4, .all 0, .spans [(0, 4294967295)]⟩,
  ⟨P.SAR_URGABT, .ro, 4, .all 0, .spans [(0, 4294967295)]⟩,
  ⟨P.SAR_URGDROP, .ro, 4, .all 0, .spans [(0, 4294967295)]⟩,
  ⟨P.SAR_RNRCNT, .ro, 4, .all 0, .spans [(0, 4294967295)]⟩,
  ⟨P.SAR_SKIPSLOT, .ro, 4, .all 0, .spans [(0, 4294967295)]⟩,
  ⟨P.SAR_STICKY, .w1c, 4, .all 0, .bits 0x1FF⟩]

/-- The definitions of Table 6.7. -/
def paramsIntegrating : List ParamDef := [
  ⟨P.IC_CTRL, .cmd, 8, .each [], .command 4 0x3FF⟩,
  ⟨P.IC_STATE, .ro, 8, .all 0, .spans [(0, 3)]⟩,
  ⟨P.IC_STATUS, .ro, 8, .all 0, .bits 0x3F⟩,
  ⟨P.IC_MODE, .rwShadow, 8, .all 0, .spans [(0, 2)]⟩,
  ⟨P.IC_NPER, .rwShadow, 8, .all 1, .spans [(1, 16)]⟩,
  ⟨P.IC_CYCBINS, .rwShadow, 8, .all 0x10000, .spans [(16, 65536)]⟩,
  ⟨P.IC_TINT, .rwShadow, 8, .all 0x4E20, .spans [(1000, 2000000)]⟩,
  ⟨P.IC_CYCMAX, .rwLive, 8, .all 0x3E8, .spans [(10, 10000)]⟩,
  ⟨P.IC_SRC, .rwShadow, 32, .all 0, .spans [(0, 63)]⟩,
  ⟨P.IC_RUN, .rwShadow, 8, .all 1, .spans [(0, 1)]⟩,
  ⟨P.IC_DST, .rwShadow, 8, .all 0, .bits 0x1FFF⟩,
  ⟨P.IC_REFEN, .rwLive, 1, .all 0, .spans [(0, 1)]⟩,
  ⟨P.IC_MSTATE, .ro, 1, .all 0, .spans [(0, 3)]⟩,
  ⟨P.IC_XCSEL, .rwShadow, 8, .all 0, .bits 0x1FF⟩,
  ⟨P.IC_XCTOL, .rwLive, 8, .all 8, .spans [(0, 4095)]⟩,
  ⟨P.IC_XCMIN, .rwLive, 8, .all 0x10, .spans [(1, 65535)]⟩,
  ⟨P.IC_MPER, .ro, 1, .all 0, .spans [(0, 4294967295)]⟩,
  ⟨P.IC_MNOM, .rwLive, 1, .all 0x32, .spans [(50, 50), (60, 60)]⟩,
  ⟨P.IC_MAVG, .rwLive, 1, .all 4, .spans [(1, 16)]⟩,
  ⟨P.IC_RESULT, .ro, 8, .all 0, .spans [(-131072, 262143)]⟩,
  ⟨P.IC_TLEN, .ro, 8, .all 0, .spans [(0, 4294967295)]⟩,
  ⟨P.IC_XCCNT, .ro, 8, .all 0, .spans [(0, 4294967295)]⟩,
  ⟨P.IC_XCMISS, .ro, 8, .all 0, .spans [(0, 4294967295)]⟩,
  ⟨P.IC_URGCNT, .ro, 8, .all 0, .spans [(0, 4294967295)]⟩,
  ⟨P.IC_URGDROP, .ro, 8, .all 0, .spans [(0, 4294967295)]⟩,
  ⟨P.IC_CYCTO, .ro, 8, .all 0, .spans [(0, 4294967295)]⟩,
  ⟨P.IC_MLOSSCNT, .ro, 1, .all 0, .spans [(0, 4294967295)]⟩,
  ⟨P.IC_STICKY, .w1c, 8, .all 0, .bits 0x3F⟩]

/-- The definitions of Table 7.8. -/
def paramsLanes : List ParamDef := [
  ⟨P.FL_CTRL, .cmd, 32, .each [], .spans [(1, 3)]⟩,
  ⟨P.FL_STATE, .ro, 32, .all 0, .spans [(0, 4)]⟩,
  ⟨P.FL_STATUS, .ro, 32, .all 0, .bits 0x7⟩,
  ⟨P.FL_MODE, .rwShadow, 32, .all 0, .spans [(0, 5)]⟩,
  ⟨P.FL_DEC, .rwShadow, 32, .all 1, .spans [(1, 4096)]⟩,
  ⟨P.FL_FIRSET, .rwShadow, 32, .all 0, .spans [(0, 5)]⟩,
  ⟨P.FL_RATIO, .rwLive, 32, .all 0x8000000, .spans [(8388608, 2147483648)]⟩,
  ⟨P.FL_APC, .rwShadow, 32, .all 0x168, .spans [(1, 65536)]⟩,
  ⟨P.FL_AOFS, .rwShadow, 32, .all 0, .spans [(0, 16777215)]⟩,
  ⟨P.FL_INUNS, .rwShadow, 32, .all 0, .spans [(0, 1)]⟩,
  ⟨P.FL_DCMODE, .rwLive, 32, .all 0, .spans [(0, 2)]⟩,
  ⟨P.FL_DCK, .rwLive, 32, .all 0xC, .spans [(4, 20)]⟩,
  ⟨P.FL_DCM, .rwLive, 32, .all 0, .spans [(-2147483648, 2147483647)]⟩,
  ⟨P.FL_OSHIFT, .rwShadow, 32, .all 0, .spans [(-4, 4)]⟩,
  ⟨P.FL_DST, .rwShadow, 32, .all 0, .bits 0x7F⟩,
  ⟨P.FL_TNOM, .rwLive, 32, .all 0, .spans [(0, 0), (16, 4294967295)]⟩,
  ⟨P.FL_GAPMAX, .rwLive, 32, .all 4, .spans [(2, 255)]⟩,
  ⟨P.FL_S1MIN, .rwLive, 32, .all 1, .spans [(1, 65536)]⟩,
  ⟨P.FL_SCOFS, .rwLive, 64, .all 0, .spans [(-131072, 131071)]⟩,
  ⟨P.FL_SCGAIN, .rwLive, 64, .all 0x400000, .spans [(32768, 8388608)]⟩,
  ⟨P.FL_SCAMP, .ro, 32, .all 0, .spans [(0, 131071)]⟩,
  ⟨P.FL_DELAY, .ro, 32, .all 0x3E, .spans [(0, 4294967295)]⟩,
  ⟨P.FL_SCANG, .ro, 32, .all 0, .spans [(0, 16777215)]⟩,
  ⟨P.FL_OUTCNT, .ro, 32, .all 0, .spans [(0, 4294967295)]⟩,
  ⟨P.FL_GOVCNT, .ro, 32, .all 0, .spans [(0, 4294967295)]⟩,
  ⟨P.FL_GAPCNT, .ro, 32, .all 0, .spans [(0, 4294967295)]⟩,
  ⟨P.FL_RSTCNT, .ro, 32, .all 0, .spans [(0, 4294967295)]⟩,
  ⟨P.FL_ASKIP, .ro, 32, .all 0, .spans [(0, 4294967295)]⟩,
  ⟨P.FL_OVRCNT, .ro, 32, .all 0, .spans [(0, 4294967295)]⟩,
  ⟨P.FL_SCPAIR, .ro, 32, .all 0, .spans [(0, 4294967295)]⟩,
  ⟨P.FL_S1DROP, .ro, 32, .all 0, .spans [(0, 4294967295)]⟩,
  ⟨P.FL_STICKY, .w1c, 32, .all 0, .bits 0x7F⟩,
  ⟨P.FL_CU0, .rwLocked, 32, .firUser, .spans [(-131072, 131071)]⟩,
  ⟨P.FL_CU1, .rwLocked, 32, .firUser, .spans [(-131072, 131071)]⟩,
  ⟨P.FL_CU2, .rwLocked, 32, .firUser, .spans [(-131072, 131071)]⟩,
  ⟨P.FL_CU3, .rwLocked, 32, .firUser, .spans [(-131072, 131071)]⟩]

/-- The definitions of Table 8.7. -/
def paramsFabric : List ParamDef := [
  ⟨P.FAB_CTRL, .cmd, 1, .each [], .spans [(1, 3)]⟩,
  ⟨P.FAB_STATE, .ro, 1, .all 0, .spans [(0, 3)]⟩,
  ⟨P.FAB_STATUS, .ro, 1, .all 0, .bits 0x7⟩,
  ⟨P.FAB_CLKSEL, .rwShadow, 1, .all 0, .spans [(0, 3)]⟩,
  ⟨P.FAB_CFGID, .ro, 1, .all 0, .spans [(0, 4294967295)]⟩,
  ⟨P.FAB_SWIN, .rwLive, 1, .all 0, .spans [(0, 4294967295)]⟩,
  ⟨P.FAB_SWOUT, .ro, 1, .all 0, .spans [(0, 4294967295)]⟩,
  ⟨P.FAB_GPOUT, .ro, 2, .all 0, .spans [(0, 4294967295)]⟩,
  ⟨P.FAB_RAMADR, .rwLive, 24, .all 0, .spans [(0, 511)]⟩,
  ⟨P.FAB_RAMDAT, .rwLive, 24, .each [], .spans [(0, 4294967295)]⟩,
  ⟨P.FAB_PULSECNT, .ro, 64, .all 0, .spans [(0, 4294967295)]⟩,
  ⟨P.FAB_PULSEMRG, .ro, 64, .all 0, .spans [(0, 4294967295)]⟩,
  ⟨P.FAB_MBREFUSE, .ro, 8, .all 0, .spans [(0, 4294967295)]⟩,
  ⟨P.FAB_PARCNT, .ro, 24, .all 0, .spans [(0, 4294967295)]⟩,
  ⟨P.FAB_SCRUB, .ro, 1, .all 0, .spans [(0, 4294967295)]⟩,
  ⟨P.FAB_STICKY, .w1c, 1, .all 0, .bits 0x3F⟩,
  ⟨P.TM_CTRL, .cmd, 64, .each [], .spans [(1, 5)]⟩,
  ⟨P.TM_STATE, .ro, 64, .all 0, .spans [(0, 2)]⟩,
  ⟨P.TM_MODE, .rwShadow, 64, .all 0, .spans [(0, 3)]⟩,
  ⟨P.TM_CAPSRC, .rwShadow, 64, .all 0, .spans [(0, 1)]⟩,
  ⟨P.TM_EDGE, .rwShadow, 64, .all 0, .spans [(0, 2)]⟩,
  ⟨P.TM_CLKSRC, .rwShadow, 64, .all 0, .spans [(0, 1)]⟩,
  ⟨P.TM_PRESC, .rwShadow, 64, .all 1, .spans [(1, 65536)]⟩,
  ⟨P.TM_CMPA, .rwLive, 64, .all 0, .spans [(0, 4294967295)]⟩,
  ⟨P.TM_CMPB, .rwLive, 64, .all 0xFFFFFFFF, .spans [(0, 4294967295)]⟩,
  ⟨P.TM_CNT, .ro, 64, .all 0, .spans [(0, 4294967295)]⟩,
  ⟨P.TM_DST, .rwShadow, 64, .all 0, .bits 0x7F⟩,
  ⟨P.TM_LASTANG, .ro, 64, .all 0, .spans [(0, 16777215)]⟩,
  ⟨P.TM_LASTCYC, .ro, 64, .all 0, .spans [(0, 16777215)]⟩,
  ⟨P.TM_LASTTL, .ro, 64, .all 0, .spans [(0, 4294967295)]⟩,
  ⟨P.TM_LASTTH, .ro, 64, .all 0, .spans [(0, 4294967295)]⟩,
  ⟨P.TM_CAPCNT, .ro, 64, .all 0, .spans [(0, 4294967295)]⟩,
  ⟨P.TM_CAPLOST, .ro, 64, .all 0, .spans [(0, 4294967295)]⟩,
  ⟨P.TM_STICKY, .w1c, 64, .all 0, .bits 0x1⟩]

/-- The definitions of Table 9.8. -/
def paramsKiln : List ParamDef := [
  ⟨P.KL_CTRL, .cmd, 1, .each [], .spans [(1, 5)]⟩,
  ⟨P.KL_STATE, .ro, 1, .all 0, .spans [(0, 3)]⟩,
  ⟨P.KL_STATUS, .ro, 1, .all 0, .bits 0x7F⟩,
  ⟨P.KL_PBUDGET, .rwLive, 1, .all 0xC80, .spans [(100, 4500)]⟩,
  ⟨P.KL_THETA, .rwLive, 1, .all 0x582, .spans [(100, 5000)]⟩,
  ⟨P.KL_TAU, .rwLive, 1, .all 0x7530, .spans [(1000, 600000)]⟩,
  ⟨P.KL_TLIM, .rwLive, 1, .all 0x2AF8, .spans [(5000, 12000)]⟩,
  ⟨P.KL_TCRIT, .rwLive, 1, .all 0x2EE0, .spans [(6000, 12400)]⟩,
  ⟨P.KL_RAILV, .rwLive, 6, .each [1000, 3300, 3300, 5000, 15000, 15000], .spans [(900, 16000)]⟩,
  ⟨P.KL_RAILMAX, .rwLive, 6, .each [1500, 200, 200, 400, 100, 100], .spans [(1, 2000)]⟩,
  ⟨P.KL_PLANMAX, .rwLive, 1, .all 0x64, .spans [(10, 10000)]⟩,
  ⟨P.KL_GATEEN, .rwLive, 1, .all 0xF, .bits 0xF⟩,
  ⟨P.KL_JCLASS, .rwShadow, 64, .jobClass, .spans [(0, 3)]⟩,
  ⟨P.KL_ACCLASS, .rwShadow, 64, .all 1, .spans [(0, 3)]⟩,
  ⟨P.KL_OUTLOAD, .rwLive, 64, .all 0x61A8, .spans [(0, 30000)]⟩,
  ⟨P.KL_RPTMB, .rwLive, 1, .all 0, .bits 0x17⟩,
  ⟨P.KL_EBUDGET, .ro, 1, .all 0, .spans [(0, 4294967295)]⟩,
  ⟨P.KL_EADM, .ro, 1, .all 0, .spans [(0, 4294967295)]⟩,
  ⟨P.KL_EREQ, .ro, 1, .all 0, .spans [(0, 4294967295)]⟩,
  ⟨P.KL_EMEAS, .ro, 1, .all 0, .spans [(0, 4294967295)]⟩,
  ⟨P.KL_TPER, .ro, 1, .all 0, .spans [(0, 4294967295)]⟩,
  ⟨P.KL_TNOW, .ro, 1, .all 0, .spans [(-2147483648, 2147483647)]⟩,
  ⟨P.KL_TPRED, .ro, 1, .all 0, .spans [(-2147483648, 2147483647)]⟩,
  ⟨P.KL_TSENS, .ro, 5, .all 0, .spans [(-2147483648, 2147483647)]⟩,
  ⟨P.KL_PF, .ro, 1, .all 0, .spans [(0, 4294967295)]⟩,
  ⟨P.KL_DEFMAP, .ro, 8, .all 0, .spans [(0, 4294967295)]⟩,
  ⟨P.KL_CLASSE, .ro, 4, .all 0, .spans [(0, 4294967295)]⟩,
  ⟨P.KL_CLASSD, .ro, 4, .all 0, .spans [(0, 4294967295)]⟩,
  ⟨P.KL_RAILI, .ro, 6, .all 0, .spans [(0, 4294967295)]⟩,
  ⟨P.KL_PLANCNT, .ro, 1, .all 0, .spans [(0, 4294967295)]⟩,
  ⟨P.KL_DEFCNT, .ro, 1, .all 0, .spans [(0, 4294967295)]⟩,
  ⟨P.KL_TIMEDCNT, .ro, 1, .all 0, .spans [(0, 4294967295)]⟩,
  ⟨P.KL_RPTLOST, .ro, 1, .all 0, .spans [(0, 4294967295)]⟩,
  ⟨P.KL_GATEHIT, .ro, 1, .all 0, .spans [(0, 4294967295)]⟩,
  ⟨P.KL_GATEDROP, .ro, 1, .all 0, .spans [(0, 4294967295)]⟩,
  ⟨P.KL_BDREFUSE, .ro, 1, .all 0, .spans [(0, 4294967295)]⟩,
  ⟨P.KL_OVRTOL, .rwLive, 1, .all 0xA, .spans [(1, 100)]⟩,
  ⟨P.KL_WAKESRC, .rwLive, 1, .all 0, .bits 0x1F⟩,
  ⟨P.KL_WAKEBIN, .rwLive, 1, .all 0, .spans [(0, 65535)]⟩,
  ⟨P.KL_WAKET, .rwLive, 1, .all 0x3E8, .spans [(1, 86400000)]⟩,
  ⟨P.KL_WAKEST, .rwLive, 1, .all 0, .spans [(0, 1)]⟩,
  ⟨P.KL_LASTWAKE, .ro, 1, .all 0, .spans [(0, 4)]⟩,
  ⟨P.KL_STICKY, .w1c, 1, .all 0, .bits 0xFFF⟩]

/-- The definitions of Table 10.6. -/
def paramsCalibration : List ParamDef := [
  ⟨P.CAL_CTRL, .cmd, 1, .each [], .spans [(1, 5)]⟩,
  ⟨P.CAL_STATE, .ro, 1, .all 1, .spans [(0, 3)]⟩,
  ⟨P.CAL_STATUS, .ro, 1, .all 0, .bits 0x1F⟩,
  ⟨P.CAL_DTEMP, .rwLive, 1, .all 0xC8, .spans [(25, 1600)]⟩,
  ⟨P.CAL_TIMEOUT, .rwLive, 1, .all 0xFA, .spans [(1, 2000)]⟩,
  ⟨P.CAL_SLEW, .rwLive, 1, .all 4, .spans [(1, 256)]⟩,
  ⟨P.CAL_TREF, .ro, 1, .all 0x80000000, .spans [(-2147483648, 2147483647)]⟩,
  ⟨P.CAL_IWCELL, .rwShadow, 16, .all 0, .spans [(0, 4294967295)]⟩,
  ⟨P.CAL_CELLEN, .rwLive, 2, .all 0, .spans [(0, 4294967295)]⟩,
  ⟨P.CAL_VCR, .ro, 1, .all 0, .spans [(0, 4294967295)]⟩,
  ⟨P.CAL_CSEL, .rwLive, 1, .all 0, .bits 0xFFFF⟩,
  ⟨P.CAL_CGAIN, .rwLive, 1, .each [], .spans [(1006632960, 1140850687)]⟩,
  ⟨P.CAL_COFS, .rwLive, 1, .each [], .spans [(-32768, 32767)]⟩,
  ⟨P.CAL_CTEMP, .ro, 1, .each [], .spans [(-2147483648, 2147483647)]⟩,
  ⟨P.CAL_MAXSTEP, .rwLive, 1, .all 0x1F4, .spans [(10, 20000)]⟩,
  ⟨P.CAL_RUNCNT, .ro, 1, .all 0, .spans [(0, 4294967295)]⟩,
  ⟨P.CAL_FAILCNT, .ro, 1, .all 0, .spans [(0, 4294967295)]⟩,
  ⟨P.CAL_REJCNT, .ro, 1, .all 0, .spans [(0, 4294967295)]⟩,
  ⟨P.CAL_SKIPCNT, .ro, 1, .all 0, .spans [(0, 4294967295)]⟩,
  ⟨P.CAL_SPARECNT, .ro, 1, .all 0, .spans [(0, 4294967295)]⟩,
  ⟨P.CAL_LASTDUR, .ro, 1, .all 0, .spans [(0, 4294967295)]⟩,
  ⟨P.CAL_STICKY, .w1c, 1, .all 0, .bits 0x3F⟩]

/-- The definitions of Table 11.9. -/
def paramsGrist : List ParamDef := [
  ⟨P.GR_CTRL, .cmd, 1, .each [], .command 8 0xFFFF⟩,
  ⟨P.GR_STATE, .ro, 1, .all 0, .spans [(0, 7)]⟩,
  ⟨P.GR_STATUS, .ro, 1, .all 0, .bits 0x3F⟩,
  ⟨P.GR_STARTBIN, .rwLive, 1, .all 0, .spans [(0, 65535)]⟩,
  ⟨P.GR_ARMCYC, .rwLive, 1, .all 0xFFFFFFFF, .spans [(0, 16777215), (4294967295, 4294967295)]⟩,
  ⟨P.GR_FAILACT, .rwLive, 1, .all 0, .spans [(0, 1)]⟩,
  ⟨P.GR_AUTOCOMMIT, .rwLive, 1, .all 0x10, .spans [(0, 65535)]⟩,
  ⟨P.GR_LOADTO, .rwLive, 1, .all 0x3E8, .spans [(10, 60000)]⟩,
  ⟨P.GR_RPTMB, .rwLive, 1, .all 0, .bits 0x17⟩,
  ⟨P.GR_LIVEID, .ro, 1, .all 0, .spans [(0, 4294967295)]⟩,
  ⟨P.GR_LIVEREV, .ro, 1, .all 0, .spans [(0, 4294967295)]⟩,
  ⟨P.GR_LIVEHASH, .ro, 1, .all 0, .spans [(0, 4294967295)]⟩,
  ⟨P.GR_SHID, .ro, 1, .all 0, .spans [(0, 4294967295)]⟩,
  ⟨P.GR_SHREV, .ro, 1, .all 0, .spans [(0, 4294967295)]⟩,
  ⟨P.GR_SHHASH, .ro, 1, .all 0, .spans [(0, 4294967295)]⟩,
  ⟨P.GR_ERRPOS, .ro, 1, .all 0, .spans [(0, 4294967295)]⟩,
  ⟨P.GR_ERRCODE, .ro, 1, .all 0, .spans [(0, 10)]⟩,
  ⟨P.GR_BLKSTATE, .ro, 197, .all 0, .bits 0x1F⟩,
  ⟨P.GR_SWAPCNT, .ro, 1, .all 0, .spans [(0, 4294967295)]⟩,
  ⟨P.GR_RBCNT, .ro, 1, .all 0, .spans [(0, 4294967295)]⟩,
  ⟨P.GR_SWAPSKIP, .ro, 1, .all 0, .spans [(0, 4294967295)]⟩,
  ⟨P.GR_FAILCNT, .ro, 1, .all 0, .spans [(0, 4294967295)]⟩,
  ⟨P.GR_KEYSTATE, .ro, 4, .each [], .spans [(0, 2)]⟩,
  ⟨P.GR_FSLOT, .rwLive, 1, .all 0, .spans [(0, 15)]⟩,
  ⟨P.GR_FSPEED, .rwLive, 1, .all 0x19, .spans [(1, 50)]⟩,
  ⟨P.GR_PATCHREV, .ro, 1, .each [], .spans [(0, 4294967295)]⟩,
  ⟨P.GR_PATCHST, .ro, 1, .each [], .spans [(0, 2)]⟩,
  ⟨P.GR_ACTNEED, .ro, 1, .all 0, .spans [(0, 131072)]⟩,
  ⟨P.GR_STICKY, .w1c, 1, .all 0, .bits 0x3FF⟩]

/-- The definitions of Tables 14.9 and 12.18. -/
def paramsPorts : List ParamDef := [
  ⟨P.HP_PORTEN, .rwLive, 1, .all 0xF, .bits 0xF⟩,
  ⟨P.HP_PSTATUS, .ro, 4, .all 0, .bits 0xF⟩,
  ⟨P.HP_LINKTO, .rwLive, 4, .all 0, .spans [(0, 0), (10, 60000)]⟩,
  ⟨P.HP_PERS, .rwLocked, 1, .all 1, .spans [(1, 2)]⟩,
  ⟨P.HP_TFAITH, .rwLive, 3, .all 0, .spans [(0, 1)]⟩,
  ⟨P.HP_PMAP, .rwLocked, 32, .index, .spans [(0, 63)]⟩,
  ⟨P.HP_S1AUTO, .rwLive, 1, .all 1, .spans [(0, 1)]⟩,
  ⟨P.HP_S1FRAMES, .ro, 1, .all 0, .spans [(0, 4294967295)]⟩,
  ⟨P.HP_S1SHORT, .ro, 1, .all 0, .spans [(0, 4294967295)]⟩,
  ⟨P.HP_S2QUAD, .rwLocked, 1, .all 0, .spans [(0, 1)]⟩,
  ⟨P.HP_UBAUD, .rwLocked, 1, .all 0, .spans [(0, 8)]⟩,
  ⟨P.HP_UADDR, .rwLocked, 1, .all 1, .spans [(1, 247)]⟩,
  ⟨P.HP_UTURN, .rwLive, 1, .all 4, .spans [(2, 255)]⟩,
  ⟨P.HP_UDEHOLD, .rwLive, 1, .all 1, .spans [(0, 15)]⟩,
  ⟨P.HP_UFRERR, .ro, 1, .all 0, .spans [(0, 4294967295)]⟩,
  ⟨P.HP_UCOLL, .ro, 1, .all 0, .spans [(0, 4294967295)]⟩,
  ⟨P.HP_EMAC, .ro, 2, .each [], .macPair⟩,
  ⟨P.HP_EIPMODE, .rwLocked, 1, .all 1, .spans [(0, 1)]⟩,
  ⟨P.HP_EIP, .rwLocked, 1, .all 0, .spans [(0, 4294967295)]⟩,
  ⟨P.HP_EMASK, .rwLocked, 1, .all 0xFFFFFF00, .spans [(0, 4294967295)]⟩,
  ⟨P.HP_EGW, .rwLocked, 1, .all 0, .spans [(0, 4294967295)]⟩,
  ⟨P.HP_EIPNOW, .ro, 4, .all 0, .spans [(0, 4294967295)]⟩,
  ⟨P.HP_ECMDPORT, .rwLocked, 1, .all 0xB7C0, .spans [(1024, 65535)]⟩,
  ⟨P.HP_ESTRIP, .rwLive, 1, .all 0, .spans [(0, 4294967295)]⟩,
  ⟨P.HP_ESTRPORT, .rwLive, 1, .all 0xB7C1, .spans [(1024, 65535)]⟩,
  ⟨P.HP_ESTRMAC, .rwLive, 2, .all 0, .macPair⟩,
  ⟨P.HP_EPHYADR, .rwLocked, 1, .all 1, .spans [(0, 31)]⟩,
  ⟨P.HP_ERXDROP, .ro, 4, .all 0, .spans [(0, 4294967295)]⟩,
  ⟨P.HP_PTPCTRL, .rwLive, 1, .all 0, .bits 0xFF03⟩,
  ⟨P.HP_PTPSTATE, .ro, 1, .all 0, .spans [(0, 4)]⟩,
  ⟨P.HP_PTPOFSL, .ro, 1, .all 0, .spans [(0, 4294967295)]⟩,
  ⟨P.HP_PTPOFSH, .ro, 1, .all 0, .spans [(0, 4294967295)]⟩,
  ⟨P.HP_PTPDELAY, .ro, 1, .all 0, .spans [(0, 4294967295)]⟩,
  ⟨P.HP_PTPRATE, .ro, 1, .all 0, .spans [(-2147483648, 2147483647)]⟩,
  ⟨P.HP_PTPGM, .ro, 2, .all 0, .spans [(0, 4294967295)]⟩,
  ⟨P.HP_IRQEN, .rwLive, 2, .each [1, 0], .bits 0x3F⟩,
  ⟨P.HP_IRQSTAT, .ro, 1, .all 0, .bits 0x3F⟩,
  ⟨P.HP_EEVTMIN, .rwLive, 1, .all 0xA, .spans [(1, 1000)]⟩,
  ⟨P.HP_TFLATE, .ro, 3, .all 0, .spans [(0, 4294967295)]⟩,
  ⟨P.HP_PSTICKY, .w1c, 1, .all 0, .bits 0xFF⟩,
  ⟨P.HP_OWNER, .ro, 1, .all 0, .spans [(0, 4)]⟩,
  ⟨P.HP_OWNIDLE, .rwLive, 1, .all 0x3E8, .spans [(10, 60000)]⟩,
  ⟨P.HP_PENDMAX, .rwLive, 1, .all 0x2710, .spans [(100, 600000)]⟩,
  ⟨P.HP_SESSION, .ro, 4, .all 0, .bits 0xF1⟩,
  ⟨P.HP_EXPSEQ, .ro, 4, .all 0, .spans [(0, 65535)]⟩,
  ⟨P.HP_HDRERR, .ro, 4, .all 0, .spans [(0, 4294967295)]⟩,
  ⟨P.HP_CRCERR, .ro, 4, .all 0, .spans [(0, 4294967295)]⟩,
  ⟨P.HP_GAPCNT, .ro, 4, .all 0, .spans [(0, 4294967295)]⟩,
  ⟨P.HP_RETXCNT, .ro, 4, .all 0, .spans [(0, 4294967295)]⟩,
  ⟨P.HP_CMDCNT, .ro, 4, .all 0, .spans [(0, 4294967295)]⟩,
  ⟨P.HP_TOCNT, .ro, 4, .all 0, .spans [(0, 4294967295)]⟩,
  ⟨P.HP_RSTCNT, .ro, 1, .all 0, .spans [(0, 4294967295)]⟩]

/-- The definitions of Table 15.9. -/
def paramsStreams : List ParamDef := [
  ⟨P.MB_CTRL, .cmd, 16, .each [], .spans [(1, 2)]⟩,
  ⟨P.MB_STATE, .ro, 16, .all 0, .bits 0xFFFFFF⟩,
  ⟨P.MB_DIR, .rwLocked, 8, .each [0, 0, 0, 0, 1, 1, 1, 1], .spans [(0, 1)]⟩,
  ⟨P.MB_PORT, .rwLocked, 8, .all 0, .spans [(0, 0), (2, 4)]⟩,
  ⟨P.MB_ROUTE, .rwLocked, 8, .index, .spans [(0, 7)]⟩,
  ⟨P.MB_TIMEOUT, .rwLive, 16, .all 0x1388, .spans [(10, 1000000)]⟩,
  ⟨P.MB_IRQEN, .rwLive, 1, .all 0xF, .bits 0xFF⟩,
  ⟨P.MB_DSTAT, .ro, 16, .all 0, .spans [(0, 4)]⟩,
  ⟨P.MB_GEN, .ro, 10, .all 0, .spans [(0, 4294967295)]⟩,
  ⟨P.MB_POSTLIST, .rwShadow, 16, .all 0, .bits 0xF3F⟩,
  ⟨P.MB_POSTSEL, .rwShadow, 64, .all 0, .bits 0xFFFFF⟩,
  ⟨P.MB_MSGCNT, .ro, 16, .all 0, .spans [(0, 4294967295)]⟩,
  ⟨P.MB_DISCNT, .ro, 16, .all 0, .spans [(0, 4294967295)]⟩,
  ⟨P.MB_ORPHCNT, .ro, 16, .all 0, .spans [(0, 4294967295)]⟩,
  ⟨P.MB_TOCNT, .ro, 16, .all 0, .spans [(0, 4294967295)]⟩,
  ⟨P.MB_REFUSE, .ro, 16, .all 0, .spans [(0, 4294967295)]⟩,
  ⟨P.MB_STICKY, .w1c, 16, .all 0, .bits 0xF⟩,
  ⟨P.ST_CTRL, .cmd, 64, .each [], .command 5 0xFFFF00FF⟩,
  ⟨P.ST_STATE, .ro, 64, .all 0, .spans [(0, 3)]⟩,
  ⟨P.ST_CFG, .rwLocked, 64, .all 0xC, .bits 0x7F⟩,
  ⟨P.ST_RESV, .rwLocked, 64, .all 0, .spans [(0, 64)]⟩,
  ⟨P.ST_MAXBUF, .rwLive, 64, .all 0x20, .spans [(1, 2048)]⟩,
  ⟨P.ST_ANCHOR, .rwLive, 64, .all 0x100, .spans [(1, 65535)]⟩,
  ⟨P.ST_PUSHN, .rwLive, 64, .all 0xFE, .spans [(1, 254)]⟩,
  ⟨P.ST_PUSHT, .rwLive, 64, .all 0x2710, .spans [(100, 1000000)]⟩,
  ⟨P.ST_ATTN, .rwLive, 64, .all 0, .spans [(0, 131072)]⟩,
  ⟨P.ST_HELD, .ro, 64, .all 0, .spans [(0, 131072)]⟩,
  ⟨P.ST_BUFS, .ro, 64, .all 0, .spans [(0, 2048)]⟩,
  ⟨P.ST_AGE, .ro, 64, .all 0, .spans [(0, 4294967295)]⟩,
  ⟨P.ST_RECCNT, .ro, 64, .all 0, .spans [(0, 4294967295)]⟩,
  ⟨P.ST_LOST, .ro, 64, .all 0, .spans [(0, 4294967295)]⟩,
  ⟨P.ST_NOBUF, .ro, 4, .all 0, .spans [(0, 4294967295)]⟩,
  ⟨P.ST_DGSEQ, .ro, 64, .all 0, .spans [(0, 65535)]⟩,
  ⟨P.ST_DGCNT, .ro, 64, .all 0, .spans [(0, 4294967295)]⟩,
  ⟨P.ST_POOL, .ro, 4, .each [2048, 2048, 0, 2048], .spans [(0, 2048)]⟩,
  ⟨P.ST_POOLCTRL, .cmd, 1, .each [], .spans [(1, 2)]⟩,
  ⟨P.ST_ATTNMAP, .ro, 2, .all 0, .spans [(0, 4294967295)]⟩,
  ⟨P.ST_STICKY, .w1c, 64, .all 0, .bits 0xF⟩]

/-- The definitions of Table 16.9. -/
def paramsFaults : List ParamDef := [
  ⟨P.FLT_CTRL, .cmd, 1, .each [], .command 4 0xFFFFF⟩,
  ⟨P.FLT_STATE, .ro, 1, .all 0, .bits 0x7FF07⟩,
  ⟨P.FLT_PEND0, .ro, 64, .all 0, .bits 0x3F⟩,
  ⟨P.FLT_PEND1, .ro, 64, .all 0, .bits 0x3F⟩,
  ⟨P.FLT_PEND2, .ro, 64, .all 0, .bits 0x3F⟩,
  ⟨P.FLT_PEND3, .ro, 64, .all 0, .bits 0x3F⟩,
  ⟨P.FLT_GRACE0, .rwLive, 64, .all 0x2710, .spans [(100, 100000)]⟩,
  ⟨P.FLT_GRACE1, .rwLive, 64, .all 0x2710, .spans [(100, 100000)]⟩,
  ⟨P.FLT_GRACE2, .rwLive, 64, .all 0x2710, .spans [(100, 100000)]⟩,
  ⟨P.FLT_GRACE3, .rwLive, 64, .all 0x2710, .spans [(100, 100000)]⟩,
  ⟨P.FLT_GREM0, .ro, 64, .all 0, .spans [(0, 100000)]⟩,
  ⟨P.FLT_GREM1, .ro, 64, .all 0, .spans [(0, 100000)]⟩,
  ⟨P.FLT_GREM2, .ro, 64, .all 0, .spans [(0, 100000)]⟩,
  ⟨P.FLT_GREM3, .ro, 64, .all 0, .spans [(0, 100000)]⟩,
  ⟨P.FLT_MORE0, .ro, 64, .all 0, .spans [(0, 4294967295)]⟩,
  ⟨P.FLT_MORE1, .ro, 64, .all 0, .spans [(0, 4294967295)]⟩,
  ⟨P.FLT_MORE2, .ro, 64, .all 0, .spans [(0, 4294967295)]⟩,
  ⟨P.FLT_MORE3, .ro, 64, .all 0, .spans [(0, 4294967295)]⟩,
  ⟨P.FLT_FCNT0, .ro, 64, .all 0, .spans [(0, 4294967295)]⟩,
  ⟨P.FLT_FCNT1, .ro, 64, .all 0, .spans [(0, 4294967295)]⟩,
  ⟨P.FLT_FCNT2, .ro, 64, .all 0, .spans [(0, 4294967295)]⟩,
  ⟨P.FLT_FCNT3, .ro, 64, .all 0, .spans [(0, 4294967295)]⟩,
  ⟨P.FLT_AACK0, .rwLive, 64, .all 0, .spans [(0, 1)]⟩,
  ⟨P.FLT_AACK1, .rwLive, 64, .all 0, .spans [(0, 1)]⟩,
  ⟨P.FLT_AACK2, .rwLive, 64, .all 0, .spans [(0, 1)]⟩,
  ⟨P.FLT_AACK3, .rwLive, 64, .all 0, .spans [(0, 1)]⟩,
  ⟨P.FLT_GPSAFE, .rwShadow, 48, .all 3, .spans [(0, 3)]⟩,
  ⟨P.FLT_FNCFG, .rwShadow, 1, .all 0, .spans [(0, 1)]⟩,
  ⟨P.FLT_MASKT, .rwLive, 1, .all 0x64, .spans [(1, 10000)]⟩,
  ⟨P.FLT_IRQMIN, .rwLive, 1, .all 1, .spans [(1, 3)]⟩,
  ⟨P.FLT_LOGMODE, .rwLive, 1, .all 0, .spans [(0, 1)]⟩,
  ⟨P.FLT_LOGCNT, .ro, 1, .all 0, .spans [(0, 512)]⟩,
  ⟨P.FLT_LOGSEQ, .ro, 1, .all 0, .spans [(0, 4294967295)]⟩,
  ⟨P.FLT_LOGOVR, .ro, 1, .all 0, .spans [(0, 4294967295)]⟩,
  ⟨P.FLT_LOGLOSS, .ro, 1, .all 0, .spans [(0, 4294967295)]⟩,
  ⟨P.FLT_LOGRET, .ro, 1, .all 0, .spans [(0, 16)]⟩,
  ⟨P.FLT_OVFCNT, .ro, 1, .all 0, .spans [(0, 4)]⟩,
  ⟨P.FLT_CONSCNT, .ro, 1, .all 0, .spans [(0, 4294967295)]⟩,
  ⟨P.FLT_ESCCNT, .ro, 1, .all 0, .spans [(0, 4294967295)]⟩,
  ⟨P.FLT_GRCCNT, .ro, 1, .all 0, .spans [(0, 4294967295)]⟩,
  ⟨P.FLT_ACKCNT, .ro, 1, .all 0, .spans [(0, 4294967295)]⟩,
  ⟨P.FLT_CLASSCNT, .ro, 4, .all 0, .spans [(0, 4294967295)]⟩,
  ⟨P.FLT_FIRST, .ro, 1, .all 0, .bits 0x7FFFF⟩,
  ⟨P.FLT_LAST, .ro, 1, .all 0, .bits 0x7FFFF⟩,
  ⟨P.FLT_SEL, .rwLive, 1, .all 0, .spans [(0, 247)]⟩,
  ⟨P.FLT_CAP0, .ro, 1, .all 0, .spans [(0, 4294967295)]⟩,
  ⟨P.FLT_CAP1, .ro, 1, .all 0, .spans [(0, 4294967295)]⟩,
  ⟨P.FLT_CAP2, .ro, 1, .all 0, .spans [(0, 4294967295)]⟩,
  ⟨P.FLT_CAP3, .ro, 1, .all 0, .spans [(0, 4294967295)]⟩,
  ⟨P.FLT_CAP4, .ro, 1, .all 0, .spans [(0, 4294967295)]⟩,
  ⟨P.FLT_CAP5, .ro, 1, .all 0, .spans [(0, 4294967295)]⟩,
  ⟨P.FLT_CAP6, .ro, 1, .all 0, .spans [(0, 4294967295)]⟩,
  ⟨P.FLT_CAP7, .ro, 1, .all 0, .spans [(0, 4294967295)]⟩,
  ⟨P.FLT_HPWDT, .rwLive, 1, .all 0x64, .spans [(10, 1000)]⟩,
  ⟨P.FLT_HPECC, .ro, 1, .all 0, .spans [(0, 4294967295)]⟩,
  ⟨P.FLT_HPRSTF, .ro, 1, .all 0, .spans [(0, 4294967295)]⟩,
  ⟨P.FLT_INJCNT, .ro, 1, .all 0, .spans [(0, 4294967295)]⟩,
  ⟨P.FLT_STICKY, .w1c, 2, .all 0, .sticky2⟩]

/-- The definitions of Table 17.9. -/
def paramsSyncLink : List ParamDef := [
  ⟨P.SL_CTRL, .cmd, 1, .each [], .spans [(1, 4)]⟩,
  ⟨P.SL_STATE, .ro, 1, .all 0, .bits 0x707⟩,
  ⟨P.SL_RING, .ro, 1, .all 0, .spans [(0, 3)]⟩,
  ⟨P.SL_ENABLE, .rwLive, 1, .all 0, .spans [(0, 1)]⟩,
  ⟨P.SL_ROLECFG, .rwLocked, 1, .all 1, .spans [(0, 3)]⟩,
  ⟨P.SL_ROLE, .ro, 1, .all 1, .spans [(0, 3)]⟩,
  ⟨P.SL_POS, .ro, 1, .all 0, .spans [(0, 7)]⟩,
  ⟨P.SL_NDEV, .ro, 1, .all 0, .spans [(0, 8)]⟩,
  ⟨P.SL_CONTRACT, .ro, 1, .all 0, .spans [(0, 15)]⟩,
  ⟨P.SL_TTOL, .rwLive, 1, .all 0xA, .spans [(1, 10000)]⟩,
  ⟨P.SL_SLEWMAX, .rwLive, 1, .all 0x64, .spans [(1, 200)]⟩,
  ⟨P.SL_CONVT, .rwLive, 1, .all 0x64, .spans [(10, 10000)]⟩,
  ⟨P.SL_TERR, .ro, 1, .all 0, .spans [(-2147483648, 2147483647)]⟩,
  ⟨P.SL_RATE, .ro, 1, .all 0, .spans [(-2147483648, 2147483647)]⟩,
  ⟨P.SL_RTT, .ro, 1, .all 0, .spans [(0, 16777215)]⟩,
  ⟨P.SL_DLYADJ, .rwLive, 1, .all 0, .spans [(-1000, 1000)]⟩,
  ⟨P.SL_LOSSTO, .rwLive, 1, .all 0x32, .spans [(10, 10000)]⟩,
  ⟨P.SL_EXPHASH, .rwLive, 8, .all 0, .spans [(0, 4294967295)]⟩,
  ⟨P.SL_HASHCYC, .rwLive, 1, .all 4, .spans [(1, 255)]⟩,
  ⟨P.SL_PEERST, .ro, 8, .all 0, .spans [(0, 4294967295)]⟩,
  ⟨P.SL_PEERHASH, .ro, 8, .all 0, .spans [(0, 4294967295)]⟩,
  ⟨P.SL_SNAPBIN, .rwLive, 1, .all 0, .spans [(0, 65535)]⟩,
  ⟨P.SL_COPYPER, .rwLive, 1, .all 1, .spans [(0, 65535)]⟩,
  ⟨P.SL_COPYSEL, .rwLive, 1, .all 0xF, .bits 0x1F⟩,
  ⟨P.SL_RAMCOPY, .rwLive, 1, .all 0, .bits 0xFFFFFF⟩,
  ⟨P.SL_COPYST, .ro, 1, .all 0, .bits 0x7⟩,
  ⟨P.SL_SNAPSEQ, .ro, 1, .all 0, .spans [(0, 65535)]⟩,
  ⟨P.SL_SNAPLEN, .ro, 1, .all 0, .spans [(0, 65536)]⟩,
  ⟨P.SL_SNAPAGE, .ro, 1, .all 0, .spans [(0, 4294967295)]⟩,
  ⟨P.SL_TOCFG, .rwLive, 1, .all 0, .bits 0x3⟩,
  ⟨P.SL_TOCNT, .ro, 1, .all 0, .spans [(0, 4294967295)]⟩,
  ⟨P.SL_COPYCNT, .ro, 1, .all 0, .spans [(0, 4294967295)]⟩,
  ⟨P.SL_FRMERR, .ro, 1, .all 0, .spans [(0, 4294967295)]⟩,
  ⟨P.SL_STICKY, .w1c, 1, .all 0, .bits 0x3FFF⟩]

/-- The definitions of Table 20.4. -/
def paramsTest : List ParamDef := [
  ⟨P.TST_CTRL, .cmd, 1, .each [], .spans [(1, 4)]⟩,
  ⟨P.TST_STATE, .ro, 1, .all 0, .bits 0x7F⟩,
  ⟨P.TST_BLKRST, .cmd, 1, .each [], .bits 0xFFFF00FF⟩,
  ⟨P.TST_TRCMODE, .rwLive, 1, .all 0, .spans [(0, 1)]⟩,
  ⟨P.TST_TRCMASK, .rwLive, 1, .all 0x7FFE, .spans [(0, 4294967295)]⟩,
  ⟨P.TST_TRCAUTO, .rwLive, 1, .all 1, .spans [(0, 1)]⟩,
  ⟨P.TST_TRCTRIG, .rwLive, 1, .all 0, .bits 0xFF07⟩,
  ⟨P.TST_TRCCNT, .ro, 1, .all 0, .spans [(0, 4096)]⟩,
  ⟨P.TST_TRCDEPTH, .ro, 1, .all 0x1000, .spans [(0, 4096)]⟩,
  ⟨P.TST_TRCLOST, .ro, 1, .all 0, .spans [(0, 4294967295)]⟩,
  ⟨P.TST_TRCSEQ, .ro, 1, .all 0, .spans [(0, 4294967295)]⟩,
  ⟨P.TST_TRCSTART, .ro, 2, .all 0, .spans [(0, 4294967295)]⟩,
  ⟨P.TST_TRCECC, .ro, 2, .all 0, .spans [(0, 4294967295)]⟩,
  ⟨P.TST_MARK, .cmd, 1, .each [], .spans [(0, 4294967295)]⟩,
  ⟨P.TST_SLEEPCNT, .ro, 1, .all 0, .spans [(0, 4294967295)]⟩,
  ⟨P.TST_LASTRST, .ro, 1, .all 0, .bits 0xFFFF⟩,
  ⟨P.TST_BRSTCNT, .ro, 1, .all 0, .spans [(0, 4294967295)]⟩,
  ⟨P.TST_TESTTO, .rwLive, 1, .all 0xEA60, .spans [(1000, 600000)]⟩,
  ⟨P.TST_TESTCNT, .ro, 1, .all 0, .spans [(0, 4294967295)]⟩,
  ⟨P.TST_AUTHFAIL, .ro, 1, .all 0, .spans [(0, 3)]⟩,
  ⟨P.TST_INJLAST, .ro, 1, .all 0, .bits 0xFFFF⟩,
  ⟨P.TST_JTAGIR, .ro, 1, .all 2, .spans [(0, 255)]⟩,
  ⟨P.TST_JTAGCNT, .ro, 1, .all 0, .spans [(0, 4294967295)]⟩,
  ⟨P.TST_BSDLREV, .ro, 1, .all 1, .spans [(1, 1)]⟩,
  ⟨P.TST_SUPSTICKY, .w1c, 1, .all 0, .bits 0x3F⟩,
  ⟨P.TST_STICKY, .w1c, 1, .all 0, .bits 0x7F⟩]

/-- The definitions of the block range of Table 13.3 in which `id` lies (R395). -/
def paramsNear (id : Nat) : List ParamDef :=
  if id ≤ 0x03F then paramsSession
  else if id ≤ 0x0BF then paramsWheel
  else if id ≤ 0x13F then paramsCells
  else if id ≤ 0x17F then paramsComparators
  else if id ≤ 0x1FF then paramsSar
  else if id ≤ 0x23F then paramsIntegrating
  else if id ≤ 0x2BF then paramsLanes
  else if id ≤ 0x2FF then paramsFabric
  else if id ≤ 0x33F then paramsKiln
  else if id ≤ 0x37F then paramsCalibration
  else if id ≤ 0x3BF then paramsGrist
  else if id ≤ 0x3FF then paramsPorts
  else if id ≤ 0x43F then paramsStreams
  else if id ≤ 0x4BF then paramsFaults
  else if id ≤ 0x4FF then paramsSyncLink
  else if id ≤ 0x53F then paramsTest
  else []

/-- The definition of a parameter ID; `none` where the ID is undefined (R373). -/
def paramDef? (id : Nat) : Option ParamDef :=
  (paramsNear id).find? (fun d => d.id == id)

/-- The number of parameter definitions, which `HP_PCOUNT` reports (R395). -/
def paramCount : Nat :=
  ([paramsSession, paramsWheel, paramsCells, paramsComparators, paramsSar, paramsIntegrating, paramsLanes, paramsFabric,
    paramsKiln, paramsCalibration, paramsGrist, paramsPorts, paramsStreams, paramsFaults, paramsSyncLink,
    paramsTest].map List.length).sum

/-- Class of Kiln jobs 0x00–0x3F at reset (Table 9.1; 0 for the reserved jobs 0x19–0x1F). -/
def jobClassReset (job : Nat) : Nat :=
  if job ≤ 6 then 0 else if job = 7 then 2 else if job ≤ 0x0B then 1 else if job ≤ 0x0F then 3
  else if job ≤ 0x17 then 1 else if job = 0x18 then 3 else if job ≤ 0x1F then 0 else 1

/-- The value a reset specification gives an instance (R645). -/
def ResetSpec.value (r : ResetSpec) (inst : Nat) : Nat :=
  match r with
  | .all v => v
  | .each vs => nthD 0 vs inst
  | .index => inst
  | .firUser => if inst = 31 then 0x10000 else 0
  | .jobClass => jobClassReset inst

/-- The table's reset value of a parameter instance. -/
def paramReset (id inst : Nat) : Nat :=
  match paramDef? id with
  | some d => d.reset.value inst
  | none => 0

/-- Whether a 32-bit value, taken as signed where a bound is negative, lies in one of the ranges. -/
def inSpans (alts : List (Int × Int)) (w : Nat) : Bool :=
  alts.any (fun a =>
    let x : Int := if a.1 < 0 then signedOf 32 w else (w : Int)
    decide (a.1 ≤ x) && decide (x ≤ a.2))

/-- Whether a value lies in a parameter's range: the check of R374 and R644. -/
def RangeSpec.admits (r : RangeSpec) (inst w : Nat) : Bool :=
  match r with
  | .spans alts => inSpans alts w
  | .stepped lo hi st => decide (lo ≤ w) && decide (w ≤ hi) && decide ((w - lo) % st = 0)
  | .bits mask => decide (w &&& mask = w)
  | .command last mask => decide (w &&& mask = w) && decide (1 ≤ w % 256) && decide (w % 256 ≤ last)
  | .macPair => if inst = 0 then decide (w < 2 ^ 32) else decide (w < 2 ^ 16)
  | .sticky2 => if inst = 0 then decide (w < 32) else decide (w < 16)

/-- The minimum PARAM_INFO reports (R644), as a 32-bit value. -/
def RangeSpec.lowest (r : RangeSpec) : Nat :=
  match r with
  | .spans ((lo, _) :: _) => wrapTo 32 lo
  | .stepped lo _ _ => lo
  | _ => 0

/-- The maximum PARAM_INFO reports (R644), as a 32-bit value. -/
def RangeSpec.highest (r : RangeSpec) (inst : Nat) : Nat :=
  match r with
  | .spans alts => match alts.getLast? with
    | some (_, hi) => wrapTo 32 hi
    | none => 0
  | .stepped _ hi _ => hi
  | .bits mask => mask
  | .command _ mask => mask
  | .macPair => if inst = 0 then 2 ^ 32 - 1 else 2 ^ 16 - 1
  | .sticky2 => if inst = 0 then 31 else 15

end Sys2Proof
end

