-- ==== Sys2Proof/Machine/State.lean ====
section
/-! DEFINITION. The state of the KZA-6418: every register, buffer, counter, mode and pin the spec gives the block, as
plain data, the queue of waiting commands, the reasons a step can stop, and the state after reset.

Parameter values and the counters and sticky bits that the parameter space shows stand in the sparse tables
`params`, `pend` and `shadow`; state that no parameter holds stands in the records of the blocks. -/

namespace Sys2Proof.Machine

/-! ### Faults (chapter Faults: detection, capture and escalation) -/

/-- A record a detector asks the fault logic to make; classes are 1–4 for A–D (Table 16.4). -/
structure Raise where
  blk : Nat
  det : Nat
  cls : Nat
  master : Nat := 0
  access : Nat := 0
  form : Nat := 0
  addr : Nat := 0
  value : Nat := 0
  /-- Instance whose sticky parameter takes the bit, for blocks with several. -/
  inst : Nat := 0
  injected : Bool := false
deriving DecidableEq, Repr

/-- A capture record or log entry, the fields of Table 16.4. -/
structure FaultRec where
  blk : Nat := 0
  det : Nat := 0
  cls : Nat := 0
  escalated : Bool := false
  conseq : Bool := false
  graceMark : Bool := false
  injected : Bool := false
  autoAck : Bool := false
  detCls : Nat := 0
  master : Nat := 0
  access : Nat := 0
  form : Nat := 0
  addr : Nat := 0
  angle : Nat := 0
  time : Nat := 0
  seq : Nat := 0
  value : Nat := 0
deriving DecidableEq, Repr

/-- An open episode of a detector's condition (R466): its detector, class and value, and whether its record was made
as consequential (R489), so that it records again at the window's close (R490). -/
structure Episode where
  det : Nat
  cls : Nat
  value : Nat := 0
  conseq : Bool := false
deriving DecidableEq, Repr

/-- A block's masking window (R488): open while a transition is under way, then until a close time. The lists name
the SAR groups and integrating converters (by fault block) whose selectors have connected to the cell meanwhile. -/
inductive MaskWindow where
  | closed
  | opened (linked : List Nat)
  | closing (time : Nat) (linked : List Nat)
deriving DecidableEq, Repr

/-- A grace timer (R473): off, counting down to a time stamp, or held at a remainder in ticks (R474). -/
inductive GraceTimer where
  | off
  | running (due : Nat)
  | held (left : Nat)
deriving DecidableEq, Repr

/-- The fault state beside one block (Anatomy of the chapter on faults). -/
structure FaultBlock where
  pendA : Bool := false
  pendB : Bool := false
  pendC : Bool := false
  served : Nat := 0
  grace : GraceTimer := .off
  capture : Option FaultRec := none
  window : MaskWindow := .closed
  episodes : List Episode := []
  /-- Class B was acknowledged since the degraded form began (R475): degraded forms tied to acknowledgement. -/
  degraded : List Nat := []
deriving DecidableEq, Repr

/-- The shared fault logic: the log, the overflow log and the Halt latch. -/
structure FaultLogic where
  blocks : Tbl FaultBlock := []
  log : List FaultRec := []
  overflow : List FaultRec := []
  halted : Bool := false
  logOff : Bool := false
  /-- Whether the next entry written fails its read-back: the state of the log memory itself (R491). -/
  logBad : Bool := false
  retired : Nat := 0
  /-- Capture bytes latched by the last read of `FLT_CAP0` (R382). -/
  capLatch : List Byte := []
  /-- OVFLOST's episode: open until the overflow log is next emptied (R466). -/
  ovfLost : Bool := false
  /-- Time the firmware watchdog was last served (Table 16.7). -/
  served : Nat := 0
deriving DecidableEq, Repr

/-! ### Trace (chapter Boundary scan, factory test and trace) -/

/-- One 16-byte trace entry: a head, its EXT entry, or an entry lost to an uncorrectable error (R593, R596). -/
inductive TraceEntry where
  | head (typ info angle time : Nat)
  | ext (typ : Nat) (payload : List Byte)
  | bad
deriving DecidableEq, Repr

/-- An event that waits to enter the trace FIFO at the end of its TCLK edge (R594). -/
structure TraceEvent where
  typ : Nat
  info : Nat
  ext : Option (List Byte) := none
deriving DecidableEq, Repr

/-- The TAP, the factory-test gate and the trace buffer. -/
structure TestTrace where
  running : Bool := false
  buffer : List TraceEntry := []
  fifo : List TraceEntry := []
  lostSince : Nat := 0
  retired : Nat := 0
  /-- Entries still to record before the stop trigger ends recording (R595). -/
  trigLeft : Option Nat := none
  /-- TAP instruction in force (Table 20.1). -/
  ir : Nat := 0x02
  /-- The boundary register's update stage, bit n for cell n. -/
  boundary : Nat := 0
  /-- The boundary register's capture stage, bit n for cell n. -/
  bscan : Nat := 0
  /-- RECSEL's selector. -/
  recsel : Nat := 0
  /-- The 256-bit RECDATA register, byte 0 first. -/
  recdata : List Byte := []
  bypass : Bool := false
  /-- What the instruction register loaded at the last Capture-IR, and the 32-bit IDCODE register (R583). -/
  irCapture : Nat := 0
  idcode : BitVec 32 := 0
  /-- R586 is in force: balls from the boundary register or off, cells isolated. -/
  isolated : Bool := false
  testMode : Bool := false
  /-- Port that entered factory test mode, 1–4. -/
  testPort : Nat := 0
  /-- Time of the last command from that port. -/
  testLast : Nat := 0
  challenge : Option Nat := none
  challengeTime : Nat := 0
  /-- Level of ball TESTMODE_N. -/
  testPinN : Bool := true
  testLock : Bool := false
deriving DecidableEq, Repr

/-! ### Angle engine and Wheel (chapter Machine angle and the Wheel) -/

/-- The angle-engine states of Table 2.2, in the order of their `WH_STATE` codes. -/
inductive EngineState where
  | stopped | unref | track | coast | hold
deriving DecidableEq, Repr

/-- The interpolator of R34. Positions are 64-bit: cycle count [63:40], angle in units of 2^−16 LSB [39:0]. -/
structure Interp where
  fresh : Bool := true
  predicting : Bool := false
  tPrev : Nat := 0
  pPrev : BitVec 64 := 0
  dPrev : Int := 0
  v : Frac := {}
  a : Frac := {}
  base : BitVec 64 := 0
  tBase : Nat := 0
  step : Int := 0
  outPrev : BitVec 64 := 0
  /-- `WH_INTERP` of the segment under way (R34). -/
  mode : Nat := 2
deriving DecidableEq, Repr

/-- The angle engine's own state. -/
structure Engine where
  state : EngineState := .stopped
  /-- Position: cycle count [63:40], angle [39:0] in units of 2^−16 angle-word LSB. -/
  pos : BitVec 64 := 0
  /-- High-water mark: cycle count [39:16], bin [15:0] (R37). -/
  hwm : BitVec 40 := 0
  interp : Interp := {}
  reverse : Bool := false
  standstill : Bool := false
  overspeed : Bool := false
  referenced : Bool := false
  /-- Time of the last position event, or of entry into UNREF. -/
  lastEvent : Nat := 0
  /-- Total travel since RUN, in position units. -/
  travel : Nat := 0
  /-- Position at the last Z edge since RUN (R28). -/
  zMark : Option (BitVec 64) := none
  /-- Travel marks of the latest source errors, newest first (Table 2.1, QUAD loss). -/
  errTravel : List Nat := []
  /-- Times of the latest counted A/B edges, newest first, at most 65 (Table 2.1). -/
  edgeTimes : List Nat := []
  /-- Position within the cycle of the last SSI frame, valid or not (R30), and of the last valid one. -/
  ssiFrame : Option Nat := none
  ssiPos : Option Nat := none
  /-- Run of invalid SSI frames. -/
  ssiBad : Nat := 0
  /-- Run of SINCOS samples whose amplitude lies outside its limits, the last valid electrical angle, and the
  electrical travel since the position `scBase` (R31). -/
  scBad : Nat := 0
  scPrev : Option Nat := none
  scCount : Int := 0
  scBase : BitVec 64 := 0
  /-- MAINS: no crossing for 15 ms; time of the last rising crossing; run of periods outside 45–65 Hz. -/
  mainsSilent : Bool := false
  mainsRise : Option Nat := none
  mainsBad : Nat := 0
  /-- ENC_FLT_N is asserted (low). -/
  encFault : Bool := false
  /-- The sync link has declared the ring lost (R510). -/
  ringLost : Bool := false
  /-- Time since which the source has been free of loss conditions; `none` while one holds. -/
  lossFree : Option Nat := some 0
  /-- UNREF was entered from HOLD, so that reaching TRACK sets GAP (R55). -/
  fromHold : Bool := false
  /-- Start of the last evaluation step, and the edge at which the first unevaluated bin was crossed (R38, R39). -/
  lastStep : Option Nat := none
  firstCrossed : Option Nat := none
  /-- LATE's episode: the last step delivered an action late. -/
  lateEpisode : Bool := false
deriving DecidableEq, Repr

/-- The bank tag a grist action carries (R324): none for a host's action. -/
inductive BankTag where
  | none | bankA | bankB
deriving DecidableEq, Repr

/-- One entry of the action store: its word (Table 2.4), the queue it is posted to (0–65,535 a bin, 65,536 + n time
queue n), its order of posting, and its bank tag. -/
structure Action where
  word : BitVec 64
  place : Nat
  seq : Nat
  /-- Time stamp at which its post was accepted (R43). -/
  posted : Nat := 0
  tag : BankTag := .none
  /-- Posted by the swap controller (R326). -/
  ctl : Bool := false
deriving DecidableEq, Repr

/-- A time queue: enabled, and the due time in force (R49–R51). -/
structure TimeQueue where
  enabled : Bool := false
  due : Nat := 0
deriving DecidableEq, Repr

/-- The Wheel: action store by handle, posting counter, and time queues. -/
structure Wheel where
  store : Tbl Action := []
  nextSeq : Nat := 0
  queues : Tbl TimeQueue := []
deriving DecidableEq, Repr

/-! ### Calibration pairs and analogue cells -/

/-- A coefficient pair: gain G × 2^30, offset in the unit of Table 10.2, and the temperature it was taken at (R282). -/
structure CoefPair where
  g : Nat := 2 ^ 30
  o : Int := 0
  temp : Int := 0
deriving DecidableEq, Repr

/-- The cell states of Table 3.3, in the order of their codes. -/
inductive CellState where
  | off | settling | active | safe | gated
deriving DecidableEq, Repr

/-- A ramp in progress (R76): start code, end code, length and bin count. -/
structure Ramp where
  s : Nat
  e : Nat
  l : Nat
  k : Nat := 0
deriving DecidableEq, Repr

/-- A cell's front end as a converter meets it: its mode, the gain of its PGIA, what its driver drives in nV or nA, and
whether the compliance of EXC-I limits the voltage (R61, R65, R71, R72). -/
structure Front where
  mode : Nat := 0
  gain : Frac := ⟨1, 1⟩
  driven : Frac := {}
  limited : Bool := false
deriving DecidableEq, Repr

/-- What an output or excitation driver delivers. -/
inductive Drive where
  /-- Balls high-impedance, driver disabled. -/
  | off
  /-- The code in force, corrected by calibration. -/
  | code
  /-- The excitation of `AC_EXCV` or `AC_EXCI`. -/
  | excite
deriving DecidableEq, Repr

/-- One analogue cell. -/
structure Cell where
  state : CellState := .off
  /-- The code in force (R74), which a read of `AC_OUT` returns. -/
  code : BitVec 16 := 0x8000
  drive : Drive := .off
  ramp : Option Ramp := none
  /-- End of SETTLING, or of the readback's settling in an output or excitation mode (R69). -/
  settleEnd : Option Nat := none
  /-- The last sample taken from the cell by a SAR slice (R70, R83). -/
  lastSar : Option Nat := none
  /-- Code and flags of its last SAR result from any group (READ_CH). -/
  readCh : Option (Nat × Nat) := none
  /-- The next sample whose conversion begins carries SEQ (R70). -/
  seqDue : Bool := false
  /-- The mode-change steps of R78 wait for RESUME. -/
  modeDue : Bool := false
  /-- Instant of the sample boundary made for accepted RW-LIVE writes. -/
  boundary : Option Nat := none
deriving DecidableEq, Repr

/-! ### Comparators (chapter Window comparators and the reflex path) -/

/-- The comparator states of Table 4.2, in the order of their codes. -/
inductive CmpState where
  | disabled | disarmed | armed | held | safe
deriving DecidableEq, Repr

/-- One window comparator. Filter histories hold the newest sample first. -/
structure Comparator where
  state : CmpState := .disabled
  /-- HELD returns to ARMED (else to DISARMED). -/
  heldArmed : Bool := false
  delivered : Bool := false
  filtered : Bool := false
  histU : List Bool := []
  histL : List Bool := []
  upper : Bool := false
  lower : Bool := false
  /-- The output the mode logic holds in HYSTERESIS, before polarity. -/
  hyst : Bool := false
  /-- The outside world's part in the signal at the tap. -/
  tap : TapSample := {}
  /-- Raw samples (U, L) on their way through the synchroniser, newest first: taken, first stage, second stage. -/
  pipe : List (Bool × Bool) := []
  /-- The last raw sample taken before the threshold load that blanks (R100), and before the cell began to settle
  (R108). -/
  blankRaw : Option (Bool × Bool) := none
  heldRaw : Option (Bool × Bool) := none
  /-- The next sample that passes loads every filter position (R105, R108, R114), and delivery holds until then. -/
  reload : Bool := false
  freeze : Bool := false
  /-- End of the blanking of R100. -/
  blankEnd : Option Nat := none
  /-- A CMP_THR action's thresholds waiting for the sampling edge (R97). -/
  actThr : Option Word := none
  /-- The last edge of the sampling clock, or its start. -/
  phase : Nat := 0
  /-- An urgent request that the Wheel has not yet dispatched (R112), and URGLOST's episode. -/
  urgent : Bool := false
  urgLost : Bool := false
  /-- Times of delivered edges of the last 1 ms, newest first (CHATTER). -/
  edges : List Nat := []
  /-- Coefficients in use by the lower and the upper threshold DAC. -/
  coefL : CoefPair := {}
  coefU : CoefPair := {}
deriving DecidableEq, Repr

/-! ### Filter lanes (chapter Filter lanes) -/

/-- The lane states of Table 7.5, in the order of their codes. -/
inductive LaneState where
  | off | priming | run | gated | safe
deriving DecidableEq, Repr

/-- A value with its dual stamp. -/
structure Stamped where
  value : Int := 0
  angle : Nat := 0
  time : Nat := 0
deriving DecidableEq, Repr

/-- An output that waits to leave a lane (R194): its value with 16 fraction bits, or a word that the formatter passes
unshifted (SINCOS, R204), the flags raised in the lane, and its stamp. -/
structure LaneOut where
  value : Int
  direct : Bool := false
  flags : Nat := 0
  angle : Nat
  time : Nat
deriving DecidableEq, Repr

/-- A target of the angle-domain resampler that waits for its last input (R194, R197): index j, phase and weight. -/
structure LaneTarget where
  j : Nat
  phase : Nat
  weight : Nat
  angle : Nat
  time : Nat
deriving DecidableEq, Repr

/-- The last record delivered: word of Table 1.7 and dual stamp. -/
structure LastRecord where
  word : Word
  angle : Nat
  time : Nat
deriving DecidableEq, Repr

/-- One filter lane. Histories hold the newest value first. -/
structure Lane where
  state : LaneState := .off
  /-- DC estimate, 20 fraction bits (R185). -/
  dc : Int := 0
  /-- Arrival of the last accepted input, in units of 5 ns, and the input itself (R183, R207). -/
  arrival : Option Nat := none
  prev : Option Stamped := none
  /-- Time stamp of the input that arrived last, unless it was the second of a pair (R183). -/
  inTime : Option Nat := none
  /-- A BANK_SWAP and a LANE_SYNC that the next sample boundary takes (R212). -/
  swapDue : Bool := false
  syncDue : Bool := false
  /-- Inputs taken since entry into PRIMING (R210). -/
  taken : Nat := 0
  /-- CIC integrators and combs of 66 bits, and inputs since its last output (R187). -/
  integ : List (BitVec 66) := []
  comb : List (BitVec 66) := []
  cicCount : Nat := 0
  /-- FIR history, and whether its next input gives no output (decimation by 2). -/
  fir : List Int := []
  firSkip : Bool := true
  /-- Stamps of the latest lane inputs (R192). -/
  stamps : List (Nat × Nat) := []
  /-- Resampler inputs, the number taken, and the next output's position in units of 2^−27 input (R195). -/
  rin : List Stamped := []
  rCount : Nat := 0
  rPos : Nat := 0
  targets : List LaneTarget := []
  /-- Last target produced, passed over or skipped (R198, R199). -/
  lastTarget : Option Nat := none
  /-- The average under way: sum, number of inputs, first and last stamp (R200, R201). -/
  sum : Int := 0
  count : Nat := 0
  first : Nat × Nat := (0, 0)
  lastTime : Nat := 0
  /-- The open angle block's target stamp, and since when the angle has been outside it (R201). -/
  block : Option Nat := none
  left : Option Nat := none
  lastIn : Nat := 0
  /-- The sine input that waits for its cosine (R202). -/
  sine : Option Stamped := none
  scAngle : Nat := 0
  scAmp : Nat := 0
  /-- Input flags still to be reported, and flags raised in the lane for its next output (R205). -/
  inFlags : Nat := 0
  ownFlags : Nat := 0
  seqDue : Bool := false
  outs : List LaneOut := []
  last : Option LastRecord := none
deriving DecidableEq, Repr

/-! ### SAR groups (chapter SAR converter groups). Times of the SAR clock are in units of 5 ns. -/

/-- What a conversion was started for: a list entry, an urgent request for a cell, or system calibration. -/
inductive ConvKind where
  | entry (e : Nat)
  | urgent
  | syscal
deriving DecidableEq, Repr

/-- A conversion under way on a slice, with what its start fixes: the source, the destinations, the coefficients, and
the condition of the cell (R70, R88, R282). -/
structure Conv where
  kind : ConvKind
  /-- The scan entry's word; for other kinds a word with the cell as SRC and FMT AUTO. -/
  word : Nat
  start : Nat
  /-- Dual stamp taken at the sample instant (R120), once that has passed. -/
  stamp : Option (Nat × Nat) := none
  /-- REFBUF not ready, or disabled, at the sample instant (R135). -/
  rnr : Bool := false
  refOff : Bool := false
  /-- STL: the cell repeats its last sample (R70, R83), or its mode is OFF (R88). -/
  stale : Bool := false
  off : Bool := false
  /-- The cell's sample format is signed (Table 3.1). -/
  signed : Bool := false
  /-- SEQ owed by the entry (R133), and by the cell (R70). -/
  seq : Bool := false
  cellSeq : Bool := false
  slicePair : CoefPair := {}
  cellPair : CoefPair := {}
  /-- `SAR_SYSGAIN` and `SAR_SYSOFS` of the cell as this conversion takes them (R121, R146). -/
  sysGain : Nat := 2 ^ 30
  sysOfs : Int := 0
  /-- `SAR_XCTOL` and `SAR_XCWIN` of the cross-check pairs that name the entry (R121, R143). -/
  xc : Tbl (Nat × Nat) := []
  /-- CAL owed by the slice (R141), and by the cell (R133, R284). -/
  calSlice : Bool := false
  calCell : Bool := false
  /-- The cell's front end at the sample instant. -/
  front : Front := {}
  byAction : Bool := false
deriving DecidableEq, Repr

/-- The slice states of Table 5.5; GATED is shown while the group is gated. -/
inductive SliceState where
  | live | spare | withdrawn
deriving DecidableEq, Repr

/-- One slice. -/
structure Slice where
  state : SliceState := .live
  ready : Bool := false
  conv : Option Conv := none
  /-- Entries into service (`SAR_SLICE` [31:16]). -/
  entries : Nat := 0
  /-- Its next result carries CAL (R141). -/
  calNext : Bool := false
  /-- The pair in use since it entered service (R282). -/
  pair : Option CoefPair := none

deriving DecidableEq, Repr

/-- The group states of Table 5.6; GATED remembers whether the group was RUNNING. -/
inductive GroupState where
  | stopped | running | gated (wasRunning : Bool) | safe
deriving DecidableEq, Repr

/-- A list command that waits for the next slot boundary (R130). -/
inductive ListCmd where
  | start (list : Nat)
  | stop
deriving DecidableEq, Repr

/-- The system calibration of a group (R144–R147). -/
structure SysCal where
  cell : Nat := 0
  busy : Bool := false
  full : Bool := false
  started : Nat := 0
  done : Nat := 0
  sum : Nat := 0
  failed : Bool := false
  since : Nat := 0
  zero : Option Nat := none
  fullMean : Option Nat := none
deriving DecidableEq, Repr

/-- One SAR group. -/
structure Group where
  state : GroupState := .stopped
  /-- Active list, next entry of the pass, start of the pass, and whether the pass is complete. -/
  list : Nat := 0
  next : Nat := 0
  passStart : Option Nat := none
  byAction : Bool := false
  /-- List commands that wait for the next slot boundary, oldest first (R130). -/
  cmds : List ListCmd := []
  slices : Tbl Slice := [(4, { state := .spare })]
  /-- Urgent requests waiting, oldest first (R137), with whether an action made them. -/
  urgent : List Nat := []
  /-- Aborted conversions that start again (R136, R152). -/
  restart : List Conv := []
  lastSlot : Option Nat := none
  lastRotation : Nat := 0
  swapDue : Bool := false
  /-- When the REFBUF was enabled, and whether t_REFSET has passed (R135). -/
  refOn : Option Nat := none
  refReady : Bool := false
  /-- Entries whose next result carries SEQ (R133). -/
  seqDue : List Nat := []
  /-- Cells whose next result from the group carries CAL (R133, R284). -/
  calCells : List Nat := []
  /-- What conversions that begin before the next slot boundary still take of values changed since the last one: system
  gain and offset by cell, and cell pairs by index (R121, Table 10.2). -/
  oldSys : Tbl (Nat × Int) := []
  oldPairs : Tbl CoefPair := []
  syscal : SysCal := {}
  /-- Last record of each entry (READ_RESULT), and its last corrected code with its sample instant in units of 5 ns (R143). -/
  last : Tbl (Option LastRecord) := []
  codes : Tbl (Nat × Nat) := []
deriving DecidableEq, Repr

/-! ### Integrating converters and mains lock -/

/-- The converter states of Table 6.4. -/
inductive IcState where
  | stopped | running | gated | safe
deriving DecidableEq, Repr

/-- Where a RUNNING converter stands. -/
inductive IcPhase where
  /-- Waiting for TRACK (R159), or not running. -/
  | waiting
  | window
  | overhead
deriving DecidableEq, Repr

/-- One integrating converter. What an integration fixes at its start stands in `cell` to `pair`. -/
structure IntConv where
  state : IcState := .stopped
  phase : IcPhase := .waiting
  slot : Nat := 0
  nextSlot : Option Nat := none
  stopDue : Bool := false
  urgent : Bool := false
  cell : Nat := 0
  mode : Nat := 0
  /-- Length of the window: TCLK periods, or bins in CYCLE mode. -/
  length : Nat := 0
  bins : Nat := 0
  start : Nat := 0
  stop : Nat := 0
  dst : Nat := 0
  once : Bool := false
  xcsel : Nat := 0
  held : Bool := false
  pair : CoefPair := {}
  cellPair : CoefPair := {}
  /-- A BANK_SWAP waits for the integration boundary (R174). -/
  swapDue : Bool := false
  /-- What the cell's driver drives, summed over the edges of the window, their number, and the cell's front end at its end
  with the mean (R158). -/
  drivenSum : Int := 0
  drivenCount : Nat := 0
  front : Front := {}
  stale : Bool := false
  /-- The cell's samples have carried SAT at an edge of the window (R169, Table 3.6). -/
  sat : Bool := false
  rnr : Bool := false
  refOff : Bool := false
  discard : Bool := false
  byAction : Bool := false
  /-- Dual stamp of the end of the integration. -/
  angle : Nat := 0
  time : Nat := 0
  /-- The next result carries SEQ (R169), and whether the running one does. -/
  seqDue : Bool := false
  seq : Bool := false
  /-- The running result carries SEQ as the first sample after the cell settled (R70). -/
  cellSeq : Bool := false
  calDue : Bool := false
  calCells : List Nat := []
  /-- The running result carries CAL for the converter's pair, and for the cell's. -/
  calOwn : Bool := false
  calCell : Bool := false
  /-- Previous result of each slot, 4 for urgent requests (R169). -/
  prev : Tbl Nat := []
  last : Option LastRecord := none
  /-- The paired SAR entry's results in the window: sum of codes, number, and whether one carries STL or SAT (R175). -/
  xcSum : Int := 0
  xcCount : Nat := 0
  xcBad : Bool := false
deriving DecidableEq, Repr

/-- The mains lock states of Table 6.2, in the order of their codes. -/
inductive LockState where
  | nolock | acquire | locked | held
deriving DecidableEq, Repr

/-- The mains lock and the shared reference buffer of the integrating converters. -/
structure MainsLock where
  state : LockState := .nolock
  lastRise : Option Nat := none
  lastAny : Option Nat := none
  /-- Accepted periods, newest first, at most 16; and the run of them since the last rejected one. -/
  periods : List Nat := []
  run : List Nat := []
  rejected : Nat := 0
  /-- Estimate that was in force in LOCKED, as a sum and a count. -/
  heldSum : Nat := 0
  heldCount : Nat := 1
  refOn : Option Nat := none
  refReady : Bool := false
  refOot : Bool := false
deriving DecidableEq, Repr

/-! ### Kernel fabric and timers -/

/-- The fabric states of Table 8.4, in the order of their codes. -/
inductive FabState where
  | empty | run | safe | sleep
deriving DecidableEq, Repr

/-- A configuration plane of 0x2_C000 bytes; unlisted bytes are 0. -/
structure Plane where
  loaded : Bool := false
  bytes : Mem := []
deriving DecidableEq, Repr

/-- The fabric: planes, flip-flops, block RAMs and the lines of Table 8.1 that hold a level. -/
structure Fabric where
  state : FabState := .empty
  live : Plane := {}
  shadow : Plane := {}
  /-- The kernels' flip-flops. -/
  ffs : BitVec 1536 := 0
  /-- The registered GPO lines, and whether the reflex lines hold their levels too, until the next FCLK edge (R235, R239). -/
  gpo : BitVec 48 := 0
  held : Bool := false
  gpoe : BitVec 48 := 0
  swout : BitVec 32 := 0
  tmcap : BitVec 64 := 0
  tmtrig : BitVec 64 := 0
  tmcen : BitVec 64 := 0
  ramperr : BitVec 24 := 0
  /-- WPULSE lines: 1 for a pulse that waits for its FCLK edge, 2 for one under way (R224). -/
  pulses : Tbl Nat := []
  /-- The next FCLK edge takes a bank swap (R234), or a REINIT (R245). -/
  swapDue : Bool := false
  reinitDue : Bool := false
  /-- TCLK edges modulo 4, which FCLK is aligned with, the FCLK edges at this one, and TCLK edges since the last FCLK edge,
  at most 10 (R217, Table 8.6). -/
  tclk : Nat := 0
  edges : Nat := 0
  quiet : Nat := 0
  /-- Block RAM words known since the last reset of the fabric, keyed 512 × RAM + address, with the ninth bits of their bytes
  that are wrong, and the resets so far (R219). -/
  ram : Tbl (Option (Word × BitVec 4)) := []
  ramGen : Nat := 0
  /-- Host writes of block RAM words that wait for the next FCLK edge (R221): key and word. -/
  hostWrites : Tbl Word := []
  scrubAt : Nat := 0
  scrubOk : Bool := false
deriving DecidableEq, Repr

/-- The timer states of Table 8.5, in the order of their codes. -/
inductive TmState where
  | stopped | run | safe
deriving DecidableEq, Repr

/-- A capture or compare record (Table 8.3). -/
structure CapRec where
  kind : Nat
  seq : Nat
  count : Nat
  angle : Nat
  time : Nat
deriving DecidableEq, Repr

/-- One capture/compare timer. -/
structure Timer where
  state : TmState := .stopped
  cnt : Nat := 0
  /-- TCLK periods since the last advance (`TM_PRESC`). -/
  phase : Nat := 0
  /-- A ONESHOT run is under way. -/
  active : Bool := false
  /-- Captures and compares of this edge whose records have still to be made, oldest first, and a rising edge of TMTRIG
  whose trigger has still to be taken (R229–R231, R241). -/
  due : List CapRec := []
  trigDue : Bool := false
  /-- TMEVT: 1 for a pulse that waits for its FCLK edge, 2 for one under way (R231). -/
  evt : Nat := 0
  fifo : List CapRec := []
  seq : Nat := 0
  /-- Dual stamp of the last capture, and the one latched by a read of `TM_LASTANG` (R231, R233). -/
  last : Nat × Nat := (0, 0)
  latch : Option (Nat × Nat) := none
deriving DecidableEq, Repr

/-! ### Kiln (chapter Kiln: energy and heat scheduling) -/

/-- The power states of Table 9.4, in the order of their codes. -/
inductive KilnState where
  | run | trim | idle | hibernate
deriving DecidableEq, Repr

/-- A die sensor: last reading in 0.01 °C, validity, and its run of departures from the median (R254). -/
structure DieSensor where
  value : Int := 0
  valid : Bool := true
  bad : Nat := 0
deriving DecidableEq, Repr

/-- One job of the last plan: number, energy in µJ, residual energy, class, and the kinds of R246. -/
structure PlanJob where
  job : Nat
  energy : Nat
  resid : Nat := 0
  cls : Nat
  committed : Bool := false
  dependent : Bool := false
  /-- Currents while running, in µA, by rail of Table 9.9. -/
  rails : List Nat := []
  /-- Residual currents when deferred. -/
  residRails : List Nat := []
  /-- Jobs that supply a dependent job. -/
  suppliers : List Nat := []
deriving DecidableEq, Repr

/-- The scheduler. -/
structure Kiln where
  state : KilnState := .run
  /-- Held after a class C reaction, until RESUME (R265). -/
  heldC : Bool := false
  sensors : Tbl DieSensor := []
  /-- Filtered power in units of 2^−32 mW. -/
  pf : Nat := 0
  /-- Time of the last plan, and its period as a number of parts of a tick and the parts in a tick. -/
  planTime : Nat := 0
  period : Nat := 0
  scale : Nat := 1
  planned : Bool := false
  /-- The last plan as Table 9.3 reports it (KILN_REPORT). -/
  report : List Byte := []
  /-- Jobs with work at the last plan, and the numbers of those deferred. -/
  jobs : List PlanJob := []
  deferred : List Nat := []
  /-- Energy measured since the period began, in pJ, and the energy admitted for it, in µJ. -/
  measured : Nat := 0
  admitted : Nat := 0
  /-- THERMAL holds every P2 and P3 job deferred (Table 9.7). -/
  thermalHold : Bool := false
  /-- Blocks, by fault block, whose gating waits until they are idle (R260). -/
  gateDue : List Nat := []
  /-- Blocks, by fault block, powering up, with the latest instant they are powered (R260). -/
  powerDue : Tbl Nat := []
  /-- Jobs that owe DFR on their next result (R262). -/
  dfrOwed : List Nat := []
  /-- SAR groups, converters and lanes whose actions were skipped in the period, by job (R262, R273). -/
  hits : List Nat := []
  /-- Gated blocks, by fault block, that an action has reached since they were last powered (R466, GATEHIT). -/
  hitOpen : List Nat := []
  /-- Slots on which Kiln starts integrating converters again on readmission (R259): converter, slot + 1. -/
  icRestart : Tbl Nat := []
  /-- Milliseconds each rail has stayed above 1.25 `KL_RAILMAX`. -/
  railOver : Tbl Nat := []
  /-- Entry into HIBERNATE, and the wake source that requested the exit (R268). -/
  hibernateAt : Nat := 0
  wake : Option Nat := none
  wakeAt : Nat := 0
deriving DecidableEq, Repr

/-! ### Calibration -/

/-- The calibration states of Table 10.4, in the order of their codes. -/
inductive CalState where
  | idle | pending | running | suspended
deriving DecidableEq, Repr

/-- The steps of a run on the calibration bus (Table 10.3); `icOnly` waits for the converters' overheads. -/
inductive CalStep where
  | cdac | cell | thr | out | icOnly
deriving DecidableEq, Repr

/-- A blend of an output's coefficient pair (R288): the pair it started from, the new pair, β as a numerator over
max(1, Δ), and the time of its last move. -/
structure Blend where
  fromG : Frac := {}
  fromO : Frac := {}
  toPair : CoefPair := {}
  num : Nat := 0
  delta : Nat := 1
  since : Nat := 0
deriving DecidableEq, Repr

/-- A group's spare procedure (R286). -/
structure SpareCal where
  /-- When its measurement starts: once t_REFSET has passed (R575). -/
  start : Option Nat := none
deriving DecidableEq, Repr

/-- The calibration block. -/
structure Calib where
  state : CalState := .pending
  /-- Job 0x18 has been admitted since the request (R289). -/
  admitted : Bool := false
  step : CalStep := .cdac
  /-- Items of the step still to do, and of the IC step; items that wait for a window again. -/
  items : List Nat := []
  icItems : List Nat := []
  /-- Converters of the IC step whose reference is measured in the present overhead. -/
  icMeasured : List Nat := []
  /-- The item under way on the bus, and since when. -/
  item : Option Nat := none
  itemStart : Nat := 0
  /-- The group and the slice of the spare that the step under way uses (R290). -/
  spareOf : Option (Nat × Nat) := none
  /-- Mode, gain and filter of the cell under injection, at its start (R298). -/
  injMode : Nat := 0
  injGain : Nat := 0
  injAaf : Nat := 0
  /-- The cell being injected, and cells recovering until a time (R292). -/
  injected : Option Nat := none
  recovering : Tbl Nat := []
  staging : Tbl CoefPair := []
  /-- Run timer: ticks counted before the last suspension, and since when it runs; begin of the run. -/
  counted : Nat := 0
  since : Nat := 0
  begun : Nat := 0
  suspendTemp : Int := 0
  windows : List Nat := []
  trigOff : Bool := false
  resLost : Bool := false
  lastFailed : Bool := false
  vcrValid : Bool := false
  blends : Tbl (Option Blend) := []
  spares : Tbl SpareCal := []
  /-- A class C reaction stopped every procedure (R306). -/
  stopped : Bool := false
deriving DecidableEq, Repr

/-! ### Grist images, banks and the changeover -/

/-- The grist states of Table 11.7, in the order of their codes. -/
inductive GristState where
  | idle | loading | verified | armed | swapping | swapped | rollback | restoring
deriving DecidableEq, Repr

/-- A flash operation that Port F carries out (R365). -/
structure FlashOp where
  port : Nat
  seq : Nat
  addr : Nat
  /-- Page-program data; `none` for a sector erase. -/
  data : Option (List Byte) := none
deriving DecidableEq, Repr

/-- The grist block. -/
structure Grist where
  state : GristState := .idle
  /-- The port that opened the load, 1–4; 0 for a load from Port F. -/
  port : Nat := 0
  /-- L of the load, the bytes received so far, and when the last arrived. -/
  length : Nat := 0
  image : List Byte := []
  lastData : Nat := 0
  /-- GRIST_CLOSE has started the checks, and when. -/
  checking : Option Nat := none
  /-- Listed blocks of the image with their swap bins (Table 11.4). -/
  listed : Tbl Nat := []
  /-- Blocks whose shadow bank is pending (R311), and whose live bank is B. -/
  pend : List Nat := []
  liveB : List Nat := []
  /-- Blocks that have swapped, and that have failed to swap, in the changeover. -/
  swapped : List Nat := []
  failed : List Nat := []
  /-- Block codes whose BANK_SWAP the controller has posted and that has not fired. -/
  due : List Nat := []
  /-- A SAR group's or the fabric's swap that waits for its boundary, and whether the host posted it. -/
  waiting : Tbl Nat := []
  hostWritten : Bool := false
  verified : Bool := false
  part : Bool := false
  unauth : Bool := false
  lastFailed : Bool := false
  /-- A rollback revolution has begun (R330). -/
  turning : Bool := false
  /-- High-water mark at the entry into SWAPPED (R329). -/
  swappedAt : BitVec 40 := 0
  /-- Identity before the changeover: ID, revision, hash (R330). -/
  oldId : Nat × Nat × Nat := (0, 0, 0)
  liveHeader : List Byte := []
  /-- The header of the image that was live before the changeover (R330). -/
  oldHeader : List Byte := []
  shHeader : List Byte := []
  /-- Entries reserved for BANK_SWAPs (R325). -/
  reserved : Nat := 0
  restoreAt : Nat := 0
  /-- Patch RAM: the staged patch and the one in force, with their revisions (R334, R335). -/
  staged : List Byte := []
  stagedRev : Nat := 0
  patch : List Byte := []
  patchRev : Nat := 0
  patchSt : Nat := 0
  /-- The flash on Port F: bytes that differ from 0xFF. -/
  flash : Mem := []
  flashOp : Option FlashOp := none
deriving DecidableEq, Repr

/-! ### Command layer (chapters Command packets and The parameter space) -/

/-- A reply packet on its way to a port: code, opcode, flags, sequence number, target and payload (status preamble first),
and, on Port E, where it goes (R412). -/
structure Reply where
  code : Nat := 0x20
  opcode : Nat
  flags : Nat
  seq : Nat
  target : Nat := 0
  payload : List Byte := []
  dest : Option Peer := none
deriving DecidableEq, Repr

/-- One of the last four commands answered on a port: what R349 compares, and its latest reply as it would be without
NOREPLY. -/
structure Answered where
  seq : Nat
  opcode : Nat
  crc : Nat
  reply : Reply
deriving DecidableEq, Repr

/-- A command that was answered ACCEPTED_PENDING and has still to complete (R355). -/
structure PendSlot where
  opcode : Nat
  seq : Nat
  target : Nat := 0
  /-- When it was accepted. -/
  start : Nat
  /-- When it completes with TIMEOUT (R360). -/
  limit : Nat
  /-- Opcode-specific value: the mailbox, the bin, the parameter written. -/
  arg : Nat := 0
  code : Nat := 0x20
  dest : Option Peer := none
  /-- The command carried NOREPLY: a completion with OK is not sent. -/
  quiet : Bool := false
  /-- No completion is sent: the session has closed (R353), or the command was a U broadcast (R407). -/
  noReply : Bool := false
deriving DecidableEq, Repr

/-- One record of a parameter group (R383). -/
structure GroupRec where
  id : Nat
  inst : Nat
  value : Nat
deriving DecidableEq, Repr

/-- The command layer's state for one port. -/
structure Session where
  isOpen : Bool := false
  contract : Nat := 0
  personality : Bool := false
  expSeq : Nat := 0
  /-- The last replies kept for retransmission, newest first (R349). -/
  cache : List Answered := []
  slots : List PendSlot := []
  /-- Replies that wait to be collected or sent, oldest first. -/
  ready : List Reply := []
  group : List GroupRec := []
  groupSet : Nat := 0
  /-- The group was discarded by lapse since the last SET_GROUP (R388). -/
  groupLapsed : Bool := false
  /-- Time of the port's last command, for its idle time as owner (R357). -/
  lastCmd : Nat := 0
deriving DecidableEq, Repr

/-! ### Host ports (chapter Host ports and interface generations) -/

/-- What Port E transmits. -/
inductive EthOut where
  /-- A reply to a command (R412). -/
  | reply (r : Reply)
  /-- An event datagram (R419). -/
  | event (irq angle time : Nat)
  /-- A stream datagram of a ring with its sequence number and reply data (R453). -/
  | stream (ring seq : Nat) (payload : List Byte)
  /-- An answer to an ARP request from an address, or a gratuitous ARP for the device's own (R410). -/
  | arpReply (dest : Nat)
  | arpGratuitous (ip : Nat)
  /-- A DHCP request: 1 DISCOVER, 3 REQUEST, 7 RELEASE (R411). -/
  | dhcp (kind : Nat)
  /-- A Delay_Req (R414). -/
  | delayReq (seq : Nat)
deriving DecidableEq, Repr

/-- The reply of a personality command that waits: for its faithful latency (R425), or for the swap of the blocks it wrote
(R422), after which list 15 of the groups in `starts` is started (R423). -/
structure PersWait where
  /-- Port, 1–3. -/
  port : Nat
  opcode : Nat
  seq : Nat
  /-- S1's frame count of the frame answered. -/
  count : Nat := 0
  target : Nat := 0
  status : Nat := 0
  detail : Nat := 0
  data : List Byte := []
  /-- The packet's check value, NOREPLY, and whether no reply is sent. -/
  crc : Nat := 0
  quiet : Bool := false
  mute : Bool := false
  /-- Release time (R425), once the reply is made; `none` before or without faithful mode. -/
  release : Option Nat := none
  /-- Block codes whose swap is awaited, and groups to start. -/
  codes : List Nat := []
  starts : List Nat := []
deriving DecidableEq, Repr

/-- Port S1: the reply register (R401) and what the extension opcodes keep (Table 14.7). -/
structure S1Port where
  op : Nat := 0
  status : Nat := 0
  count : Nat := 0
  data : Nat := 0
  /-- Frames counted, modulo 4. -/
  frames : Nat := 0
  /-- The register holds a reply that no frame has read. -/
  unread : Bool := false
deriving DecidableEq, Repr

/-- The parameter an extension opcode selects, its latched high half and the staged low half (R421), for one port. -/
structure Select where
  id : Nat := 0
  inst : Nat := 0
  latch : Nat := 0
  staged : Nat := 0
deriving DecidableEq, Repr

/-- A DHCP lease: address, mask, gateway, and the times T1, T2 and expiry. -/
structure Lease where
  ip : Nat
  mask : Nat
  gw : Nat
  t1 : Nat
  t2 : Nat
  expiry : Nat
deriving DecidableEq, Repr

/-- The DHCP client: no lease sought, an offer awaited, an acknowledgement awaited, bound, renewing, rebinding (R411). -/
inductive DhcpState where
  | idle | selecting | requesting | bound | renewing | rebinding
deriving DecidableEq, Repr

/-- Port E. -/
structure Ether where
  dhcp : DhcpState := .idle
  lease : Option Lease := none
  /-- The PHY reported link up at the last poll; polls without an MDIO response. -/
  phyUp : Bool := false
  phyMiss : Nat := 0
  /-- Source of the last command (R419). -/
  peer : Option Peer := none
  /-- Source MACs learned from the stream address and from outside the subnet (R413). -/
  strMac : Option Nat := none
  outMac : Option Nat := none
  /-- Frames sent at the last edge at which the port sent any, oldest first, and that edge. -/
  sent : List EthOut := []
  sentAt : Nat := 0
  /-- Time of the last event datagram, and whether a change is held back (R419). -/
  eventAt : Option Nat := none
  eventHeld : Bool := false
  /-- `HP_IRQSTAT` AND `HP_IRQEN[1]` as last seen. -/
  irqSeen : Nat := 0
deriving DecidableEq, Repr

/-- The PTP states of Table 14.6, in the order of their codes. -/
inductive PtpState where
  | disabled | listening | uncalibrated | slave | faulty
deriving DecidableEq, Repr

/-- A foreign master (R414): its port identity, the fields its dataset is compared by in the standard's order, the base-2
logarithm of its announce interval, and when its last Announce arrived. -/
structure Foreign where
  port : Nat
  rank : List Nat
  interval : Int
  last : Nat
deriving DecidableEq, Repr

/-- The IEEE 1588 slave. Times are in nanoseconds. -/
structure Ptp where
  state : PtpState := .disabled
  foreign : List Foreign := []
  master : Option Nat := none
  ofs : Int := 0
  /-- OFS at the last exit from SLAVE. -/
  ofsExit : Option Int := none
  /-- The first ofs_k after entering UNCALIBRATED has still to come, and the run of values within 1 µs of OFS. -/
  whole : Bool := true
  good : Nat := 0
  /-- A two-step Sync that waits for its Follow_Up: sequence, t2, correction. -/
  sync : Option (Nat × Int × Int) := none
  /-- t1 and t2 of the latest Syncs, newest first, at most 17. -/
  syncs : List (Int × Int) := []
  syncInterval : Int := 0
  lastSync : Nat := 0
  /-- The Delay_Req sent last: sequence, t3, t1 and t2 of the last Sync before it. -/
  req : Option (Nat × Int × Int × Int) := none
  reqSeq : Nat := 0
  reqInterval : Int := 0
  nextReq : Nat := 0
  /-- The last 8 delay values, newest first, each twice the value of R415. -/
  delays : List Int := []
  delay : Int := 0
  /-- The rate in 10^−6 ppm, and the values of it since the counter was last corrected by it. -/
  rate : Int := 0
  sinceCorr : Nat := 0
  /-- `HP_IRQSTAT` [5]: a change of state that no read of `HP_PTPSTATE` has followed. -/
  changed : Bool := false
deriving DecidableEq, Repr

/-- The host ports beyond their sessions. Lists of ports hold 1–4 for S1, S2, U, E. -/
structure HostPorts where
  /-- Ports whose link is up, and the time of each port's last valid frame or packet (R398). -/
  links : List Nat := []
  lastValid : Tbl Nat := []
  s1 : S1Port := {}
  selects : Tbl Select := []
  waits : List PersWait := []
  /-- A frame addressed to `HP_UADDR` has ended since U last transmitted (R408), since when U's line is idle, and what U sent
  last. -/
  uAddressed : Bool := false
  uIdle : Nat := 0
  uSent : List Reply := []
  /-- U's last transmission: when U_DE rose, and the bit times it stays high (R408). -/
  uDe : Option (Nat × Nat) := none
  eth : Ether := {}
  ptp : Ptp := {}
  /-- Latches of `HP_TIMEH` and `HP_PTPOFSH` (R382). -/
  timeLatch : Nat := 0
  ofsLatch : Nat := 0
deriving DecidableEq, Repr

/-! ### Mailboxes, streams and the buffer pool -/

/-- A message of a mailbox (Table 15.2). -/
structure Message where
  payload : List Byte
  orphan : Bool := false
  relayed : Bool := false
  sender : Nat
  gen : Nat
  /-- Time of its arrival in the mailbox. -/
  arrival : Nat := 0
deriving DecidableEq, Repr

/-- An MB_WRITE that waits for its mailbox to empty (R433). -/
structure PendWrite where
  port : Nat
  seq : Nat
  data : List Byte
deriving DecidableEq, Repr

/-- One mailbox. -/
structure Mailbox where
  msg : Option Message := none
  /-- MB_WRITEs that wait for it to empty, oldest first (R433). -/
  pendWrites : List PendWrite := []
deriving DecidableEq, Repr

/-- The ring states of Table 15.6, in the order of their codes. -/
inductive RingState where
  | disabled | enabled | losing | safe
deriving DecidableEq, Repr

/-- One word held by a ring: its value, when it entered, and whether it heads a record. -/
structure RingWord where
  w : Word
  time : Nat
  head : Bool
deriving DecidableEq, Repr

/-- One stream ring: its words oldest first, and the words already gone from its first buffer. -/
structure Ring where
  state : RingState := .disabled
  words : List RingWord := []
  off : Nat := 0
  /-- Words lost since the last loss record (R446). -/
  lostSince : Nat := 0
  /-- An anchor is due before the next sample record, and sample records since the last one (R445). -/
  anchorDue : Bool := true
  sinceAnchor : Nat := 0
  /-- The first buffer is retired once it is empty (R459). -/
  headRetired : Bool := false
  /-- POOLEMPTY's episode: a request for the ring was refused and none has been granted since (R466). -/
  refused : Bool := false
deriving DecidableEq, Repr

/-- A record of this TCLK edge on its way to its ring (R451): the ring, the request port (Table 15.5), whether it is a sample
record, its words, the stamps an anchor before it takes, and who made it (Table 16.5). -/
structure RingEntry where
  ring : Nat
  port : Nat
  sample : Bool := false
  words : List Word
  angle : Nat
  time : Nat
  master : Nat
deriving DecidableEq, Repr

/-- The pool: buffers retired (R459), the low-water mark of free buffers, and the records of this TCLK edge, which enter
their rings as it ends (R457). -/
structure Pool where
  retired : Nat := 0
  low : Nat := 2048
  entries : List RingEntry := []
deriving DecidableEq, Repr

/-! ### Sync link (chapter Several devices as one) -/

/-- The device states of Table 17.2, in the order of their codes. -/
inductive SlState where
  | off | search | locking | synced | hold | halted
deriving DecidableEq, Repr

/-- A status record (Table 17.4). -/
structure PeerRec where
  hash : Nat := 0
  b4 : Nat := 0
  b5 : Nat := 0
  b67 : Nat := 0
deriving DecidableEq, Repr

/-- One copy channel: its source position, kind (0 DATA, 1 PREPARE, 2 COMMIT) and nine data bytes (Table 17.1). -/
structure CopyItem where
  src : Nat
  kind : Nat
  data : List Byte
deriving DecidableEq, Repr

/-- The sync link. -/
structure SyncLink where
  state : SlState := .off
  /-- The device originates frames (R503). -/
  originates : Bool := false
  /-- Ring word as last seen or originated: run state, HALT, REFORM, contract; CLOSED; and whether frames have been
  valid since the last entry into SEARCH. -/
  runState : Nat := 2
  haltSeen : Bool := false
  reform : Bool := false
  closed : Bool := false
  framed : Bool := false
  /-- Frames of REFORM still to originate (R503), and the highest hop count of a returned one. -/
  reformLeft : Nat := 0
  hops : Nat := 0
  /-- A REFORM frame has given a position that is not latched yet. -/
  forming : Bool := false
  /-- Sequence of the next frame to originate, and its instant, 2 µs after the frame before it (R498). -/
  seq : Nat := 0
  nextFrame : Nat := 0
  lastValid : Nat := 0
  /-- Run of frames with the time error within `SL_TTOL` (Table 17.2, R509). -/
  within : Nat := 0
  /-- The counter has been loaded since SEARCH (R508). -/
  loaded : Bool := false
  /-- Frequency term f in units of 5 × 10^−6 ppm: the sum of e. -/
  freq : Int := 0
  diverged : Bool := false
  /-- Since when the error is outside, and whether TIMEDIV has been recorded. -/
  divergedAt : Nat := 0
  timeDiv : Bool := false
  peers : Tbl PeerRec := []
  /-- Slots in which the partner's record came without VALID, in a row (Table 17.7). -/
  partnerLost : Nat := 0
  /-- The partner's record has come with VALID since the positions were last latched. -/
  partnerSeen : Bool := false
  /-- Hold causes: hash, contract, pair hash; and the angle stamp since which those that the frames show have been absent. -/
  holdHash : Bool := false
  holdContract : Bool := false
  holdPair : Bool := false
  clearAt : Option Nat := none
  /-- Angle stamp at which the present pair-hash mismatch began. -/
  pairAt : Option Nat := none
  /-- Round trips of the last 16 frames, in ns, newest first; times of frames on their way. -/
  trips : List Nat := []
  flying : Tbl (Option Nat) := []
  /-- Copy channel of the last frame that returned (R502). -/
  returned : Option CopyItem := none
  /-- Frames of another originator in a row, its UID byte, and the byte of the own UID under comparison (R505). -/
  rivals : Nat := 0
  rivalUid : Nat := 0
  uidByte : Nat := 0
  /-- Bytes 1–49 of the frame last originated or repeated, and when its comma leaves SL_TX (R498, R500). -/
  sent : List Byte := []
  sentAt : Nat := 0
  /-- Copy engine (R520): items still to send, the snapshot under transfer and its CRC. -/
  outbox : List CopyItem := []
  /-- The transfer has not been acknowledged yet. -/
  transfer : Bool := false
  frozenSeq : Nat := 0
  /-- SL_COPY commands that wait for a copy to start, by port and sequence number. -/
  copyDue : List (Nat × Nat) := []
  lastCopy : Option Nat := none
  /-- Staging: the PREPARE's sequence and length, next chunk, bytes so far. -/
  staging : Option (Nat × Nat) := none
  nextChunk : Nat := 0
  staged : List Byte := []
  committed : Option (List Byte) := none
  /-- Take-over hold (R522), and general pins held at snapshot levels: GPO and GPOE. -/
  held : Bool := false
  heldPins : Option (BitVec 48 × BitVec 48) := none
  /-- A take-over or release asked for at the next frame boundary. -/
  takeDue : Bool := false
  releaseDue : Bool := false
  /-- SL_ROLE and SL_TAKEOVER replies owed, by port and sequence number. -/
  roleWait : List (Nat × Nat) := []
  takeWait : List (Nat × Nat) := []
  copyWait : List (Nat × Nat) := []
  /-- RW-LIVE instances written by host commands since the last IMMEDIATE or commit (Table 17.6, HOST). -/
  hostLive : List Nat := []
deriving DecidableEq, Repr

/-! ### Husk (chapter Husk: balls, pins and function switching) -/

/-- One general pin. -/
structure Pin where
  /-- Level at the ball as the pin's input receives it. -/
  input : Bool := true
  /-- The hold register between the edge of a switch and the first valid drive: level and enable (R544). -/
  hold : Option (Bool × Bool) := none
  /-- Level and enable when the safe drive began (R549). -/
  safe : Option (Bool × Bool) := none
  /-- Level the keeper holds. -/
  keeper : Bool := false
  /-- Edge of the last switch to ENCFLT; samples count from the third TCLK edge after it (R546). -/
  since : Option Nat := none
deriving DecidableEq, Repr

/-! ### Supplies, clocks, reset and start-up -/

/-- The phases of a device reset (Table 19.6), and running. -/
inductive ResetPhase where
  /-- The cause lasts, or the power-on hold runs. -/
  | cause
  /-- Phase 2: the clock is being qualified. -/
  | clock
  /-- Phase 3: the PLL is locking. -/
  | pll
  /-- Phase 4: the OTP is being read. -/
  | otp
  /-- Out of device reset. -/
  | running
deriving DecidableEq, Repr

/-- Start-up from the end of device reset (Table 19.7). -/
inductive StartStep where
  | selfTest | directory | boot | ready
deriving DecidableEq, Repr

/-- Supplies, clocks, resets and the OTP. -/
structure Power where
  phase : ResetPhase := .running
  /-- Cause of the present or last device reset (Table 19.8): 1 power-on, 2 RESET_N, 3 RESET, 4 clock, 5 PLL. -/
  cause : Nat := 1
  /-- The records and the plan of the end of device reset have still to be made (R570, R581, R598). -/
  originDue : Bool := true
  /-- Required rails above their thresholds, and the presence of VIO_B, AVPOS and AVNEG. -/
  vcore : Bool := true
  vioA : Bool := true
  avdd : Bool := true
  vioB : Bool := true
  avpos : Bool := true
  avneg : Bool := true
  step : StartStep := .selfTest
  /-- Hopper is restarting since this time (R568). -/
  hopperDown : Option Nat := none
  /-- VREFIO is ready (R573), I_CAL is on and settled (R574). -/
  vrefReady : Bool := false
  icalOn : Bool := false
  icalSettled : Bool := false
  readyAt : Nat := 0
  /-- Blocks being reset, by fault block, with the end of t_BRST (R569). -/
  blockReset : Tbl Nat := []
  /-- `AC_SUPPLY` as the last device reset found it (R645). -/
  supplyAtReset : Nat := 3
  /-- OTP words programmed since delivery: key slots' states and keys (R323, R646). -/
  keyState : Tbl Nat := []
  keys : Tbl (BitVec 128) := []
  /-- Keys whose OTP write is under way, oldest first: slot and key (R323). -/
  keyDue : List (Nat × BitVec 128) := []
  /-- States of the key slots as the last reset found them (R645). -/
  keyReset : Tbl Nat := []
  /-- A RESET that waits until its reply has left: scope, port and sequence number. -/
  resetDue : Option (Nat × Nat × Nat) := none
  /-- OTP items found uncorrectable at the last phase 4 (R581): coefficient pairs as kind × 1024 + index; MAC lost. -/
  otpBadPairs : List Nat := []
  otpBadMac : Bool := false
deriving DecidableEq, Repr

/-! ### The whole state -/

/-- What the last command of the command layer answered: status and detail of Table 12.6, and reply data. -/
structure CmdResult where
  status : Nat := 0
  detail : Nat := 0
  data : List Byte := []
deriving DecidableEq, Repr

/-- The state of the device. -/
structure State where
  /-- The time counter: TCLK periods of 10 ns since the end of device reset (R570). -/
  now : BitVec 64 := 0
  /-- Parameter values in force, counters and sticky bits, keyed by ID × 256 + instance; absent is the reset value. -/
  params : Tbl Word := []
  /-- RW-LIVE values accepted and not yet in force (R376, R377). -/
  pend : Tbl Word := []
  /-- Shadow-bank values of RW-SHADOW parameters; absent is the reset value. -/
  shadow : Tbl Word := []
  /-- Records the fault logic has still to make at this edge (R486). -/
  todo : List Raise := []
  /-- Trace events of this edge (R594). -/
  trcPend : List TraceEvent := []
  /-- The model's own counter that free values are taken at. -/
  fresh : Nat := 0

  /-- The last answer of the command layer. -/
  result : CmdResult := {}
  flt : FaultLogic := {}
  tst : TestTrace := {}
  eng : Engine := {}
  wheel : Wheel := {}
  cells : Tbl Cell := []
  cmps : Tbl Comparator := []
  groups : Tbl Group := []
  ics : Tbl IntConv := []
  mains : MainsLock := {}
  lanes : Tbl Lane := []
  fab : Fabric := {}
  timers : Tbl Timer := []
  cal : Calib := {}
  /-- Coefficient pairs in force that differ from the factory's, keyed by kind × 1024 + index (R282). -/
  coefs : Tbl CoefPair := []
  kiln : Kiln := {}
  grist : Grist := {}
  /-- Sessions of ports S1, S2, U and E, keyed 1–4. -/
  sessions : Tbl Session := []
  mboxes : Tbl Mailbox := []
  rings : Tbl Ring := []
  pool : Pool := {}
  pwr : Power := {}
  hp : HostPorts := {}
  sl : SyncLink := {}
  /-- General pins GP0–GP47. -/
  pins : Tbl Pin := []
  /-- Rate correction of the time counter in 10^−6 ppm, and the part of a tick it has gathered (R417, R508). -/
  slew : Int := 0
  slewPart : Nat := 0
  /-- The commands that wait, first in, first out. -/
  pending : List Instr := []
deriving DecidableEq, Repr

/-- Why a step can stop with a fault. No command of the spec stops the model so: every row of the table has an effect
in every state, and where the spec gives a command none in a state, the state is kept. -/
inductive Fault where
  /-- Raised by no meaning. Safe: nothing ends in it. -/
  | none
deriving DecidableEq, Repr

/-- Why a step can be refused. -/
inductive Refusal where
  /-- A row of the table that has no meaning yet; raised by `exec` alone. Safe: the model stops. -/
  | notModelled (mnemonic : String)
deriving DecidableEq, Repr

/-- The machine right after the end of a device reset (R570): the time origin, every block at the reset state of its
chapter, nothing started up yet, and no command waiting. -/
def State.reset : State := {}

end Sys2Proof.Machine
end

