-- ==== Sys2Proof/Machine/Ops.lean ====
section
/-! DEFINITION. Named operations over the state that every block uses: time and stamps, parameter values in their
banks, counters and sticky bits, the records a detector asks for, trace events, and the answers of the command layer. -/

namespace Sys2Proof.Machine

/-! ### Time and stamps -/

/-- The time stamp in TCLK periods (Table 0.3). -/
def State.t (s : State) : Nat := s.now.toNat

/-- The 48-bit angle stamp: cycle count [47:24], angle word [23:0] (Table 0.3). -/
def State.angleStamp (s : State) : Nat := s.eng.pos.toNat / 2 ^ 16

/-- The 24-bit angle word. -/
def State.angleWord (s : State) : Nat := s.angleStamp % 2 ^ 24

/-- The 24-bit cycle count. -/
def State.cycle (s : State) : Nat := s.angleStamp / 2 ^ 24

/-- Ticks of 10 ns in a number of microseconds. -/
def usTicks (n : Nat) : Nat := n * 100

/-- Ticks of 10 ns in a number of milliseconds. -/
def msTicks (n : Nat) : Nat := n * 100000

/-- A quotient rounded down or up: the spec states no rounding, so which is left to `Config.roundUp`. -/
def openDiv (tag num den : Nat) : Nat :=
  if num % den = 0 then num / den else if Config.roundUp tag num den then num / den + 1 else num / den

/-- A signed quotient rounded as the spec leaves open. -/
def openDivI (tag : Nat) (num : Int) (den : Nat) : Int :=
  if 0 ≤ num then (openDiv tag num.toNat den : Int) else -(openDiv tag (-num).toNat den : Int)

/-- The signed distance from stamp `b` to stamp `a`, both of 48 bits (R14). -/
def stampSub (a b : Nat) : Int := (BitVec.ofNat 48 a - BitVec.ofNat 48 b).toInt

/-- An angle stamp moved by a signed number of angle-word units. -/
def stampAdd (a : Nat) (d : Int) : Nat := (BitVec.ofNat 48 a + BitVec.ofInt 48 d).toNat

/-! ### Parameter values -/

/-- The key of a parameter instance in the tables of parameter values. -/
def paramKey (id inst : Nat) : Nat := id * 256 + inst

/-- A table of parameter values that no entry departs from the reset values. -/
def bankGet (b : Tbl Word) (id inst : Nat) : Nat :=
  (tblGet (BitVec.ofNat 32 (paramReset id inst)) b (paramKey id inst)).toNat

/-- A table of parameter values with one value set. -/
def bankSet (b : Tbl Word) (id inst v : Nat) : Tbl Word :=
  tblSet (BitVec.ofNat 32 (paramReset id inst)) b (paramKey id inst) (BitVec.ofNat 32 v)

/-- The value in force of a parameter instance. -/
def State.par (s : State) (id : Nat) (inst : Nat := 0) : Nat := bankGet s.params id inst

/-- The value in force of a signed parameter instance. -/
def State.parI (s : State) (id : Nat) (inst : Nat := 0) : Int := signedOf 32 (s.par id inst)

/-- The state with a parameter's value in force set. -/
def State.setPar (s : State) (id inst v : Nat) : State := { s with params := bankSet s.params id inst v }

/-- The state with a signed parameter's value in force set. -/
def State.setParI (s : State) (id inst : Nat) (v : Int) : State := s.setPar id inst (wrapTo 32 v)

/-- The shadow-bank value of a RW-SHADOW parameter instance. -/
def State.shadowPar (s : State) (id : Nat) (inst : Nat := 0) : Nat := bankGet s.shadow id inst

/-- The state with a shadow-bank value set. -/
def State.setShadow (s : State) (id inst v : Nat) : State := { s with shadow := bankSet s.shadow id inst v }

/-- The value a RW-LIVE parameter instance was last given, in force or not (R377). -/
def State.lastPar (s : State) (id : Nat) (inst : Nat := 0) : Nat :=
  match s.pend.find? (fun e => e.1 == paramKey id inst) with
  | some e => e.2.toNat
  | none => s.par id inst

/-- A RW-LIVE value accepted for the block's next sample boundary; the last one accepted decides (R376). -/
def State.acceptLive (s : State) (id inst v : Nat) : State :=
  { s with pend := tblInsert (tblErase s.pend (paramKey id inst)) (paramKey id inst) (BitVec.ofNat 32 v) }

/-- A 32-bit counter raised by `n`; counters saturate at 0xFFFF_FFFF. -/
def State.bump (s : State) (id : Nat) (inst : Nat := 0) (n : Nat := 1) : State :=
  s.setPar id inst (satAdd (s.par id inst) n)

/-- Several parameter instances set to 0. -/
def State.clearPars (s : State) (ps : List (Nat × Nat)) : State :=
  ps.foldl (fun s p => s.setPar p.1 p.2 0) s

/-- One bit of a sticky or event parameter set. -/
def State.setBit (s : State) (id inst bit : Nat) : State := s.setPar id inst (Sys2Proof.setBit (s.par id inst) bit)

/-! ### Fault blocks -/

namespace Fb
/-- Fault block numbers (Table 16.1). -/
def cell (n : Nat) : Nat := n
def cmp (n : Nat) : Nat := 0x40 + n
def timer (n : Nat) : Nat := 0x80 + n
def lane (n : Nat) : Nat := 0xC0 + n
def sar (g : Nat) : Nat := 0xE0 + g
def ic (i : Nat) : Nat := 0xE4 + i
def fabric : Nat := 0xEC
def wheel : Nat := 0xED
def kiln : Nat := 0xEE
def cal : Nat := 0xEF
def grist : Nat := 0xF0
def streams : Nat := 0xF1
def ports : Nat := 0xF2
def sync : Nat := 0xF3
def hopper : Nat := 0xF4
def supply : Nat := 0xF5
def faults : Nat := 0xF6
def test : Nat := 0xF7
end Fb

/-- The fault block that owns a parameter instance; 0xFF for the shared ones that only a device reset resets (R154, R177,
R215). -/
def ownerOf (id inst : Nat) : Nat :=
  if id < 0x040 then Fb.ports
  else if id < 0x0C0 then Fb.wheel
  else if id < 0x140 then Fb.cell inst
  else if id < 0x180 then Fb.cmp inst
  else if id < 0x200 then
    if id = P.SAR_LIST ∨ id = P.SAR_PACE then Fb.sar (inst / 16)
    else if P.SAR_G0SCAN ≤ id ∧ id ≤ P.SAR_G3SCAN then Fb.sar (id - P.SAR_G0SCAN)
    else if id = P.SAR_SLICE then Fb.sar (inst / 5)
    else if id = P.SAR_XCCNT ∨ id = P.SAR_XCMISS then Fb.sar 0
    else if id = P.SAR_XCSEL ∨ id = P.SAR_XCTOL ∨ id = P.SAR_XCWIN ∨ (P.SAR_SYSFS ≤ id ∧ id ≤ P.SAR_SYSOFS) then 0xFF
    else Fb.sar inst
  else if id < 0x240 then
    if id = P.IC_SRC then Fb.ic (inst / 4)
    else if id = P.IC_REFEN ∨ id = P.IC_MNOM ∨ id = P.IC_MAVG then 0xFF
    else Fb.ic inst
  else if id < 0x2C0 then
    if id = P.FL_SCOFS ∨ id = P.FL_SCGAIN then Fb.lane (inst / 2)
    else if P.FL_CU0 ≤ id ∧ id ≤ P.FL_CU3 then 0xFF
    else Fb.lane inst
  else if id < 0x2D0 then Fb.fabric
  else if id < 0x300 then Fb.timer inst
  else if id < 0x340 then Fb.kiln
  else if id < 0x380 then Fb.cal
  else if id < 0x3C0 then Fb.grist
  else if id < 0x400 then Fb.ports
  else if id < 0x440 then Fb.streams
  else if id < 0x4C0 then Fb.faults
  else if id < 0x500 then Fb.sync
  else Fb.test

/-- The block takes every RW-LIVE value accepted for it: its sample boundary (R376). -/
def State.takeLive (s : State) (b : Nat) : State :=
  let mine := s.pend.filter (fun e => ownerOf (e.1 / 256) (e.1 % 256) == b)
  if mine.isEmpty then s else
    { s with
      pend := s.pend.filter (fun e => !(ownerOf (e.1 / 256) (e.1 % 256) == b))
      params := mine.foldl (fun p e => bankSet p (e.1 / 256) (e.1 % 256) e.2.toNat) s.params }

/-- The state parameter R647 names for a fault block, as the address [11:0] ID, [19:12] instance of Table 16.4. -/
def stateAddr (b inst : Nat) : Nat :=
  let enc := fun (id i : Nat) => id + i * 4096
  if b < 0x40 then enc P.AC_STATE b
  else if b < 0x80 then enc P.CMP_STATE (b - 0x40)
  else if b < 0xC0 then enc P.TM_STATE (b - 0x80)
  else if b < 0xE0 then enc P.FL_STATE (b - 0xC0)
  else if b < 0xE4 then enc P.SAR_STATE (b - 0xE0)
  else if b < 0xEC then enc P.IC_STATE (b - 0xE4)
  else if b = Fb.fabric then enc P.FAB_STATE 0
  else if b = Fb.wheel then enc P.WH_STATE 0
  else if b = Fb.kiln then enc P.KL_STATE 0
  else if b = Fb.cal then enc P.CAL_STATE 0
  else if b = Fb.grist then enc P.GR_STATE 0
  else if b = Fb.streams then enc P.ST_STATE inst
  else if b = Fb.ports then enc P.HP_PSTATUS inst
  else if b = Fb.sync then enc P.SL_STATE 0
  else if b = Fb.faults then enc P.FLT_STATE 0
  else if b = Fb.test then enc P.TST_STATE 0
  else enc P.HP_DEVSTATE 0

/-! ### Records that detectors ask for -/

/-- The fault state beside a block. -/
def State.fb (s : State) (b : Nat) : FaultBlock := tblGet {} s.flt.blocks b

/-- The state with a block's fault state set. -/
def State.setFb (s : State) (b : Nat) (f : FaultBlock) : State :=
  { s with flt := { s.flt with blocks := tblSet {} s.flt.blocks b f } }

/-- Ask for a record (R471); the fault logic makes it at the end of the edge, in the order of R486. -/
def State.ask (s : State) (r : Raise) : State := { s with todo := s.todo ++ [r] }

/-- Ask for a record of a condition of the block itself (Table 16.5, last row). -/
def State.raise (s : State) (b d k : Nat) (value : Nat := 0) (inst : Nat := 0) : State :=
  s.ask { blk := b, det := d, cls := k, addr := stateAddr b inst, value := value, inst := inst }

/-- Whether an episode of a detector is open (R466). -/
def State.episodeOpen (s : State) (b d : Nat) : Bool := (s.fb b).episodes.any (fun e => e.det == d)

/-- Ask for a record at the start of an episode; a condition that persists records once (R466). -/
def State.askEpisode (s : State) (r : Raise) : State :=
  if s.episodeOpen r.blk r.det then s
  else
    let f := s.fb r.blk
    (s.setFb r.blk { f with episodes := f.episodes ++ [{ det := r.det, cls := r.cls, value := r.value }] }).ask r

/-- `raise` at the start of an episode. -/
def State.raiseEpisode (s : State) (b d k : Nat) (value : Nat := 0) (inst : Nat := 0) : State :=
  s.askEpisode { blk := b, det := d, cls := k, addr := stateAddr b inst, value := value, inst := inst }

/-- The episode of a detector ends (R466). -/
def State.endEpisode (s : State) (b d : Nat) : State :=
  let f := s.fb b
  if s.episodeOpen b d then s.setFb b { f with episodes := f.episodes.filter (fun e => !(e.det == d)) } else s

/-- A degraded form tied to the acknowledgement of class B is in force (R475). -/
def State.isDegraded (s : State) (b d : Nat) : Bool := (s.fb b).degraded.contains d

/-- The block has an unacknowledged class C fault, so its RESUME is refused (R470). -/
def State.pendingC (s : State) (b : Nat) : Bool := (s.fb b).pendC

/-- A transition of a block opens its masking window, which closes `FLT_MASKT` after the transition is complete (R488).
This is a transition that completes at once. -/
def State.openWindow (s : State) (b : Nat) : State :=
  if b = Fb.supply then s else
    let f := s.fb b
    let linked := match f.window with
      | .closed => []
      | .opened l => l
      | .closing _ l => l
    s.setFb b { f with window := .closing (s.t + usTicks (s.par P.FLT_MASKT)) linked }

/-- A transition of a block that lasts opens its masking window (R488). -/
def State.holdWindow (s : State) (b : Nat) : State :=
  if b = Fb.supply then s else
    let f := s.fb b
    let linked := match f.window with
      | .closed => []
      | .opened l => l
      | .closing _ l => l
    s.setFb b { f with window := .opened linked }

/-- A selector of a converter connects to a cell: the converter becomes a dependant of the cell's open window (R488). -/
def State.linkWindow (s : State) (cell conv : Nat) : State :=
  let f := s.fb cell
  match f.window with
  | .closed => s
  | .opened l => if l.contains conv then s else s.setFb cell { f with window := .opened (l ++ [conv]) }
  | .closing t l => if l.contains conv then s else s.setFb cell { f with window := .closing t (l ++ [conv]) }

/-! ### Trace -/

/-- A trace event of this edge (R594). -/
def State.trace (s : State) (typ info : Nat) (ext : Option (List Byte) := none) : State :=
  { s with trcPend := s.trcPend ++ [{ typ := typ, info := info, ext := ext }] }

/-! ### Answers of the command layer -/

namespace Status
/-- Status codes of Table 12.6. -/
def ok : Nat := 0x00
def acceptedPending : Nat := 0x01
def badOpcode : Nat := 0x10
def badLength : Nat := 0x11
def badCheck : Nat := 0x12
def badTarget : Nat := 0x13
def outOfRange : Nat := 0x14
def sequenceGap : Nat := 0x15
def busyLocked : Nat := 0x20
def noBuffer : Nat := 0x21
def budgetDeferred : Nat := 0x22
def abortedByReset : Nat := 0x23
def notOwner : Nat := 0x24
def faultState : Nat := 0x30
def notPermitted : Nat := 0x31
def authFailed : Nat := 0x32
def contractMismatch : Nat := 0x3E
def timeout : Nat := 0x3F
end Status

/-- The state with the answer of a command recorded. -/
def State.answer (s : State) (status : Nat) (detail : Nat := 0) (data : List Byte := []) : State :=
  { s with result := { status := status, detail := detail, data := data } }

/-- The command answered OK. -/
def State.done (s : State) (data : List Byte := []) : State := s.answer Status.ok 0 data

/-- A fresh number, for a free value taken once. -/
def State.nextFresh (s : State) : State := { s with fresh := s.fresh + 1 }

/-! ### Instances -/

/-- Cell `n`. -/
def State.cell (s : State) (n : Nat) : Cell := tblGet {} s.cells n

/-- The state with cell `n` set. -/
def State.setCell (s : State) (n : Nat) (c : Cell) : State := { s with cells := tblSet {} s.cells n c }

/-- Mailbox `n`. -/
def State.mbox (s : State) (n : Nat) : Mailbox := tblGet {} s.mboxes n

/-- The state with mailbox `n` set. -/
def State.setMbox (s : State) (n : Nat) (m : Mailbox) : State := { s with mboxes := tblSet {} s.mboxes n m }

/-- Stream ring `n`. -/
def State.ring (s : State) (n : Nat) : Ring := tblGet {} s.rings n

/-- The state with ring `n` set. -/
def State.setRing (s : State) (n : Nat) (r : Ring) : State := { s with rings := tblSet {} s.rings n r }

/-- Lane `n`. -/
def State.lane (s : State) (n : Nat) : Lane := tblGet {} s.lanes n

/-- The state with lane `n` set. -/
def State.setLane (s : State) (n : Nat) (l : Lane) : State := { s with lanes := tblSet {} s.lanes n l }

/-- SAR group `g`. -/
def State.group (s : State) (g : Nat) : Group := tblGet {} s.groups g

/-- The state with group `g` set. -/
def State.setGroup (s : State) (g : Nat) (x : Group) : State := { s with groups := tblSet {} s.groups g x }

/-- Integrating converter `i`. -/
def State.ic (s : State) (i : Nat) : IntConv := tblGet {} s.ics i

/-- The state with converter `i` set. -/
def State.setIc (s : State) (i : Nat) (c : IntConv) : State := { s with ics := tblSet {} s.ics i c }

/-- Comparator `n`. -/
def State.cmp (s : State) (n : Nat) : Comparator := tblGet {} s.cmps n

/-- The state with comparator `n` set. -/
def State.setCmp (s : State) (n : Nat) (c : Comparator) : State := { s with cmps := tblSet {} s.cmps n c }

/-- The session of a port, 1–4 for S1, S2, U, E. -/
def State.session (s : State) (port : Nat) : Session := tblGet {} s.sessions port

/-- The state with a port's session set. -/
def State.setSession (s : State) (port : Nat) (x : Session) : State := { s with sessions := tblSet {} s.sessions port x }

/-- The status preamble of a reply payload: status, detail and a reserved byte (R361). -/
def preamble (status detail : Nat) : List Byte := leBytes 1 status ++ leBytes 1 0 ++ leBytes 2 detail

/-- A pending command of a port completes: its slot is freed and its one FINAL completion reply is sent (R355). -/
def State.complete (s : State) (port seq status : Nat) (data : List Byte := []) (detail : Nat := 0) : State :=
  let x := s.session port
  match x.slots.find? (fun p => p.seq == seq) with
  | none => s
  | some p =>
    let r : Reply := { code := p.code, opcode := p.opcode, flags := 0x05, seq := p.seq % 65536, target := p.target,
                       payload := preamble status detail ++ data, dest := p.dest }
    let s := s.setSession port { x with
      slots := x.slots.filter (fun q => !(q.seq == seq))
      ready := if p.noReply || (p.quiet && status == Status.ok) then x.ready
        else x.ready ++ [if p.quiet then { r with flags := 0x07 } else r]
      cache := x.cache.map (fun a => if a.seq == p.seq && a.opcode == p.opcode then { a with reply := r } else a) }
    if status = Status.timeout then s.bump P.HP_TOCNT (port - 1) else s

/-- Every pending command of an opcode and target, on any port, completes with one status (R577). -/
def State.completeAll (s : State) (opcode target status : Nat) : State :=
  [1, 2, 3, 4].foldl (fun s port =>
    ((s.session port).slots.filter (fun p => p.opcode == opcode && p.target == target)).foldl
      (fun s p => s.complete port p.seq status) s) s

/-- DFR for a job's result (R262): owed after a deferral, and paid once. -/
def State.takeDfr (s : State) (job : Nat) : Bool × State :=
  if s.kiln.dfrOwed.contains job then
    (true, { s with kiln := { s.kiln with dfrOwed := s.kiln.dfrOwed.filter (fun j => !(j == job)) } })
  else (false, s)

/-! ### Blocks, banks and common conditions -/

/-- The device is out of reset and not in Halt: blocks act (R481, R570). -/
def State.alive (s : State) : Bool := s.pwr.phase == .running && !s.flt.halted

/-- The block with this fault block number is being reset (R569). -/
def State.resetting (s : State) (b : Nat) : Bool := decide (s.t < tblGet 0 s.pwr.blockReset b)

/-- The block code of Table 11.1 that owns a RW-SHADOW parameter instance (R310). -/
def bankCode (id inst : Nat) : Nat :=
  let b := ownerOf id inst
  if id = P.SAR_XCSEL then 0x80
  else if b < 0x80 then b
  else if b < 0xC0 then 0xC0
  else if b < 0xE0 then 0xA0 + (b - 0xC0)
  else if b < 0xE4 then 0x80 + (b - 0xE0)
  else if b < 0xEC then 0x88 + (b - 0xE4)
  else if b = Fb.fabric then 0xC0
  else if b = Fb.kiln then 0xC1
  else if b = Fb.cal then 0xC2
  else if b = Fb.streams then 0xC3
  else 0xC4

/-- Whether the parameter with this key is RW-SHADOW and belongs to the block of the code. -/
def bankedKey (code key : Nat) : Bool :=
  match paramDef? (key / 256) with
  | some d => d.attr == .rwShadow && bankCode (key / 256) (key % 256) == code
  | none => false

/-- The two banks of one block exchanged (R312). -/
def State.exchangeBanks (s : State) (code : Nat) : State :=
  { s with
    params := tblUnion (tblKeep (fun k => !bankedKey code k) s.params) (tblKeep (bankedKey code) s.shadow)
    shadow := tblUnion (tblKeep (fun k => !bankedKey code k) s.shadow) (tblKeep (bankedKey code) s.params) }

/-- A block's live bank copied into its shadow bank (R314, R318, R329). -/
def State.copyLiveToShadow (s : State) (code : Nat) : State :=
  { s with shadow := tblUnion (tblKeep (fun k => !bankedKey code k) s.shadow) (tblKeep (bankedKey code) s.params) }

/-- A block's live bank becomes its shadow bank, planes included, and the block is no longer pending (R311). -/
def State.restoreShadow (s : State) (code : Nat) : State :=
  let s := s.copyLiveToShadow code
  let s := if code = 0xC0 then { s with fab := { s.fab with shadow := s.fab.live } } else s
  { s with grist := { s.grist with pend := s.grist.pend.filter (fun c => !(c == code)) } }

/-- A block whose swap waited for its boundary has swapped (R312); after a swap that the host posted, the new live bank is
copied into the shadow bank (R314). -/
def State.swapTaken (s : State) (code : Nat) : State :=
  let host := tblGet 0 s.grist.waiting code == 2
  let s := { s with grist := { s.grist with waiting := tblErase s.grist.waiting code } }
  if host then s.restoreShadow code else s

/-- Every parameter of a fault block at its reset value, in both banks, and no write waiting (R390). -/
def State.resetParams (s : State) (b : Nat) : State :=
  let keep := fun (k : Nat) => !(ownerOf (k / 256) (k % 256) == b)
  { s with
    params := tblKeep keep s.params
    shadow := tblKeep keep s.shadow
    pend := tblKeep keep s.pend }

/-- The coefficient pair an item has from the factory (R646); unity where its OTP word was uncorrectable (R581). -/
def State.factoryPair (s : State) (kind idx : Nat) : CoefPair :=
  if s.pwr.otpBadPairs.contains (kind * 1024 + idx) then { temp := 2500 }
  else { g := Config.factoryGain kind idx, o := Config.factoryOffset kind idx, temp := 2500 }

/-- The coefficient pair in force of an item (R282). -/
def State.coef (s : State) (kind idx : Nat) : CoefPair :=
  match s.coefs.find? (fun e => e.1 == kind * 1024 + idx) with
  | some e => e.2
  | none => s.factoryPair kind idx

/-- A wake request from a source of Table 9.6 (R268): it starts the exit from HIBERNATE where the source is enabled;
of the sources of the exit's first TCLK period the lowest is kept, and later requests are ignored. -/
def State.requestWake (s : State) (src : Nat) : State :=
  if s.kiln.state = .hibernate ∧ bitOf (s.par P.KL_WAKESRC) src = true then
    match s.kiln.wake with
    | none =>
      let s := { s with kiln := { s.kiln with wake := some src, wakeAt := s.t } }
      let s := s.setPar P.KL_LASTWAKE 0 src
      s.trace 0x02 src (some (leBytes 5 s.eng.hwm.toNat ++ List.replicate 9 0))
    | some w =>
      if s.kiln.wakeAt = s.t ∧ src < w then
        { s with kiln := { s.kiln with wake := some src } }.setPar P.KL_LASTWAKE 0 src
      else s
  else s

/-- Cell `n` is in SETTLING, or its readback settles (R69), or it is being reset (R579). -/
def State.cellSettling (s : State) (n : Nat) : Bool :=
  let c := s.cell n
  c.state == .settling || (c.state == .active && c.settleEnd.isSome) || s.resetting (Fb.cell n)

/-- Comparator `n` is not enabled: DISABLED or SAFE, the two states that do not sample (Table 4.2, R293; DEDUCED, log entry
128). -/
def State.cmpIdle (s : State) (n : Nat) : Bool := (s.cmp n).state == .disabled || (s.cmp n).state == .safe

/-- A conversion of cell `n` that begins now delivers a repeated sample: SETTLING, GATED, a reset, an injection with
its recovery, or a cell that boundary scan isolates (R70, R83, R292, R579, R586). -/
def State.cellStale (s : State) (n : Nat) : Bool :=
  s.cellSettling n || (s.cell n).state == .gated || s.cal.injected == some n || decide (s.t < tblGet 0 s.cal.recovering n)
    || s.tst.isolated

/-- Cell `n` carries a sin/cos source while it is selected (R20, R31). -/
def State.carriesSinCos (s : State) (n : Nat) : Bool :=
  s.par P.WH_SRC == 2 && (n == s.par P.WH_SCCELL || n == s.par P.WH_SCCELL + 1)

/-- The device is a pair's STANDBY (R517). -/
def State.isStandby (s : State) : Bool := s.par P.SL_ROLE == 3 && s.par P.SL_ENABLE == 1

/-- The mode of a cell in an input mode: IN-SE, IN-DIFF, IN-HV or IN-BRIDGE (Table 3.1). -/
def isInputMode (m : Nat) : Bool := decide (1 ≤ m) && decide (m ≤ 4)

/-- OUT-V or OUT-I. -/
def isOutputMode (m : Nat) : Bool := m == 5 || m == 6

/-- EXC-V or EXC-I. -/
def isExciteMode (m : Nat) : Bool := m == 7 || m == 8

/-- Whether the cell's sample format is signed (Table 3.1): IN-DIFF, IN-HV, IN-BRIDGE, OUT-V and EXC-I. -/
def isSignedMode (m : Nat) : Bool := m == 2 || m == 3 || m == 4 || m == 5 || m == 8

end Sys2Proof.Machine
end

