-- ==== Sys2Proof/Machine/Analogue.lean ====
section
/-! DEFINITION. The analogue path of a cell: what its balls carry, its gain, its filter, and the code of an ideal converter
(Tables 3.1 and 5.4, R61, R65–R68, R71, R72, R87, R88, R92, R98). Voltages are in nV, currents in nA. What the outside world
adds, and a converter's own error, come with the row that samples. -/

namespace Sys2Proof.Machine

/-! ### What the cells drive -/

/-- What the driver of cell `n` delivers: nothing outside running, in a standby device (R517), while boundary scan isolates
the cells (R586), or in SAFE without AVPOS or AVNEG (R90). -/
def State.cellDrive (s : State) (n : Nat) : Drive :=
  let m := s.par P.AC_MODE n
  if s.pwr.phase ≠ .running ∨ s.tst.isolated = true then .off
  else if s.isStandby = true ∧ (isOutputMode m || isExciteMode m) = true then .off
  else if (s.cell n).state = .safe ∧ (s.pwr.avpos && s.pwr.avneg) = false then .off
  else (s.cell n).drive

/-- The output voltage of OUT-V at code `c`, in units of 2^−16 nV (R72). -/
def outVolts (c : Nat) : Int := 20000000000 * (c : Int) - 655360000000000

/-- The code that the current driver follows: codes above 60,000 drive 24 mA (R72). -/
def currentCode (c : Nat) : Nat := min c 60000

/-- The code that the driver of output cell `n` follows: the code in force (R72). -/
def State.drivenCode (s : State) (n : Nat) : Nat :=
  let c := (s.cell n).code.toNat
  if s.par P.AC_MODE n = 6 then currentCode c else c

/-- The output current of OUT-I at code `c` (R72). -/
def outCurrent (c : Nat) : Int := 400 * (currentCode c : Int)

/-- The compliance of EXC-I in nV (R71). -/
def excCompliance : Int := 4500000000

/-- The limit within which the driver of cell `n` works, in nA in EXC-V and in nV in EXC-I (R71); reaching it is EXCFLT. -/
def State.driverLimit (s : State) (n : Nat) : Option Int :=
  let m := s.par P.AC_MODE n
  if s.cellDrive n = .off then none
  else if m = 7 then some 30000000
  else if m = 8 then some excCompliance
  else none

/-- The burnout source of cell `n` is on: `AC_BURNOUT` in IN-DIFF and IN-BRIDGE (R68). -/
def State.burnoutOn (s : State) (n : Nat) : Bool :=
  s.par P.AC_BURNOUT n == 1 && (s.par P.AC_MODE n == 2 || s.par P.AC_MODE n == 4)

/-- What the driver of cell `n` drives, in units of 2^−16 nV or nA: a voltage in OUT-V and EXC-V, a current in OUT-I; 0 where
it drives neither (R71, R72). -/
def State.driven (s : State) (n : Nat) : Int :=
  let m := s.par P.AC_MODE n
  if s.cellDrive n = .off then 0
  else if m = 5 then outVolts (s.cell n).code.toNat
  else if m = 6 then 65536 * outCurrent (s.cell n).code.toNat
  else if m = 7 then 65536 * (1000000 * (s.par P.AC_EXCV n : Int))
  else 0

/-- The PGIA gain with its fine trim (R65). -/
def State.pgiaGain (s : State) (n : Nat) : Frac :=
  ⟨2 ^ s.par P.AC_GAIN n * (51200 + 3 * s.parI P.AC_TRIM n), 51200⟩

/-- The front end of cell `n` as it stands (R61, R65). -/
def State.front (s : State) (n : Nat) : Front :=
  { mode := s.par P.AC_MODE n, gain := s.pgiaGain n, driven := ⟨s.driven n, 65536⟩
    limited := s.par P.AC_MODE n == 8 && s.cellDrive n != .off }

/-- Samples of cell `n` carry SAT while OVR's episode lasts, and from OPENIN until it is acknowledged (Table 3.6). -/
def State.cellSaturated (s : State) (n : Nat) : Bool := s.episodeOpen (Fb.cell n) 0 || s.isDegraded (Fb.cell n) 2

/-- The signal of a cell: in an input mode the voltage `x` between its balls. In OUT-V and EXC-V, while the cell drives,
`x` is how far the load pulls the voltage away from the driven one; in OUT-I how far the loop current lies from the driven
one. In EXC-I `x` is the voltage that the load takes, which the compliance limits. A driver that is off leaves `x` itself,
and an OFF cell its AGND clamp (Table 3.1, R71, R72, R88). -/
def Front.signal (f : Front) (x : Int) : Frac :=
  if f.mode = 0 then ⟨0, 1⟩
  else if f.limited then ⟨min x excCompliance, 1⟩
  else fracAdd f.driven ⟨x, 1⟩

/-! ### From the balls to the converters -/

/-- What stands between the signal of a cell and its PGIA: the 1:4 attenuator of IN-HV (Table 3.1), and the scales of the
readbacks (R71, R87), with OUT-I's loop current across 100 Ω. -/
def pathScale (mode : Nat) : Frac :=
  if mode = 3 ∨ mode = 5 then ⟨1, 4⟩
  else if mode = 6 then ⟨100, 1⟩
  else if mode = 7 then ⟨1, 2⟩
  else ⟨1, 1⟩

/-- The PGIA output of a cell (Table 3.1, R65). -/
def Front.out (f : Front) (x : Int) : Frac :=
  let v := f.signal x
  let p := pathScale f.mode
  ⟨v.num * p.num * f.gain.num, v.den * p.den * f.gain.den⟩

/-- The converter full scale CFS, 4.096 V (R61). -/
def cfs : Nat := 4096000000

/-- Where a voltage lies against the converter span, 0 to CFS or ±CFS (Table 3.1): within it, above or below. -/
inductive SpanPlace where
  | within | above | below
deriving DecidableEq, Repr

def spanPlace (signed : Bool) (v : Frac) : SpanPlace :=
  if (cfs : Int) * v.den < v.num then .above
  else if v.num < (if signed then -(cfs : Int) * v.den else 0) then .below
  else .within

/-- The code of `bits` bits that a converter with error `err` gives a voltage: from 0 at the span's lower end (R132,
R167). -/
def adcCode (bits : Nat) (signed : Bool) (v : Frac) (err : Int) : Nat :=
  let span := if signed then 2 * cfs else cfs
  let zero : Int := if signed then 2 ^ (bits - 1) else 0
  (clampInt 0 (2 ^ bits - 1) (fracFloor (fracDiv (fracMul v (2 ^ bits)) span) + zero + err)).toNat

/-- The data of a sample whose PGIA output lies at a place against the span: `c` within it, else the nearest end (R92). -/
def spanEnd (lo hi c : Int) : SpanPlace → Int
  | .within => c
  | .above => hi
  | .below => lo

/-- The scaling of a diagnostic source (Table 5.4). -/
def diagScale (code : Nat) : Frac :=
  if code = 3 ∨ code = 4 ∨ code = 5 ∨ code = 0x0A ∨ code = 0x0B then ⟨1, 2⟩
  else if code = 6 then ⟨1, 8⟩
  else if code = 7 then ⟨-1, 8⟩
  else ⟨1, 1⟩

/-! ### The comparator tap (R67, R98) -/

/-- The voltage at the comparator tap of cell `n`: before or after the anti-alias filter (R67). -/
def State.tapVolts (s : State) (n : Nat) (x : TapSample) : Frac :=
  (s.front n).out (if s.par P.AC_CMPTAP n = 1 then x.filtered else x.direct)

/-- Where threshold code `t` places a threshold at the tap (R98). -/
def thrVolts (signed : Bool) (t : Nat) : Int :=
  if signed then 2000000 * ((t : Int) - 2048) else 1000000 * (t : Int)

/-- The tap of cell `n` lies above threshold code `t`: the raw bit of an analogue comparator (R98). -/
def State.tapAbove (s : State) (n : Nat) (x : TapSample) (t : Nat) : Bool :=
  let v := s.tapVolts n x
  decide (thrVolts (isSignedMode (s.par P.AC_MODE n)) t * v.den < v.num)

end Sys2Proof.Machine
end

