-- ==== Sys2Proof/Machine/Comparators.lean ====
section
/-! DEFINITION. Window comparators and the reflex path (R97–R117). -/

namespace Sys2Proof.Machine

/-- The value held by the majority of the samples (R102). -/
def majority (h : List Bool) : Bool := decide (h.length < 2 * (h.filter id).length)

/-- The mode logic's output before polarity (R104), from the filtered bits, their previous values and the held output.
`fresh` forms it from a filter that has just been loaded: HYSTERESIS then goes by the bits' levels, and between the
thresholds keeps the output it held (DESIGN CHOICE, log entry 110). -/
def modeLogic (mode : Nat) (fresh u' l' uPrev lPrev held : Bool) : Bool :=
  if mode = 0 then u'
  else if mode = 1 then l' && !u'
  else if fresh then (if u' then true else if l' then held else false)
  else if u' != uPrev && l' != lPrev then u'
  else if u' != uPrev && u' then true
  else if l' != lPrev && !l' then false
  else held

/-- One raw sample enters both filters (R102); a pending reload fills every position with it (R105, R108, R114). -/
def Comparator.push (c : Comparator) (len mode : Nat) (inv u l : Bool) : Comparator :=
  let hu := if c.reload then List.replicate len u else (u :: c.histU).take len
  let hl := if c.reload then List.replicate len l else (l :: c.histL).take len
  let u' := majority hu
  let l' := majority hl
  let o := modeLogic mode c.reload u' l' c.upper c.lower c.hyst
  { c with
    histU := hu, histL := hl, upper := u', lower := l', hyst := o
    filtered := o != inv
    reload := false, freeze := false }

/-- The blanking of R100 lasts. -/
def Comparator.blanked (c : Comparator) (t : Nat) : Bool := c.blankEnd.any (fun e => decide (t < e))

/-- The sample that the synchroniser gives the filters at the next edge: the one taken three edges before it. -/
def Comparator.passed (c : Comparator) : Option (Bool × Bool) := (c.pipe.drop 2).head?

/-- What the filters are fed with at a sampling edge: in HELD and under blanking the last raw sample taken before (R100,
R108), else what has passed the synchroniser. A pending reload waits for a sample of its own (DEDUCED, log entry 111). -/
def Comparator.feed (c : Comparator) (t : Nat) : Option (Bool × Bool) :=
  if c.state = .held then (if c.reload then none else c.heldRaw)
  else if c.blanked t then (if c.reload then none else c.blankRaw)
  else c.passed

/-- Sample (`u`, `l`) enters the filters under the settings of comparator `n`: length, mode and polarity. -/
def State.cmpPush (s : State) (n : Nat) (u l : Bool) : State :=
  s.setCmp n ((s.cmp n).push (s.par P.CMP_MAJ n) (s.par P.CMP_MODE n) (s.par P.CMP_POL n == 1) u l)

/-- An event's urgent request (R112): at most one is held; a further one is lost. -/
def State.cmpUrgent (s : State) (n : Nat) : State :=
  let c := s.cmp n
  if s.par P.CMP_URGEN n = 1 then
    if c.urgent then
      let s := s.bump P.CMP_URGLOST n
      if c.urgLost then s else (s.setCmp n { c with urgLost := true }).raise (Fb.cmp n) 1 1
    else s.setCmp n { c with urgent := true }
  else s

/-- An event of comparator `n` (R110–R112). -/
def State.cmpEvent (s : State) (n : Nat) : State :=
  let s := s.setBit P.CMP_EVENT n 0
  let s := if s.par P.CMP_WAKEEN n = 1 then s.requestWake 0 else s
  s.cmpUrgent n

/-- CHATTER (Table 4.5): more delivered edges than `CMP_CHATLIM` within 1 ms. -/
def State.cmpChatter (s : State) (n : Nat) : State :=
  let c := s.cmp n
  let recent := (s.t :: c.edges).filter (fun e => decide (s.t < e + msTicks 1))
  let s := s.setCmp n { c with edges := recent }
  let lim := s.par P.CMP_CHATLIM n
  if lim ≠ 0 ∧ lim < recent.length then s.raiseEpisode (Fb.cmp n) 2 1 else s.endEpisode (Fb.cmp n) 2

/-- Timer `n`. -/
def State.timer (s : State) (n : Nat) : Timer := tblGet {} s.timers n

/-- The state with timer `n` set. -/
def State.setTimer (s : State) (n : Nat) (x : Timer) : State := { s with timers := tblSet {} s.timers n x }

/-- The timers stand still in HIBERNATE (R239, R267). -/
def State.timersStop (s : State) : Bool := s.kiln.state == .hibernate || s.fab.state == .sleep

/-- A capture of timer `n` now: its record has still to be made (R230). -/
def State.tmNote (s : State) (n kind : Nat) : State :=
  let x := s.timer n
  s.setTimer n { x with
    due := x.due ++ [{ kind := kind, seq := 0, count := x.cnt, angle := s.angleStamp, time := s.t }] }

/-- An edge of source `src` of timer `n`'s capture input: CMP*n* for 0, TMCAP[*n*] for 1 (R229). -/
def State.tmInput (s : State) (n src : Nat) (rising : Bool) : State :=
  let e := s.par P.TM_EDGE n
  let selected := e == 2 || (e == 0 && rising) || (e == 1 && !rising)
  if (s.timer n).state = .run ∧ s.timersStop = false ∧ s.par P.TM_MODE n = 1 ∧ s.par P.TM_CAPSRC n = src ∧ selected then
    s.tmNote n (if rising then 0 else 1)
  else s

/-- The delivered output of comparator `n` changes to `level`, which its timer sees at this edge (R109, R116). -/
def State.cmpWire (s : State) (n : Nat) (level : Bool) : State :=
  (s.setCmp n { s.cmp n with delivered := level }).tmInput n 0 level

/-- The delivered output changes to `level`: a delivered edge (R109). -/
def State.cmpEdge (s : State) (n : Nat) (level : Bool) : State :=
  let s := s.cmpWire n level
  let s := s.bump P.CMP_EDGECNT n
  let e := s.par P.CMP_EDGE n
  let s := if e = 2 ∨ (e = 0 ∧ level = true) ∨ (e = 1 ∧ level = false) then s.cmpEvent n else s
  s.cmpChatter n

/-- What consumers of comparator `n` should receive (Table 4.2). -/
def State.cmpTarget (s : State) (n : Nat) : Bool :=
  let c := s.cmp n
  match c.state with
  | .armed => if c.freeze then c.delivered else c.filtered
  | .held => c.delivered
  | _ => s.par P.CMP_DISVAL n == 1

/-- The delivered output takes its target; a change is a delivered edge (R107, R109). -/
def State.cmpDeliver (s : State) (n : Nat) : State :=
  let v := s.cmpTarget n
  if (s.cmp n).delivered = v then s else s.cmpEdge n v

/-- The comparator takes the coefficients of its threshold DACs, as at a threshold load, an arm or its swap (R100). -/
def State.cmpTakeCoefs (s : State) (n : Nat) : State :=
  s.setCmp n { s.cmp n with coefL := s.coef 4 (2 * n), coefU := s.coef 4 (2 * n + 1) }

/-- The DAC value of a threshold of comparator `n`, under the coefficients that the comparator uses (R98, R283). -/
def State.thrDac (s : State) (n : Nat) (upper : Bool) : Nat :=
  let v := s.par P.CMP_THR n
  let c := s.cmp n
  let p := if upper then c.coefU else c.coefL
  let t := if upper then bitsOf v 16 12 else bitsOf v 0 12
  let q := fracAdd (fracDiv (fracMul ⟨p.g, 1⟩ t) (2 ^ 30)) ⟨p.o, 16⟩
  (clampInt 0 4095 (roundHalfAway q.num q.den)).toNat

/-- A threshold load at a sampling edge: both thresholds together, then 100 ns of blanking (R97, R100). -/
def State.cmpLoadThr (s : State) (n w : Nat) : State :=
  let s := (s.setPar P.CMP_THR n w).cmpTakeCoefs n
  s.setCmp n { s.cmp n with blankEnd := some (s.t + 10), blankRaw := (s.cmp n).pipe.head? }

/-- THL above THH, which WINDOW and HYSTERESIS refuse (R99). -/
def thrOutOfOrder (mode w : Nat) : Bool := decide (mode ≠ 0) && decide (bitsOf w 16 12 < bitsOf w 0 12)

/-- The cell of comparator `n` enters SETTLING, or its readback does: HELD where `CMP_HOLDSET` is 1 (Table 4.3), with the
last raw sample taken before (R108). -/
def State.cmpHold (s : State) (n : Nat) : State :=
  let c := s.cmp n
  if s.par P.CMP_HOLDSET n = 1 then
    match c.state with
    | .armed => s.setCmp n { c with state := .held, heldArmed := true, heldRaw := c.pipe.head? }
    | .disarmed => s.setCmp n { c with state := .held, heldArmed := false, heldRaw := c.pipe.head? }
    | _ => s
  else s

/-- A comparator that starts to run while its cell already settles enters HELD at once, though Table 4.3 names only the
cell's entry into SETTLING (DESIGN CHOICE, log entry 112). -/
def State.cmpHoldIfSettling (s : State) (n : Nat) : State := if s.cellSettling n then s.cmpHold n else s

/-- A sampling edge of comparator `n` falls on the present TCLK edge: `CMP_DIV` periods after the one before (R101). -/
def State.cmpAtBoundary (s : State) (n : Nat) : Bool :=
  let c := s.cmp n
  match c.state with
  | .disabled => true
  | .safe => false
  | _ => s.t == c.phase || decide (c.phase + s.par P.CMP_DIV n ≤ s.t)

/-- The sample boundary of comparator `n`: accepted values first, then the thresholds of an action (R48, R97, R101). -/
def State.cmpBoundary (s : State) (n : Nat) : State :=
  if s.cmpAtBoundary n then
    let thr := s.pend.any (fun e => e.1 == paramKey P.CMP_THR n)
    let s := s.takeLive (Fb.cmp n)
    let s := if thr then s.cmpLoadThr n (s.par P.CMP_THR n) else s
    let s := match (s.cmp n).actThr with
      | some w => (s.setCmp n { s.cmp n with actThr := none }).cmpLoadThr n w.toNat
      | none => s
    s.cmpDeliver n
  else s

/-- Sampling restarts: every filter position loads with the first raw sample that passes the synchroniser, nothing from
before is used, and delivery stays as it is until then (R105). The sampling clock starts at this edge, and a swap that
changes `CMP_DIV` leaves its last edge where it was (DESIGN CHOICE, log entry 113). -/
def State.cmpRestart (s : State) (n : Nat) : State :=
  s.setCmp n { s.cmp n with
    state := .disarmed, reload := true, freeze := true, phase := s.t, pipe := [], blankRaw := none, heldRaw := none
    histU := [], histL := [], upper := false, lower := false, hyst := false, filtered := false }

/-- Comparator `n` becomes ARMED: its delivered output takes the filtered output (R107). -/
def State.cmpToArmed (s : State) (n : Nat) : State :=
  ((s.cmpTakeCoefs n).setCmp n { (s.cmpTakeCoefs n).cmp n with state := .armed }).cmpDeliver n

/-- Comparator `n` becomes DISARMED: its delivered output becomes `CMP_DISVAL`. -/
def State.cmpToDisarmed (s : State) (n : Nat) : State :=
  (s.setCmp n { s.cmp n with state := .disarmed }).cmpDeliver n

/-- An arm or a disarm, as an action or a command applies it in a running state (R106); an arm takes coefficients in HELD
too (R100). -/
def State.cmpArm (s : State) (n : Nat) (on : Bool) : State :=
  let c := s.cmp n
  match c.state with
  | .held =>
    let s := if on then s.cmpTakeCoefs n else s
    s.setCmp n { s.cmp n with heldArmed := on }
  | .disarmed => if on then s.cmpToArmed n else s
  | .armed => if on then s else s.cmpToDisarmed n
  | _ => s

/-- Whether an action aimed at comparator `n` is skipped: SAFE, DISABLED, or being reset (R106, R578). -/
def State.cmpSkips (s : State) (n : Nat) : Bool :=
  s.resetting (Fb.cmp n) || (s.cmp n).state == .safe || (s.cmp n).state == .disabled

/-- CMP_THR effect (R97, R99): discarded with THRORDER out of order, else loaded at the first sampling edge at or after
the effect, a host write of the same boundary first. -/
def State.cmpThrAction (s : State) (n w handle : Nat) : State :=
  if thrOutOfOrder (s.par P.CMP_MODE n) w then
    s.ask { blk := Fb.cmp n, det := 0, cls := 1, master := 0x06, access := 3, form := 1, addr := handle }
  else (s.setCmp n { s.cmp n with actThr := some (BitVec.ofNat 32 w) }).cmpBoundary n

/-- Class C or D reaction: SAFE, with delivered output `CMP_DISVAL` (Tables 4.3 and 16.6). Thresholds that wait for a
sampling edge are loaded after RESUME (R380). -/
def State.cmpEnterSafe (s : State) (n : Nat) : State :=
  if (s.cmp n).state = .disabled then s
  else (s.setCmp n { s.cmp n with state := .safe }).cmpDeliver n

/-- A reset of comparator `n` (R116). The fall of its output is no delivered edge, but reaches its timer. -/
def State.cmpReset (s : State) (n : Nat) : State :=
  let was := (s.cmp n).delivered
  let s := (s.resetParams (Fb.cmp n)).setCmp n { tap := (s.cmp n).tap }
  if was then s.cmpWire n false else s

/-- BANK_SWAP effect on comparator `n` (R114): a change of mode, length, divider or polarity reloads the filters. -/
def State.cmpSwap (s : State) (n : Nat) : State :=
  let sig := fun (s : State) => [s.par P.CMP_MODE n, s.par P.CMP_MAJ n, s.par P.CMP_DIV n, s.par P.CMP_POL n]
  let s' := (s.exchangeBanks (Fb.cmp n)).cmpTakeCoefs n
  let run := (s.cmp n).state == .armed || (s.cmp n).state == .disarmed || (s.cmp n).state == .held
  if sig s = sig s' ∨ run = false then s'
  else s'.setCmp n { s'.cmp n with reload := true, freeze := true, pipe := [] }

/-! ### Rows of the table -/

/-- CMP_CTRL ENABLE (R105, R648). -/
def State.cmpEnable (s : State) (n : Nat) : State :=
  match (s.cmp n).state with
  | .disabled => ((s.cmpRestart n).cmpDeliver n).cmpHoldIfSettling n |>.done
  | .safe => s.answer Status.faultState
  | _ => s.answer Status.notPermitted

/-- CMP_CTRL DISABLE (Table 4.3). -/
def State.cmpDisable (s : State) (n : Nat) : State :=
  if (s.cmp n).state = .disabled then s.answer Status.notPermitted
  else (s.setCmp n { s.cmp n with state := .disabled }).cmpDeliver n |>.done

/-- CMP_CTRL ARM (R106, R648). -/
def State.cmpCtrlArm (s : State) (n : Nat) : State :=
  match (s.cmp n).state with
  | .safe => s.answer Status.faultState
  | .disabled => s.answer Status.notPermitted
  | .armed => s.answer Status.notPermitted
  | _ => (s.cmpArm n true).done

/-- CMP_CTRL DISARM (R106, R648). -/
def State.cmpCtrlDisarm (s : State) (n : Nat) : State :=
  match (s.cmp n).state with
  | .safe => s.answer Status.faultState
  | .disabled => s.answer Status.notPermitted
  | .disarmed => s.answer Status.notPermitted
  | _ => (s.cmpArm n false).done

/-- CMP_CTRL RESUME (R105, R470). What was accepted in SAFE comes into force at the first edge, a threshold load with its
blanking (R97, R380). -/
def State.cmpResume (s : State) (n : Nat) : State :=
  if (s.cmp n).state = .safe ∧ s.pendingC (Fb.cmp n) = false then
    (((s.cmpRestart n).cmpBoundary n).cmpHoldIfSettling n).openWindow (Fb.cmp n) |>.done
  else s.answer Status.notPermitted

/-- CMP_CTRL 6 clears the counters (R117). -/
def State.cmpClear (s : State) (n : Nat) : State :=
  (s.clearPars [(P.CMP_EDGECNT, n), (P.CMP_URGLOST, n)]).done

/-- A write of `CMP_CTRL` (R117). -/
def State.cmpCtrl (s : State) (n v : Nat) : State :=
  if v = 1 then s.cmpEnable n
  else if v = 2 then s.cmpDisable n
  else if v = 3 then s.cmpCtrlArm n
  else if v = 4 then s.cmpCtrlDisarm n
  else if v = 5 then s.cmpResume n
  else if v = 6 then s.cmpClear n
  else s.answer Status.outOfRange

/-- A comparator that samples: ARMED, DISARMED or HELD, and not being reset. -/
def State.cmpRuns (s : State) (n : Nat) : Bool :=
  let c := (s.cmp n).state
  (c == .armed || c == .disarmed || c == .held) && !s.resetting (Fb.cmp n)

/-- The raw bits U and L at the tap (R98). -/
def State.cmpRaw (s : State) (n : Nat) : Bool × Bool :=
  let c := s.cmp n
  let v := s.par P.CMP_THR n
  (s.tapAbove n c.tap (bitsOf v 16 12), s.tapAbove n c.tap (bitsOf v 0 12))

/-- What the filters take at a sampling edge. A comparator in HELD whose cell no longer settles is released by the first
raw sample taken since then that has passed the synchroniser: it loads every position (R108). -/
def State.cmpFeed (s : State) (n : Nat) : State :=
  let c := s.cmp n
  match c.state, s.cellSettling n, c.passed with
  | .held, false, some (u, l) =>
    ((s.setCmp n { c with state := if c.heldArmed then .armed else .disarmed, reload := true }).cmpPush n u l).cmpDeliver n
  | _, _, _ =>
    match c.feed s.t with
    | some (u, l) => (s.cmpPush n u l).cmpDeliver n
    | none => s

/-- A sampling edge of comparator `n` (R101, R102): the filters are fed, and a raw sample is taken; while a cell settles, a
comparator in HELD keeps none (R108). -/
def State.cmpSample (s : State) (n : Nat) : State :=
  let s := s.cmpFeed n
  let c := s.cmp n
  let pipe := if c.state = .held ∧ s.cellSettling n = true then [] else (s.cmpRaw n :: c.pipe).take 3
  s.setCmp n { c with phase := s.t, pipe := pipe }

/-- The sampling edge of comparator `n` that falls on this TCLK edge, if one does and has not been taken: the sample
boundary first (R48, R97, R101). -/
def State.cmpClock (s : State) (n : Nat) : State :=
  if s.cmpRuns n ∧ (s.cmp n).phase + s.par P.CMP_DIV n ≤ s.t then (s.cmpBoundary n).cmpSample n else s

/-- The signal at the tap of comparator `n`. -/
def State.setTap (s : State) (n : Nat) (x : TapSample) : State := s.setCmp n { s.cmp n with tap := x }

/-- DELIVERED_EDGE (R109): the sampling edge, with the tap at `x`, at which an output outside HELD may change. -/
def State.cmpEdgeRow (s : State) (n : Nat) (x : TapSample) : State :=
  let s := s.setTap n x
  if (s.cmp n).state = .held then s else s.cmpClock n

/-- HELD_RELEASE (R108): the sampling edge, with the tap at `x`, at which HELD may end. -/
def State.cmpReleaseRow (s : State) (n : Nat) (x : TapSample) : State :=
  let s := s.setTap n x
  if (s.cmp n).state = .held then s.cmpClock n else s

/-- Every comparator's sampling edge of this TCLK edge. -/
def State.cmpEdges (s : State) : State := if s.alive then (s.cmps.map Prod.fst).foldl State.cmpClock s else s

/-- DACCHK and SCLK (Table 4.5). -/
def State.dacCheck (s : State) (n : Nat) : State :=
  if (s.cmp n).state = .disabled then s else s.raiseEpisode (Fb.cmp n) 3 2
def State.sampleClockLost (s : State) (n : Nat) : State := if s.cmpRuns n then s.raise (Fb.cmp n) 4 3 else s

/-- BLANK_END (R100): 100 ns after a threshold load the filters take fresh samples again. -/
def State.cmpBlankEnd (s : State) (n : Nat) : State :=
  match (s.cmp n).blankEnd with
  | some e => if e ≤ s.t then s.setCmp n { s.cmp n with blankEnd := none } else s
  | none => s

/-- `CMP_STATUS` of comparator `n` (Table 4.6). -/
def State.cmpStatus (s : State) (n : Nat) : Nat :=
  let c := s.cmp n
  b2n c.delivered + 2 * b2n c.filtered + 4 * b2n c.upper + 8 * b2n c.lower + 16 * b2n (c.blanked s.t)
    + 32 * b2n (s.isDegraded (Fb.cmp n) 3)

/-- `CMP_STATE` code of Table 4.2. -/
def CmpState.code : CmpState → Nat
  | .disabled => 0
  | .disarmed => 1
  | .armed => 2
  | .held => 3
  | .safe => 4

end Sys2Proof.Machine
end

