-- ==== Sys2Proof/Machine/Cells.lean ====
section
/-! DEFINITION. Analogue cells and the analogue switch matrix (R61–R96). -/

namespace Sys2Proof.Machine

/-- max(20 µs, 3 / f_c) in TCLK periods, rounded up, for each `AC_AAF` step (R66, R69). -/
def settleTable : List Nat :=
  [300000, 272784, 248037, 225535, 205075, 186470, 169554, 154172, 140185, 127468, 115904, 105389, 95828, 87135, 79230,
   72042, 65506, 59564, 54160, 49247, 44779, 40717, 37023, 33664, 30610, 27833, 25308, 23012, 20925, 19027, 17300, 15731,
   14304, 13006, 11826, 10754, 9778, 8891, 8084, 7351, 6684, 6078, 5527, 5025, 4569, 4155, 3778, 3435, 3124, 2840, 2583,
   2348, 2135]

/-- t_set of R69 in TCLK periods, without its 100 µs addition. -/
def settleTicks (aaf : Nat) : Nat := nthD 2000 settleTable aaf

/-- SETTLING starts (R69); `extra` is the 100 µs of a mode change or of a return from GATED or SAFE. -/
def State.startSettling (s : State) (n extra : Nat) : State :=
  let t := settleTicks (s.par P.AC_AAF n) + extra
  let s := s.setCell n { s.cell n with state := .settling, settleEnd := some (s.t + t) }
  (s.setPar P.AC_SETTLE n (openDiv 1 t 100)).cmpHold n

/-- The readback of a cell in an output or excitation mode starts to settle (R69). -/
def State.startReadback (s : State) (n : Nat) : State :=
  let t := settleTicks (s.par P.AC_AAF n)
  let s := s.setCell n { s.cell n with settleEnd := some (s.t + t) }
  (s.setPar P.AC_SETTLE n (openDiv 1 t 100)).cmpHold n

/-- The code in force becomes `v`, clamped to `AC_OUTMIN`–`AC_OUTMAX`; one CLAMP record for each clamping episode
(R73). -/
def State.setCode (s : State) (n v : Nat) : State :=
  let c := if v < s.par P.AC_OUTMIN n then s.par P.AC_OUTMIN n
    else if s.par P.AC_OUTMAX n < v then s.par P.AC_OUTMAX n else v
  let s := s.setCell n { s.cell n with code := BitVec.ofNat 16 c }
  if c = v then s.endEpisode (Fb.cell n) 7 else s.raiseEpisode (Fb.cell n) 7 1

/-- An OUT_SET effect or an applied write of `AC_OUT`: the code, no ramp, the driver on (R74, R75, R80, R92). -/
def State.outSet (s : State) (n v : Nat) : State :=
  let s := s.setCode n v
  s.setCell n { s.cell n with ramp := none, drive := .code }

/-- The accepted writes of cell `n` come into force. A changed gain or filter makes an input cell settle, and the readback
of a cell in another mode (R69); changed limits clamp the code again (R73). -/
def State.cellTake (s : State) (n : Nat) : State :=
  let c := s.cell n
  let sig := fun (s : State) => (s.par P.AC_GAIN n, s.par P.AC_AAF n)
  let lim := fun (s : State) => (s.par P.AC_OUTMIN n, s.par P.AC_OUTMAX n)
  let s' := s.takeLive (Fb.cell n)
  let s' := s'.setCell n { s'.cell n with boundary := none }
  let m := s'.par P.AC_MODE n
  let s' := if sig s = sig s' then s'
    else if isInputMode m && (c.state == .settling || c.state == .active) then s'.startSettling n 0
    else if c.state = .active then s'.startReadback n
    else s'
  if lim s = lim s' ∨ isOutputMode m = false then s' else s'.setCode n (s'.cell n).code.toNat

/-- The sample boundary of cell `n` (R77 text): a DAC load or the boundary made for its accepted writes. -/
def State.cellBoundary (s : State) (n : Nat) : State :=
  let c := s.cell n
  if c.state = .gated ∨ c.state = .safe then s
  else
    let out := s.pend.find? (fun e => e.1 == paramKey P.AC_OUT n)
    let s := s.cellTake n
    match out with
    | some e => if isOutputMode (s.par P.AC_MODE n) then s.outSet n e.2.toNat else s
    | none => s

/-- A write accepted by cell `n`: it makes a boundary at most 1 µs later (R77 text). -/
def State.cellAccept (s : State) (n id v : Nat) : State :=
  let d := Config.cellBoundaryDelay n s.t % 101
  let s := s.acceptLive id n v
  let s := match (s.cell n).boundary with
    | some _ => s
    | none => s.setCell n { s.cell n with boundary := some (s.t + d) }
  match (s.cell n).boundary with
  | some b => if b ≤ s.t then s.cellBoundary n else s
  | none => s

/-- Whether an OUT_SET or OUT_RAMP aimed at cell `n` is skipped (R74, R91, R578). -/
def State.outSkips (s : State) (n : Nat) : Bool :=
  let c := s.cell n
  s.resetting (Fb.cell n) || c.state == .safe || !(isOutputMode (s.par P.AC_MODE n))

/-- OUT_SET effect (R74), after the writes accepted for the same DAC load (R48). -/
def State.outSetAction (s : State) (n v : Nat) : State := (s.cellBoundary n).outSet n v

/-- OUT_RAMP effect (R76): a ramp from the code in force. -/
def State.outRampAction (s : State) (n e l : Nat) : State :=
  let s := s.cellBoundary n
  let c := s.cell n
  s.setCell n { c with ramp := some { s := c.code.toNat, e := e, l := l }, drive := .code }

/-- The code a ramp sets at bin count `k` (R76): S + round((E − S) × k / L), half away from zero, and E from L on. -/
def Ramp.codeAt (r : Ramp) (k : Nat) : Nat :=
  if r.l ≤ k then r.e
  else ((r.s : Int) + roundHalfAway (((r.e : Int) - (r.s : Int)) * (k : Int)) r.l).toNat

/-- RAMP_STEP (R76): the bin count grows by a positive advance of the HWM, and the code is formed anew. A write accepted
for the same DAC load comes first, and cancels the ramp if it is of `AC_OUT` (R48, R75). -/
def State.rampStep (s : State) (adv : Int) (n : Nat) : State :=
  if adv ≤ 0 ∨ (s.cell n).ramp = none then s
  else
    let s := s.cellBoundary n
    match (s.cell n).ramp with
    | none => s
    | some r =>
      let k := r.k + adv.toNat
      let s := s.setCode n (r.codeAt k)
      s.setCell n { s.cell n with ramp := if r.l ≤ k then none else some { r with k := k } }

/-- Every ramp takes the step's HWM advance. -/
def State.rampAll (s : State) (adv : Int) : State :=
  (s.cells.map (fun e => e.1)).foldl (fun s n => s.rampStep adv n) s

/-- The drive of cell `n` while in SAFE with AVPOS and AVNEG present (R89, Table 16.6). -/
def State.safeDrive (s : State) (n : Nat) : Drive :=
  let m := s.par P.AC_MODE n
  let sm := s.par P.AC_SAFEMODE n
  if sm = 0 then .off
  else if isOutputMode m then (if sm = 1 then .code else (s.cell n).drive)
  else if isExciteMode m then .excite else .off

/-- Class C or D reaction (Table 3.4): SAFE, no ramp, the output at its safe-table entry (R75, R89), which a cell already in
SAFE keeps. A write of `AC_OUT` accepted before it and not yet in force never comes into force (DESIGN CHOICE, log entry
114). -/
def State.cellEnterSafe (s : State) (n : Nat) : State :=
  let c := s.cell n
  if c.state = .off ∨ c.state = .safe then s
  else
    let m := s.par P.AC_MODE n
    let d := s.safeDrive n
    let s := { s with pend := s.pend.filter (fun e => !(e.1 == paramKey P.AC_OUT n)) }
    let s := if isOutputMode m && s.par P.AC_SAFEMODE n == 1 then s.setCode n (s.par P.AC_SAFE n) else s
    s.setCell n { s.cell n with state := .safe, ramp := none, settleEnd := none, drive := d }

/-- Entry into an output mode (R80). The code in force lies within the limits in every case (R73). -/
def State.enterOutput (s : State) (n : Nat) : State :=
  let init := s.par P.AC_INIT n
  if init ≠ 0x10000 then
    let s := s.setCode n init
    s.setCell n { s.cell n with drive := .code }
  else if s.par P.AC_SAFEMODE n = 1 then
    let s := s.setCode n (s.par P.AC_SAFE n)
    s.setCell n { s.cell n with drive := .code }
  else
    let s := s.setCode n (s.cell n).code.toNat
    s.setCell n { s.cell n with drive := .off }

/-- The four steps of R78 into the mode in force: the old driver off, the input open, the new mode set up. At the RESUME of
a cell in SAFE whose new mode is OFF they lead to OFF, a transition that Table 3.4 does not list (DESIGN CHOICE, log entry
115). -/
def State.cellSetUp (s : State) (n : Nat) : State :=
  let m := s.par P.AC_MODE n
  let s := s.setCell n { s.cell n with drive := .off, ramp := none, settleEnd := none, modeDue := false }
  if m = 0 then s.setCell n { s.cell n with state := .off }
  else if isInputMode m then s.startSettling n 10000
  else if isOutputMode m then (s.setCell n { s.cell n with state := .active }).enterOutput n
  else s.setCell n { s.cell n with state := .active, drive := .excite }

/-- BANK_SWAP effect on cell `n` (R78, R79). -/
def State.cellSwap (s : State) (n : Nat) : State :=
  let m := s.par P.AC_MODE n
  let s' := s.exchangeBanks (Fb.cell n)
  if s'.par P.AC_MODE n = m then s'
  else if (s.cell n).state = .safe then s'.setCell n { s'.cell n with modeDue := true }
  else s'.cellSetUp n

/-- Kiln gates cell `n` (R83, Table 3.4); its masking window opens (R488). -/
def State.cellGate (s : State) (n : Nat) : State :=
  let c := s.cell n
  if c.state = .active ∨ c.state = .settling then
    (s.setCell n { c with state := .gated, settleEnd := none }).openWindow (Fb.cell n)
  else s

/-- Kiln has powered cell `n` again: writes accepted meanwhile take effect, and it settles (R69, R380). -/
def State.cellUngate (s : State) (n : Nat) : State :=
  if (s.cell n).state = .gated then
    ((s.cellTake n).startSettling n 10000).openWindow (Fb.cell n)
  else s

/-- A reset of cell `n` (R94); its comparator treats it as SETTLING (R579). -/
def State.cellReset (s : State) (n : Nat) : State := ((s.resetParams (Fb.cell n)).setCell n {}).cmpHold n

/-! ### Rows of the table -/

/-- SETTLING_END (R69, R70). -/
def State.settlingEnd (s : State) (n : Nat) : State :=
  let c := s.cell n
  match c.settleEnd with
  | none => s
  | some e =>
    if e ≤ s.t ∧ (c.state = .settling ∨ c.state = .active) then
      s.setCell n { c with state := .active, settleEnd := none, seqDue := true }
    else s

/-- `AC_CTRL` RESUME (R82, R92, R470). -/
def State.acResume (s : State) (n : Nat) : State :=
  let c := s.cell n
  if c.state = .safe ∧ s.pendingC (Fb.cell n) = false then
    let s := (s.setCell n { c with state := .active }).cellTake n
    let m := s.par P.AC_MODE n
    let s :=
      if c.modeDue then s.cellSetUp n
      else if isInputMode m then s.startSettling n 10000
      else if isExciteMode m then s.setCell n { s.cell n with drive := .excite }
      else s
    (s.openWindow (Fb.cell n)).done
  else s.answer Status.notPermitted

/-- `AC_CTRL` 2 clears the counters (R95). -/
def State.acClear (s : State) (n : Nat) : State := (s.setPar P.AC_OVRCNT n 0).done

/-- A write of `AC_CTRL` (R95). -/
def State.acCtrl (s : State) (n v : Nat) : State :=
  if v = 1 then s.acResume n else s.acClear n

/-- OVR (Table 3.6): the PGIA output passes 105 % of span. -/
def State.ovr (s : State) (n : Nat) : State :=
  if (s.cell n).state = .off ∨ (s.cell n).state = .gated ∨ s.episodeOpen (Fb.cell n) 0 = true then s
  else (s.bump P.AC_OVRCNT n).raiseEpisode (Fb.cell n) 0 1

/-- A detector of Table 3.6 that its mode condition admits. -/
def State.cellDetect (s : State) (n det cls : Nat) (applies : Nat → Bool) : State :=
  if (s.cell n).state ≠ .off ∧ applies (s.par P.AC_MODE n) = true then s.raiseEpisode (Fb.cell n) det cls else s

/-- `AC_STATUS` (Table 3.7). -/
def State.acStatus (s : State) (n : Nat) : Nat :=
  let e := fun d => b2n (s.episodeOpen (Fb.cell n) d)
  e 0 + 2 * e 7 + 4 * e 2 + 8 * e 4 + 16 * e 5 + 32 * e 3 + 64 * b2n ((s.cell n).state == .settling)

/-- `AC_STATE` code of Table 3.3. -/
def CellState.code : CellState → Nat
  | .off => 0
  | .settling => 1
  | .active => 2
  | .safe => 3
  | .gated => 4

/-- The write conditions of a cell's parameters, checked against the state a write or a group would leave (R62, R63,
R64, R96): `mode` and `outMin`/`outMax` read the values to be checked. -/
def cellModeLegal (modeOf : Nat → Nat) (n : Nat) : Bool :=
  let m := modeOf n
  if isExciteMode m then n % 2 == 1
  else if m = 4 then n % 2 == 0 && modeOf (n + 1) == 7
  else true

end Sys2Proof.Machine
end

