-- ==== Sys2Proof/Machine/Angle.lean ====
section
/-! DEFINITION. The angle engine: sources, states, interpolation, references, loss and standstill (R24–R37, R52–R59). -/

namespace Sys2Proof.Machine

/-- State codes of `WH_STATE` (Table 2.9). -/
def EngineState.code : EngineState → Nat
  | .stopped => 0
  | .unref => 1
  | .track => 2
  | .coast => 3
  | .hold => 4

/-- Units of 2^−16 angle-word LSB in one bin and in one cycle. -/
def binUnits : Nat := 2 ^ 24
def cycleUnits : Nat := 2 ^ 40

/-- INC of R26: round(2^40 / (4 × `WH_QLINES`)). -/
def State.quadInc (s : State) : Nat :=
  let q := 4 * s.par P.WH_QLINES
  (2 * cycleUnits + q) / (2 * q)

/-- A position moved by a signed number of units. -/
def posAdd (p : BitVec 64) (d : Int) : BitVec 64 := p + BitVec.ofInt 64 d

/-- The signed distance from `q` to `p`. -/
def posSub (p q : BitVec 64) : Int := (p - q).toInt

/-- The bin stamp of a position: cycle count [39:16], bin [15:0]. -/
def binOf (p : BitVec 64) : BitVec 40 := BitVec.ofNat 40 (p.toNat / binUnits)

/-- The signed 40-bit difference of two bin stamps (R37). -/
def binSub (a b : BitVec 40) : Int := (a - b).toInt

/-- The shift, within half a cycle, that brings a position's angle to `word` (R28, R54). -/
def shiftTo (p : BitVec 64) (word : Nat) : Int :=
  (BitVec.ofNat 40 (word * 2 ^ 16) - BitVec.ofNat 40 p.toNat).toInt

/-- Bins fire and positions are referenced: TRACK or COAST (Table 2.2). -/
def EngineState.tracking : EngineState → Bool
  | .track => true
  | .coast => true
  | _ => false

/-- The state with the engine set. -/
def State.setEng (s : State) (e : Engine) : State := { s with eng := e }

/-- A move from one position to another crosses bin `b` forwards. -/
def crossesBin (old new : BitVec 64) (b : Nat) : Bool :=
  let a := binOf old
  let d := binSub (binOf new) a
  decide (0 < d) && decide (((b + 2 ^ 16 - (a.toNat % 2 ^ 16) - 1) % 2 ^ 16 : Nat) < d)

/-- The engine moves to a position. The first edge at which a bin lies beyond the high-water mark is noted for R39, and
a forward crossing of `KL_WAKEBIN` is a wake request (Table 9.6). -/
def State.moveTo (s : State) (p : BitVec 64) : State :=
  let e := s.eng
  let first :=
    if e.state.tracking && decide (0 < binSub (binOf p) e.hwm) then
      match e.firstCrossed with
      | some t => some t
      | none => some s.t
    else none
  let wakes := crossesBin e.pos p (s.par P.KL_WAKEBIN)
  let s := s.setEng { e with pos := p, firstCrossed := first }
  if wakes then s.requestWake 1 else s

/-- Rotation in a direction: a change into reverse rotation is recorded (R52). -/
def State.direction (s : State) (d : Int) : State :=
  let e := s.eng
  if 0 < d then s.setEng { e with reverse := false }
  else if d < 0 ∧ e.reverse = false then (s.setEng { e with reverse := true }).raise Fb.wheel 2 1
  else s

/-- Offset from the segment's base that the prediction of R34 reaches after `dt` ticks, as an exact fraction. -/
def Interp.predict (i : Interp) (dt : Nat) : Frac :=
  fracAdd (fracMul i.v dt) (fracDiv (fracMul i.a (dt * dt : Nat)) 2)

/-- The larger of `WH_INTERR` and the error at a segment's end (R34). -/
def State.interpError (s : State) (p : BitVec 64) (t : Nat) : State :=
  let i := s.eng.interp
  if i.mode ≠ 0 ∧ i.predicting = true then
    let x := fracSub (i.predict (t - i.tBase)) ⟨posSub p i.base, 1⟩
    let err := (Int.natAbs x.num / x.den) / 2 ^ 16
    s.setPar P.WH_INTERR 0 (max (s.par P.WH_INTERR) (min err (2 ^ 24 - 1)))
  else s

/-- A position event at position `p` and instant `t` (R34): the interpolator's segment ends and the next begins. Standstill
ends. An event behind the interpolated angle puts the angle back at `p` whatever rotation is reported, as R34's code does (theta = p_k),
against its prose (DESIGN CHOICE, log entry 108). -/
def State.positionEvent (s : State) (p : BitVec 64) (t : Nat) : State :=
  let s := s.interpError p t
  let i := s.eng.interp
  let mode := s.par P.WH_INTERP
  let d := posSub p i.pPrev
  let dt := t - i.tPrev
  let restart := i.fresh || decide (usTicks (s.par P.WH_STALLT) < dt) || decide (d.sign ≠ i.dPrev.sign) || dt == 0
  let vNew : Frac := ⟨d, dt⟩
  let i' : Interp :=
    { fresh := false
      predicting := !restart
      tPrev := t
      pPrev := p
      dPrev := d
      v := if restart then {} else vNew
      a := if restart ∨ mode ≠ 2 then {} else fracDiv (fracSub vNew i.v) dt
      base := p
      tBase := t
      step := d
      outPrev := p
      mode := mode }
  let wasStill := s.eng.standstill
  let s := s.setEng { s.eng with
    interp := i'
    standstill := false
    lastEvent := s.t
    travel := s.eng.travel + d.natAbs }
  let s := (s.moveTo p).direction d
  if wasStill then s.requestWake 2 else s

/-- The engine is put at a position by a reference or a Z edge: the angle holds there until the next position event. -/
def State.enginePut (s : State) (p : BitVec 64) : State :=
  let i := s.eng.interp
  (s.setEng { s.eng with
    interp := { i with pPrev := p, base := p, tBase := s.t, step := 0, outPrev := p, predicting := false, a := {} }
    scBase := p
    scCount := 0 }).moveTo p

/-- The last position event's position is given the name `q`: the engine's angles follow, and the machine has not moved. -/
def State.rebase (s : State) (q : BitVec 64) : State :=
  let i := s.eng.interp
  let k := q - i.pPrev
  s.setEng { s.eng with
    pos := s.eng.pos + k, interp := { i with pPrev := q, base := i.base + k, outPrev := i.outPrev + k } }

/-- A reference event puts the engine at `p`. Where it is a position event too (Table 2.1), it ends the interpolator's
segment as one (R34): the machine has moved by `d` since the last event, or, from COAST, by what lies between the two
events' positions, and the event's instant is `t`. -/
def State.referencePut (s : State) (p : BitVec 64) : Option (Int × Nat) → State
  | none => s.enginePut p
  | some (d, t) =>
    let s := if s.eng.state.tracking then s else s.rebase (posAdd p (-d))
    let s := s.positionEvent p t
    s.setEng { s.eng with scBase := p, scCount := 0 }

/-- The interpolator starts afresh at the present position. -/
def State.interpFresh (s : State) : State :=
  let p := s.eng.pos
  s.setEng { s.eng with
    interp := { pPrev := p, base := p, outPrev := p, tPrev := s.t, tBase := s.t, mode := s.par P.WH_INTERP }
    scBase := p
    scCount := 0
    scPrev := none
    ssiPos := none
    lastEvent := s.t }

/-- A loss condition of Table 2.1 that lasts holds now. -/
def State.lossLevel (s : State) : Bool :=
  let e := s.eng
  let src := s.par P.WH_SRC
  (src == 0 && e.encFault && s.par P.WH_ENCFLTEN == 1)
    || (src == 1 && decide (3 ≤ e.ssiBad))
    || (src == 2 && decide (3 ≤ e.scBad))
    || (src == 3 && (e.mainsSilent || decide (2 ≤ e.mainsBad)))
    || (src == 5 && e.ringLost)

/-- A loss is detected (R33, Table 2.3): SRCLOST is recorded in its episode, and TRACK is left as `WH_LOSSACT` says. -/
def State.engLoss (s : State) : State :=
  if s.eng.state = .stopped then s
  else
    let s := s.setEng { s.eng with lossFree := if s.lossLevel then none else some s.t }
    let s := s.raiseEpisode Fb.wheel 7 2
    if s.eng.state = .track then
      if s.par P.WH_LOSSACT = 1 then
        let i := s.eng.interp
        s.setEng { s.eng with
          state := .coast
          interp := { i with base := s.eng.pos, tBase := s.t, a := {}, predicting := false } }
      else s.setEng { s.eng with state := .hold, firstCrossed := none }
    else s

/-- The level conditions of the source may have changed. -/
def State.lossUpdate (s : State) : State :=
  if s.eng.state = .stopped then s
  else if s.lossLevel then (if s.eng.lossFree.isNone then s else s.engLoss)
  else
    match s.eng.lossFree with
    | none => s.setEng { s.eng with lossFree := some s.t }
    | some _ => s

/-- The engine reaches TRACK at a reference event (R25, R54, R55, R59). `p` is the position the event sets, and `d` the
movement since the last position event, with its instant, where the reference is one too. After a reference that is none (a
Z edge) has ended COAST, the interpolator restarts at zero speed with the next event (DESIGN CHOICE, log entry 104). -/
def State.takeReference (s : State) (p : BitVec 64) (d : Option (Int × Nat)) : State :=
  match s.eng.state with
  | .unref =>
    let gap := s.eng.fromHold
    let s := s.referencePut p d
    let s := s.setEng { s.eng with
      state := .track, referenced := true, fromHold := false, hwm := binOf p, firstCrossed := none, zMark := some p }
    if gap then (s.bump P.WH_GAPCNT).raise Fb.wheel 9 1 else s
  | .coast =>
    let s := s.setEng { s.eng with
      state := .track, referenced := true, zMark := some p
      interp := { s.eng.interp with fresh := s.eng.interp.fresh || d.isNone } }
    s.referencePut p d
  | _ => s

/-- A reference event; a loss condition that lasts through it is detected in TRACK (R33, Table 2.3). -/
def State.reference (s : State) (p : BitVec 64) (d : Option (Int × Nat)) : State :=
  let u := s.takeReference p d
  if (s.eng.state = .unref ∨ s.eng.state = .coast) ∧ u.lossLevel = true then u.engLoss else u

/-- The position of a reference event that sets the angle word to `WH_ZOFS`: under the present cycle count from UNREF,
nearest to the coasted position from COAST (R25, R54). -/
def State.zofsPos (s : State) : BitVec 64 :=
  let z := s.par P.WH_ZOFS
  match s.eng.state with
  | .coast => posAdd s.eng.pos (shiftTo s.eng.pos z)
  | _ => BitVec.ofNat 64 (s.eng.pos.toNat / cycleUnits * cycleUnits + z * 2 ^ 16)

/-! ### Sources -/

/-- A source error (R27, R30): counted and recorded; 16 within 65,536 bins of travel are a loss (Table 2.1). -/
def State.sourceError (s : State) : State :=
  let s := (s.bump P.WH_SRCERR).raise Fb.wheel 6 1
  if s.par P.WH_SRC = 0 then
    let es := s.eng.travel :: s.eng.errTravel.filter (fun e => decide (s.eng.travel - e < cycleUnits))
    let s := s.setEng { s.eng with errTravel := es.take 16 }
    if 16 ≤ es.length then s.engLoss else s
  else s

/-- A position event has arrived that moves no angle: COAST extrapolates and HOLD is frozen (Table 2.2). -/
def State.eventSeen (s : State) : State := s.setEng { s.eng with lastEvent := s.t }

/-- QUAD_EDGE (R26, R27). Edges move the angle in UNREF and TRACK; their rate is watched in COAST and HOLD too (Table
2.1). -/
def State.quadEdge (s : State) (k : QuadStep) : State :=
  if s.par P.WH_SRC ≠ 0 ∨ s.eng.state = .stopped then s
  else
    match k with
    | .both => s.sourceError
    | _ =>
      let fwd := (k == .forward) != (s.par P.WH_QDIR == 1)
      let d : Int := if fwd then s.quadInc else -(s.quadInc : Int)
      let times := (s.t :: s.eng.edgeTimes).take 65
      let s := s.setEng { s.eng with edgeTimes := times }
      let s := if s.eng.state = .coast ∨ s.eng.state = .hold then s.eventSeen
        else s.positionEvent (posAdd s.eng.interp.pPrev d) s.t
      if times.length = 65 ∧ s.t - nthD s.t times 64 < 320 then s.engLoss else s

/-- The source takes its machine zero from the Z edge (Table 2.1). -/
def State.zSource (s : State) : Bool :=
  s.par P.WH_SRC == 0 || (s.par P.WH_SRC == 2 && s.par P.WH_SCPER != 1)

/-- Z_EDGE (R25, R28). An edge of `WH_ZTOL` is INC of R26 for either source (DESIGN CHOICE, log entry 105). -/
def State.zEdge (s : State) : State :=
  if s.zSource = false then s
  else
    match s.eng.state with
    | .unref => s.reference s.zofsPos none
    | .coast => s.reference s.zofsPos none
    | .track =>
      let p := s.eng.pos
      let d := shiftTo p (s.par P.WH_ZOFS)
      if (s.par P.WH_ZTOL * s.quadInc : Nat) < d.natAbs then
        let s := (s.bump P.WH_ZSLIPCNT).raise Fb.wheel 4 1
        let s := s.enginePut (posAdd p d)
        s.setEng { s.eng with zMark := some (posAdd p d) }
      else s.setEng { s.eng with zMark := some p }
    | _ => s

/-- The angle has travelled one cycle plus `WH_ZTOL` edges without a Z edge (R28). -/
def State.zMissed (s : State) : Bool :=
  match s.eng.zMark with
  | some z =>
    s.eng.state == .track && s.zSource &&
      decide (cycleUnits + s.par P.WH_ZTOL * s.quadInc < (posSub s.eng.pos z).natAbs)
  | none => false

/-- ZMISS (R28): recorded once while it lasts. -/
def State.zMiss (s : State) : State := if s.zMissed then s.raiseEpisode Fb.wheel 5 2 else s

/-- Binary value of a Gray code of at most 32 bits. -/
def grayToBinary (g : Nat) : Nat :=
  let g := g ^^^ (g / 2 ^ 1)
  let g := g ^^^ (g / 2 ^ 2)
  let g := g ^^^ (g / 2 ^ 4)
  let g := g ^^^ (g / 2 ^ 8)
  g ^^^ (g / 2 ^ 16)

/-- The position of an SSI frame: the low `WH_SSISTB` bits, aligned with the top of the angle word, bits beyond 24
truncated (R29). -/
def State.ssiPosition (s : State) (data : Nat) : Nat :=
  let d := data % 2 ^ s.par P.WH_SSIBITS
  let b := if s.par P.WH_SSICODE = 1 then grayToBinary d else d
  let st := s.par P.WH_SSISTB
  (b % 2 ^ st) * 2 ^ 24 / 2 ^ st

/-- SSI_FRAME (R29, R30): the data bits, and the levels of the data line at the frame's start and after its last bit. -/
def State.ssiFrame (s : State) (data : Nat) (startHigh endLow : Bool) : State :=
  if s.par P.WH_SRC ≠ 1 ∨ s.eng.state = .stopped then s
  else
    let p := s.ssiPosition data
    let jump := match s.eng.ssiFrame with
      | none => false
      | some q => decide (s.par P.WH_SSIJMP * 2 ^ 8 < (BitVec.ofNat 24 p - BitVec.ofNat 24 q).toInt.natAbs)
    let s := s.setEng { s.eng with ssiFrame := some p }
    if startHigh = false ∨ endLow = false ∨ jump = true then
      let s := s.setEng { s.eng with ssiBad := s.eng.ssiBad + 1 }
      (s.sourceError).lossUpdate
    else
      let prev := s.eng.ssiPos
      let s := (s.setEng { s.eng with ssiBad := 0, ssiPos := some p }).lossUpdate
      let d : Int := match prev with
        | none => 0
        | some q => (BitVec.ofNat 24 p - BitVec.ofNat 24 q).toInt * 2 ^ 16
      match s.eng.state with
      | .unref => s.reference s.zofsPos (some (d, s.t))
      | .coast => s.reference s.zofsPos (some (d, s.t))
      | .track => s.positionEvent (posAdd s.eng.interp.pPrev d) s.t
      | _ => s

/-- A sin/cos position event: the resolved angle of one electrical period, a 24-bit angle word, its amplitude, and the time
of its dual stamp, the event's instant (R31, R202, Table 2.1). -/
def State.sincosEvent (s : State) (angle amp time : Nat) : State :=
  if s.par P.WH_SRC ≠ 2 ∨ s.eng.state = .stopped then s
  else if amp < s.par P.WH_SCAMIN ∨ s.par P.WH_SCAMAX < amp then
    (s.setEng { s.eng with scBad := s.eng.scBad + 1 }).lossUpdate
  else
    let per := s.par P.WH_SCPER
    let d : Int := match s.eng.scPrev with
      | none => 0
      | some q => (BitVec.ofNat 24 angle - BitVec.ofNat 24 q).toInt
    let cnt := s.eng.scCount + d
    let s := (s.setEng { s.eng with scBad := 0, scPrev := some angle, scCount := cnt }).lossUpdate
    let q := posAdd s.eng.scBase (roundHalfAway (cnt * 2 ^ 16) per)
    let d := posSub q s.eng.interp.pPrev
    match s.eng.state with
    | .unref => if per = 1 then s.reference s.zofsPos (some (d, time)) else s.positionEvent q time
    | .coast => if per = 1 then s.reference s.zofsPos (some (d, time)) else s.eventSeen
    | .track => s.positionEvent q time
    | _ => s

/-- How far the angle moves on to a mains zero crossing: forwards, to `WH_ZOFS` at a rising one and half a cycle beyond it
at a falling one (Table 2.1). -/
def State.mainsMove (s : State) (rising : Bool) : Int :=
  let z := (s.par P.WH_ZOFS + if rising then 0 else 2 ^ 23) * 2 ^ 16
  ((BitVec.ofNat 40 z - BitVec.ofNat 40 s.eng.interp.pPrev.toNat - 1#40).toNat : Int) + 1

/-- The engine's part of a mains zero crossing (Table 2.1): two position events a cycle, rising at `WH_ZOFS`. -/
def State.engMains (s : State) (rising : Bool) : State :=
  if s.par P.WH_SRC ≠ 3 ∨ s.eng.state = .stopped then s
  else
    let s := s.setEng { s.eng with mainsSilent := false }
    let s :=
      if rising then
        let bad := match s.eng.mainsRise with
          | none => 0
          | some t0 =>
            let per := s.t - t0
            if 100000000 ≤ 65 * per ∧ 45 * per ≤ 100000000 then 0 else s.eng.mainsBad + 1
        s.setEng { s.eng with mainsRise := some s.t, mainsBad := bad }
      else s
    let s := s.lossUpdate
    match s.eng.state with
    | .coast => if rising then s.reference s.zofsPos (some (s.mainsMove true, s.t)) else s.eventSeen
    | .unref =>
      if rising then s.reference s.zofsPos (some (s.mainsMove true, s.t))
      else s.positionEvent (posAdd s.eng.interp.pPrev (s.mainsMove false)) s.t
    | .track => s.positionEvent (posAdd s.eng.interp.pPrev (s.mainsMove rising)) s.t
    | _ => s

/-- No mains crossing has arrived for 15 ms: a loss for the MAINS source (Table 2.1). -/
def State.engMainsSilent (s : State) : State := (s.setEng { s.eng with mainsSilent := true }).lossUpdate

/-- A valid sync-link frame with AV set, at the position it gives (R510). R510 makes the first such frame the reference
event and gives the event the frame's position, where Table 2.1 and R25 name the leader's machine zero and `WH_ZOFS`: the
model follows R510, the rule about this source (DESIGN CHOICE, log entry 106). -/
def State.engSync (s : State) (p : BitVec 64) : State :=
  if s.par P.WH_SRC ≠ 5 ∨ s.eng.state = .stopped then s
  else
    let s := (s.setEng { s.eng with ringLost := false }).lossUpdate
    match s.eng.state with
    | .unref => s.reference p (some (if s.eng.interp.fresh then 0 else posSub p s.eng.interp.pPrev, s.t))
    | .coast =>
      s.reference (posAdd s.eng.pos ((BitVec.ofNat 40 p.toNat - BitVec.ofNat 40 s.eng.pos.toNat).toInt)) (some (0, s.t))
    | .track => s.positionEvent p s.t
    | _ => s

/-- The sync link declares the ring lost (R510). -/
def State.engRingLost (s : State) : State :=
  if s.par P.WH_SRC = 5 then (s.setEng { s.eng with ringLost := true }).lossUpdate else s

/-- ENC_FLT_N follows its pin (R541). -/
def State.encFlt (s : State) (asserted : Bool) : State := (s.setEng { s.eng with encFault := asserted }).lossUpdate

/-! ### Limits and times -/

/-- Bins by which the position lies behind the high-water mark. -/
def State.binsBehind (s : State) : Int := binSub s.eng.hwm (binOf s.eng.pos)

/-- REVERSE_LIMIT (R52). -/
def State.revLimit (s : State) : State :=
  let lim := s.par P.WH_REVLIM
  if lim ≠ 0 ∧ s.eng.state.tracking = true ∧ (lim : Int) < s.binsBehind then s.raiseEpisode Fb.wheel 3 2 else s

/-- COAST_LIMIT (R53): `WH_COASTMAX` bins have been coasted. -/
def State.coastLimit (s : State) : State :=
  if s.eng.state = .coast ∧ s.par P.WH_COASTMAX * binUnits ≤ (posSub s.eng.pos s.eng.interp.base).natAbs then
    (s.setEng { s.eng with state := .hold, firstCrossed := none }).raise Fb.wheel 8 2
  else s

/-- The source has been free of loss conditions for 1 ms. -/
def State.lossOver (s : State) : Bool :=
  match s.eng.lossFree with
  | some t0 => decide (t0 + msTicks 1 ≤ s.t) && !s.lossLevel
  | none => false

/-- HOLD_RELEASE (R33): HOLD is left for UNREF. -/
def State.holdRelease (s : State) : State :=
  if s.eng.state = .hold ∧ s.lossOver = true then
    ((s.setEng { s.eng with state := .unref, fromHold := true, referenced := false }).interpFresh).endEpisode Fb.wheel 7
  else s

/-- STANDSTILL_TIMEOUT (R33, R34): no position event for `WH_STALLT`; the VIRTUAL source has none to wait for. -/
def State.standstill (s : State) : State :=
  if (s.eng.state = .unref ∨ s.eng.state = .track) ∧ s.par P.WH_SRC ≠ 4
      ∧ usTicks (s.par P.WH_STALLT) ≤ s.t - s.eng.lastEvent then
    s.setEng { s.eng with standstill := true }
  else s

/-! ### Commands -/

/-- `WH_CTRL` RUN (R60, R470, R648): UNREF, and at once TRACK for the VIRTUAL source, whose reference event RUN is
(Table 2.1). In UNREF too RUN is that source's reference event, by Tables 2.1 and 2.3, though R648 gives RUN outside
STOPPED as an example of a refusal (DESIGN CHOICE, log entry 107). -/
def State.whRun (s : State) : State :=
  let virtual := s.par P.WH_SRC == 4
  if s.pendingC Fb.wheel then s.answer Status.notPermitted
  else
    match s.eng.state with
    | .stopped =>
      let e := s.eng
      let s := (s.setEng { e with
        state := .unref, reverse := false, standstill := false, referenced := false, travel := 0, zMark := none,
        errTravel := [], edgeTimes := [], ssiFrame := none, ssiBad := 0, scBad := 0, mainsSilent := false,
        mainsRise := none, mainsBad := 0, fromHold := false, lossFree := some s.t }).interpFresh
      let s := s.lossUpdate
      (if virtual then s.reference s.zofsPos none else s).done
    | .unref => if virtual then (s.reference s.zofsPos none).done else s.answer Status.notPermitted
    | _ => s.answer Status.notPermitted

/-- The engine enters STOPPED: the angle is held (Table 2.2). -/
def State.engStop (s : State) : State :=
  s.setEng { s.eng with
    state := .stopped, referenced := false, standstill := false, reverse := false, firstCrossed := none,
    fromHold := false }

/-- `WH_CTRL` STOP (Table 2.3): from any state. -/
def State.whStop (s : State) : State := s.engStop.done

/-- `WH_CTRL` REREF (Table 2.3, R648). -/
def State.whReref (s : State) : State :=
  if s.eng.state = .track then
    (s.setEng { s.eng with state := .unref, referenced := false, fromHold := false, firstCrossed := none }).done
  else s.answer Status.notPermitted

/-- `WH_CTRL` 4 clears every counter, `WH_STEPMAX` and `WH_INTERR` (Table 2.8). -/
def State.whClear (s : State) : State :=
  (s.clearPars [(P.WH_LATECNT, 0), (P.WH_SKIPCNT, 0), (P.WH_DFRCNT, 0), (P.WH_SRCERR, 0), (P.WH_ZSLIPCNT, 0),
    (P.WH_GAPCNT, 0), (P.WH_ECCCNT, 0), (P.WH_ECCCNT, 1), (P.WH_STEPMAX, 0), (P.WH_INTERR, 0)]).done

/-! ### The angle at a TCLK edge -/

/-- One TCLK period of the angle engine (R32, R34, R53): VIRTUAL advances, COAST extrapolates, and between position
events the interpolated angle follows its clamped prediction. -/
def State.engTick (s : State) : State :=
  let e := s.eng
  let i := e.interp
  match e.state with
  | .stopped => s
  | .hold => s
  | .coast => s.moveTo (posAdd i.base (fracFloor (fracMul i.v (s.t - i.tBase : Nat))))
  | _ =>
    if s.par P.WH_SRC = 4 then
      let v := s.parI P.WH_VSPEED
      (s.moveTo (posAdd e.pos v)).direction v
    else if i.mode = 0 ∨ i.step = 0 then s
    else
      let out := posSub i.outPrev i.base
      let raw := fracFloor (i.predict (s.t - i.tBase))
      let off := if 0 < i.step then clampInt out (i.step - 1) raw else clampInt (i.step + 1) out raw
      let p := posAdd i.base off
      (s.setEng { e with interp := { i with outPrev := p } }).moveTo p

/-- `WH_SPEED` (R34), in units of 2^−16 angle-word LSB per TCLK period. -/
def State.speed (s : State) : Int :=
  let e := s.eng
  match e.state with
  | .stopped => 0
  | .hold => 0
  | _ =>
    if s.par P.WH_SRC = 4 then s.parI P.WH_VSPEED
    else if e.standstill ∧ e.state ≠ .coast then 0
    else
      let v := e.interp.v
      if 0 ≤ v.num then (openDiv 2 v.num.natAbs v.den : Nat) else -((openDiv 2 v.num.natAbs v.den : Nat) : Int)

/-- `WH_STATUS` (Table 2.9). -/
def State.whStatus (s : State) : Nat :=
  b2n s.eng.reverse + 2 * b2n s.eng.standstill + 4 * b2n s.eng.overspeed + 8 * b2n s.eng.referenced
    + 16 * b2n s.eng.encFault

/-- A reset of the angle engine (R58). The pin's level is not the engine's. -/
def State.engReset (s : State) : State :=
  { (s.resetParams Fb.wheel) with eng := { encFault := s.eng.encFault }, wheel := {} }

end Sys2Proof.Machine
end

