-- ==== Sys2Proof/Machine/Streams.lean ====
section
/-! DEFINITION. Mailboxes, stream rings and the buffer pool (R430–R463). -/

namespace Sys2Proof.Machine

/-! ### Who asked for an operation (R478) -/

/-- The master, access type, address form and address that a record names (Table 16.5). -/
structure Origin where
  master : Nat := 0
  access : Nat := 0
  form : Nat := 0
  addr : Nat := 0
deriving DecidableEq, Repr

/-- The effect of the Wheel action whose entry has this handle (Table 16.5). -/
def actionOrigin (handle : Nat) : Origin := { master := 6, access := 3, form := 1, addr := handle }

/-- Ask for a record of the mailbox-and-stream block. -/
def State.askStream (s : State) (det cls inst : Nat) (o : Origin) : State :=
  s.ask { blk := Fb.streams, det := det, cls := cls, master := o.master, access := o.access, form := o.form,
          addr := o.addr, inst := inst }

/-- The block's own condition, at mailbox `n` (R647). -/
def mboxOrigin (n : Nat) : Origin := { addr := P.MB_STATE + n * 4096 }

/-! ### Mailboxes -/

namespace Sender
/-- Sender codes of Table 15.2; ports S2, U and E have their port numbers. -/
def hopper : Nat := 5
def wheel : Nat := 6
def kiln : Nat := 7
def grist : Nat := 8
def fabric : Nat := 9
end Sender

/-- MB*n* is one of MB0–MB7 and directed TO_HOST. -/
def State.toHost (s : State) (n : Nat) : Bool := decide (n < 8) && s.par P.MB_DIR n == 0

/-- MB*n* is one of MB0–MB7 and directed FROM_HOST. -/
def State.fromHost (s : State) (n : Nat) : Bool := decide (n < 8) && s.par P.MB_DIR n == 1

/-- Table 15.1: the party is a sender for the mailbox; a relay posts as Hopper (R430). -/
def State.isSender (s : State) (n code : Nat) : Bool :=
  if n < 8 then
    if s.toHost n then code == Sender.hopper || code == Sender.wheel || code == Sender.kiln || code == Sender.grist
    else code == 2 || code == 3 || code == 4
  else if n < 12 then code == Sender.fabric
  else code == Sender.hopper || code == Sender.wheel

/-- A message enters an EMPTY mailbox (R433). -/
def State.mbFill (s : State) (n : Nat) (m : Message) : State :=
  let s := s.setMbox n { s.mbox n with msg := some { m with arrival := s.t } }
  (s.bump P.MB_MSGCNT n).setPar P.MB_DSTAT n 1

/-- A message of a sender, with its payload of at most 64 bytes and `MB_GEN` of the sender (Table 15.2). -/
def State.newMessage (s : State) (code : Nat) (payload : List Byte) : Message :=
  { payload := payload.take 64, sender := code, gen := s.par P.MB_GEN code % 256 }

/-- A post by the Wheel, Kiln, the grist block or the fabric, and whether it was made (R430, R433). The fabric's POST
to a full mailbox is refused at its port without a record (R227). -/
def State.mbPost (s : State) (n code : Nat) (payload : List Byte) (o : Origin) : Bool × State :=
  if s.isSender n code = false then (false, (s.bump P.MB_REFUSE n).askStream 0 1 n o)
  else if (s.mbox n).msg.isSome then
    if code = Sender.fabric then (false, s) else (false, (s.bump P.MB_REFUSE n).askStream 1 1 n o)
  else (true, s.mbFill n (s.newMessage code payload))

/-- The mailbox has become EMPTY: a pending MB_WRITE posts, and completes with OK (R433, R439). -/
def State.mbEmptied (s : State) (n : Nat) : State :=
  match (s.mbox n).pendWrites with
  | w :: ws =>
    if (s.mbox n).msg.isSome then s
    else
      let s := s.setMbox n { s.mbox n with pendWrites := ws }
      (s.mbFill n (s.newMessage w.port w.data)).complete w.port w.seq Status.ok
  | [] => s

/-- The message is taken: the mailbox empties (R434). -/
def State.mbTake (s : State) (n : Nat) : State :=
  match (s.mbox n).msg with
  | some _ => ((s.setMbox n { s.mbox n with msg := none }).setPar P.MB_DSTAT n 2).mbEmptied n
  | none => s

/-- The message is discarded by a reset of its receiver (R439). -/
def State.mbDiscard (s : State) (n : Nat) : State :=
  match (s.mbox n).msg with
  | some _ => (((s.setMbox n { s.mbox n with msg := none }).setPar P.MB_DSTAT n 3).bump P.MB_DISCNT n).mbEmptied n
  | none => s

/-- The unread message becomes an ORPHAN by a reset of its sender (R440). -/
def State.mbOrphan (s : State) (n : Nat) : State :=
  match (s.mbox n).msg with
  | some m => ((s.setMbox n { s.mbox n with msg := some { m with orphan := true } }).bump P.MB_ORPHCNT n).askStream 3 1 n
                (mboxOrigin n)
  | none => s

/-- Message status of Table 15.2. -/
def Message.status (m : Message) : Nat :=
  (if m.orphan then 2 else 1) + (if m.relayed then 4 else 0) + m.sender * 16 + m.gen * 256

/-- `MB_STATE` of a mailbox (Table 15.9). -/
def Mailbox.word (x : Mailbox) : Nat :=
  (match x.msg with
   | some m => m.status + m.payload.length * 2 ^ 16
   | none => 0) + b2n (!x.pendWrites.isEmpty) * 2 ^ 23

/-- The parties of Table 15.3. -/
inductive Party where
  | host (port : Nat)
  | hopper
  | fabric
  /-- The Wheel, Kiln or the grist block, by sender code. -/
  | block (code : Nat)
deriving DecidableEq, Repr

/-- Table 15.3: the party receives what mailbox `n` holds. -/
def State.receives (s : State) (p : Party) (n : Nat) : Bool :=
  match p with
  | .host port => s.toHost n && s.par P.MB_PORT n == port
  | .hopper => s.fromHost n || (decide (8 ≤ n) && decide (n < 12))
  | .fabric => decide (12 ≤ n) && decide (n < 16)
  | .block _ => false

/-- Table 15.3: the party sent the message that mailbox `n` holds. -/
def State.sent (s : State) (p : Party) (n : Nat) : Bool :=
  match (s.mbox n).msg with
  | none => false
  | some m =>
    match p with
    | .host port => s.fromHost n && s.par P.MB_PORT n == port && m.sender == port
    | .hopper => m.relayed
    | .fabric => decide (8 ≤ n) && decide (n < 12)
    | .block code => m.sender == code && !m.relayed

/-- The sender codes whose generation a reset of the party raises (R440): a host port is a party of Table 15.3 only
where a mailbox is bound to it. -/
def State.genCodes (s : State) : Party → List Nat
  | .host port => if (List.range 8).any (fun n => s.par P.MB_PORT n == port) then [port] else []
  | .hopper => [Sender.hopper]
  | .fabric => [Sender.fabric]
  | .block code => [code]

/-- One event resets the parties: senders first, so that a message whose receiver also resets is discarded and is no
orphan (R439–R441), and then the discards, each of which may let a pending MB_WRITE post. -/
def State.mbParties (s : State) (ps : List Party) : State :=
  let disc := (List.range 16).filter (fun n => ps.any (fun p => s.receives p n) && (s.mbox n).msg.isSome)
  let orph := (List.range 16).filter (fun n => ps.any (fun p => s.sent p n) && !disc.contains n)
  let s' := orph.foldl State.mbOrphan s
  let s' := (ps.flatMap s.genCodes).foldl (fun x c => x.bump P.MB_GEN c) s'
  disc.foldl State.mbDiscard s'

/-- Hopper relays what the source holds once the destination is EMPTY, keeping payload, SENDER, GEN and STATE (R436). A
destination that does not have Hopper for a sender refuses the post (R430), and the source keeps its message. -/
def State.mbRelay (s : State) (src dst : Nat) : State :=
  match (s.mbox src).msg with
  | none => s
  | some m =>
    if (s.mbox dst).msg.isSome then s
    else if s.isSender dst Sender.hopper = false then
      (s.bump P.MB_REFUSE dst).askStream 0 1 dst { master := 5, access := 2, addr := P.MB_STATE + dst * 4096 }
    else (s.mbFill dst { m with relayed := true }).mbTake src

/-- Source and destination of relay `k`: MB8+k for k below 4, and the FROM_HOST mailbox `MB_ROUTE[k]` otherwise
(R436). -/
def State.relayPair (s : State) (k : Nat) : Nat × Nat :=
  if k < 4 then (8 + k, s.par P.MB_ROUTE k) else (s.par P.MB_ROUTE k, 8 + k)

/-- Hopper can work: it is out of reset, not restarting, and not stopped by Halt or HIBERNATE (R267). -/
def State.hopperUp (s : State) : Bool := s.alive && s.pwr.hopperDown.isNone && s.kiln.state != .hibernate

/-- MB_RELAY. -/
def State.relay (s : State) (k : Nat) : State :=
  let (src, dst) := s.relayPair k
  if s.hopperUp && (decide (k < 4) || s.fromHost src) then s.mbRelay src dst else s

/-- The message of relay `k`'s source has waited `MB_TIMEOUT` for a full destination: it is discarded (R436). -/
def State.relayTimeout (s : State) (k : Nat) : State :=
  let (src, dst) := s.relayPair k
  match (s.mbox src).msg, (s.mbox dst).msg with
  | some m, some d =>
    if s.hopperUp && (decide (k < 4) || s.fromHost src)
        && decide (max m.arrival d.arrival + usTicks (s.par P.MB_TIMEOUT src) ≤ s.t) then
      ((((s.setMbox src { s.mbox src with msg := none }).setPar P.MB_DSTAT src 4).bump P.MB_TOCNT src).askStream 2 1 src
        { master := 5, access := 2, addr := P.MB_STATE + src * 4096 }).mbEmptied src
    else s
  | _, _ => s

/-- The bitmap of full mailboxes (MB_STATUS). -/
def State.mbFull (s : State) : Nat :=
  (List.range 16).foldl (fun b n => b + b2n (s.mbox n).msg.isSome * 2 ^ n) 0

/-- `MB_CTRL` (R463). -/
def State.mbClear (s : State) (n : Nat) : State := (s.mbDiscard n).done

/-- `MB_CTRL` 2 clears the counters of a mailbox (R463). -/
def State.mbClearCounters (s : State) (n : Nat) : State :=
  (s.clearPars [(P.MB_MSGCNT, n), (P.MB_DISCNT, n), (P.MB_ORPHCNT, n), (P.MB_TOCNT, n), (P.MB_REFUSE, n)]).done

/-- A write of `MB_CTRL`. -/
def State.mbCtrl (s : State) (n v : Nat) : State :=
  if v = 1 then s.mbClear n else if v = 2 then s.mbClearCounters n else s.answer Status.outOfRange

/-! ### The buffer pool -/

/-- Buffers a ring holds (R447). -/
def Ring.bufs (r : Ring) : Nat := if r.words.isEmpty then 0 else ceilDiv (r.off + r.words.length) 64

/-- The ring accepts records: ENABLED or LOSING (Table 15.6). -/
def Ring.accepts (r : Ring) : Bool := r.state == .enabled || r.state == .losing

/-- `ST_RESV` of a ring that is enabled (R448). -/
def State.ringResv (s : State) (n : Nat) : Nat := if (s.ring n).accepts then s.par P.ST_RESV n else 0

/-- Retired buffers that no ring holds any more (R459). -/
def State.goneBufs (s : State) : Nat :=
  s.pool.retired - (s.rings.filter (fun e => e.2.headRetired && !e.2.words.isEmpty)).length

/-- Free buffers of the pool: `ST_POOL[0]`. -/
def State.freeBufs (s : State) : Nat := 2048 - s.goneBufs - s.rings.foldl (fun a e => a + e.2.bufs) 0

/-- Free buffers not set aside: `ST_POOL[3]` (R448). -/
def State.sharedBufs (s : State) : Nat :=
  2048 - s.goneBufs - s.rings.foldl (fun a e => a + max e.2.bufs (s.ringResv e.1)) 0

/-- The low-water mark follows the free buffers down. -/
def State.markLow (s : State) : State := { s with pool := { s.pool with low := min s.pool.low s.freeBufs } }

/-- A ring without its first `k` words; the buffers they filled return to the pool (R447, R459). -/
def Ring.drop (r : Ring) (k : Nat) : Ring :=
  let rest := r.words.drop k
  let off := r.off + k
  if rest.isEmpty then { r with words := [], off := 0, headRetired := false }
  else { r with words := rest, off := off % 64, headRetired := r.headRetired && decide (off < 64) }

/-- Length of the record that begins a list of words: its head and the words up to the next head. -/
def recordLength : List RingWord → Nat
  | [] => 0
  | _ :: t => 1 + (t.takeWhile (fun w => !w.head)).length

/-- The number of words, at most `max`, that the whole records at the front of a ring make (R452); `fuel` bounds the
records counted. -/
def wholeRecords (max : Nat) : Nat → List RingWord → Nat
  | 0, _ => 0
  | fuel + 1, ws =>
    let k := recordLength ws
    if k = 0 ∨ max < k then 0 else k + wholeRecords (max - k) fuel (ws.drop k)

/-- Words lost by a ring: counted, to be shown by a loss record, and the ring enters LOSING (R446, R450). -/
def State.ringLose (s : State) (n k : Nat) (o : Origin) : State :=
  let r := s.ring n
  let s := s.bump P.ST_LOST n k
  let s := s.setRing n { r with
    lostSince := satAdd r.lostSince k
    anchorDue := true
    state := if r.state = .enabled then .losing else r.state }
  if r.state = .enabled then s.askStream 8 1 n o else s

/-- DROP_OLD: the words the ring discards, its oldest buffer and the rest of a record that buffer splits (R450). -/
def Ring.oldest (r : Ring) : Nat :=
  let k := 64 - r.off
  k + ((r.words.drop k).takeWhile (fun w => !w.head)).length

/-- The head word of a multi-word record (Table 15.4). -/
def headWord (src data : Nat) : Word := BitVec.ofNat 32 (data * 2 ^ 14 + src * 2 ^ 8)

/-- The four words of a stamp block (R443). -/
def stampWords (angle time : Nat) : List Word :=
  [BitVec.ofNat 32 angle, BitVec.ofNat 32 (bitsOf angle 32 16), BitVec.ofNat 32 time, BitVec.ofNat 32 (time / 2 ^ 32)]

/-- The record as it would enter the ring now: loss record, anchor and record, placed together (R445, R446). -/
def State.ringRecord (s : State) (n : Nat) (sample : Bool) (words : List Word) (angle time : Nat) : List Word :=
  let r := s.ring n
  let mode := bitsOf (s.par P.ST_CFG n) 4 2
  let anchor := sample && (mode == 2 || (mode == 1 && (r.anchorDue || decide (s.par P.ST_ANCHOR n ≤ r.sinceAnchor))))
  (if r.lostSince = 0 then [] else [headWord 0x34 0, BitVec.ofNat 32 r.lostSince])
    ++ (if anchor then headWord 0x33 0 :: stampWords angle time else []) ++ words

/-- Ring words made from a record's words at a time. -/
def ringWords (time : Nat) : List Word → List RingWord
  | [] => []
  | w :: t => ⟨w, time, true⟩ :: t.map (fun x => ⟨x, time, false⟩)

/-- Buffers the ring would hold with `k` more words. -/
def Ring.bufsWith (r : Ring) (k : Nat) : Nat := ceilDiv ((if r.words.isEmpty then 0 else r.off) + r.words.length + k) 64

/-- Why a record of `k` words cannot enter ring `n`: it would pass `ST_MAXBUF`, or no shared buffer is free (R449). -/
inductive NoRoom where
  | fits | ringFull | poolEmpty
deriving DecidableEq, Repr

/-- Room for `k` more words in ring `n`; the ring's own reserve goes first (R448). -/
def State.ringRoom (s : State) (n k : Nat) : NoRoom :=
  let r := s.ring n
  let want := r.bufsWith k
  let resv := s.ringResv n
  if s.par P.ST_MAXBUF n < want then .ringFull
  else if s.sharedBufs < max want resv - max r.bufs resv then .poolEmpty
  else .fits

/-- A refused request for a shared buffer: counted at its port, one POOLEMPTY record in an episode (R449, R466). -/
def State.poolRefuse (s : State) (n port : Nat) (o : Origin) : State :=
  let s := s.bump P.ST_NOBUF port
  if (s.ring n).refused then s else (s.setRing n { s.ring n with refused := true }).askStream 9 1 n o

/-- The record takes its place: counted, a loss shown, LOSING left (Table 15.6). -/
def State.ringPlace (s : State) (n : Nat) (sample : Bool) (all : List Word) (words : List Word) : State :=
  let r := s.ring n
  let anchored := decide ((if r.lostSince = 0 then 0 else 2) + words.length < all.length)
  let s := s.setRing n { r with
    words := r.words ++ ringWords s.t all
    off := if r.words.isEmpty then 0 else r.off
    lostSince := 0
    refused := false
    state := if r.state = .losing then .enabled else r.state
    anchorDue := if anchored then false else r.anchorDue
    sinceAnchor := if anchored then 1 else if sample then r.sinceAnchor + 1 else r.sinceAnchor }
  (s.bump P.ST_RECCNT n all.length).markLow

/-- A record meets its ring: it enters whole, or it is lost whole; with DROP_OLD the oldest buffers make way, `fuel` of
them at most (R444, R450). The answer says whether it entered. -/
def State.ringPut (s : State) (n port : Nat) (sample : Bool) (words : List Word) (angle time : Nat) (o : Origin)
    (asked : Bool) : Nat → Bool × State
  | 0 => (false, s.ringLose n words.length o)
  | fuel + 1 =>
    let all := s.ringRecord n sample words angle time
    match s.ringRoom n all.length with
    | .fits => (true, s.ringPlace n sample all words)
    | why =>
      let s := if why = .poolEmpty ∧ asked = false then s.poolRefuse n port o else s
      if bitOf (s.par P.ST_CFG n) 6 ∧ 2 ≤ (s.ring n).bufs then
        let r := s.ring n
        let k := min r.oldest r.words.length
        let s := (s.setRing n (r.drop k)).ringLose n k o
        s.ringPut n port sample words angle time o (asked || decide (why = .poolEmpty)) fuel
      else (false, s.ringLose n words.length o)

/-- The buffer-pool word a record entry concerns (Table 16.5). -/
def State.poolOrigin (s : State) (n master : Nat) : Origin :=
  { master := master, access := 4, form := 1,
    addr := 2 ^ 28 + Config.poolWord n (s.ring n).words.length % 131072 }

/-- Record entry (R450, Table 15.6): in DISABLED and SAFE the words are discarded and counted. A device in Halt writes
no record. -/
def State.ringEnter (s : State) (n port : Nat) (sample : Bool) (words : List Word) (angle time master : Nat) : State :=
  let r := s.ring n
  if r.accepts then
    (s.ringPut n port sample words angle time (s.poolOrigin n master) false (r.bufs + 1)).2
  else
    let s := s.bump P.ST_LOST n words.length
    if r.state = .safe then s.setRing n { r with lostSince := satAdd r.lostSince words.length, anchorDue := true } else s

/-- A record is made: it enters its ring as the TCLK edge ends (R457). -/
def State.recordMade (s : State) (e : RingEntry) : State := { s with pool := { s.pool with entries := s.pool.entries ++ [e] } }

/-- Records enter their rings. -/
def State.ringsEnter (s : State) (l : List RingEntry) : State :=
  l.foldl (fun (s : State) e => s.ringEnter e.ring e.port e.sample e.words e.angle e.time e.master) s

/-- The place of a record among those of its port: lane records by ring and then by source index, in bits 13–8 of their
word, others as they were made (R449, R451). -/
def RingEntry.place (e : RingEntry) : Nat :=
  if e.port = 1 then e.ring * 64 + bitsOf ((e.words.headD 0).toNat) 8 6 else 0

/-- A record takes its place after those that are not behind it. -/
def RingEntry.insert (e : RingEntry) : List RingEntry → List RingEntry
  | [] => [e]
  | f :: l => if e.place < f.place then e :: f :: l else f :: e.insert l

/-- The records of one request port, in the order in which they enter (R451). -/
def State.entriesOf (s : State) (port : Nat) : List RingEntry :=
  (s.pool.entries.filter (fun e => e.port == port)).foldl (fun l e => e.insert l) []

/-- A sample record of a lane or a converter: one word (R442, Table 15.5). -/
def State.sampleRecord (s : State) (n : Nat) (word : Word) (angle time master : Nat) : State :=
  s.recordMade ⟨n, 1, true, [word], angle, time, master⟩

/-- The six words of a marker (Table 15.4). -/
def markerWords (tag angle time : Nat) : List Word :=
  headWord 0x31 0 :: BitVec.ofNat 32 (tag % 2 ^ 16) :: stampWords angle time

/-- A STAMP effect: a marker through the Wheel port (R443). -/
def State.stampEffect (s : State) (n tag : Nat) : State :=
  s.recordMade ⟨n, 0, false, markerWords tag s.angleStamp s.t, s.angleStamp, s.t, 6⟩

/-- The six words of a capture record (Table 15.4). -/
def captureWords (timer kind seq count angle time : Nat) : List Word :=
  headWord 0x32 (timer * 2 ^ 12 + kind * 2 ^ 10 + (seq % 256) * 2 ^ 2) :: BitVec.ofNat 32 count :: stampWords angle time

/-- Whether a capture record would find no pool buffer now (R232). -/
def State.captureBlocked (s : State) (n : Nat) : Bool :=
  (s.ring n).accepts && s.ringRoom n (s.ringRecord n false (captureWords 0 0 0 0 0 0) 0 0).length == .poolEmpty

/-! ### Ring commands and delivery -/

/-- Every word of a ring discarded; an anchor precedes the next sample record (R445). -/
def State.ringFlush (s : State) (n : Nat) : State :=
  s.setRing n { s.ring n with words := [], off := 0, headRetired := false, anchorDue := true }

/-- `ST_CTRL` ENABLE (R448, Table 15.6, R648). -/
def State.ringEnable (s : State) (n : Nat) : State :=
  match (s.ring n).state with
  | .disabled =>
    if s.sharedBufs < s.par P.ST_RESV n then s.answer Status.noBuffer 3
    else (s.setRing n { s.ring n with
            state := .enabled, anchorDue := true, sinceAnchor := 0, lostSince := 0, refused := false }).done
  | .safe => s.answer Status.faultState
  | _ => s.answer Status.notPermitted

/-- `ST_CTRL` DISABLE, which also flushes (Table 15.6, R648). -/
def State.ringDisable (s : State) (n : Nat) : State :=
  match (s.ring n).state with
  | .disabled => s.answer Status.notPermitted
  | .safe => s.answer Status.faultState
  | _ =>
    let s := s.ringFlush n
    (s.setRing n { s.ring n with state := .disabled }).done

/-- `ST_CTRL` FLUSH (R463). -/
def State.ringFlushCmd (s : State) (n : Nat) : State := (s.ringFlush n).done

/-- The rings once the records that have been made at this edge are in them: the Hopper port comes after the others (R451). -/
def State.ringsAfter (s : State) : State := s.ringsEnter (s.entriesOf 0 ++ s.entriesOf 1 ++ s.entriesOf 2)

/-- `ST_CTRL` MARK: a marker with the dual stamp at acceptance, through the Hopper port, refused when the request for a
buffer is (R443, Table 15.5): the requests that the edge has made before it are served first (R449; DESIGN CHOICE, log
entry 137). -/
def State.ringMark (s : State) (n tag : Nat) : State :=
  let words := markerWords tag s.angleStamp s.t
  let u := s.ringsAfter
  if (u.ring n).accepts
      && u.ringRoom n (u.ringRecord n false words 0 0).length == .poolEmpty then
    (s.poolRefuse n 2 (s.poolOrigin n 5)).answer Status.noBuffer 3
  else (s.recordMade ⟨n, 2, false, words, s.angleStamp, s.t, 5⟩).done

/-- `ST_CTRL` 5 clears a ring's counters (R463). -/
def State.ringClear (s : State) (n : Nat) : State :=
  (s.clearPars [(P.ST_RECCNT, n), (P.ST_LOST, n), (P.ST_DGCNT, n)]).done

/-- A write of `ST_CTRL`: command in [7:0], tag in [31:16] (R463). -/
def State.stCtrl (s : State) (n v : Nat) : State :=
  let c := bitsOf v 0 8
  if c = 1 then s.ringEnable n
  else if c = 2 then s.ringDisable n
  else if c = 3 then s.ringFlushCmd n
  else if c = 4 then s.ringMark n (bitsOf v 16 16)
  else s.ringClear n

/-- `ST_POOLCTRL` RESUME: SAFE rings return to ENABLED after acknowledgement (R456, R470). -/
def State.poolResume (s : State) : State :=
  if s.pendingC Fb.streams ∨ s.rings.all (fun e => !(e.2.state == .safe)) then s.answer Status.notPermitted
  else
    let s := (s.rings.map Prod.fst).foldl (fun s n =>
      if (s.ring n).state = .safe then s.setRing n { s.ring n with state := .enabled, anchorDue := true } else s) s
    (s.openWindow Fb.streams).done

/-- `ST_POOLCTRL` 2 clears `ST_NOBUF` and the low-water mark (R463). -/
def State.poolClear (s : State) : State :=
  let s := s.clearPars [(P.ST_NOBUF, 0), (P.ST_NOBUF, 1), (P.ST_NOBUF, 2), (P.ST_NOBUF, 3)]
  { s with pool := { s.pool with low := s.freeBufs } }.done

/-- A write of `ST_POOLCTRL`. -/
def State.poolCtrl (s : State) (v : Nat) : State :=
  if v = 1 then s.poolResume else if v = 2 then s.poolClear else s.answer Status.outOfRange

/-- A word of ring `n` has an uncorrectable error: it is lost with the rest of its record, and its buffer is retired
(R459). -/
def State.poolEcc (s : State) (n : Nat) : State :=
  let r := s.ring n
  let k := recordLength r.words
  let o := s.poolOrigin n 0
  if k = 0 then s else
    let again := r.headRetired
    let s := s.setRing n ({ r with headRetired := true }.drop k)
    let s := if again then s else { s with pool := { s.pool with retired := s.pool.retired + 1 } }
    let r := s.ring n
    let s := s.setRing n { r with lostSince := satAdd r.lostSince k, anchorDue := true }
    ((s.bump P.ST_LOST n k).askStream 10 2 n o)

/-- The free-list check finds an inconsistency: every ring is flushed with its words counted lost, and the pool is
rebuilt; the rings enter SAFE by the class C reaction (R460). -/
def State.freelist (s : State) : State :=
  let s := (s.rings.map Prod.fst).foldl (fun s n =>
    let k := (s.ring n).words.length
    let s := (s.bump P.ST_LOST n k).ringFlush n
    s.setRing n { s.ring n with lostSince := satAdd (s.ring n).lostSince k }) s
  s.raise Fb.streams 11 3

/-- Every ring enters SAFE (Table 15.8); a DISABLED one stays DISABLED (DESIGN CHOICE, log entry 131). -/
def State.ringsSafe (s : State) : State :=
  (s.rings.map Prod.fst).foldl (fun s n =>
    if (s.ring n).state = .disabled then s else s.setRing n { s.ring n with state := .safe }) s

/-- Port a ring is bound to (R452). -/
def State.ringPort (s : State) (n : Nat) : Nat := bitsOf (s.par P.ST_CFG n) 0 3

/-- The ring sends datagrams (R453). -/
def State.ringPush (s : State) (n : Nat) : Bool := s.ringPort n == 4 && bitOf (s.par P.ST_CFG n) 3

/-- Age in ticks of the oldest word of a ring. -/
def State.ringAge (s : State) (n : Nat) : Nat :=
  match (s.ring n).words with
  | [] => 0
  | w :: _ => s.t - w.time

/-- A datagram of the ring is due (R453). -/
def State.ringDue (s : State) (n : Nat) : Bool :=
  s.ringPush n && !(s.ring n).words.isEmpty &&
    (decide (s.par P.ST_PUSHN n ≤ (s.ring n).words.length) || decide (usTicks (s.par P.ST_PUSHT n) ≤ s.ringAge n))

/-- The payload of an OK STREAM_READ reply with the words that leave, and the ring without them (R452). -/
def State.ringTake (s : State) (n max : Nat) : List Byte × State :=
  let r := s.ring n
  let k := wholeRecords max r.words.length r.words
  let out := (r.words.take k).flatMap (fun w => leBytes 4 w.w.toNat)
  (leBytes 2 k ++ leBytes 2 (min 0xFFFF (r.words.length - k)) ++ out, s.setRing n (r.drop k))

/-- Rings that raise stream attention: `ST_ATTNMAP` (R455). -/
def State.attnRings (s : State) : Nat :=
  s.rings.foldl (fun b e =>
    let a := s.par P.ST_ATTN e.1
    b + b2n (e.2.state == .losing || (decide (a ≠ 0) && decide (a ≤ e.2.words.length))) * 2 ^ e.1) 0

/-- Code of a ring state (Table 15.6). -/
def RingState.code : RingState → Nat
  | .disabled => 0
  | .enabled => 1
  | .losing => 2
  | .safe => 3

end Sys2Proof.Machine
end

