-- ==== Sys2Proof/Machine/Lanes.lean ====
section
/-! DEFINITION. Filter lanes (R181–R216): input, DC block, CIC, FIR, resampler, averager, sin/cos resolver, formatter
and states. -/

namespace Sys2Proof.Machine

/-! ### Decimation and delay (R186, R191) -/

/-- CIC decimation R for a decimation D (Table 7.2). -/
def cicRatio (d : Nat) : Nat := if d % 2 = 1 then d else d / 2

/-- 2τ_g of Table 7.3, in lane input periods; a lane in OFF reports the value of TIME. -/
def laneDelay (mode d : Nat) : Nat :=
  if mode = 4 ∨ mode = 5 then 0
  else if mode = 3 then d - 1
  else if d % 2 = 1 then 66 * d - 4
  else 33 * d - 4

/-- The resampler is in use: ANGLE, and TIME unless `FL_RATIO` is 1.0 (Table 7.1). -/
def State.resampled (s : State) (n : Nat) : Bool :=
  s.par P.FL_MODE n == 2 || (s.par P.FL_MODE n == 1 && s.par P.FL_RATIO n != 0x08000000)

/-! ### Angle targets (R196) -/

/-- round(k × 2^24 / `FL_APC`), ties away from zero. -/
def targetWord (apc k : Nat) : Nat := (2 * k * 2 ^ 24 + apc) / (2 * apc)

/-- The number of targets of a cycle whose words, counted from `FL_AOFS`, do not exceed `y`. -/
def targetsUpTo (apc y : Nat) : Nat :=
  let k := y * apc / 2 ^ 24
  if apc ≤ k then apc
  else if targetWord apc (k + 1) ≤ y ∧ k + 1 < apc then k + 2
  else if targetWord apc k ≤ y then k + 1
  else k

/-- The number of targets at or before a stamp counted from `FL_AOFS` in angle-word units. -/
def targetCount (apc x : Nat) : Nat := x / 2 ^ 24 * apc + targetsUpTo apc (x % 2 ^ 24)

/-- The stamp, counted from `FL_AOFS`, of target number `q`. -/
def targetStamp (apc q : Nat) : Nat := q / apc * 2 ^ 24 + targetWord apc (q % apc)

/-- A stamp counted from `FL_AOFS`, as a number that does not wrap near it. -/
def fromOffset (aofs stamp : Nat) : Nat := 2 ^ 48 + stamp - aofs

/-- The last target at or before a stamp. -/
def targetBefore (apc aofs stamp : Nat) : Nat :=
  (targetStamp apc (targetCount apc (fromOffset aofs stamp) - 1) + aofs) % 2 ^ 48

/-- The first target after a stamp. -/
def targetAfter (apc aofs stamp : Nat) : Nat :=
  (targetStamp apc (targetCount apc (fromOffset aofs stamp)) + aofs) % 2 ^ 48

/-! ### States (Table 7.6) -/

/-- Inputs that PRIMING takes under the parameters in force (R210). -/
def State.laneNeed (s : State) (n : Nat) : Nat :=
  let d := s.par P.FL_DEC n
  laneDelay (s.par P.FL_MODE n) d + 1 + (if s.resampled n then 23 * d else 0)

/-- Every history and the partial average cleared (R210). -/
def Lane.cleared (l : Lane) : Lane :=
  { l with
    taken := 0, integ := [0, 0, 0, 0], comb := [0, 0, 0, 0], cicCount := 0, fir := [], firSkip := true, stamps := []
    rin := [], rCount := 0, rPos := 0, targets := [], sum := 0, count := 0, block := none, left := none, sine := none
    prev := none, ownFlags := 0 }

/-- Entry into PRIMING (R210), which ends at once in the SINC1 and SINCOS modes. -/
def State.lanePrime (s : State) (n : Nat) : State :=
  let mode := s.par P.FL_MODE n
  s.setLane n { (s.lane n).cleared with
    state := if mode = 1 ∨ mode = 2 then .priming else .run
    seqDue := true }

/-- The lane stops: OFF, GATED or SAFE; histories, and a LANE_SYNC that waits, are lost. -/
def State.laneHalt (s : State) (n : Nat) (st : LaneState) : State :=
  s.setLane n { (s.lane n).cleared with state := st, syncDue := false }

/-- Queued outputs carry SEQ (R272, R579). -/
def Lane.markSeq (l : Lane) : Lane := { l with outs := l.outs.map (fun o => { o with flags := o.flags ||| Flag.seq }) }

/-- Kiln gates the lane. -/
def State.laneGate (s : State) (n : Nat) : State :=
  let s := s.laneHalt n .gated
  s.setLane n (s.lane n).markSeq

/-- GATED or SAFE is left for PRIMING (Table 7.6). -/
def State.laneResume (s : State) (n : Nat) : State := s.lanePrime n

/-- Class C or D reaction: any state but OFF enters SAFE. -/
def State.laneEnterSafe (s : State) (n : Nat) : State :=
  if (s.lane n).state = .off then s else s.laneHalt n .safe

/-- The lane takes its RW-LIVE values (R212); a `FL_DCM` value loads the DC estimate with its lower 6 fraction bits
clear (R185). -/
def State.laneTake (s : State) (n : Nat) : State :=
  let dcm := s.pend.find? (fun e => e.1 == paramKey P.FL_DCM n)
  let s := s.takeLive (Fb.lane n)
  match dcm with
  | some e => (s.setPar P.FL_DCM n 0).setLane n { s.lane n with dc := e.2.toInt * 64 }
  | none => s

/-! ### Outputs (R204, R205) -/

/-- An output of the lane's stages: queued in RUN, the first one since PRIMING with SEQ (R205); withheld in PRIMING. `value`
has 16 fraction bits. -/
def State.laneEmit (s : State) (n : Nat) (value : Int) (direct : Bool) (flags angle time : Nat) : State :=
  let l := s.lane n
  if l.state = .run then
    let o : LaneOut := {
      value := value, direct := direct, flags := flags ||| l.ownFlags ||| flagIf l.seqDue Flag.seq
      angle := angle, time := time }
    s.setLane n { l with outs := l.outs ++ [o], ownFlags := 0, seqDue := false }
  else s.setLane n { l with ownFlags := 0 }

/-- The formatter (R204): shift by `FL_OSHIFT`, round half away from zero, saturate. -/
def laneFormat (shift : Int) (v : Int) : Int × Bool :=
  if 0 ≤ shift then roundClamp min18 max18 (v * (2 ^ shift.toNat : Nat)) (2 ^ 16)
  else roundClamp min18 max18 v (2 ^ (16 + (-shift).toNat))

/-- LANE_OUTPUT: the oldest queued output is formatted, flagged and delivered (R204, R205). -/
def State.laneOutput (s : State) (n : Nat) : State :=
  let l := s.lane n
  match l.outs with
  | [] => s
  | o :: rest =>
    let (data, sat) := if o.direct then (o.value, false) else laneFormat (s.parI P.FL_OSHIFT n) o.value
    let (dfr, s) := s.takeDfr (0x20 + n)
    let flags := o.flags ||| l.inFlags ||| flagIf sat Flag.sat ||| flagIf dfr Flag.dfr
    let word := sampleWord data n flags
    let s := s.setLane n { l with outs := rest, inFlags := 0, last := some ⟨word, o.angle, o.time⟩ }
    let s := s.bump P.FL_OUTCNT n
    let dst := s.par P.FL_DST n
    if bitOf dst 6 then s.sampleRecord (bitsOf dst 0 6) word o.angle o.time (0x20 + n) else s

/-! ### Stages -/

/-- DC block (R185). -/
def State.laneDc (s : State) (n : Nat) (x : Int) : Int × State :=
  let mode := s.par P.FL_DCMODE n
  if mode = 0 then (x, s)
  else
    let l := s.lane n
    let d := x * 2 ^ 20 - l.dc
    let (y, sat) := roundClamp min18 max18 d (2 ^ 20)
    let dc := if mode = 1 then l.dc + openDivI 3 d (2 ^ s.par P.FL_DCK n) else l.dc
    (y, s.setLane n { l with dc := dc, ownFlags := l.ownFlags ||| flagIf sat Flag.sat })

/-- Four integrators take an input; each adds the one before it (R187). -/
def cicIntegrate (x : BitVec 66) : List (BitVec 66) → List (BitVec 66)
  | [] => []
  | i :: t => (i + x) :: cicIntegrate (i + x) t

/-- The combs take the last integrator: the output, and the registers after it (R187). -/
def cicComb (v : BitVec 66) : List (BitVec 66) → BitVec 66 × List (BitVec 66)
  | [] => (v, [])
  | z :: t =>
    let (o, r) := cicComb (v - z) t
    (o, v :: r)

/-- floor(log2 n) for positive n below 2^64. -/
def log2Floor (n : Nat) : Nat := ((List.range 64).filter (fun k => decide (2 ^ k ≤ n))).length - 1

/-- CIC normalisation (R188): shift by floor(log2 R^4), multiply by 2^s / R^4 rounded to 18 bits, round, saturate. -/
def cicNormalise (r : Nat) (v : BitVec 66) : Int × Bool :=
  let g := r ^ 4
  let sh := log2Floor g
  let k := roundHalfAway (2 ^ (sh + 17)) g
  roundClamp min18 max18 (v.toInt / (2 ^ sh : Nat) * k) (2 ^ 17)

/-- One addition of the FIR accumulator: once it has saturated it stays at its limit (R190). -/
def firAdd (a : Int × Bool) (p : Int) : Int × Bool :=
  if a.2 then a
  else if a.1 + p < -(2 ^ 39) then (-(2 ^ 39), true)
  else if 2 ^ 39 - 1 < a.1 + p then (2 ^ 39 - 1, true)
  else (a.1 + p, false)

/-- The 63 magnitudes of the AUTO set for decimation `d` sum to less than 2.0 (R190). -/
def autoFirOk (d : Nat) : Bool :=
  let mag := fun (i : Nat) => (Config.autoFir d i).toInt.natAbs
  decide (((List.range 31).map mag).sum * 2 + mag 31 < 2 ^ 17)

/-- Coefficient h[i], Q2.16, of the set in force (R189); the degraded form is BYPASS. The AUTO set is known by its bounds
alone: one that breaks R190's is no AUTO set, and BYPASS, which keeps it, stands there (DEDUCED, log entry 136). -/
def State.firCoef (s : State) (n i : Nat) : Int :=
  let j := if i < 32 then i else 62 - i
  let set := if s.isDegraded (Fb.lane n) 0 || s.isDegraded (Fb.lane n) 5 then 1 else s.par P.FL_FIRSET n
  let d := s.par P.FL_DEC n
  if set = 1 ∨ (set = 0 ∧ autoFirOk d = false) then (if j = 31 then 65536 else 0)
  else if set = 0 then (Config.autoFir d j).toInt
  else s.parI (P.FL_CU0 + (set - 2)) j

/-- The FIR sum in tap order, newest input first (R190). -/
def State.firSum (s : State) (n : Nat) (hist : List Int) : Int × Bool :=
  (List.range 63).foldl (fun a i => firAdd a (s.firCoef n i * nthD 0 hist i)) (0, false)

/-- The compensated stamp of a CIC-and-FIR output (R192): of the input τ_g periods back, or the mean of the two either
side, rounded down. -/
def compensated (tau2 : Nat) (stamps : List (Nat × Nat)) : Nat × Nat :=
  let lastOr := fun (i : Nat) => nthD (nthD (0, 0) stamps (stamps.length - 1)) stamps i
  let a := lastOr (tau2 / 2)
  if tau2 % 2 = 0 then a
  else
    let b := lastOr (tau2 / 2 + 1)
    (stampAdd b.1 (stampSub a.1 b.1 / 2), (a.2 + b.2) / 2)

/-- Resampler input `j`, counted from the last restart; 0 where none has been taken. -/
def Lane.resIn (l : Lane) (j : Int) : Stamped :=
  if j < 0 ∨ (l.rCount : Int) ≤ j then {} else nthD {} l.rin (l.rCount - 1 - j.toNat)

/-- Response of a phase at input `j`; phase 64 is phase 0 at the next input (R195). -/
def Lane.phaseSum (l : Lane) (j phase : Nat) : Int :=
  let (p, j) := if phase = 64 then (0, j + 1) else (phase, j)
  (List.range 24).foldl (fun a t => a + Config.polyphase p t * (l.resIn ((j : Int) - 11 + t)).value) 0

/-- Resampler inputs that must have been taken before an output at input `j`: S_P reads up to `j` + 12, and S_64 is S_0 at
`j` + 1 (R195, R197). -/
def inputsFor (j phase weight : Nat) : Nat := if phase = 64 ∨ (phase = 63 ∧ weight ≠ 0) then j + 14 else j + 13

/-- The interpolated output of R195, rounded half away from zero, with 16 fraction bits. -/
def Lane.resOut (l : Lane) (j phase weight : Nat) : Int :=
  let sum := (4096 - weight : Nat) * l.phaseSum j phase + (weight : Int) * l.phaseSum j (phase + 1)
  roundHalfAway sum (4096 * 2 ^ 32) * 2 ^ 16

/-- Outputs of the time-domain resampler whose last input has arrived (R194, R195); `fuel` bounds them. -/
def State.resampleTime (s : State) (n : Nat) : Nat → State
  | 0 => s
  | fuel + 1 =>
    let l := s.lane n
    let j := l.rPos / 2 ^ 27
    let mu : Nat := l.rPos % 2 ^ 27
    if l.rCount < inputsFor j (bitsOf mu 21 6) (bitsOf mu 9 12) then s
    else
      let a := l.resIn j
      let b := l.resIn (j + 1 : Nat)
      let angle := stampAdd a.angle (stampSub b.angle a.angle * (mu : Int) / (2 ^ 27 : Nat))
      let time := a.time + (b.time - a.time) * mu / 2 ^ 27
      let s := s.laneEmit n (l.resOut j (bitsOf mu 21 6) (bitsOf mu 9 12)) false 0 angle time
      let s := s.setLane n { s.lane n with rPos := l.rPos + s.par P.FL_RATIO n }
      s.resampleTime n fuel

/-- Target number `q` between inputs `j` and `j` + 1 (R197). -/
def makeTarget (apc aofs : Nat) (j : Nat) (a b : Stamped) (q : Nat) : LaneTarget :=
  let ang := (targetStamp apc q + aofs) % 2 ^ 48
  let mu := (stampSub ang a.angle).toNat * 2 ^ 18 / (stampSub b.angle a.angle).toNat
  { j := j, phase := mu / 2 ^ 12, weight := mu % 2 ^ 12, angle := ang,
    time := a.time + mu * (b.time - a.time) / 2 ^ 18 }

/-- The targets that the newest pair of resampler inputs brackets (R197–R199). -/
def State.bracket (s : State) (n : Nat) : State :=
  let l := s.lane n
  if l.rCount < 2 then s
  else
    let a := l.resIn (l.rCount - 2 : Nat)
    let b := l.resIn (l.rCount - 1 : Nat)
    let lo := match l.lastTarget with
      | some t => if 0 < stampSub t a.angle then t else a.angle
      | none => a.angle
    if stampSub b.angle a.angle ≤ 0 ∨ stampSub b.angle lo ≤ 0 then s
    else
      let apc := s.par P.FL_APC n
      let aofs := s.par P.FL_AOFS n
      let x := fromOffset aofs lo
      let q0 := targetCount apc x
      let q1 := targetCount apc (x + (stampSub b.angle lo).toNat)
      let made := min 16 (q1 - q0)
      if q1 ≤ q0 then s
      else
        let new := (List.range made).map (fun i => makeTarget apc aofs (l.rCount - 2) a b (q0 + i))
        let s := s.setLane n { l with
          targets := l.targets ++ new, lastTarget := some ((targetStamp apc (q1 - 1) + aofs) % 2 ^ 48) }
        if 16 < q1 - q0 then (s.bump P.FL_ASKIP n (q1 - q0 - 16)).raise (Fb.lane n) 3 1 else s

/-- Targets whose last input has arrived leave as outputs (R194, R197). -/
def State.resampleAngle (s : State) (n : Nat) : State :=
  let s := s.bracket n
  let l := s.lane n
  let ready := l.targets.takeWhile (fun t => decide (inputsFor t.j t.phase t.weight ≤ l.rCount))
  let s := s.setLane n { l with targets := l.targets.drop ready.length }
  ready.foldl (fun s t => s.laneEmit n (l.resOut t.j t.phase t.weight) false 0 t.angle t.time) s

/-- A FIR output: formatted directly, or taken by the resampler (R195–R199). -/
def State.laneFirOut (s : State) (n : Nat) (acc : Int) (gov : Bool) (stamp : Nat × Nat) : State :=
  let s := if gov then (s.bump P.FL_GOVCNT n).raise (Fb.lane n) 0 1 else s
  if s.resampled n then
    let l := s.lane n
    let s := s.setLane n { l with
      ownFlags := l.ownFlags ||| flagIf gov Flag.gov
      rin := (⟨acc, stamp.1, stamp.2⟩ :: l.rin).take 64
      rCount := l.rCount + 1 }
    if s.par P.FL_MODE n = 2 then s.resampleAngle n else s.resampleTime n 20
  else s.laneEmit n acc false (flagIf gov Flag.gov) stamp.1 stamp.2

/-- CIC and FIR take one input (R186–R192). -/
def State.laneChain (s : State) (n : Nat) (y : Int) (angle time : Nat) : State :=
  let l := s.lane n
  let d := s.par P.FL_DEC n
  let tau2 := laneDelay (s.par P.FL_MODE n) d
  let r := cicRatio d
  let stamps := ((angle, time) :: l.stamps).take (tau2 / 2 + 2)
  let integ := if r = 1 then l.integ else cicIntegrate (BitVec.ofInt 66 y) l.integ
  let cnt := l.cicCount + 1
  if cnt < r then s.setLane n { l with stamps := stamps, integ := integ, cicCount := cnt }
  else
    let (o, comb) := if r = 1 then (0#66, l.comb) else cicComb (nthD 0#66 integ 3) l.comb
    let (c, sat) := if r = 1 then (y, false) else cicNormalise r o
    let skip := d % 2 == 0 && l.firSkip
    let fir := (c :: l.fir).take 63
    let s := s.setLane n { l with
      stamps := stamps, integ := integ, cicCount := 0, comb := comb, fir := fir
      firSkip := !l.firSkip, ownFlags := l.ownFlags ||| flagIf sat Flag.sat }
    if skip then s
    else
      let (acc, gov) := s.firSum n fir
      s.laneFirOut n acc gov (compensated tau2 stamps)

/-- SINC1_TIME takes one input (R200). -/
def State.laneSincTime (s : State) (n : Nat) (y : Int) (angle time : Nat) : State :=
  let l := s.lane n
  let first := if l.count = 0 then (angle, time) else l.first
  let sum := (if l.count = 0 then 0 else l.sum) + y
  let cnt := l.count + 1
  if cnt < s.par P.FL_DEC n then s.setLane n { l with sum := sum, count := cnt, first := first }
  else
    let s := s.setLane n { l with sum := 0, count := 0 }
    s.laneEmit n (roundHalfAway sum cnt * 2 ^ 16) false 0 (stampAdd first.1 (stampSub angle first.1 / 2))
      ((first.2 + time) / 2)

/-- The open angle block closes: delivered with its mean, or discarded (R201). -/
def State.laneCloseBlock (s : State) (n : Nat) : State :=
  let l := s.lane n
  match l.block with
  | none => s
  | some b =>
    let s := s.setLane n { l with block := none, left := none, sum := 0, count := 0 }
    if s.par P.FL_S1MIN n ≤ l.count then
      s.laneEmit n (roundHalfAway l.sum l.count * 2 ^ 16) false 0 b l.lastTime
    else s.bump P.FL_S1DROP n

/-- SINC1_ANGLE takes one input (R201). -/
def State.laneSincAngle (s : State) (n : Nat) (y : Int) (angle time : Nat) : State :=
  let b := targetBefore (s.par P.FL_APC n) (s.par P.FL_AOFS n) angle
  let s := if (s.lane n).block = some b then s else s.laneCloseBlock n
  let l := s.lane n
  let s := s.setLane n { l with
    block := some b, left := none, sum := l.sum + y, count := l.count + 1, lastTime := time, lastIn := s.t }
  if 65536 ≤ l.count + 1 then s.laneCloseBlock n else s

/-- ANGLE_BLOCK_TIMEOUT (R201): 2 µs since the angle left the block, with no input. -/
def State.laneBlockTimeout (s : State) (n : Nat) : State :=
  let l := s.lane n
  match l.left with
  | some t0 => if l.state = .run ∧ max t0 l.lastIn + usTicks 2 ≤ s.t then s.laneCloseBlock n else s
  | none => s

/-- The edge at which the angle is first outside the open block of lane `n`. -/
def State.blockWatch (s : State) (n : Nat) : State :=
  let l := s.lane n
  match l.block with
  | none => s
  | some b =>
    let inside := targetBefore (s.par P.FL_APC n) (s.par P.FL_AOFS n) s.angleStamp == b
    if inside then (if l.left.isNone then s else s.setLane n { l with left := none })
    else if l.left.isNone then s.setLane n { l with left := some s.t } else s

/-! ### Sin/cos resolver (R202, R203) -/

/-- Angles of the CORDIC's rotations, atan(2^−i), in units of 2^−40 turn. -/
def cordicTable : List Nat :=
  [137438953472, 81134951838, 42869480287, 21761217566, 10922836750, 5466743129, 2734038620, 1367102738,
   683561799, 341782203, 170891265, 85445653, 42722829, 21361415, 10680707, 5340354,
   2670177, 1335088, 667544, 333772, 166886, 83443, 41722, 20861,
   10430, 5215, 2608, 1304, 652, 326]

/-- Vectoring iterations from (x, y) with x not negative: the angle turned, in units of 2^−40 turn. -/
def cordic (x y z : Int) (i : Nat) : List Nat → Int
  | [] => z
  | a :: t =>
    if 0 ≤ y then cordic (x + y / (2 ^ i : Nat)) (y - x / (2 ^ i : Nat)) (z + a) (i + 1) t
    else cordic (x - y / (2 ^ i : Nat)) (y + x / (2 ^ i : Nat)) (z - a) (i + 1) t

/-- The electrical angle of a pair of tracks, a 24-bit angle word: the nearest word, moved by the resolver's error of at
most 4 units (R202). -/
def resolveAngle (sn cs : Int) : Nat :=
  let z := if 0 ≤ cs then cordic (cs * 2 ^ 30) (sn * 2 ^ 30) 0 0 cordicTable
    else 2 ^ 39 + cordic (-cs * 2 ^ 30) (-sn * 2 ^ 30) 0 0 cordicTable
  if sn = 0 ∧ cs = 0 then Config.atanError 0 0 % 2 ^ 24
  else wrapTo 24 (roundHalfAway z (2 ^ 16) + (Config.atanError sn cs % 9 : Nat) - 4)

/-- The integer square root, by bits. -/
def sqrtFloor (n : Nat) : Nat :=
  (List.range 24).foldl (fun r i => let c := r + 2 ^ (23 - i); if c * c ≤ n then c else r) 0

/-- The amplitude of a pair, saturated to 131,071 (R202). -/
def resolveAmp (sn cs : Int) : Nat :=
  let q := (sn * sn + cs * cs).toNat
  let r := sqrtFloor q
  min 131071 (if r * r = q then r else if Config.roundUp 4 q 1 then r + 1 else r)

/-- A corrected track (R202). -/
def State.scTrack (s : State) (i : Nat) (x : Int) : Int :=
  sat18 (openDivI 5 ((x - s.parI P.FL_SCOFS i) * s.par P.FL_SCGAIN i) (2 ^ 16))

/-- A pair error (R203): the angle engine gets amplitude 0. -/
def State.scError (s : State) (n : Nat) : State :=
  let s := (s.bump P.FL_SCPAIR n).raise (Fb.lane n) 4 1
  if s.par P.WH_SCLANE = n then s.sincosEvent 0 0 s.t else s

/-- A sine that waits has no cosine any more: a result arrives at most 410 ns after its sample instant (R120), and the two
of a pair have one (R125). It is a lone input (R203) (DEDUCED, log entry 124). -/
def State.scWatch (s : State) (n : Nat) : State :=
  match (s.lane n).sine with
  | some sn => if sn.time + 41 < s.t then (s.setLane n { s.lane n with sine := none }).scError n else s
  | none => s

/-- What a lane does at a TCLK edge. -/
def State.laneWatch (s : State) (n : Nat) : State := (s.blockWatch n).scWatch n

/-- SINCOS takes one input (R202, R203): a sine waits for its cosine. Of two inputs with differing stamps the first is
alone, and the second waits in its place. -/
def State.laneSincos (s : State) (n : Nat) (x : Int) (angle time : Nat) : State :=
  match (s.lane n).sine with
  | none => s.setLane n { s.lane n with sine := some ⟨x, angle, time⟩ }
  | some sn =>
    if sn.time ≠ time then (s.setLane n { s.lane n with sine := some ⟨x, angle, time⟩ }).scError n
    else
      let s := s.setLane n { s.lane n with sine := none }
      let s1 := s.scTrack (2 * n) sn.value
      let c1 := s.scTrack (2 * n + 1) x
      let a := resolveAngle s1 c1
      let m := resolveAmp s1 c1
      let s := s.setLane n { s.lane n with scAngle := a, scAmp := m }
      let s := s.laneEmit n (signedOf 18 (a / 2 ^ 6)) true 0 angle time
      if s.par P.WH_SCLANE = n then s.sincosEvent a m time else s

/-! ### The sample boundary (R183, R212): RW-LIVE values, a BANK_SWAP, a LANE_SYNC -/

/-- What a LANE_SYNC does (R208). -/
def State.laneSync (s : State) (n : Nat) : State :=
  let l := s.lane n
  let mode := s.par P.FL_MODE n
  if mode = 1 then s.setLane n { l with rPos := l.rCount * 2 ^ 27 }
  else if mode = 3 then s.setLane n { l with sum := 0, count := 0 }
  else if mode = 2 then
    let apc := s.par P.FL_APC n
    let aofs := s.par P.FL_AOFS n
    let h := s.eng.hwm.toNat * 2 ^ 8
    match l.lastTarget with
    | none => s.setLane n { l with lastTarget := some (targetBefore apc aofs h) }
    | some t =>
      let next := targetAfter apc aofs t
      if stampSub next h ≤ 0 then
        let x := fromOffset aofs t
        let passed := targetCount apc (x + (stampSub h t).toNat) - targetCount apc x
        (s.setLane n { l with lastTarget := some (targetBefore apc aofs h) }).bump P.FL_ASKIP n passed
      else s
  else s

/-- The parameters whose change at a swap restarts the lane (R211). -/
def State.laneRestartKey (s : State) (n : Nat) : List Nat :=
  [s.par P.FL_MODE n, s.par P.FL_DEC n, s.par P.FL_FIRSET n, s.par P.FL_INUNS n, s.par P.FL_APC n, s.par P.FL_AOFS n]

/-- A BANK_SWAP that waits is made (R211, Table 7.6). -/
def State.laneSwap (s : State) (n : Nat) : State :=
  if (s.lane n).swapDue = false then s
  else
    let old := s.laneRestartKey n
    let s := (s.exchangeBanks (0xA0 + n)).swapTaken (0xA0 + n)
    let s := s.setLane n { s.lane n with swapDue := false }
    let off := s.par P.FL_MODE n == 0
    match (s.lane n).state with
    | .off => if off then s else s.lanePrime n
    | .gated => s
    | .safe => s
    | _ => if off then s.laneHalt n .off else if s.laneRestartKey n = old then s else s.lanePrime n

/-- A LANE_SYNC that waits acts. -/
def State.laneSyncTake (s : State) (n : Nat) : State :=
  if (s.lane n).syncDue then (s.setLane n { s.lane n with syncDue := false }).laneSync n else s

/-- A lane that left GATED or SAFE under mode OFF rests from its first boundary on (Table 7.6). -/
def State.laneRest (s : State) (n : Nat) : State :=
  let st := (s.lane n).state
  if s.par P.FL_MODE n = 0 ∧ (st = .run ∨ st = .priming) then s.laneHalt n .off else s

/-- A sample boundary of the lane up to its input (R212). -/
def State.laneBoundary (s : State) (n : Nat) : State := (((s.laneTake n).laneSwap n).laneRest n).laneSyncTake n

/-- Reset of a lane (R214); queued outputs are delivered with SEQ (R579). The user sets are no lane's (R215). -/
def State.laneReset (s : State) (n : Nat) : State :=
  let s := s.laneSwap n
  (s.resetParams (Fb.lane n)).setLane n { outs := ((s.lane n).markSeq).outs }

/-! ### Inputs -/

/-- One input, arrived or filled in, passes through the stages of the lane's mode. -/
def State.laneFeed (s : State) (n : Nat) (x : Int) (angle time : Nat) : State :=
  let l := s.lane n
  let taken := l.taken + 1
  let s := s.setLane n { l with
    taken := taken, state := if l.state = .priming ∧ s.laneNeed n ≤ taken then .run else l.state }
  let mode := s.par P.FL_MODE n
  if mode = 5 then s.laneSincos n x angle time
  else
    let (y, s) := s.laneDc n x
    if mode = 1 ∨ mode = 2 then s.laneChain n y angle time
    else if mode = 3 then s.laneSincTime n y angle time
    else if mode = 4 then s.laneSincAngle n y angle time
    else s

/-- The copies that fill a gap (R207): `k` copies of the previous input with STL, at stamps between their neighbours. -/
def State.laneFill (s : State) (n : Nat) (p : Stamped) (angle time : Nat) : Nat → State
  | 0 => s
  | k + 1 =>
    let l := s.lane n
    let f := Config.fillStamp n time k
    let dt := f % (time - p.time + 1)
    let da := stampSub angle p.angle
    let a := stampAdd p.angle (if 0 ≤ da then ((f % (da.toNat + 1) : Nat) : Int) else -((f % ((-da).toNat + 1) : Nat) : Int))
    let s := s.setLane n { l with inFlags := l.inFlags ||| Flag.stl }
    (s.laneFeed n p.value a (p.time + dt)).laneFill n p angle time k

/-- Gap handling before an input (R207); the SINC1 and SINCOS modes fill no gap. -/
def State.laneGap (s : State) (n : Nat) (angle time : Nat) : State :=
  let nom := s.par P.FL_TNOM n
  let mode := s.par P.FL_MODE n
  match (s.lane n).prev with
  | none => s
  | some p =>
    let iv := 16 * (time - p.time)
    if nom = 0 ∨ 2 * iv ≤ 3 * nom then s
    else if iv ≤ s.par P.FL_GAPMAX n * nom then
      if mode = 1 ∨ mode = 2 then
        let k := (2 * iv + nom) / (2 * nom) - 1
        (s.laneFill n p angle time k).bump P.FL_GAPCNT n k
      else s
    else ((s.lanePrime n).bump P.FL_RSTCNT n).raise (Fb.lane n) 2 1

/-- An input arrives (R183): its word and flags, its stamp, and the arrival in units of 5 ns. `parity` is a parity error
in a coefficient read for it. Every arrival is a sample boundary, a discarded one too; in SINCOS mode an input with the
stamp of the one that arrived before it is the second of its pair. The distance counts from the last input accepted
(DEDUCED, log entry 134). -/
def State.laneInput (s : State) (n : Nat) (word flags angle time arrival : Nat) (parity : Bool) : State :=
  if s.resetting (Fb.lane n) then s
  else
    match (s.lane n).state with
    | .gated => s.bump P.KL_GATEDROP
    | .safe => s
    | _ =>
      let s := s.laneBoundary n
      let l := s.lane n
      let pair := s.par P.FL_MODE n == 5 && l.inTime == some time
      let early := match l.arrival with
        | some a => decide (arrival < a + 25)
        | none => false
      let s := s.setLane n { l with inTime := if pair then none else some time }
      if l.state = .off then s
      else if early && !pair then (s.bump P.FL_OVRCNT n).raise (Fb.lane n) 1 1
      else
        let s := s.setLane n { s.lane n with arrival := some arrival }
        let s := if parity then s.raise (Fb.lane n) 5 2 else s
        let x := if s.par P.FL_INUNS n = 1 then (word % 2 ^ 18 : Int) - 131072 else signedOf 18 word
        let s := s.laneGap n angle time
        let l := s.lane n
        let s := s.setLane n { l with
          prev := some ⟨x, angle, time⟩
          inFlags := l.inFlags ||| (flags &&& (Flag.stl ||| Flag.sat ||| Flag.rnr ||| Flag.xck ||| Flag.cal ||| Flag.dfr)) }
        s.laneFeed n x angle time

/-! ### LANE_SYNC, swaps and commands -/

/-- LANE_SYNC aimed at the lane is skipped (R211, R578). -/
def State.laneSkips (s : State) (n : Nat) : Bool := (s.lane n).state == .safe || s.resetting (Fb.lane n)

/-- A LANE_SYNC effect: the lane's next sample boundary takes it (R212). -/
def State.laneSyncEffect (s : State) (n : Nat) : State := s.setLane n { s.lane n with syncDue := true }

/-- A BANK_SWAP effect: the lane's next sample boundary takes it, in GATED and SAFE the first after the lane has left them
(R212, R312). -/
def State.laneSwapEffect (s : State) (n : Nat) : State := s.setLane n { s.lane n with swapDue := true }

/-- `FL_CTRL` RESUME (Table 7.6, R470). -/
def State.laneCtrlResume (s : State) (n : Nat) : State :=
  if (s.lane n).state = .safe ∧ s.pendingC (Fb.lane n) = false then ((s.laneResume n).openWindow (Fb.lane n)).done
  else s.answer Status.notPermitted

/-- `FL_CTRL` RESTART (Table 7.6, R648). -/
def State.laneCtrlRestart (s : State) (n : Nat) : State :=
  match (s.lane n).state with
  | .run => (s.lanePrime n).done
  | .priming => (s.lanePrime n).done
  | .safe => s.answer Status.faultState
  | _ => s.answer Status.notPermitted

/-- `FL_CTRL` 3 clears the lane's counters (R216). -/
def State.laneClear (s : State) (n : Nat) : State :=
  (s.clearPars [(P.FL_OUTCNT, n), (P.FL_GOVCNT, n), (P.FL_GAPCNT, n), (P.FL_RSTCNT, n), (P.FL_ASKIP, n),
    (P.FL_OVRCNT, n), (P.FL_SCPAIR, n), (P.FL_S1DROP, n)]).done

/-- A write of `FL_CTRL`. -/
def State.flCtrl (s : State) (n v : Nat) : State :=
  if v = 1 then s.laneCtrlResume n
  else if v = 2 then s.laneCtrlRestart n
  else if v = 3 then s.laneClear n
  else s.answer Status.outOfRange

/-- LANE_STALL (R213): an input was not processed within 4 µs; lanes that take inputs can stall. -/
def State.laneStall (s : State) (n : Nat) : State :=
  if (s.lane n).state = .run ∨ (s.lane n).state = .priming then s.raise (Fb.lane n) 6 3 else s

/-- `FL_STATUS` (Table 7.8). -/
def State.flStatus (s : State) (n : Nat) : Nat :=
  b2n (s.par P.FL_DCMODE n == 2) + 2 * b2n (s.isDegraded (Fb.lane n) 0 || s.isDegraded (Fb.lane n) 5)
    + 4 * b2n (s.resampled n)

/-- Code of a lane state (Table 7.5). -/
def LaneState.code : LaneState → Nat
  | .off => 0
  | .priming => 1
  | .run => 2
  | .gated => 3
  | .safe => 4

/-- A coefficient set may be written while no lane that selects it is in PRIMING or RUN (R379). -/
def State.setStopped (s : State) (k : Nat) : Bool :=
  (List.range 32).all (fun n =>
    !(s.par P.FL_FIRSET n == 2 + k && ((s.lane n).state == .priming || (s.lane n).state == .run)))

end Sys2Proof.Machine
end

