-- ==== Sys2Proof/Machine/Integrating.lean ====
section
/-! DEFINITION. Integrating converters and the mains lock (R156–R180). -/

namespace Sys2Proof.Machine

/-! ### Mains lock (R161, R162) -/

/-- A period of so many ticks has a frequency within 45–65 Hz. -/
def periodAccepted (p : Nat) : Bool := decide (100000000 ≤ 65 * p) && decide (45 * p ≤ 100000000)

/-- The last four accepted periods lie each within 0.5 % of their mean (Table 6.3). -/
def periodsAgree (ps : List Nat) : Bool :=
  let q := ps.take 4
  let sum : Nat := q.foldl (· + ·) 0
  q.length == 4 && q.all (fun p => decide (200 * ((4 * p : Nat) - (sum : Int)).natAbs ≤ sum))

/-- The period estimate in force, as a sum and a count (Table 6.2). -/
def State.mainsEstimate (s : State) : Nat × Nat :=
  match s.mains.state with
  | .locked =>
    let q := s.mains.periods.take (s.par P.IC_MAVG)
    (q.foldl (· + ·) 0, q.length)
  | .held => (s.mains.heldSum, s.mains.heldCount)
  | _ => (100000000, s.par P.IC_MNOM)

/-- The lock enters HELD: the estimate is kept, and running MAINS converters record MAINSLOST (R162). -/
def State.mainsHeld (s : State) : State :=
  let (sum, cnt) := s.mainsEstimate
  let s := { s with mains := { s.mains with state := .held, heldSum := sum, heldCount := cnt, run := [] } }
  let s := s.bump P.IC_MLOSSCNT
  (List.range 8).foldl (fun s i =>
    let c := s.ic i
    let mode := if c.phase = .waiting then s.par P.IC_MODE i else c.mode
    if c.state = .running ∧ mode = 0 then s.raise (Fb.ic i) 3 2 else s) s

/-- A mains zero crossing at the lock (Table 6.3). -/
def State.mainsCross (s : State) (rising : Bool) : State :=
  let m := s.mains
  let st := if m.state = .nolock then LockState.acquire else m.state
  let m := { m with lastAny := some s.t, state := st }
  if rising = false then { s with mains := m }
  else
    match m.lastRise with
    | none => { s with mains := { m with lastRise := some s.t } }
    | some t0 =>
      let p := s.t - t0
      if periodAccepted p then
        let run := (p :: m.run).take 4
        let relock := (st == .acquire || st == .held) && periodsAgree run
        { s with mains := { m with
            lastRise := some s.t, periods := (p :: m.periods).take 16, run := run, rejected := 0
            state := if relock then .locked else st } }
      else
        let s := { s with mains := { m with lastRise := some s.t, run := [], rejected := m.rejected + 1 } }
        if st = .locked ∧ 2 ≤ m.rejected + 1 then s.mainsHeld else s

/-- No crossing has arrived for 15 ms. -/
def State.mainsQuiet (s : State) : Bool :=
  match s.mains.lastAny with
  | some t0 => decide (t0 + msTicks 15 ≤ s.t)
  | none => decide (msTicks 15 ≤ s.t)

/-- The lock falls back when the mains is lost (Table 6.3). The period since the last rising crossing goes on (R161). -/
def State.mainsLost (s : State) : State :=
  match s.mains.state with
  | .acquire => { s with mains := { s.mains with state := .nolock, run := [] } }
  | .locked => s.mainsHeld
  | _ => s

/-- Code of a lock state (Table 6.2). -/
def LockState.code : LockState → Nat
  | .nolock => 0
  | .acquire => 1
  | .locked => 2
  | .held => 3

/-- `IC_MPER`: the estimate in TCLK periods. In NOLOCK it shows its reset value (DEDUCED, log entry 118). -/
def State.icMper (s : State) : Nat :=
  let (sum, cnt) := s.mainsEstimate
  if s.mains.state = .nolock then 0 else openDiv 6 sum cnt

/-! ### Reference buffer -/

/-- `IC_REFEN` has been written: an enable takes effect once VREFIO is ready (R169, R573). -/
def State.icRefUpdate (s : State) : State :=
  if s.par P.IC_REFEN = 1 then
    match s.mains.refOn with
    | some _ => s
    | none => if s.pwr.vrefReady then { s with mains := { s.mains with refOn := some s.t, refReady := false } } else s
  else { s with mains := { s.mains with refOn := none, refReady := false, refOot := false } }

/-- t_REFSET has passed since the enable took effect. -/
def State.icRefSettled (s : State) : State :=
  match s.mains.refOn with
  | some t0 => if t0 + msTicks 2 ≤ s.t then { s with mains := { s.mains with refReady := true } } else s
  | none => s

/-- REFOOT of the shared REFBUF, recorded by every RUNNING converter (R176). -/
def State.icRefOot (s : State) : State :=
  if s.mains.refReady then
    let s := { s with mains := { s.mains with refOot := true } }
    (List.range 8).foldl (fun s i =>
      if (s.ic i).state = .running then s.raiseEpisode (Fb.ic i) 4 2 else s) s
  else s

/-- REFOOT is over. -/
def State.icRefOotEnd (s : State) : State :=
  let s := { s with mains := { s.mains with refOot := false } }
  (List.range 8).foldl (fun s i => s.endEpisode (Fb.ic i) 4) s

/-! ### Integrations -/

/-- The cell makes the result stale at this instant (R169), mode OFF too: its data is then the previous result, and not that of
the AGND clamp that R88 lets a conversion deliver (DEDUCED, log entry 119). -/
def State.icStale (s : State) (n : Nat) : Bool := s.cellStale n || s.par P.AC_MODE n == 0

/-- The reference makes the result carry RNR at this instant (R169). -/
def State.icRnr (s : State) : Bool := !s.mains.refReady || s.mains.refOot

/-- Length of a window that starts now (Table 6.1, R156). -/
def State.icLength (s : State) (i : Nat) : Nat :=
  let mode := s.par P.IC_MODE i
  if mode = 0 then
    let (sum, cnt) := s.mainsEstimate
    (roundHalfAway (s.par P.IC_NPER i * sum : Nat) cnt).toNat
  else if mode = 1 then s.par P.IC_CYCBINS i
  else usTicks (s.par P.IC_TINT i)

/-- BANK_SWAP (R174): the banks are exchanged at the integration boundary, and the first result under the new one carries SEQ
(R169). -/
def State.icSwap (s : State) (i : Nat) : State :=
  if (s.ic i).swapDue = false then s
  else
    let s := (s.exchangeBanks (0x88 + i)).swapTaken (0x88 + i)
    s.setIc i { s.ic i with seqDue := true, swapDue := false }

/-- A BANK_SWAP effect: an integration in progress completes under the old bank (R174). -/
def State.icSwapEffect (s : State) (i : Nat) : State :=
  let s := s.setIc i { s.ic i with swapDue := true }
  if (s.ic i).phase = .waiting then s.icSwap i else s

/-- The integration under way is given up; what its result would have carried is owed again (R70, R169, R284). -/
def State.icGiveUp (s : State) (i : Nat) : State :=
  let c := s.ic i
  if c.phase = .waiting then s
  else
    let s := s.setIc i { c with
      seqDue := c.seqDue || c.seq, calDue := c.calDue || c.calOwn
      calCells := if c.calCell ∧ c.calCells.contains c.cell = false then c.calCells ++ [c.cell] else c.calCells
      seq := false, cellSeq := false, calOwn := false, calCell := false }
    if c.cellSeq then s.setCell c.cell { s.cell c.cell with seqDue := true } else s

/-- An integration starts, or waits for TRACK (R156, R159, R170, R174): the slot, the coefficients and the configuration
in force now hold for all of it. -/
def State.icBegin (s : State) (i : Nat) (urgent : Option Nat) : State :=
  let s := (s.takeLive (Fb.ic i)).icSwap i
  let c := s.ic i
  let slot := c.nextSlot.getD c.slot
  let cell := urgent.getD (s.par P.IC_SRC (4 * i + slot) % 64)
  let mode := s.par P.IC_MODE i
  let c := { c with
    state := .running, slot := slot, nextSlot := none, urgent := urgent.isSome, cell := cell
    seqDue := c.seqDue || decide (slot ≠ c.slot), discard := false }
  if mode = 1 ∧ s.eng.state.tracking = false then s.setIc i { c with phase := .waiting }
  else
    let c := { c with
      phase := .window, mode := mode, length := s.icLength i, bins := 0, start := s.t
      dst := s.par P.IC_DST i, once := s.par P.IC_RUN i == 0, xcsel := s.par P.IC_XCSEL i
      held := mode == 0 && s.mains.state == .held
      pair := s.coef 1 i, cellPair := s.coef 2 (8 * cell + s.par P.AC_GAIN cell)
      drivenSum := 0, drivenCount := 0, sat := s.cellSaturated cell
      stale := s.icStale cell, rnr := s.icRnr, refOff := s.par P.IC_REFEN == 0
      seq := c.seqDue, seqDue := false, cellSeq := (s.cell cell).seqDue && !s.icStale cell
      calOwn := c.calDue, calDue := false, calCell := c.calCells.contains cell
      calCells := c.calCells.filter (fun n => !(n == cell)), xcSum := 0, xcCount := 0, xcBad := false }
    let s := if c.cellSeq then s.setCell cell { s.cell cell with seqDue := false } else s
    (s.setIc i c).linkWindow (Fb.cell cell) (Fb.ic i)

/-- Conditions of the window at this edge (R169). -/
def State.icWatch (s : State) (i : Nat) : State :=
  let c := s.ic i
  if c.phase = .window then
    s.setIc i { c with
      stale := c.stale || s.icStale c.cell, rnr := c.rnr || s.icRnr, sat := c.sat || s.cellSaturated c.cell
      refOff := c.refOff || s.par P.IC_REFEN == 0 }
  else s

/-- A window takes in what its cell drives at this edge (R158). -/
def State.icGather (s : State) (i : Nat) : State :=
  let c := s.ic i
  if c.phase = .window then
    s.setIc i { c with drivenSum := c.drivenSum + s.driven c.cell, drivenCount := c.drivenCount + 1 }
  else s

/-- A positive advance of the high-water mark counts towards CYCLE windows (R156, R159). -/
def State.icAdvance (s : State) (adv : Int) : State :=
  (s.ics.map Prod.fst).foldl (fun s i =>
    let c := s.ic i
    if c.phase = .window ∧ c.mode = 1 ∧ 0 < adv then s.setIc i { c with bins := c.bins + adv.toNat } else s) s

/-- The window of converter `i` is complete (Table 6.1). -/
def State.icWindowDone (s : State) (i : Nat) : Bool :=
  let c := s.ic i
  c.phase == .window && (if c.mode == 1 then decide (c.length ≤ c.bins) else decide (c.start + c.length ≤ s.t))

/-- The cell's front end as a window of converter `i` has met it: what it drives is the mean over the window. -/
def State.icFront (s : State) (i : Nat) : Front :=
  let c := s.ic i
  let f := s.front c.cell
  if c.drivenCount = 0 then f else { f with driven := ⟨c.drivenSum, 65536 * c.drivenCount⟩ }

/-- The integration ends: its stamp is taken and the overhead begins (R157, R158). -/
def State.icEndWindow (s : State) (i : Nat) (discard : Bool) : State :=
  let s := s.icWatch i
  let c := s.ic i
  (s.setIc i { c with
    phase := .overhead, stop := s.t, angle := s.angleStamp, time := s.t, discard := discard
    front := s.icFront i }).setPar P.IC_TLEN i (s.t - c.start)

/-- INTEGRATION_END. -/
def State.integrationEnd (s : State) (i : Nat) : State := if s.icWindowDone i then s.icEndWindow i false else s

/-- CYCLE_WINDOW_TIMEOUT (R160). -/
def State.cycleTimeout (s : State) (i : Nat) : State :=
  let c := s.ic i
  if c.phase = .window ∧ c.mode = 1 ∧ s.icWindowDone i = false ∧ c.start + msTicks (s.par P.IC_CYCMAX i) ≤ s.t then
    ((s.icEndWindow i true).bump P.IC_CYCTO i).raise (Fb.ic i) 1 1
  else s

/-- TRACK is reached: converters that wait for it start (R159). -/
def State.icTrack (s : State) : State :=
  (s.ics.map Prod.fst).foldl (fun s i =>
    let c := s.ic i
    if c.state = .running ∧ c.phase = .waiting then s.icBegin i (if c.urgent then some c.cell else none) else s) s

/-- A record about a conversion of converter `i` (Table 16.5). -/
def State.icAsk (s : State) (i det cls : Nat) : State :=
  let c := s.ic i
  s.ask { blk := Fb.ic i, det := det, cls := cls, master := if c.byAction then 6 else 0, access := 5,
          addr := P.IC_SRC + (4 * i + c.slot) * 4096 }

/-- A result of SAR entry `e` of group `g` is taken by every converter whose window holds its sample instant, in units of
5 ns (R175). -/
def State.icSarResult (s : State) (g e at5 code : Nat) (signed bad : Bool) : State :=
  (s.ics.map Prod.fst).foldl (fun s i =>
    let c := s.ic i
    let inWin := (c.phase == .window && decide (2 * c.start ≤ at5))
      || (c.phase == .overhead && decide (2 * c.start ≤ at5) && decide (at5 ≤ 2 * c.stop))
    if inWin ∧ bitOf c.xcsel 0 ∧ bitsOf c.xcsel 1 2 = g ∧ bitsOf c.xcsel 3 6 = e then
      s.setIc i { c with
        xcSum := c.xcSum + (code : Int) - (if signed then 2048 else 0), xcCount := c.xcCount + 1
        xcBad := c.xcBad || bad }
    else s) s

/-- Cross-check of a result, an urgent one too, with the mean of the paired entry's results (R175): whether XCK is set. -/
def State.icCheck (s : State) (i : Nat) (result : Int) : Bool × State :=
  let c := s.ic i
  if bitOf c.xcsel 0 = false then (false, s)
  else if c.xcCount < s.par P.IC_XCMIN i ∨ c.xcBad then (false, s.bump P.IC_XCMISS i)
  else if 64 * c.xcCount * s.par P.IC_XCTOL i < (result * c.xcCount - 64 * c.xcSum).natAbs then
    (true, (s.bump P.IC_XCCNT i).icAsk i 2 1)
  else (false, s)

/-- The result of a raw integrating code (R167, R283): value in the cell's format, and whether the clamp acted. -/
def icResult (c : IntConv) (signed : Bool) (raw : Nat) : Int × Bool :=
  let zt : Int := if signed then 131072 else 0
  let a := ((raw : Int) - c.pair.o) * c.pair.g
  let b := (a - (zt + c.cellPair.o) * 2 ^ 30) * c.cellPair.g
  if signed then roundClamp min18 max18 b (2 ^ 60) else roundClamp 0 262143 b (2 ^ 60)

/-- The result is delivered (R168). -/
def State.icDeliver (s : State) (i : Nat) (data : Int) (flags : Nat) (parity : Bool) : State :=
  let c := s.ic i
  let word := sampleWord data (if c.urgent then 0x30 else 0x38 + i) flags
  let s := s.setIc i { c with last := some ⟨word, c.angle, c.time⟩ }
  let s := match dstLane c.dst with
    | some n => s.laneInput n (wrapTo 18 data) flags c.angle c.time (2 * s.t) parity
    | none => s
  match dstStream c.dst with
  | some r => s.sampleRecord r word c.angle c.time 0
  | none => s

/-- OVERHEAD_END (R157, R160, R166–R169, R171): what the converter has met over its window, and a coefficient parity error in
the lane the result enters. The next integration starts at once, or the converter stops; after a discarded window an urgent
or ONCE converter integrates again. -/
def State.overheadEnd (s : State) (i : Nat) (x : Integrated) (parity : Bool) : State :=
  let c := s.ic i
  if c.state = .running ∧ c.phase = .overhead ∧ c.stop + msTicks 1 ≤ s.t then
    let slot := if c.urgent then 4 else c.slot
    let signed := isSignedMode (s.par P.AC_MODE c.cell)
    let s :=
      if c.discard then s.icGiveUp i
      else
        let v := c.front.out x.signal
        let place := spanPlace signed v
        let (value, clamped) := icResult c signed (adcCode 18 signed v x.err)
        let value := if signed then spanEnd min18 max18 value place else spanEnd 0 262143 value place
        let sat := x.overSpan || x.limit || c.sat || place != .within
        let data := if c.refOff then 0
          else if c.stale then signedOf 32 (tblGet 0 c.prev slot)
          else value
        let (xck, s) := s.icCheck i data
        let (dfr, s) := s.takeDfr (0x10 + i)
        let flags := flagIf c.stale Flag.stl ||| flagIf (sat || clamped) Flag.sat ||| flagIf (c.rnr || c.refOff) Flag.rnr
          ||| flagIf xck Flag.xck ||| flagIf (c.calOwn || c.calCell) Flag.cal ||| flagIf (c.seq || c.cellSeq) Flag.seq
          ||| flagIf dfr Flag.dfr
        let s := if c.urgent then s.bump P.IC_URGCNT i else s
        let s := s.setIc i { s.ic i with prev := tblSet 0 c.prev slot (wrapTo 32 data) }
        (s.setParI P.IC_RESULT i data).icDeliver i data flags parity
    let c := s.ic i
    if c.state ≠ .running then s
    else if c.nextSlot.isNone ∧ (c.stopDue ∨ (c.discard = false ∧ (c.once ∨ c.urgent))) then
      (s.setIc i { c with state := .stopped, phase := .waiting, stopDue := false, urgent := false }).icSwap i
    else
      (s.setIc i { c with stopDue := false }).icBegin i (if c.discard ∧ c.urgent ∧ c.nextSlot.isNone then some c.cell else none)
  else s

/-- OVERHEAD_TIMEOUT (R176). -/
def State.overheadTimeout (s : State) (i : Nat) : State :=
  let c := s.ic i
  if c.state = .running ∧ c.phase = .overhead ∧ c.stop + 120000 ≤ s.t then s.raise (Fb.ic i) 5 3 else s

/-! ### Effects and commands -/

/-- CONV_START effect on converter `i` (R164, R165). -/
def State.icConvStart (s : State) (i slot : Nat) (o : Origin) : State :=
  if 3 < slot then
    s.ask { blk := Fb.ic i, det := 0, cls := 1, master := o.master, access := o.access, form := o.form, addr := o.addr }
  else
    let c := s.ic i
    match c.state with
    | .stopped => (s.setIc i { c with nextSlot := some slot, stopDue := false, byAction := o.master == 6 }).icBegin i none
    | .running => s.setIc i { c with nextSlot := some slot, stopDue := false, byAction := o.master == 6 }
    | _ => s

/-- CONV_STOP effect (R166): the integration in progress completes and delivers. -/
def State.icConvStop (s : State) (i : Nat) : State :=
  let c := s.ic i
  if c.state = .running then
    if c.phase = .waiting then s.setIc i { c with state := .stopped, stopDue := false, nextSlot := none, urgent := false }
    else s.setIc i { c with stopDue := true, nextSlot := none }
  else s

/-- URGENT_CONV effect (R171): DROP_COUNT. -/
def State.icUrgent (s : State) (i cell : Nat) : State :=
  if (s.ic i).state = .stopped then
    (s.setIc i { s.ic i with byAction := true }).icBegin i (some cell)
  else s.bump P.IC_URGDROP i

/-- `IC_CTRL` START on a converter that Kiln lets start (R166, Table 6.5); a gated one starts once it is powered (R380). -/
def State.icCtrlStart (s : State) (i slot : Nat) : State :=
  match (s.ic i).state with
  | .stopped => (s.icConvStart i slot {}).done
  | .running => (s.icConvStart i slot {}).done
  | .safe => s.answer Status.faultState
  | .gated =>
    ({ s with kiln := { s.kiln with
        icRestart := tblSet 0 s.kiln.icRestart i (slot + 1), powerDue := tblSet 0 s.kiln.powerDue (Fb.ic i) (s.t + 5000)
        gateDue := s.kiln.gateDue.filter (fun x => !(x == Fb.ic i)) } }).done

/-- `IC_CTRL` STOP (R166, R648). -/
def State.icCtrlStop (s : State) (i : Nat) : State :=
  match (s.ic i).state with
  | .running => (s.icConvStop i).done
  | .safe => s.answer Status.faultState
  | _ => s.answer Status.notPermitted

/-- `IC_CTRL` RESUME (Table 6.5, R470). -/
def State.icCtrlResume (s : State) (i : Nat) : State :=
  let c := s.ic i
  if c.state = .safe ∧ s.pendingC (Fb.ic i) = false then
    ((s.setIc i { c with state := .stopped, phase := .waiting }).openWindow (Fb.ic i)).done
  else s.answer Status.notPermitted

/-- `IC_CTRL` 4 clears the converter's counters (R179). -/
def State.icClear (s : State) (i : Nat) : State :=
  let s := s.clearPars [(P.IC_XCCNT, i), (P.IC_XCMISS, i), (P.IC_URGCNT, i), (P.IC_URGDROP, i), (P.IC_CYCTO, i)]
  (if i = 0 then s.setPar P.IC_MLOSSCNT 0 0 else s).done

/-- Class C or D reaction (Table 6.5). -/
def State.icEnterSafe (s : State) (i : Nat) : State :=
  let s := s.icGiveUp i
  (s.setIc i { s.ic i with
    state := .safe, phase := .waiting, stopDue := false, nextSlot := none, urgent := false }).icSwap i

/-- Kiln gates a STOPPED converter, and ungates it (R173). -/
def State.icGate (s : State) (i : Nat) : State := s.setIc i { s.ic i with state := .gated }
def State.icUngate (s : State) (i : Nat) : State :=
  let s := s.setIc i { s.ic i with state := .stopped, seqDue := true }
  s.takeLive (Fb.ic i)

/-- Reset of a converter (R177): its own parameters and counters, not the shared ones. -/
def State.icReset (s : State) (i : Nat) : State := (((s.icGiveUp i).icSwap i).resetParams (Fb.ic i)).setIc i {}

/-- `IC_STATUS` (Table 6.7). -/
def State.icStatus (s : State) (i : Nat) : Nat :=
  let c := s.ic i
  b2n (c.phase == .window) + 2 * b2n (c.phase == .overhead) + 4 * c.slot + 16 * b2n s.mains.refReady
    + 32 * b2n (c.phase == .window && c.held)

/-- Code of a converter state (Table 6.4). -/
def IcState.code : IcState → Nat
  | .stopped => 0
  | .running => 1
  | .gated => 2
  | .safe => 3

end Sys2Proof.Machine
end

