-- ==== Sys2Proof/Machine/Sar.lean ====
section
/-! DEFINITION. SAR converter groups (R118–R155). Times of the SAR clock are in units of 5 ns; the time stamp `t` is the
instant 2t of that clock. -/

namespace Sys2Proof.Machine

/-! ### Slices -/

/-- Slice `i` of a group. -/
def Group.slice (x : Group) (i : Nat) : Slice := tblGet {} x.slices i

/-- The group with slice `i` set. -/
def Group.setSlice (x : Group) (i : Nat) (c : Slice) : Group := { x with slices := tblSet {} x.slices i c }

/-- A slice is free when it is live and neither acquiring nor converting (R118). -/
def Group.isFree (x : Group) (i : Nat) : Bool := (x.slice i).state == .live && (x.slice i).conv.isNone

/-- The free slices of a group, lowest first. -/
def Group.free (x : Group) : List Nat := (List.range 5).filter x.isFree

/-- The live slices of a group. -/
def Group.live (x : Group) : List Nat := (List.range 5).filter (fun i => (x.slice i).state == .live)

/-- The spare slice of a group (R139). -/
def Group.spare (x : Group) : Option Nat := (List.range 5).find? (fun i => (x.slice i).state == .spare)

/-- The group converts: it is neither gated nor in SAFE. -/
def Group.serves (x : Group) : Bool := x.state == .stopped || x.state == .running

/-- Codes of the group states (Table 5.6). -/
def GroupState.code : GroupState → Nat
  | .stopped => 0
  | .running => 1
  | .gated _ => 2
  | .safe => 3

/-- `SAR_G0SCAN` to `SAR_G3SCAN` of a group. -/
def scanPar (g : Nat) : Nat := P.SAR_G0SCAN + g

/-- Entry `e` of a group's scan table. -/
def State.scanEntry (s : State) (g e : Nat) : Nat := s.par (scanPar g) e

/-- The word of the group's active list (Table 5.2). -/
def State.listWord (s : State) (g : Nat) : Nat := s.par P.SAR_LIST (16 * g + (s.group g).list)

/-! ### Starting a conversion -/

/-- The scan-entry word that stands for an urgent conversion of a cell: format AUTO and the destinations of
`SAR_URGDST` (R138). -/
def urgentWord (cell dst : Nat) : Nat :=
  cell + 3 * 2 ^ 7 + bitsOf dst 0 5 * 2 ^ 10 + b2n (bitOf dst 5) * 2 ^ 15 + bitsOf dst 6 6 * 2 ^ 16
    + b2n (bitOf dst 12) * 2 ^ 22

/-- `SAR_XCTOL` and `SAR_XCWIN` of the cross-check pairs that name entry `e` of group `g` (R142). -/
def State.xcParams (s : State) (g e : Nat) : Tbl (Nat × Nat) :=
  (List.range 16).filterMap (fun k =>
    let p := xcPair (s.par P.SAR_XCSEL k)
    if p.on = true ∧ ((p.ga = g ∧ p.ea = e) ∨ (p.gb = g ∧ p.eb = e)) then
      some (k, (s.par P.SAR_XCTOL k, s.par P.SAR_XCWIN k))
    else none)

/-- A conversion on slice `i` of group `g` that begins at the instant `now5`, with what its start fixes. -/
def State.newConv (s : State) (g i : Nat) (kind : ConvKind) (word now5 : Nat) : Conv :=
  let x := s.group g
  let cell := scanSrc word
  let diag := scanDiag word
  { kind := kind, word := word, start := now5
    stale := !diag && s.cellStale cell
    off := !diag && s.par P.AC_MODE cell == 0
    signed := !diag && isSignedMode (s.par P.AC_MODE cell)
    seq := match kind with
      | .entry e => x.seqDue.contains e
      | _ => false
    cellSeq := !diag && kind != .syscal && (s.cell cell).seqDue && !s.cellStale cell
    slicePair := (x.slice i).pair.getD (s.factoryPair 0 (5 * g + i))
    cellPair :=
      let idx := 8 * cell + s.par P.AC_GAIN cell
      tblGet (s.coef 2 idx) x.oldPairs idx
    sysGain := (tblGet (s.par P.SAR_SYSGAIN cell, s.parI P.SAR_SYSOFS cell) x.oldSys cell).1
    sysOfs := (tblGet (s.par P.SAR_SYSGAIN cell, s.parI P.SAR_SYSOFS cell) x.oldSys cell).2
    xc := match kind with
      | .entry e => s.xcParams g e
      | _ => []
    calSlice := kind != .syscal && (x.slice i).calNext
    calCell := !diag && kind != .syscal && x.calCells.contains cell
    byAction := match kind with
      | .entry _ => x.byAction
      | .urgent => true
      | .syscal => false }

/-- Slice `i` starts a conversion; what its result will carry is no longer owed. A system-calibration conversion delivers no
result and carries nothing. -/
def State.startConv (s : State) (g i : Nat) (kind : ConvKind) (word now5 : Nat) : State :=
  let c := s.newConv g i kind word now5
  let x := s.group g
  let cell := scanSrc word
  let x := { x.setSlice i { x.slice i with conv := some c, calNext := (x.slice i).calNext && !c.calSlice } with
    seqDue := match kind with
      | .entry e => x.seqDue.filter (fun n => !(n == e))
      | _ => x.seqDue
    calCells := if c.calCell then x.calCells.filter (fun n => !(n == cell)) else x.calCells }
  let s := s.setGroup g x
  if scanDiag word then s
  else
    let s := if c.cellSeq then s.setCell cell { s.cell cell with seqDue := false } else s
    s.linkWindow (Fb.cell cell) (Fb.sar g)

/-- The conversion of slice `i` is given up. What its result would have carried is owed again: SEQ of the entry and of the
cell, CAL of the slice and of the cell (R70, R133, R284). -/
def State.sarGiveUp (s : State) (g i : Nat) : State :=
  let x := s.group g
  match (x.slice i).conv with
  | none => s
  | some c =>
    let cell := scanSrc c.word
    let x := x.setSlice i { x.slice i with conv := none, calNext := (x.slice i).calNext || c.calSlice }
    let x := match c.kind with
      | .entry e => if c.seq ∧ x.seqDue.contains e = false then { x with seqDue := e :: x.seqDue } else x
      | _ => x
    let x := if c.calCell ∧ x.calCells.contains cell = false then { x with calCells := cell :: x.calCells } else x
    let s := s.setGroup g x
    if c.cellSeq then s.setCell cell { s.cell cell with seqDue := true } else s

/-- Conversions in progress are given up. -/
def State.sarDropAll (s : State) (g : Nat) : State := (List.range 5).foldl (fun s i => s.sarGiveUp g i) s

/-- The values of `SAR_SYSGAIN` and `SAR_SYSOFS` of a cell, about to change, hold on in each group until its next slot
boundary (R121). -/
def State.sarKeepSys (s : State) (cell : Nat) : State :=
  (List.range 4).foldl (fun s g =>
    let x := s.group g
    if x.oldSys.any (fun e => e.1 == cell) then s
    else s.setGroup g { x with
      oldSys := tblInsert x.oldSys cell (s.par P.SAR_SYSGAIN cell, s.parI P.SAR_SYSOFS cell) }) s

/-- A cell pair that has changed holds on in each group until its next slot boundary (Table 10.2). -/
def State.sarKeepPair (s : State) (idx : Nat) (old : CoefPair) : State :=
  (List.range 4).foldl (fun s g =>
    let x := s.group g
    if x.oldPairs.any (fun e => e.1 == idx) then s
    else s.setGroup g { x with oldPairs := tblInsert x.oldPairs idx old }) s

/-! ### Slots -/

/-- A BANK_SWAP of the group takes effect at this boundary: conversions in progress complete, and the active list restarts
at its first entry under the new bank; an empty one ends, in a gated group too (R150, R151); every entry owes SEQ (R133). -/
def State.sarSwap (s : State) (g : Nat) : State :=
  let x := s.group g
  if x.swapDue = false then s
  else
    let s := (s.exchangeBanks (0x80 + g)).swapTaken (0x80 + g)
    let x := { x with swapDue := false, next := 0, passStart := none, restart := [], seqDue := List.range 48 }
    let empty := listLength (s.par P.SAR_LIST (16 * g + x.list)) == 0
    s.setGroup g (match x.state, empty with
      | .running, true => { x with state := .stopped }
      | .gated _, true => { x with state := .gated false }
      | _, _ => x)

/-- `SAR_REFEN` in force decides the group's REFBUF; an enable takes effect once VREFIO is ready (R135, R573). -/
def State.sarRefUpdate (s : State) (g : Nat) : State :=
  let x := s.group g
  if s.par P.SAR_REFEN g = 1 then
    match x.refOn with
    | some _ => s
    | none => if s.pwr.vrefReady then s.setGroup g { x with refOn := some s.t, refReady := false } else s
  else s.setGroup g { x with refOn := none, refReady := false }

/-- A list becomes the group's active list (R127, R128). -/
def State.sarStart (s : State) (g list : Nat) (byAction : Bool) : State :=
  s.setGroup g { s.group g with
    state := .running, list := list, next := 0, passStart := none, restart := [], byAction := byAction }

/-- The active list ends (R129). -/
def State.sarStop (s : State) (g : Nat) : State :=
  let x := s.group g
  if x.state = .running then s.setGroup g { x with state := .stopped, restart := [] } else s

/-- CONV_START for the group: an index above 15 or an empty list changes nothing and records BADLIST (R127). Where
a bank swap of the step waits for the boundary, the new bank's list counts (R47). -/
def State.sarConvStart (s : State) (g list : Nat) (o : Origin) : State :=
  let i := 16 * g + list
  let word := if (s.group g).swapDue then s.shadowPar P.SAR_LIST i else s.par P.SAR_LIST i
  if 15 < list ∨ listLength word = 0 then
    s.ask { blk := Fb.sar g, det := 0, cls := 1, master := o.master, access := o.access, form := o.form, addr := o.addr }
  else if (s.group g).serves then s.sarStart g list (o.master == 6)
  else s

/-- `SAR_CTRL` START and STOP act at the first slot boundary after acceptance, in their order (R130). -/
def State.sarListCmds (s : State) (g : Nat) : State :=
  let x := s.group g
  x.cmds.foldl (fun s c => match c with
    | .start l => s.sarConvStart g l {}
    | .stop => s.sarStop g) (s.setGroup g { x with cmds := [] })

/-- A further list command waits for the slot boundary. -/
def State.sarQueueCmd (s : State) (g : Nat) (c : ListCmd) : State :=
  s.setGroup g { s.group g with cmds := (s.group g).cmds ++ [c] }

/-- The next live slice after slice `i`, in index order, wrapping (R141). -/
def Group.liveAfter (x : Group) (i : Nat) : Option Nat :=
  ((List.range 4).map (fun k => (i + 1 + k) % 5)).find? (fun j => (x.slice j).state == .live)

/-- A spare enters service: it takes slots from now on with the pair stored for it, and its first result carries CAL
(R141, R282). -/
def State.enterService (s : State) (g i : Nat) : State :=
  let x := s.group g
  let c := x.slice i
  s.setGroup g (x.setSlice i { c with
    state := .live, calNext := true, entries := (c.entries + 1) % 65536, pair := some (s.coef 0 (5 * g + i)) })

/-- The slices that a rotation at this slot boundary exchanges, incoming and outgoing (R141). -/
def State.sarRotates (s : State) (g now5 : Nat) (swapped : Bool) : Option (Nat × Nat) :=
  let x := s.group g
  match x.spare with
  | none => none
  | some sp =>
    match x.liveAfter sp with
    | none => none
    | some out =>
      if s.par P.SAR_ROTEN g = 1 ∧ (x.slice sp).ready ∧ x.lastRotation + 2 * msTicks (s.par P.SAR_ROTPER g) ≤ now5
          ∧ x.isFree out ∧ swapped = false then some (sp, out)
      else none

/-- Rotation of the spare slice (R141). -/
def State.sarRotate (s : State) (g now5 : Nat) (swap : Option (Nat × Nat)) : State :=
  match swap with
  | none => s
  | some (sp, out) =>
    let s := s.enterService g sp
    let x := s.group g
    s.setGroup g { x.setSlice out { x.slice out with state := .spare, ready := false } with lastRotation := now5 }

/-- The entry of the active list that is due at this instant (R124): its place in the pass. -/
def State.listDue (s : State) (g now5 : Nat) : Option Nat :=
  let x := s.group g
  if x.state ≠ .running then none
  else
    match x.next, x.passStart with
    | 0, some p => if p + 2 * s.par P.SAR_PACE (16 * g + x.list) ≤ now5 then some 0 else none
    | k, _ => some k

/-- The pass moves on by `k` entries; a ONCE list ends by itself, and a CONTINUOUS one begins a new pass (R124, R129). -/
def State.listStep (s : State) (g k now5 : Nat) : State :=
  let x := s.group g
  let w := s.listWord g
  let x := if x.next = 0 then { x with passStart := some now5 } else x
  let n := x.next + k
  s.setGroup g (
    if n < listLength w then { x with next := n }
    else if listContinuous w then { x with next := 0 }
    else { x with state := .stopped, next := 0 })

/-- The slot is skipped (R119). -/
def State.skipSlot (s : State) (g : Nat) : State := s.bump P.SAR_SKIPSLOT g

/-- The free slices in the order in which an entry takes them: the slice that has just come into service, then the
lowest-numbered (R119, R141). -/
def Group.freeFor (x : Group) (first : Option Nat) : List Nat :=
  match first with
  | some i => if x.isFree i then i :: x.free.filter (fun j => !(j == i)) else x.free
  | none => x.free

/-- One start at this slot, in the order of R150: the urgent queue, a restarted entry, the entry due with its partner
where SIM pairs them, then a system-calibration conversion. `came` is the slice that a rotation has brought into service. -/
def State.serveSlot (s : State) (g now5 : Nat) (came : Option Nat) : State :=
  let x := s.group g
  match x.urgent, x.free with
  | cell :: rest, i :: _ =>
    (s.setGroup g { x with urgent := rest }).startConv g i .urgent (urgentWord cell (s.par P.SAR_URGDST g)) now5
  | _, _ =>
    let free := x.freeFor came
    match x.restart with
    | c :: rest =>
      match free with
      | [] => s.skipSlot g
      | i :: _ =>
        (s.setGroup g { x with restart := rest }).startConv g i c.kind c.word now5
    | [] =>
      match s.listDue g now5 with
      | some k =>
        let first := listFirst (s.listWord g)
        let word := s.scanEntry g (first + k)
        if scanSim word ∧ k + 1 < listLength (s.listWord g) then
          match free with
          | i :: j :: _ =>
            let s := s.startConv g i (.entry (first + k)) word now5
            let s := s.startConv g j (.entry (first + k + 1)) (s.scanEntry g (first + k + 1)) now5
            s.listStep g 2 now5
          | _ => s.skipSlot g
        else
          match free with
          | i :: _ => (s.startConv g i (.entry (first + k)) word now5).listStep g 1 now5
          | [] => s.skipSlot g
      | none =>
        match free with
        | i :: _ =>
          if x.syscal.busy ∧ x.syscal.failed = false ∧ x.syscal.started < 256 then
            let s := s.setGroup g { x with syscal := { x.syscal with started := x.syscal.started + 1 } }
            s.startConv g i .syscal (x.syscal.cell + 3 * 2 ^ 7) now5
          else s
        | [] => s

/-- Kiln has deferred the group and gates it: it completes the conversions in progress and starts no more (R259). -/
def State.sarHeldBack (s : State) (g : Nat) : Bool :=
  s.kiln.gateDue.contains (Fb.sar g) && s.kiln.deferred.contains (0x08 + g)

/-- SLOT_BOUNDARY of group `g` at a TCLK edge, or 5 ns after it where `half` holds: every 125 ns (R119, R121, R150). -/
def State.slotBoundary (s : State) (g : Nat) (half : Bool) : State :=
  let now5 := 2 * s.t + b2n half
  let x := s.group g
  let early := match x.lastSlot with
    | some l => decide (now5 < l + 25)
    | none => false
  match x.state with
  | .gated _ => s
  | _ =>
    if early then s
    else
      let s := s.setGroup g { x with lastSlot := some now5, oldSys := [], oldPairs := [] }
      let s := (s.takeLive (Fb.sar g)).sarRefUpdate g
      let swapped := x.swapDue
      let s := (s.sarSwap g).sarListCmds g
      if (s.group g).serves ∧ s.sarHeldBack g = false then
        let rot := s.sarRotates g now5 swapped
        (s.sarRotate g now5 rot).serveSlot g now5 (rot.map Prod.fst)
      else s

/-- The instant `now5` lies less than t_REFSET after the REFBUF's enable, or the REFBUF is off (R135). -/
def Group.refYoung (x : Group) (now5 : Nat) : Bool :=
  match x.refOn with
  | some t0 => decide (now5 < 2 * (t0 + msTicks 2))
  | none => true

/-- The sample instants that have passed take their dual stamp, the state of the REFBUF and the cell's front end (R120,
R135). -/
def State.sarSampleSlice (s : State) (g i : Nat) : State :=
  let x := s.group g
  let sl := x.slice i
  match sl.conv with
  | none => s
  | some c =>
    if c.stamp.isNone ∧ c.start + 25 < 2 * s.t + 2 then
      s.setGroup g (x.setSlice i { sl with conv := some { c with
        stamp := some (s.angleStamp, s.t)
        rnr := x.refYoung (c.start + 25) || s.episodeOpen (Fb.sar g) 4
        refOff := x.refOn.isNone
        front := s.front (scanSrc c.word) } })
    else s

/-- Every slice of every group looks at its sample instant at this TCLK edge. -/
def State.sarSample (s : State) : State :=
  (s.groups.map Prod.fst).foldl (fun s g => (List.range 5).foldl (fun s i => s.sarSampleSlice g i) s) s

/-! ### Results -/

/-- The 12-bit code of a raw slice code (R131, R146, R283), and whether the clamp acted. -/
def sarCode (c : Conv) (raw : Nat) : Int × Bool :=
  let a1 := (64 * (raw : Int) - c.slicePair.o) * c.slicePair.g
  if scanDiag c.word then roundClamp 0 4095 a1 (2 ^ 36)
  else
    let zt : Int := if c.signed then 2048 else 0
    let a2 := (a1 - (64 * zt + c.cellPair.o) * 2 ^ 30) * c.cellPair.g
    match c.kind with
    | .syscal => roundClamp 0 4095 (zt * 2 ^ 66 + a2) (2 ^ 66)
    | _ =>
      let a3 := (a2 - c.sysOfs * 2 ^ 60) * c.sysGain
      roundClamp 0 4095 (zt * 2 ^ 96 + a3) (2 ^ 96)

/-- The cross-check of one pair with the new result of conversion `v`, of entry `e` of group `g` and code `code` (R143):
whether XCK is set. Sample instants are compared on the SAR clock's grid. -/
def State.xcheckOne (g e code : Nat) (v : Conv) (acc : Bool × State) (k : Nat) : Bool × State :=
  let (xck, s) := acc
  let p := xcPair (s.par P.SAR_XCSEL k)
  if p.on = false then (xck, s)
  else
    let other : Option (Nat × Nat) :=
      if p.ga = g ∧ p.ea = e then some (p.gb, p.eb)
      else if p.gb = g ∧ p.eb = e then some (p.ga, p.ea)
      else none
    match other with
    | none => (xck, s)
    | some (h, f) =>
      let (tol, win) := tblGet (s.par P.SAR_XCTOL k, s.par P.SAR_XCWIN k) v.xc k
      match (s.group h).codes.find? (fun r => r.1 == f) with
      | some (_, c, t) =>
        if ((v.start + 25 : Nat) - (t : Int)).natAbs ≤ 2 * win then
          if tol < ((code : Int) - c).natAbs then
            let s := s.bump P.SAR_XCCNT k
            (true, s.ask { blk := Fb.sar g, det := 2, cls := 1, master := if v.byAction then 6 else 0, access := 5,
                           addr := scanPar g + e * 4096 })
          else (xck, s)
        else (xck, s.bump P.SAR_XCMISS k)
      | none => (xck, s.bump P.SAR_XCMISS k)

/-- The cross-check of a result with every pair, and the result's own place among the latest results (R143). -/
def State.xcheck (s : State) (g e code : Nat) (v : Conv) : Bool × State :=
  let (xck, s) := (List.range 16).foldl (State.xcheckOne g e code v) (false, s)
  let x := s.group g
  (xck, s.setGroup g { x with codes := tblInsert (tblErase x.codes e) e (code, v.start + 25) })

/-- One of the 256 conversions of a system-calibration step completes (R144, R145). -/
def State.sysResult (s : State) (g code : Nat) (bad : Bool) : State :=
  let x := s.group g
  let y := x.syscal
  if y.busy then
    s.setGroup g { x with syscal := { y with done := y.done + 1, sum := y.sum + code, failed := y.failed || bad } }
  else s

/-- The result of a conversion is delivered to its lane and stream (R132, R138). -/
def State.sarDeliver (s : State) (g : Nat) (c : Conv) (src : Nat) (data : Int) (flags : Nat) (parity : Bool) : State :=
  let (angle, time) := c.stamp.getD (s.angleStamp, s.t)
  let word := sampleWord data src flags
  let x := s.group g
  let s := s.setGroup g { x with last := tblInsert (tblErase x.last src) src (some ⟨word, angle, time⟩) }
  let s := match scanLane c.word with
    | some n => s.laneInput n (wrapTo 18 data) flags angle time (c.start + 100) parity
    | none => s
  match scanStream c.word with
  | some r => s.sampleRecord r word angle time 0
  | none => s

/-- The voltage that the slice of conversion `c` samples: a cell's PGIA output, or a scaled diagnostic source (Table 5.4). -/
def Conv.volts (c : Conv) (x : Int) : Frac :=
  if scanDiag c.word then
    let d := diagScale (scanSrc c.word)
    ⟨x * d.num, d.den⟩
  else c.front.out x

/-- The result of conversion `c` of the sample `x`: its code, its word and its flags (R131–R133, R135, R143). A sample
beyond the span reads as the span's nearest end. A sample that repeats the cell's last one keeps its 12-bit code, which the
entry and the cell's mode of now format (DESIGN CHOICE, log entry 117). -/
def State.sarResult (s : State) (g : Nat) (c : Conv) (x : Sampled) (parity : Bool) : State :=
  let v := c.volts x.signal
  let (code, clamped) := sarCode c (adcCode 12 c.signed v x.err)
  let diag := scanDiag c.word
  let place := if diag then .within else spanPlace c.signed v
  let code := (spanEnd 0 4095 code place).toNat
  let cell := scanSrc c.word
  let (angle, time) := c.stamp.getD (s.angleStamp, s.t)
  let satFlag := (!diag && (place != .within || s.cellSaturated cell)) || clamped || (diag && (code == 0 || code == 4095))
  let held := if c.stale then (s.cell cell).lastSar else none
  let used := held.getD code
  let data : Int :=
    if c.refOff || (c.stale && held.isNone) then 0 else sarFormat (scanFmt c.word) used c.signed
  let s := if !diag && !c.stale && !c.off && !c.refOff then s.setCell cell { s.cell cell with lastSar := some code } else s
  match c.kind with
  | .syscal => s.sysResult g code (c.stale || c.off || satFlag)
  | kind =>
    let bad := c.stale || c.off || satFlag
    let (xck, s) := match kind with
      | .entry e =>
        let (b, s) := s.xcheck g e used c
        (b, s.icSarResult g e (c.start + 25) used c.signed bad)
      | _ => (false, s)
    let (dfr, s) := s.takeDfr (0x08 + g)
    let rnr := c.rnr || c.refOff
    let s := if rnr then s.bump P.SAR_RNRCNT g else s
    let flags := flagIf (c.stale || c.off) Flag.stl ||| flagIf satFlag Flag.sat ||| flagIf rnr Flag.rnr
      ||| flagIf xck Flag.xck ||| flagIf dfr Flag.dfr ||| flagIf (c.calSlice || c.calCell) Flag.cal
      ||| flagIf (c.seq || c.cellSeq) Flag.seq
    let src := match kind with
      | .entry e => e
      | _ => 0x30
    let s := match kind with
      | .urgent => s.bump P.SAR_URGCNT g
      | _ => s
    let shown := if c.refOff || (c.stale && held.isNone) then 0 else used
    let s := if diag then s else s.setCell cell { s.cell cell with readCh := some (shown, flags) }
    s.sarDeliver g c src data flags parity

/-- CONVERSION_COMPLETE on slice `i` of group `g`, 500 ns after its start (R118): what the slice has sampled, and a
coefficient parity error in the lane the result enters. -/
def State.conversionComplete (s : State) (g i : Nat) (x : Sampled) (parity : Bool) : State :=
  let s := s.sarSampleSlice g i
  let y := s.group g
  match (y.slice i).conv with
  | none => s
  | some c =>
    if 2 * s.t + 1 < c.start + 100 then s
    else (s.setGroup g (y.setSlice i { y.slice i with conv := none })).sarResult g c x parity

/-! ### Urgent conversions -/

/-- Of the live slices that convert a list entry past its sample instant, the one whose instant is latest (R136). -/
def Group.victim (x : Group) (now5 : Nat) : Option (Nat × Conv) :=
  x.live.foldl (fun best i =>
    match (x.slice i).conv with
    | some c =>
      match c.kind with
      | .entry _ =>
        if c.start + 25 ≤ now5 then
          match best with
          | some (_, b) => if b.start < c.start then some (i, c) else best
          | none => some (i, c)
        else best
      | _ => best
    | none => best) none

/-- URGENT_CONV for group `g` (R136, R137). -/
def State.sarUrgent (s : State) (g cell : Nat) (o : Origin) : State :=
  let x := s.group g
  let word := urgentWord cell (s.par P.SAR_URGDST g)
  let now5 := 2 * s.t
  if x.serves = false then s
  else
    match x.free with
    | i :: _ => s.startConv g i .urgent word now5
    | [] =>
      if s.par P.SAR_URGPOL g = 1 then s.bump P.SAR_URGDROP g
      else
        match x.victim now5 with
        | some (i, c) =>
          let s := s.sarGiveUp g i
          let s := s.setGroup g { s.group g with restart := (s.group g).restart ++ [c] }
          (s.startConv g i .urgent word now5).bump P.SAR_URGABT g
        | none =>
          if x.urgent.length < 4 then s.setGroup g { x with urgent := x.urgent ++ [cell] }
          else
            (s.bump P.SAR_URGDROP g).ask
              { blk := Fb.sar g, det := 1, cls := 1, master := o.master, access := o.access, form := o.form, addr := o.addr }

/-! ### System calibration -/

/-- Every group owes CAL on its next result of a cell whose coefficients change (R133, R284). -/
def State.sarCalCell (s : State) (cell : Nat) : State :=
  (List.range 4).foldl (fun s g =>
    let x := s.group g
    if x.calCells.contains cell then s else s.setGroup g { x with calCells := x.calCells ++ [cell] }) s

/-- A pending step of group `g` completes: on the port that sent SYSCAL_STEP, or the write of `SAR_SYSCAL` (R144). -/
def State.sysComplete (s : State) (g st status : Nat) : State :=
  let x := s.group g
  let s := s.setGroup g { x with syscal := { x.syscal with busy := false } }
  let s := s.setPar P.SAR_SYSST g st
  let target := fun (p : PendSlot) =>
    (p.opcode == 0x56 && bitsOf p.target 8 2 == g) || (p.opcode != 0x56 && p.arg == P.SAR_SYSCAL + 4096 * g)
  [1, 2, 3, 4].foldl (fun s port =>
    ((s.session port).slots.filter target).foldl (fun s p => s.complete port p.seq status [] st) s) s

/-- A step under way is aborted by a gating or a reset (R272, R577). -/
def State.sysAbort (s : State) (g : Nat) : State :=
  if (s.group g).syscal.busy then s.sysComplete g 0 Status.abortedByReset else s

/-- SYSCAL_DONE (R144, R145): the 256 conversions have completed, or one carried STL or SAT. -/
def State.syscalDone (s : State) (g : Nat) : State :=
  let x := s.group g
  let y := x.syscal
  if y.busy = false then s
  else if y.failed then s.sysComplete g 5 Status.faultState
  else if 256 ≤ y.done then
    let mean := openDiv 7 y.sum 4
    let y := if y.full then { y with fullMean := some mean } else { y with zero := some mean }
    (s.setGroup g { x with syscal := y }).sysComplete g 2 Status.ok
  else s

/-- SYSCAL_TIMEOUT (R145). -/
def State.syscalTimeout (s : State) (g : Nat) : State :=
  let y := (s.group g).syscal
  if y.busy ∧ y.done < 256 ∧ y.since + msTicks (s.par P.CAL_TIMEOUT) ≤ s.t then
    (s.sysComplete g 4 Status.timeout).raise (Fb.sar g) 3 1
  else s

/-- The stored means belong to the cell of the step; another cell's are discarded (R145). -/
def State.sysCell (s : State) (g cell : Nat) : State :=
  let x := s.group g
  if x.syscal.cell = cell then s
  else s.setGroup g { x with syscal := { x.syscal with cell := cell, zero := none, fullMean := none } }

/-- Kiln powers a gated block for work that it has admitted, within 50 µs (R260). -/
def State.powerUp (s : State) (b : Nat) : State :=
  { s with kiln := { s.kiln with
    powerDue := tblSet 0 s.kiln.powerDue b (s.t + 5000), gateDue := s.kiln.gateDue.filter (fun x => !(x == b)) } }

/-- `SAR_SYSCAL` ZERO or FULL (R144): accepted, unless a step is under way. -/
def State.sysStart (s : State) (g cell : Nat) (full : Bool) : State :=
  let x := s.group g
  if x.syscal.busy then s.answer Status.busyLocked
  else if x.state = .safe then s.answer Status.faultState
  else
    let s := if x.serves then s else s.powerUp (Fb.sar g)
    let s := s.sysCell g cell
    let x := s.group g
    let s := s.setGroup g { x with syscal := { x.syscal with
      busy := true, full := full, started := 0, done := 0, sum := 0, failed := false, since := s.t } }
    (s.setPar P.SAR_SYSST g 1).answer Status.acceptedPending

/-- `SAR_SYSCAL` CLEAR (R147). -/
def State.sysClear (s : State) (g cell : Nat) : State :=
  if (s.group g).syscal.busy then s.answer Status.busyLocked
  else
    let s := s.sysCell g cell
    let s := ((s.sarKeepSys cell).setPar P.SAR_SYSOFS cell 0).setPar P.SAR_SYSGAIN cell (2 ^ 30)
    ((s.sarCalCell cell).setPar P.SAR_SYSST g 2).done

/-- `SAR_SYSCAL` APPLY (R147). -/
def State.sysApply (s : State) (g cell : Nat) : State :=
  let y := (s.group g).syscal
  if y.busy then s.answer Status.busyLocked
  else
    match y.zero, y.fullMean with
    | some z, some f =>
      if y.cell ≠ cell then s.answer Status.notPermitted
      else
        let zt : Nat := if isSignedMode (s.par P.AC_MODE cell) then 2048 else 0
        let span : Int := (f : Int) - z
        let num : Int := 64 * ((s.par P.SAR_SYSFS cell : Int) - zt) * 2 ^ 30
        let num := if span < 0 then -num else num
        let den := span.natAbs
        if den < 16384 ∨ 2 * num < (den * 2 ^ 30 : Nat) ∨ (2 * den * 2 ^ 30 : Nat) < num then
          (s.setPar P.SAR_SYSST g 3).answer Status.outOfRange 3
        else
          let gain := min (openDivI 8 num den) (2 ^ 31 - 1)
          let s := (s.sarKeepSys cell).setParI P.SAR_SYSOFS cell ((z : Int) - 64 * zt)
          let s := s.setPar P.SAR_SYSGAIN cell gain.toNat
          ((s.sarCalCell cell).setPar P.SAR_SYSST g 2).done
    | _, _ => s.answer Status.notPermitted

/-! ### Edges -/

/-- A group left with no live slice (R153). -/
def State.noSlice (s : State) (g : Nat) : State :=
  if (s.group g).live.isEmpty then s.raiseEpisode (Fb.sar g) 7 3 else s

/-- SLICE_TIMEOUT (R152): the slice is withdrawn, its entry starts again, whatever has become of its list, and the spare
enters service at once. -/
def State.sliceTimeout (s : State) (g i : Nat) : State :=
  let x := s.group g
  let sl := x.slice i
  match sl.conv with
  | none => s
  | some c =>
    if sl.state = .live ∧ c.start + 120 ≤ 2 * s.t + 1 then
      let s := s.sarGiveUp g i
      let x := (s.group g).setSlice i { sl with state := .withdrawn, conv := none, ready := false, calNext := false }
      let x := match c.kind with
        | .entry _ => { x with restart := x.restart ++ [c] }
        | .urgent => { x with urgent := scanSrc c.word :: x.urgent }
        | .syscal => { x with syscal := { x.syscal with started := x.syscal.started - 1 } }
      let s := (s.setGroup g x).raise (Fb.sar g) 6 2
      let s := match x.spare with
        | some sp => s.enterService g sp
        | none => s
      s.noSlice g
    else s

/-- Calibration rejects the spare's coefficients: the slice is withdrawn (SLICEWD). -/
def State.sliceReject (s : State) (g i : Nat) : State :=
  let x := s.group g
  if (x.slice i).state = .spare then
    ((s.setGroup g (x.setSlice i { x.slice i with state := .withdrawn, ready := false })).raise (Fb.sar g) 5 2).noSlice g
  else s

/-- REFSET_ELAPSED: 2.0 ms have passed since the enable took effect (R135). -/
def State.sarRefSettled (s : State) (g : Nat) : State :=
  let x := s.group g
  match x.refOn with
  | some t0 => if t0 + msTicks 2 ≤ s.t then s.setGroup g { x with refReady := true } else s
  | none => s

/-- REFOOT: the REFBUF has lain outside 4.096 V ±0.5 % for 10 µs after t_REFSET (Table 5.8). -/
def State.sarRefOot (s : State) (g : Nat) : State :=
  if (s.group g).refReady then s.raiseEpisode (Fb.sar g) 4 2 else s

/-- SARCLK: no SAR clock edge for 20 ns (Table 5.8), whatever the group's state. -/
def State.sarClk (s : State) (g : Nat) : State := s.raise (Fb.sar g) 8 3

/-! ### States of the group -/
/-- Class C or D reaction: stopped, no conversions (Table 5.6). -/
def State.sarEnterSafe (s : State) (g : Nat) : State :=
  let s := (s.sysAbort g).sarDropAll g
  s.setGroup g { s.group g with state := .safe, urgent := [], restart := [], cmds := [] }

/-- A group may enter GATED: its conversions in progress are complete (R259). -/
def Group.quiet (x : Group) : Bool := (List.range 5).all (fun i => (x.slice i).conv.isNone)

/-- Kiln gates the group (Table 5.7): requests it holds complete with ABORTED_BY_RESET (R272). -/
def State.sarGate (s : State) (g : Nat) : State :=
  let s := s.sysAbort g
  let x := s.group g
  match x.state with
  | .stopped => s.setGroup g { x with state := .gated false, urgent := [], restart := [], cmds := [] }
  | .running => s.setGroup g { x with state := .gated true, urgent := [], restart := [], cmds := [] }
  | _ => s

/-- Kiln ungates the group: its active list restarts at its first entry (R259). -/
def State.sarUngate (s : State) (g : Nat) : State :=
  let x := s.group g
  match x.state with
  | .gated was =>
    s.setGroup g { x with state := if was then .running else .stopped, next := 0, passStart := none, lastSlot := none }
  | _ => s

/-- Reset of a group (R154). Coefficient pairs outlive it (R308): a slice that comes into service takes its pair in
force. -/
def State.sarReset (s : State) (g : Nat) : State :=
  let s := (((s.sysAbort g).sarDropAll g).sarSwap g)
  let x := s.group g
  let keep := (List.range 5).foldl (fun (t : Tbl Slice) i =>
    let c := x.slice i
    tblSet {} t i {
      state := if i = 4 then .spare else .live
      pair := if c.state = .live then c.pair else some (s.coef 0 (5 * g + i)) }) []
  (s.resetParams (Fb.sar g)).setGroup g { slices := keep }

/-- `SAR_CTRL` START on a group that Kiln lets start (R130); a gated group takes it once it is powered (R380). -/
def State.sarCtrlStart (s : State) (g list : Nat) : State :=
  match (s.group g).state with
  | .safe => s.answer Status.faultState
  | .gated _ => ((s.sarQueueCmd g (.start list)).powerUp (Fb.sar g)).done
  | _ => (s.sarQueueCmd g (.start list)).done

/-- `SAR_CTRL` STOP (R130, R648). -/
def State.sarCtrlStop (s : State) (g : Nat) : State :=
  let x := s.group g
  match x.state with
  | .safe => s.answer Status.faultState
  | .gated true => (s.sarQueueCmd g .stop).done
  | .gated false => s.answer Status.notPermitted
  | .stopped => if x.cmds.isEmpty then s.answer Status.notPermitted else (s.sarQueueCmd g .stop).done
  | .running => (s.sarQueueCmd g .stop).done

/-- `SAR_CTRL` RESUME (Table 5.7, R470). -/
def State.sarCtrlResume (s : State) (g : Nat) : State :=
  let x := s.group g
  if x.state = .safe ∧ s.pendingC (Fb.sar g) = false then
    ((s.setGroup g { x with state := .stopped }).openWindow (Fb.sar g)).done
  else s.answer Status.notPermitted

/-- `SAR_CTRL` 4 clears the group's counters (R155); those of the cross-check pairs go with G0, which owns them. -/
def State.sarClear (s : State) (g : Nat) : State :=
  let s := s.clearPars [(P.SAR_URGCNT, g), (P.SAR_URGABT, g), (P.SAR_URGDROP, g), (P.SAR_RNRCNT, g), (P.SAR_SKIPSLOT, g)]
  let s := if g = 0 then
      (List.range 16).foldl (fun s k => (s.setPar P.SAR_XCCNT k 0).setPar P.SAR_XCMISS k 0) s
    else s
  s.done

/-- `SAR_STATUS` (Table 5.9). -/
def State.sarStatus (s : State) (g : Nat) : Nat :=
  let x := s.group g
  x.list + 16 * b2n (x.state == .running) + 32 * b2n x.refReady
    + 64 * b2n (match x.spare with | some i => (x.slice i).ready | none => false)
    + 128 * x.spare.getD 0 + 1024 * x.live.length

/-- `SAR_SLICE` (Table 5.9): state, READY and entries into service. -/
def State.sarSliceWord (s : State) (g i : Nat) : Nat :=
  let x := s.group g
  let sl := x.slice i
  let code := match x.state with
    | .gated _ => 3
    | _ => match sl.state with
      | .live => 0
      | .spare => 1
      | .withdrawn => 2
  code + 4 * b2n sl.ready + 65536 * sl.entries

end Sys2Proof.Machine
end

