-- ==== Sys2Proof/Machine/Calibration.lean ====
section
/-! DEFINITION. Calibration and the reference resistor (R278–R309): coefficient pairs, spare-slice calibration, runs,
idle windows and blends. What is measured comes with the row. -/

namespace Sys2Proof.Machine

/-! ### Temperature and pairs -/

/-- T_now in 0.01 °C: the highest valid reading of the die sensors (R254). -/
def State.tNow (s : State) : Int :=
  let vs := (List.range 5).filterMap (fun i =>
    let d := tblGet {} s.kiln.sensors i
    if d.valid then some d.value else none)
  match vs with
  | [] => 0
  | v :: rest => rest.foldl (fun a b => if a < b then b else a) v

/-- The key of an item of a coefficient kind. -/
def coefKey (kind idx : Nat) : Nat := kind * 1024 + idx

/-- The items of each kind (Table 10.2). -/
def coefCount (kind : Nat) : Nat := nthD 0 [20, 8, 512, 128, 128] kind

/-- `CAL_CSEL` names an item of Table 10.2. -/
def itemOk (w : Nat) : Bool := decide (w < 2 ^ 16) && decide (w % 4096 < coefCount (w / 4096))

/-- The index of the output pair of cell `n` in its mode: OUT-V, else OUT-I (Table 10.2). -/
def State.outIndex (s : State) (n : Nat) : Nat := 2 * n + (if s.par P.AC_MODE n = 6 then 1 else 0)

/-- The output pair as the DAC uses it: the blended one during a blend (R288). -/
def State.outPair (s : State) (idx : Nat) : Frac × Frac :=
  match tblGet none s.cal.blends idx with
  | some b =>
    let mix := fun (x : Frac) (y : Int) =>
      fracDiv (fracAdd (fracMul x ((b.delta : Int) - b.num)) ⟨y * b.num, 1⟩) b.delta
    (mix b.fromG b.toPair.g, mix b.fromO b.toPair.o)
  | none =>
    let p := s.coef 3 idx
    (⟨p.g, 1⟩, ⟨p.o, 1⟩)

/-- The DAC value of a code under a pair: round(c × G + O / 16), clamped to 0–65,535 (R283). -/
def dacOf (code : Nat) (p : Frac × Frac) : Nat :=
  let v := fracAdd (fracDiv (fracMul p.1 code) (2 ^ 30)) (fracDiv p.2 16)
  (clampInt 0 65535 (roundHalfAway v.num v.den)).toNat

/-- The DAC value that output cell `n` drives (R72, R77, R283, R288). -/
def State.dacValue (s : State) (n : Nat) : Nat := dacOf (s.drivenCode n) (s.outPair (s.outIndex n))

/-- A gain lies within 2 % of 1 (R295). -/
def gainNear (g : Nat) : Bool := decide (50 * ((g : Int) - 2 ^ 30).natAbs ≤ 2 ^ 30)

/-! ### Commit -/

/-- One staged pair comes into force at the instant of Table 10.2. -/
def State.commitOne (s : State) (key : Nat) (p : CoefPair) : State :=
  let kind := key / 1024
  let idx := key % 1024
  let old := s.coef kind idx
  let changed := !(old.g == p.g && old.o == p.o)
  let before := s.outPair idx
  let s := { s with coefs := tblInsert (tblErase s.coefs key) key p }
  if changed = false then s
  else
    match kind with
    | 1 => s.setIc idx { s.ic idx with calDue := true }
    | 2 =>
      let cell := idx / 8
      let s := (s.sarKeepPair idx old).sarCalCell cell
      (List.range 8).foldl (fun s i =>
        let c := s.ic i
        if c.calCells.contains cell then s else s.setIc i { c with calCells := c.calCells ++ [cell] }) s
    | 3 =>
      let code := if idx % 2 = 1 then currentCode (s.cell (idx / 2)).code.toNat else (s.cell (idx / 2)).code.toNat
      let d : Nat := ((dacOf code (⟨p.g, 1⟩, ⟨p.o, 1⟩) : Int) - dacOf code before).natAbs
      let b : Blend := { fromG := before.1, fromO := before.2, toPair := p, num := 0, delta := max 1 d, since := s.t }
      { s with cal := { s.cal with blends := tblSet none s.cal.blends idx (some b) } }
    | _ => s

/-- Every staged pair comes into force (R296). -/
def State.commitStaging (s : State) : State :=
  let st := s.cal.staging
  st.foldl (fun s e => s.commitOne e.1 e.2) { s with cal := { s.cal with staging := [] } }

/-- CAL_START commands that wait complete (chapter Command packets). -/
def State.calAnswer (s : State) (status detail : Nat) : State :=
  [1, 2, 3, 4].foldl (fun s port =>
    ((s.session port).slots.filter (fun (p : PendSlot) => p.opcode == 0x50)).foldl
      (fun s p => s.complete port p.seq status [] detail) s) s

/-! ### The bus -/

/-- The bus serves a run step's item or a spare procedure (R301). -/
def State.calBusy (s : State) : Bool := s.cal.item.isSome || s.cal.spares.any (fun e => e.2.start.isSome)

/-- The READY spare of the lowest-numbered group that has one (R290). -/
def State.readySpare (s : State) : Option (Nat × Nat) :=
  (List.range 4).findSome? (fun g =>
    let x := s.group g
    match x.spare with
    | some i => if (x.slice i).ready && x.serves then some (g, i) else none
    | none => none)

/-- READY of the spare of group `g`. -/
def State.setSpareReady (s : State) (g : Nat) (on : Bool) : State :=
  let x := s.group g
  match x.spare with
  | some i => s.setGroup g (x.setSlice i { x.slice i with ready := on })
  | none => s

/-- R287 allows READY for the spare of group `g`: T_now lies within `CAL_DTEMP` of the temperature stored with its pair. -/
def State.spareTempOk (s : State) (g : Nat) : Bool :=
  match (s.group g).spare with
  | some i => decide ((s.tNow - (s.coef 0 (5 * g + i)).temp).natAbs ≤ s.par P.CAL_DTEMP)
  | none => false

/-- A running step takes the READY spare of the lowest-numbered group that has one, and clears its READY (R290). -/
def State.calTakeSpare (s : State) : State :=
  if s.cal.spareOf.isSome then s
  else
    match s.readySpare with
    | some (g, i) => { s.setSpareReady g false with cal := { s.cal with spareOf := some (g, i) } }
    | none => s

/-- A step gives its spare back, READY again if R287 allows (R290). -/
def State.calFreeSpare (s : State) : State :=
  match s.cal.spareOf with
  | none => s
  | some (g, _) =>
    let s := { s with cal := { s.cal with spareOf := none } }
    if s.spareTempOk g then s.setSpareReady g true else s

/-- Cell `n` is listed in idle window `w` (R297). -/
def State.inWindow (s : State) (n w : Nat) : Bool := bitOf (s.par P.CAL_IWCELL (2 * w + n / 32)) (n % 32)

/-- Cell `n` is listed in some window, and in an open one. -/
def State.listedCell (s : State) (n : Nat) : Bool := (List.range 8).any (s.inWindow n)
def State.openCell (s : State) (n : Nat) : Bool := s.cal.windows.any (s.inWindow n)

/-- The conditions of R293, with the cell in operation. -/
def State.mayInject (s : State) (n : Nat) : Bool :=
  isInputMode (s.par P.AC_MODE n) && s.openCell n && s.cmpIdle n
    && ((s.cell n).state == .active || (s.cell n).state == .settling)

/-- The cells of the CELL step: those of `CAL_CELLEN` in an input mode (Table 10.3). -/
def State.cellItems (s : State) : List Nat :=
  (List.range 64).filter (fun n => bitOf (s.par P.CAL_CELLEN (n / 32)) (n % 32) && isInputMode (s.par P.AC_MODE n))

/-- A record about an item of calibration (Table 16.5). -/
def State.askCal (s : State) (det cls kind idx : Nat) : State :=
  s.ask { blk := Fb.cal, det := det, cls := cls, master := 8, access := 5, addr := kind * 4096 + idx }

/-- Cells that a step cannot inject are skipped (R293). -/
def State.calSkip (s : State) (ns : List Nat) : State :=
  ns.foldl (fun s n => (s.bump P.CAL_SKIPCNT).askCal 2 1 2 (8 * n + s.par P.AC_GAIN n)) s

/-- The items of a step as it starts (Table 10.3). -/
def State.stepItems (s : State) : CalStep → List Nat
  | .cdac => [0]
  | .cell => s.cellItems.filter (fun n => s.listedCell n && s.cmpIdle n)
  | .thr => ((List.range 64).filter (fun n => !s.cmpIdle n)).flatMap (fun n => [2 * n, 2 * n + 1])
  | .out => (List.range 64).filter (fun n => isOutputMode (s.par P.AC_MODE n))
  | .icOnly => []

/-- The step after a step. -/
def CalStep.next : CalStep → CalStep
  | .cdac => .cell
  | .cell => .thr
  | .thr => .out
  | _ => .icOnly

/-- A step of the run starts with its items. -/
def State.calStep (s : State) (k : CalStep) : State :=
  let s := match k with
    | .cell => s.calSkip (s.cellItems.filter (fun n => !(s.listedCell n && s.cmpIdle n)))
    | _ => s
  { s with cal := { s.cal with step := k, items := s.stepItems k } }

/-- A cell of the CELL step that waits is skipped once it is listed in no window or its comparator is enabled (R293); one
that has left the input modes is none of the step's. -/
def State.calSkipWaiting (s : State) : State :=
  if s.cal.step ≠ .cell then s
  else
    let out := fun (n : Nat) =>
      s.cal.injected != some n && (!isInputMode (s.par P.AC_MODE n) || !s.listedCell n || !s.cmpIdle n)
    let gone := s.cal.items.filter out
    let s := s.calSkip (gone.filter (fun n => isInputMode (s.par P.AC_MODE n)))
    { s with cal := { s.cal with items := s.cal.items.filter (fun n => !gone.contains n) } }

/-- Steps with nothing to do are passed over; a step that ends gives its spare back. -/
def State.calSkipSteps (s : State) : Nat → State
  | 0 => s
  | n + 1 =>
    if s.cal.items.isEmpty ∧ s.cal.item.isNone ∧ s.cal.step ≠ .icOnly then
      (s.calFreeSpare.calStep s.cal.step.next).calSkipSteps n
    else s

/-- The run is over on the bus and in the converters: it commits (R296). -/
def State.calCommitRun (s : State) : State :=
  let dur := (s.t - s.cal.begun) / 100
  let s := s.commitStaging
  let s := { s with cal := { s.cal with state := .idle, admitted := false, lastFailed := false, icMeasured := [] } }
  let s := s.setParI P.CAL_TREF 0 s.tNow
  let s := (s.bump P.CAL_RUNCNT).setPar P.CAL_LASTDUR 0 dur
  s.calAnswer Status.ok 0

/-- The next item that may begin on the bus now. -/
def State.nextItem (s : State) : Option Nat :=
  match s.cal.step with
  | .cell => s.cal.items.find? s.mayInject
  | _ => s.cal.items.head?

/-- The run takes a free bus for its next item, if one may begin and the step has a spare (R289, R290, R301). -/
def State.calBegin (s : State) : State :=
  if s.calBusy ∨ s.cal.stopped then s
  else
    match s.nextItem, s.cal.spareOf with
    | some n, some _ =>
      let s := { s with cal := { s.cal with item := some n, itemStart := s.t } }
      if s.cal.step = .cell then
        { s with cal := { s.cal with
          injected := some n, injMode := s.par P.AC_MODE n, injGain := s.par P.AC_GAIN n, injAaf := s.par P.AC_AAF n } }
      else s
    | _, _ => s

/-- Converter `i` is RUNNING, so that it has an overhead to be measured in (Table 10.3). -/
def State.icRuns (s : State) (i : Nat) : Bool := (s.ic i).state == IcState.running

/-- Every converter that is not in SAFE (Table 10.3). -/
def State.icStepItems (s : State) : List Nat := (List.range 8).filter (fun i => (s.ic i).state != .safe)

/-- The run moves on: a run with nothing left commits, and a free bus is taken. The IC step waits for the overheads of the
converters that run; one that stands still has none to be measured in (DEDUCED, log entry 129). -/
def State.calKick (s : State) : State :=
  if s.cal.state ≠ .running then s
  else
    let s := s.calSkipWaiting.calSkipSteps 4
    if s.cal.step = .icOnly then (if s.cal.icItems.any s.icRuns then s else s.calCommitRun)
    else s.calTakeSpare.calBegin

/-- The item on the bus ends, and an injected cell recovers for max(20 µs, 3 / f_c); its first sample after that carries
SEQ (R70, R292). -/
def State.calEndItem (s : State) : State :=
  match s.cal.item with
  | none => s
  | some _ =>
    let s := { s with cal := { s.cal with item := none } }
    match s.cal.injected with
    | some n =>
      let s := { s with cal := { s.cal with
        injected := none, recovering := tblSet 0 s.cal.recovering n (s.t + settleTicks (s.par P.AC_AAF n)) } }
      s.setCell n { s.cell n with seqDue := true }
    | none => s

/-- An injection ends early; the cell is tried again in a later window (R298). -/
def State.calInjectEnd (s : State) (n : Nat) : State := if s.cal.injected = some n then s.calEndItem else s

/-- The injection under way may go on (R298). -/
def State.calGuard (s : State) : State :=
  match s.cal.injected with
  | none => s
  | some n =>
    let c := s.cal
    if s.openCell n && s.par P.AC_MODE n == c.injMode && s.par P.AC_GAIN n == c.injGain
        && s.par P.AC_AAF n == c.injAaf && ((s.cell n).state == .active || (s.cell n).state == .settling) then s
    else s.calEndItem

/-! ### Runs -/

/-- A run is requested (R285). -/
def State.calRequest (s : State) : State :=
  if s.cal.state = .idle then { s with cal := { s.cal with state := .pending, admitted := false, stopped := false } } else s

/-- The temperature has moved by `CAL_DTEMP` since the last commit (R285), and triggering is not suspended. -/
def State.calTrigger (s : State) : State :=
  if s.cal.trigOff = false ∧ s.par P.CAL_DTEMP ≤ (s.tNow - s.parI P.CAL_TREF).natAbs then s.calRequest else s

/-- An admitted run starts (R289). -/
def State.calRunStart (s : State) : State :=
  if s.cal.state = .pending ∧ s.cal.admitted then
    let s := { s with cal := { s.cal with
      state := .running, staging := [], counted := 0, since := s.t, begun := s.t
      icItems := s.icStepItems, icMeasured := [] } }
    (s.calStep .cdac).calKick
  else s

/-- A run ends without a commit: staging is cleared and every pair in force is kept (R305). -/
def State.calEndRun (s : State) : State :=
  let s := s.calEndItem.calFreeSpare
  { s with cal := { s.cal with state := .idle, admitted := false, staging := [], items := [], icItems := [], icMeasured := [] } }

/-- A run fails (R305). -/
def State.calFail (s : State) (status : Nat) : State :=
  let s := s.calEndRun
  (({ s with cal := { s.cal with lastFailed := true } }).bump P.CAL_FAILCNT).calAnswer status 0

/-- CAL_RUN_TIMEOUT (R305): the run timer counts only in RUNNING. -/
def State.calRunTimeout (s : State) : State :=
  if s.cal.state = .running ∧ msTicks (s.par P.CAL_TIMEOUT) ≤ s.cal.counted + (s.t - s.cal.since) then
    (s.calFail Status.timeout).raise Fb.cal 0 1
  else s

/-- V_CR is read: `CAL_VCR`, and whether it lies within its limits (R281). -/
def State.vcrRead (s : State) (uv : Nat) : Bool × State :=
  let ok := decide (1960000 ≤ uv) && decide (uv ≤ 2040000)
  (ok, { s.setPar P.CAL_VCR 0 uv with cal := { s.cal with vcrValid := ok } })

/-- RESLOST (R281, R306). -/
def State.resLost (s : State) : State :=
  { s with cal := { s.cal with resLost := true, trigOff := true } }.raise Fb.cal 4 2

/-- A new pair from a run: staged, or discarded outside its limits (R295). -/
def State.stagePair (s : State) (kind idx g : Nat) (o : Int) : State :=
  let old := s.coef kind idx
  let step := ((g : Int) - old.g).natAbs
  if gainNear g ∧ step * 1000000 ≤ s.par P.CAL_MAXSTEP * old.g then
    let p : CoefPair := { g := g, o := o, temp := s.tNow }
    let key := coefKey kind idx
    { s with cal := { s.cal with staging := tblInsert (tblErase s.cal.staging key) key p } }
  else (s.bump P.CAL_REJCNT).askCal 1 1 kind idx

/-- The least time of an item of a step, in ticks (Table 10.3). -/
def CalStep.ticks : CalStep → Nat
  | .cdac => 30000
  | .cell => 10400
  | .thr => 4000
  | .out => 6000
  | .icOnly => 0

/-- G_c in units of 2^−30 and O_c in 1/64 code from the sums `lo` and `hi` of 64 raw codes of the slice with pair `p` at the
two levels (R291). Both formats put the levels at codes 409.6 and 3,686.4, and the pair takes the corrected means (R283)
there (DEDUCED, log entry 130). No gain, where the sums do not rise. -/
def cellPairOf (p : CoefPair) (signed : Bool) (lo hi : Nat) : Nat × Int :=
  let zt : Int := if signed then 2048 else 0
  let step := (hi - lo) * p.g
  let o := ((lo : Int) - p.o) * p.g * 32768 - (4096 - 10 * zt) * step - 64 * zt * 2 ^ 45
  (if step = 0 then 0 else openDiv 33 (32768 * 64 * 2 ^ 60) (10 * step), openDivI 34 o (2 ^ 45))

/-- The CDAC step has read V_CR, and the 16 levels against the line through it (R281, R305). -/
def State.calCdacDone (s : State) (vcr : Nat) (linear : Bool) : State :=
  let (ok, s) := s.vcrRead vcr
  if ok = false then (s.calFail Status.faultState).resLost
  else if linear = false then
    let s := s.calFail Status.faultState
    { s with cal := { s.cal with trigOff := true } }.raise Fb.cal 5 2
  else s.calKick

/-- The measurement is one of the step under way. -/
def CalStep.takes : CalStep → CalMeasure → Bool
  | .cdac, .line _ _ => true
  | .cell, .levels _ _ => true
  | .thr, .pair _ _ => true
  | .out, .pair _ _ => true
  | _, _ => false

/-- An item of a bus step has been measured. -/
def State.calBusDone (s : State) (n : Nat) (x : CalMeasure) : State :=
  let s := s.calEndItem
  let s := { s with cal := { s.cal with items := s.cal.items.filter (fun k => !(k == n)) } }
  match x with
  | .line vcr linear => s.calCdacDone vcr.toNat linear
  | .levels lo hi =>
    let (g, i) := s.cal.spareOf.getD (0, 0)
    let p := cellPairOf (s.coef 0 (5 * g + i)) (isSignedMode (s.par P.AC_MODE n)) lo.toNat hi.toNat
    (s.stagePair 2 (8 * n + s.par P.AC_GAIN n) p.1 p.2).calKick
  | .pair g o =>
    if s.cal.step = .thr then (s.stagePair 4 n g.toNat o).calKick
    else (s.stagePair 3 (s.outIndex n) g.toNat o).calKick

/-- The reference of converter `i` has been measured in its overhead (R294). -/
def State.calIcDone (s : State) (i : Nat) (x : CalMeasure) : State :=
  let c := s.ic i
  match x with
  | .pair g o =>
    if c.phase = .overhead ∧ s.cal.icItems.contains i ∧ s.cal.icMeasured.contains i = false ∧ c.stop + 25000 ≤ s.t then
      let s := s.stagePair 1 i g.toNat o
      { s with cal := { s.cal with icMeasured := s.cal.icMeasured ++ [i] } }
    else s
  | _ => s

/-- CAL_STEP_DONE: the item on the bus, or the reference of converter `ic` in its overhead, has been measured (R289–R296). -/
def State.calStepDone (s : State) (ic : Option Nat) (x : CalMeasure) : State :=
  if s.cal.state ≠ .running then s
  else
    match ic, s.cal.item with
    | some i, _ => s.calIcDone i x
    | none, some n =>
      if s.cal.step.takes x = true ∧ s.cal.itemStart + s.cal.step.ticks ≤ s.t then s.calBusDone n x else s
    | none, none => s

/-- The overhead of converter `i` is over: its item of the IC step is done if it was measured (Table 10.3, R296). -/
def State.calOverheadOver (s : State) (i : Nat) : State :=
  if s.cal.state = .running ∧ (s.ic i).phase ≠ .overhead ∧ s.cal.icMeasured.contains i then
    { s with cal := { s.cal with icItems := s.cal.icItems.filter (fun k => !(k == i)) } }.calKick
  else s

/-- Kiln defers job 0x18, and readmits it (R299, R300). -/
def State.calSuspend (s : State) : State :=
  if s.cal.state = .running then
    let s := s.calEndItem.calFreeSpare
    { s with cal := { s.cal with
      state := .suspended, counted := s.cal.counted + (s.t - s.cal.since), suspendTemp := s.tNow } }
  else s
def State.calReadmit (s : State) : State :=
  if s.cal.state = .suspended then
    let moved := decide (25 ≤ (s.tNow - s.cal.suspendTemp).natAbs)
    let s := { s with cal := { s.cal with state := .running, since := s.t } }
    if moved then
      let s := { s with cal := { s.cal with
        staging := [], icMeasured := [], icItems := s.icStepItems } }
      (s.calStep .cdac).calKick
    else s.calKick
  else s

/-! ### Idle windows -/

/-- IDLE_OPEN on window `w` (R297): an admitted run starts. -/
def State.idleOpen (s : State) (w : Nat) : State :=
  let s := if s.cal.windows.contains w then s else { s with cal := { s.cal with windows := s.cal.windows ++ [w] } }
  s.calRunStart.calKick

/-- IDLE_CLOSE on window `w` (R297, R298). -/
def State.idleClose (s : State) (w : Nat) : State :=
  { s with cal := { s.cal with windows := s.cal.windows.filter (fun v => !(v == w)) } }.calGuard

/-! ### Spare slices -/

/-- The last plan admitted job `j`. -/
def State.jobAdmitted (s : State) (j : Nat) : Bool :=
  s.kiln.jobs.any (fun x => x.job == j) && !s.kiln.deferred.contains j

/-- The spare of group `g` needs calibration and its job may run (R286, R306): no run step holds it, the group has power, and
Kiln has admitted the job. -/
def State.spareDue (s : State) (g : Nat) : Bool :=
  let x := s.group g
  match x.spare with
  | some i => !(x.slice i).ready && s.cal.spareOf != some (g, i) && x.serves && s.jobAdmitted (0x0C + g) && !s.cal.resLost
      && !s.cal.stopped && s.pwr.icalSettled && !s.resetting (Fb.sar g)
  | none => false

/-- The end of the wait for t_REFSET before a spare's procedure measures: its group's REFBUF, or one powered for the
procedure (R575). -/
def State.spareWait (s : State) (g : Nat) : Nat :=
  match (s.group g).refOn with
  | some t0 => max s.t (t0 + msTicks 2)
  | none => s.t + msTicks 2

/-- SPARE_CAL_START: the bus is free, no run step can take it, and no lower group waits (R286, R301). -/
def State.spareCalStart (s : State) (g : Nat) : State :=
  let runFirst := s.cal.state == .running && s.nextItem.isSome && (s.cal.spareOf.isSome || s.readySpare.isSome)
  let lower := (List.range 4).any (fun h => decide (h < g) && s.spareDue h)
  if s.spareDue g ∧ s.calBusy = false ∧ runFirst = false ∧ lower = false then
    { s with cal := { s.cal with spares := tblSet {} s.cal.spares g { start := some (s.spareWait g) } } }
  else s

/-- A spare procedure ends or is aborted: the bus is free. -/
def State.spareEnd (s : State) (g : Nat) : State :=
  { s with cal := { s.cal with spares := tblErase s.cal.spares g } }

/-- SPARE_CAL_DONE (R281, R286): `z` and `f` are the sums of the 128 conversions of AGND and of V_CR. -/
def State.spareCalDone (s : State) (g z f vcr : Nat) : State :=
  match (tblGet {} s.cal.spares g).start with
  | none => s
  | some t0 =>
    if s.t < t0 then s
    else
      let s := s.spareEnd g
      let x := s.group g
      match x.spare with
      | none => s
      | some i =>
        let (ok, s) := s.vcrRead vcr
        if ok = false then s.resLost
        else
          let span : Int := (f : Int) - z
          let bad := decide (span ≤ 0) || decide (50 * (256000 - span).natAbs > span.natAbs) || decide (2048 < z)
          if bad then s.sliceReject g i
          else
            let p : CoefPair := { g := openDiv 9 (256000 * 2 ^ 30) span.natAbs, o := openDiv 10 z 2, temp := s.tNow }
            let key := coefKey 0 (5 * g + i)
            let s := { s with coefs := tblInsert (tblErase s.coefs key) key p }
            let x := s.group g
            (s.setGroup g (x.setSlice i { x.slice i with ready := true })).bump P.CAL_SPARECNT

/-- SPARE_CAL_TIMEOUT: not done 2 ms after it started; the procedure restarts (Table 10.5). -/
def State.spareCalTimeout (s : State) (g : Nat) : State :=
  match (tblGet {} s.cal.spares g).start with
  | some t0 =>
    if t0 + msTicks 2 ≤ s.t then
      ({ s with cal := { s.cal with spares := tblSet {} s.cal.spares g { start := some s.t } } }).askCal 3 1 0
        (5 * g + (s.group g).spare.getD 0)
    else s
  | none => s

/-- A READY spare whose pair is of another temperature loses READY (R287). -/
def State.spareReadyCheck (s : State) : State :=
  (List.range 4).foldl (fun s g =>
    let x := s.group g
    match x.spare with
    | some i => if (x.slice i).ready && !s.spareTempOk g then s.setSpareReady g false else s
    | none => s) s

/-- A step loses a spare that is no longer one of a group that works; its item is measured again. -/
def State.calSpareGuard (s : State) : State :=
  match s.cal.spareOf with
  | some (g, i) =>
    if (s.group g).spare = some i ∧ (s.group g).serves = true ∧ s.resetting (Fb.sar g) = false then s
    else
      let s := s.calEndItem
      { s with cal := { s.cal with spareOf := none } }
  | none => s

/-- A procedure of group `g` ends with the deferral of its job, the gating or the stop of its group, or the spare's entry
into service (R287). -/
def State.spareGuard (s : State) : State :=
  let s := s.calSpareGuard
  (List.range 4).foldl (fun s g =>
    let x := s.group g
    if (tblGet {} s.cal.spares g).start.isSome && (x.spare.isNone || !x.serves || s.kiln.deferred.contains (0x0C + g)) then
      s.spareEnd g
    else s) s

/-! ### Rows and commands -/

/-- INJECTION_RECOVERY_END (R292). -/
def State.recoveryEnd (s : State) (n : Nat) : State :=
  if tblGet 0 s.cal.recovering n ≤ s.t then
    { s with cal := { s.cal with recovering := tblErase s.cal.recovering n } }
  else s

/-- OUTPUT_BLEND_TICK of output pair `idx`, every 1 ms (R288). -/
def State.blendTick (s : State) (idx : Nat) : State :=
  match tblGet none s.cal.blends idx with
  | none => s
  | some b =>
    if b.since + msTicks 1 ≤ s.t then
      let num := b.num + s.par P.CAL_SLEW
      if b.delta ≤ num then { s with cal := { s.cal with blends := tblErase s.cal.blends idx } }
      else { s with cal := { s.cal with blends := tblSet none s.cal.blends idx (some { b with num := num, since := s.t }) } }
    else s

/-- `CAL_CTRL` START where Kiln admits the run (R285, R300). -/
def State.calStart (s : State) : State :=
  if s.cal.state = .idle then s.calRequest.done else s.answer Status.busyLocked

/-- `CAL_CTRL` ABORT: a run that is requested or under way ends, and the staging is cleared (Table 10.4, R304). -/
def State.calAbort (s : State) : State := (s.calEndRun.calAnswer Status.notPermitted 1).done

/-- `CAL_CTRL` COMMIT (R304). -/
def State.calCommit (s : State) : State :=
  if s.cal.state = .idle then (s.commitStaging.setParI P.CAL_TREF 0 s.tNow).done else s.answer Status.busyLocked

/-- `CAL_CTRL` RETRIG, once the class B fault is acknowledged (R306). -/
def State.calRetrig (s : State) : State :=
  if s.cal.trigOff ∧ (s.fb Fb.cal).pendB = false then
    ({ s with cal := { s.cal with trigOff := false, resLost := false } }).done
  else s.answer Status.notPermitted

/-- `CAL_CTRL` 5 clears calibration's counters (R309). -/
def State.calClear (s : State) : State :=
  (s.clearPars [(P.CAL_RUNCNT, 0), (P.CAL_FAILCNT, 0), (P.CAL_REJCNT, 0), (P.CAL_SKIPCNT, 0), (P.CAL_SPARECNT, 0)]).done

/-- One half of a host pair is staged for an item; the other half is the one already staged, else the one in force (R304). -/
def State.coefWrite (s : State) (kind idx : Nat) (g : Option Nat) (o : Option Int) : State :=
  if s.cal.state = .idle then
    let key := coefKey kind idx
    let base := match s.cal.staging.find? (fun e => e.1 == key) with
      | some e => e.2
      | none => s.coef kind idx
    let p : CoefPair := { g := g.getD base.g, o := o.getD base.o, temp := s.tNow }
    ({ s with cal := { s.cal with staging := tblInsert (tblErase s.cal.staging key) key p } }).done
  else s.answer Status.busyLocked

/-- Class C reaction: calibration stops every procedure, and every pair in force is kept (R306, Table 16.3). -/
def State.calEnterSafe (s : State) : State :=
  let s := s.calEndRun
  { s with cal := { s.cal with stopped := true, spares := [] } }

/-- `CAL_STATUS` (Table 10.6). -/
def State.calStatus (s : State) : Nat :=
  let c := s.cal
  b2n s.pwr.icalOn + 2 * b2n c.vcrValid + 4 * b2n c.trigOff + 8 * b2n (!c.staging.isEmpty) + 16 * b2n c.lastFailed

/-- Codes of the calibration states (Table 10.4). -/
def CalState.code : CalState → Nat
  | .idle => 0
  | .pending => 1
  | .running => 2
  | .suspended => 3

end Sys2Proof.Machine
end

