-- ==== Sys2Proof/Machine/Fabric.lean ====
section
/-! DEFINITION. The kernel fabric and the capture timers (R217–R245). The format of a configuration plane is not given, so
what the user logic does at an FCLK edge comes with the edge. -/

namespace Sys2Proof.Machine

/-- Codes of the fabric states (Table 8.4). -/
def FabState.code : FabState → Nat
  | .empty => 0
  | .run => 1
  | .safe => 2
  | .sleep => 3

/-- Codes of the timer states (Table 8.5). -/
def TmState.code : TmState → Nat
  | .stopped => 0
  | .run => 1
  | .safe => 2

/-! ### Capture records -/

/-- The oldest record of the FIFO enters its stream, unless the stream has no buffer (R232); CAPOVF's episode ends with a
free entry (R466). -/
def State.tmDrainOne (s : State) (n : Nat) : State :=
  let x := s.timer n
  let dst := s.par P.TM_DST n
  match x.fifo with
  | [] => s
  | r :: rest =>
    if s.captureBlocked (dst % 64) then s
    else
      ((s.endEpisode (Fb.timer n) 0).setTimer n { x with fifo := rest }).ringEnter (dst % 64) 0 false
        (captureWords n r.kind r.seq r.count r.angle r.time) r.angle r.time 0

/-- The FIFO of timer `n` is delivered as far as its stream takes it. -/
def State.tmDrain (s : State) (n : Nat) : State := (List.range 4).foldl (fun s _ => s.tmDrainOne n) s

/-- A capture or compare record (R231, R232): the last-capture values always, the record where `TM_DST` enables it. The
records of an edge enter their streams as it ends, in ascending timer order (R241). -/
def State.tmRecord (s : State) (n : Nat) (r : CapRec) : State :=
  let x := { s.timer n with last := (r.angle, r.time) }
  if bitOf (s.par P.TM_DST n) 6 = false then s.setTimer n x
  else
    let s := s.bump P.TM_CAPCNT n
    let x := { x with evt := 1, seq := (x.seq + 1) % 256 }
    if 4 ≤ x.fifo.length then ((s.setTimer n x).bump P.TM_CAPLOST n).raiseEpisode (Fb.timer n) 0 1
    else s.setTimer n { x with fifo := x.fifo ++ [{ r with seq := (x.seq + 255) % 256 }] }

/-- The records that have still to be made (R230, R241): of one edge, captures before compares. -/
def State.tmRecords (s : State) (n : Nat) : State :=
  let due := (s.timer n).due
  (due.filter (fun r => decide (r.kind < 2)) ++ due.filter (fun r => decide (2 ≤ r.kind))).foldl
    (fun (s : State) r => s.tmRecord n r) (s.setTimer n { s.timer n with due := [] })

/-! ### Counters -/

/-- TMA of a timer (Table 8.2). -/
def State.tmLevel (s : State) (n : Nat) : Bool :=
  let x := s.timer n
  let a := s.par P.TM_CMPA n
  match s.par P.TM_MODE n with
  | 1 => decide (x.cnt < a)
  | 2 => decide (x.cnt < a)
  | 3 => x.active && decide (a ≤ x.cnt) && decide (x.cnt < s.par P.TM_CMPB n)
  | _ => false

/-- The compare values that the counter has just reached in a ONESHOT run are noted with their stamp; the run stops at
`TM_CMPB` (Table 8.2, R230). -/
def State.tmMatch (s : State) (n : Nat) : State :=
  let c := (s.timer n).cnt
  let s := if c = s.par P.TM_CMPA n then s.tmNote n 2 else s
  if c = s.par P.TM_CMPB n then
    let s := s.tmNote n 3
    s.setTimer n { s.timer n with active := false }
  else s

/-- The counter advances by one; RW-LIVE values accepted since its last advance take effect first (R228, R241). -/
def State.tmAdvance (s : State) (n : Nat) : State :=
  let s := s.takeLive (Fb.timer n)
  let x := s.timer n
  match s.par P.TM_MODE n with
  | 1 => s.setTimer n { x with cnt := (x.cnt + 1) % 2 ^ 32 }
  | 2 => s.setTimer n { x with cnt := if x.cnt = s.par P.TM_CMPB n then 0 else (x.cnt + 1) % 2 ^ 32 }
  | 3 => if x.active then (s.setTimer n { x with cnt := (x.cnt + 1) % 2 ^ 32 }).tmMatch n else s
  | _ => s

/-- A timer counts: it is in RUN, in a mode other than OFF, and the clock is not stopped. -/
def State.tmCounts (s : State) (n : Nat) : Bool :=
  (s.timer n).state == .run && s.par P.TM_MODE n != 0 && !s.timersStop

/-- One TCLK edge of timer `n` (R228, R232). -/
def State.timerTick (s : State) (n : Nat) : State :=
  let x := s.timer n
  if s.tmCounts n = false then s.takeLive (Fb.timer n)
  else if s.par P.TM_CLKSRC n = 1 then s
  else if s.par P.TM_PRESC n ≤ x.phase + 1 then (s.setTimer n { x with phase := 0 }).tmAdvance n
  else s.setTimer n { x with phase := x.phase + 1 }

/-- One TCLK edge of every timer. -/
def State.timersTick (s : State) : State := (s.timers.map Prod.fst).foldl State.timerTick s

/-- TIMER_CAPTURE: the records of the selected edges of timer `n`'s capture input are made (R229, R230). -/
def State.timerCapture (s : State) (n : Nat) : State :=
  let due := (s.timer n).due
  (due.filter (fun r => decide (r.kind < 2))).foldl (fun (s : State) r => s.tmRecord n r)
    (s.setTimer n { s.timer n with due := due.filter (fun r => decide (2 ≤ r.kind)) })

/-- TIMER_COMPARE: the records of the compare values that a ONESHOT run has reached are made, after those of captures (R230,
R231, R241). -/
def State.timerCompare (s : State) (n : Nat) : State := s.tmRecords n

/-- A ONESHOT trigger: the count starts, or restarts, from 0 (R229). -/
def State.tmTrigger (s : State) (n : Nat) : State :=
  (s.setTimer n { s.timer n with cnt := 0, phase := 0, active := true }).tmMatch n

/-- A timer in RUN and ONESHOT takes triggers. -/
def State.tmTriggers (s : State) (n : Nat) : Bool :=
  (s.timer n).state == .run && s.par P.TM_MODE n == 3 && !s.timersStop

/-- TIMER_TRIGGER: the timer takes a rising edge of TMTRIG[*n*]. -/
def State.timerTrigger (s : State) (n : Nat) : State :=
  let x := s.timer n
  if x.trigDue then
    let s := s.setTimer n { x with trigDue := false }
    if s.tmTriggers n then s.tmTrigger n else s
  else s

/-- What the timers have still to do of this TCLK edge, in ascending order: triggers, then the records (R241). -/
def State.timersClose (s : State) : State :=
  (s.timers.map Prod.fst).foldl (fun (s : State) n => (s.timerTrigger n).tmRecords n) s

/-- The end of a TCLK edge for the rings (R449, R451, R457): markers of the Wheel, captures in ascending timer order, records
of the lane port, markers of Hopper. -/
def State.recordsEnter (s : State) : State :=
  let (w, l, h) := (s.entriesOf 0, s.entriesOf 1, s.entriesOf 2)
  let s := { s with pool := { s.pool with entries := [] } }
  let s := (s.ringsEnter w).timersClose
  let s := (s.timers.map Prod.fst).foldl State.tmDrain s
  (s.ringsEnter l).ringsEnter h

/-! ### Timer commands (R245) -/

/-- A command that the state table does not offer in this state (R648). -/
def State.refuseIn (s : State) (safe : Bool) : State :=
  s.answer (if safe then Status.faultState else Status.notPermitted)

/-- `TM_CTRL` START. -/
def State.tmStart (s : State) (n : Nat) : State :=
  match (s.timer n).state with
  | .stopped => (s.setTimer n { s.timer n with state := .run, phase := 0 }).done
  | .run => s.refuseIn false
  | .safe => s.refuseIn true

/-- `TM_CTRL` STOP. -/
def State.tmStop (s : State) (n : Nat) : State :=
  match (s.timer n).state with
  | .run => (s.setTimer n { s.timer n with state := .stopped, active := false }).done
  | .stopped => s.refuseIn false
  | .safe => s.refuseIn true

/-- `TM_CTRL` RESUME: after the acknowledgement of the timer's fault, or of the fabric's (Table 8.5, R470). -/
def State.tmResume (s : State) (n : Nat) : State :=
  if (s.timer n).state = .safe ∧ s.pendingC (Fb.timer n) = false ∧ s.pendingC Fb.fabric = false then
    ((s.setTimer n { s.timer n with state := .run, phase := 0 }).openWindow (Fb.timer n)).done
  else s.answer Status.notPermitted

/-- `TM_CTRL` 4 clears the timer's counters. -/
def State.tmClear (s : State) (n : Nat) : State := (s.clearPars [(P.TM_CAPCNT, n), (P.TM_CAPLOST, n)]).done

/-- `TM_CTRL` TRIG (R229). -/
def State.tmTrig (s : State) (n : Nat) : State :=
  if s.tmTriggers n then (s.tmTrigger n).done else s.refuseIn ((s.timer n).state == .safe)

/-- A write of `TM_CTRL`. -/
def State.tmCtrl (s : State) (n v : Nat) : State :=
  if v = 1 then s.tmStart n
  else if v = 2 then s.tmStop n
  else if v = 3 then s.tmResume n
  else if v = 4 then s.tmClear n
  else s.tmTrig n

/-- TM_LASTANG_READ: the last angle word, with the rest of the stamp latched (R233). -/
def State.tmLastAng (s : State) (n : Nat) : Nat × State :=
  let x := s.timer n
  (x.last.1 % 2 ^ 24, s.setTimer n { x with latch := some x.last })

/-- The stamp that `TM_LASTCYC`, `TM_LASTTL` and `TM_LASTTH` show (R233). -/
def Timer.shown (x : Timer) : Nat × Nat := x.latch.getD (0, 0)

/-- Class C or D reaction of a timer, or of the fabric (Table 8.5). -/
def State.tmEnterSafe (s : State) (n : Nat) : State :=
  let x := s.timer n
  if x.state = .run then s.setTimer n { x with state := .safe, active := false } else s

/-- Reset of a timer (R244). -/
def State.tmReset (s : State) (n : Nat) : State := (s.resetParams (Fb.timer n)).setTimer n {}

/-! ### Fabric -/

/-- The bytes of a configuration plane. -/
def planeLength : Nat := 0x2C000

/-- `FAB_CFGID`: CRC-32 of the live plane; 0 while no configuration is loaded. -/
def State.fabCfgId (s : State) : Nat :=
  if s.fab.live.loaded then crc32 (memReadAll 0 s.fab.live.bytes 0 planeLength) else 0

/-- Word `a` of block RAM `r`, with the ninth bits of its bytes that are wrong (R219); a reset of the fabric leaves the
contents undefined (R243). -/
def State.ramCell (s : State) (r a : Nat) : Word × BitVec 4 :=
  let k := 512 * r + a
  (tblGet none s.fab.ram k).getD (Config.blockRam s.fab.ramGen k, Config.blockRamParity s.fab.ramGen k)

/-- Word `a` of block RAM `r`. -/
def State.ramWord (s : State) (r a : Nat) : Word := (s.ramCell r a).1

/-- The state with a block-RAM word set, or with the ninth bits of its bytes. -/
def State.setRamCell (s : State) (r a : Nat) (c : Word × BitVec 4) : State :=
  { s with fab := { s.fab with ram := tblSet none s.fab.ram (512 * r + a) (some c) } }

/-- The state with a block-RAM word written, every byte with its parity. -/
def State.setRamWord (s : State) (r a : Nat) (w : Word) : State := s.setRamCell r a (w, 0)

/-- A write of the fabric's port at an address and of data in the configured width (R219): byte or half `k` of a word stands
at bit 8`k` or 16`k` (DESIGN CHOICE, log entry 121). -/
def State.ramPut (s : State) (r a : Nat) (d : Word) : State :=
  let w := Config.planeWidth s.fab.live.bytes r
  if w = 2 then s.setRamWord r (a % 512) d
  else
    let per := if w = 0 then 4 else 2
    let size := 32 / per
    let k := a % per
    let c := s.ramCell r (a / per % 512)
    let old := c.1.toNat
    let v := bitsOf old 0 (size * k) + 2 ^ (size * k) * (d.toNat % 2 ^ size) + 2 ^ (size * (k + 1)) * (old / 2 ^ (size * (k + 1)))
    let mask := if per = 4 then 2 ^ k else 3 * 4 ^ k
    s.setRamCell r (a / per % 512) (BitVec.ofNat 32 v, c.2 &&& ~~~(BitVec.ofNat 4 mask))

/-- The fabric's clock runs. -/
def State.fabClocked (s : State) : Bool :=
  (s.fab.state == .empty || s.fab.state == .run) && s.kiln.state != .hibernate

/-- The flip-flops after a swap: KEEP bits stay, the others take their initial values (R234). -/
def swapFlops (old : BitVec 1536) (plane : Mem) : BitVec 1536 :=
  (old &&& Config.planeKeep plane) ||| (Config.planeInit plane &&& ~~~ Config.planeKeep plane)

/-- A timer at the fabric's swap, with its mode, clock source and prescaler before it (R236). Records in the FIFO that the
stream cannot take yet stay there until it can (DESIGN CHOICE, log entry 120). -/
def State.tmSwap (s : State) (was : Nat → Nat × Nat × Nat) (n : Nat) : State :=
  if (s.par P.TM_MODE n, s.par P.TM_CLKSRC n, s.par P.TM_PRESC n) = was n then s
  else s.setTimer n { s.timer n with cnt := 0, phase := 0, active := false }

/-- The CMPIN lines (Table 8.1). -/
def State.cmpIn (s : State) : BitVec 64 :=
  s.cmps.foldl (fun v e => if e.2.delivered then v ||| BitVec.ofNat 64 (2 ^ e.1) else v) 0

/-- The GPO lines: registered, or on a reflex route, which follows the CMPIN lines (R222, R225) but where it is held. -/
def State.gpoLines (s : State) : BitVec 48 :=
  let f := s.fab
  if f.held ∨ f.live.loaded = false then f.gpo
  else
    let m := Config.reflexLines f.live.bytes
    (f.gpo &&& ~~~m) ||| (Config.reflexOut f.live.bytes f.ffs s.cmpIn &&& m)

/-- The bank swap of the fabric and the timers at an FCLK edge (R234–R236): the planes change places, and every GPO and
GPOE line holds. Records of timers are delivered first. -/
def State.fabSwap (s : State) : State :=
  let was := fun n => (s.par P.TM_MODE n, s.par P.TM_CLKSRC n, s.par P.TM_PRESC n)
  let s := (s.timers.map Prod.fst).foldl (fun (s : State) n => (s.tmRecords n).tmDrain n) s
  let f := s.fab
  let s := (s.exchangeBanks 0xC0)
  let f := { f with
    swapDue := false, live := f.shadow, shadow := f.live, ffs := swapFlops f.ffs f.shadow.bytes
    gpo := s.gpoLines, held := true
    state := if f.state = .empty ∧ f.shadow.loaded then .run else f.state }
  let s : State := { s with fab := f }
  let s : State := (List.range 64).foldl (fun (s : State) n => s.tmSwap was n) s
  s.swapTaken 0xC0

/-- A BANK_SWAP effect: the next FCLK edge takes it, which comes after RESUME or the exit from HIBERNATE where the clock is
stopped (R234, R312). -/
def State.fabSwapEffect (s : State) : State := { s with fab := { s.fab with swapDue := true } }

/-- FAB_PULSE on line `n` (R224): a second effect before the pulse ends is merged. -/
def State.fabPulse (s : State) (n : Nat) (o : Origin) : State :=
  let s := s.bump P.FAB_PULSECNT n
  if tblGet 0 s.fab.pulses n = 0 then { s with fab := { s.fab with pulses := tblSet 0 s.fab.pulses n 1 } }
  else
    (s.bump P.FAB_PULSEMRG n).ask
      { blk := Fb.fabric, det := 1, cls := 1, master := o.master, access := o.access, form := o.form, addr := o.addr }

/-- FAB_PULSE is skipped in SAFE and SLEEP (R239). -/
def State.fabSkips (s : State) : Bool := s.fab.state == .safe || s.fab.state == .sleep

/-- A pulse of one FCLK period moves on at an FCLK edge: 1 waits, 2 is under way. -/
def pulseStep (k : Nat) : Nat := if k = 1 then 2 else 0

/-- Lines that pulse for one FCLK period, at an FCLK edge. -/
def State.fabPulseStep (s : State) : State :=
  let s := { s with fab := { s.fab with
    pulses := s.fab.pulses.filterMap (fun (p : Nat × Nat) => if p.2 = 1 then some (p.1, 2) else none) } }
  (s.timers.map Prod.fst).foldl (fun s n =>
    let x := s.timer n
    if x.evt = 0 then s else s.setTimer n { x with evt := pulseStep x.evt }) s

/-- Host writes of block-RAM words accepted since the previous edge, then the fabric's own, which win (R221). -/
def State.fabRamWrites (s : State) (own : List (Nat × Nat × Word)) : State :=
  let s := s.fab.hostWrites.foldl (fun s e => s.setRamWord (e.1 / 512) (e.1 % 512) e.2) s
  let s := { s with fab := { s.fab with hostWrites := [] } }
  own.foldl (fun s e => s.ramPut e.1 e.2.1 e.2.2) s

/-- A block-RAM read with a parity error (R219): word `a` of RAM `r`, read through a port, 0 the fabric's own (DEDUCED, log
entry 122). -/
def State.ramParity (s : State) (port r a : Nat) : State :=
  (s.bump P.FAB_PARCNT r).ask
    { blk := Fb.fabric, det := 0, cls := 1, master := port, access := 1, form := 1, addr := 2 * 2 ^ 28 + r * 512 + a }

/-- Block-RAM reads with a parity error (R219). -/
def State.fabParity (s : State) (m : BitVec 24) : State :=
  let s := { s with fab := { s.fab with ramperr := m } }
  (List.range 24).foldl (fun s r => if m.getLsbD r then s.ramParity 0 r 0 else s) s

/-- The TMCAP and TMTRIG lines change from `cap` and `trig`: captures, and triggers that have still to be taken (R229). -/
def State.fabTimerLines (s : State) (cap trig : BitVec 64) : State :=
  (s.timers.map Prod.fst).foldl (fun (s : State) n =>
    let f := s.fab
    let s := if f.tmcap.getLsbD n = cap.getLsbD n then s else s.tmInput n 1 (f.tmcap.getLsbD n)
    if f.tmtrig.getLsbD n = true ∧ trig.getLsbD n = false then s.setTimer n { s.timer n with trigDue := true } else s) s

/-- The user logic clocks at an FCLK edge, from the flip-flops that a swap at the edge leaves, with GPO and GPOE held there
(R235, R240). -/
def State.fabClock (s : State) (e : FabEdge) (swapped : Bool) : State :=
  let s := s.fabRamWrites e.writes
  let f := s.fab
  let cap := f.tmcap
  let trig := f.tmtrig
  let f := { f with
    ffs := if f.reinitDue then Config.planeInit f.live.bytes else f.ffs ^^^ e.flips
    reinitDue := false
    gpo := if swapped then f.gpo else e.gpo
    held := swapped
    gpoe := if swapped then f.gpoe else e.gpoe
    swout := e.swout, tmcap := e.tmcap, tmtrig := e.tmtrig, tmcen := e.tmcen }
  let s := ({ s with fab := f } : State).fabTimerLines cap trig
  let s := (s.timers.map Prod.fst).foldl (fun s n =>
    if s.tmCounts n && s.par P.TM_CLKSRC n == 1 && e.tmcen.getLsbD n then s.tmAdvance n else s) s
  s.fabParity e.parity

/-- The FCLK edges that the selected rate puts at this TCLK edge and before the next one (R217). FCLK is aligned with the
time origin's TCLK edge (DESIGN CHOICE, log entry 123). -/
def State.fclkEdges (s : State) : Nat :=
  let k := s.fab.tclk
  match s.par P.FAB_CLKSEL with
  | 0 => 1
  | 1 => if k % 2 = 0 then 2 else 1
  | 2 => if k % 2 = 0 then 1 else 0
  | _ => if k % 4 = 0 then 1 else 0

/-- Parity bits of block-RAM bytes that have flipped. -/
def State.ramUpsets (s : State) (u : List (Nat × Nat × BitVec 4)) : State :=
  u.foldl (fun (s : State) e =>
    let c := s.ramCell e.1 (e.2.1 % 512)
    s.setRamCell e.1 (e.2.1 % 512) (c.1, c.2 ^^^ e.2.2)) s

/-- An FCLK edge comes now: the clock runs, and its rate has one left before the next TCLK edge. -/
def State.fclkComes (s : State) : Bool := s.fabClocked && decide (s.fab.edges < s.fclkEdges)

/-- FABRIC_CLOCK_EDGE (R218, R240): RW-LIVE writes, then a bank swap, then the clocking under the plane now in force. A
corrupt shadow plane is not swapped (SWAPCRC). -/
def State.fabEdge (s : State) (e : FabEdge) : State :=
  if s.fclkComes = false then s
  else
    let s := { s with fab := { s.fab with edges := s.fab.edges + 1, quiet := 0 } }
    let s := ((s.ramUpsets e.upsets).takeLive Fb.fabric).fabPulseStep
    let due := s.fab.swapDue
    let s := if due then
        if e.shadowBad then ({ s with fab := { s.fab with swapDue := false } }).raise Fb.fabric 3 2 else s.fabSwap
      else s
    if s.fab.state = .run then s.fabClock e (due && !e.shadowBad) else s.fabRamWrites []

/-- A host write of `FAB_RAMDAT` at instance `r` (R220): allowed where port B is the host's; `FAB_RAMADR` moves on. The word
is written at the next FCLK edge; while the clock is stopped at once, after those that waited for it. -/
def State.ramWrite (s : State) (r : Nat) (w : Word) : State :=
  if s.fab.live.loaded = false ∨ Config.planeHostRam s.fab.live.bytes r = false then s.answer Status.notPermitted
  else
    let a := s.par P.FAB_RAMADR r
    let s' := s.setPar P.FAB_RAMADR r ((a + 1) % 512)
    if s.fabClocked then
      ({ s' with fab := { s.fab with
          hostWrites := tblInsert (tblErase s.fab.hostWrites (512 * r + a)) (512 * r + a) w } }).done
    else ((s'.fabRamWrites []).setRamWord r a w).done

/-- A host read of `FAB_RAMDAT` (R219, R220): `FAB_RAMADR` moves on, and a parity error is told. -/
def State.ramRead (s : State) (port r : Nat) : State :=
  let a := s.par P.FAB_RAMADR r
  let bad := (s.ramCell r a).2 != 0
  let s := s.setPar P.FAB_RAMADR r ((a + 1) % 512)
  let line := BitVec.ofNat 24 (2 ^ r)
  let s := { s with fab := { s.fab with
    ramperr := if bad then s.fab.ramperr ||| line else s.fab.ramperr &&& ~~~line } }
  if bad then s.ramParity port r a else s

/-- FABRIC_MB_POST on MB8–MB11 (R227). -/
def State.fabPost (s : State) (k : Nat) (payload : List Byte) : State :=
  if s.fab.state ≠ .run then s
  else
    let n := 8 + k
    let (ok, s) := s.mbPost n Sender.fabric payload (mboxOrigin n)
    if ok then s
    else
      (s.bump P.FAB_MBREFUSE k).ask
        { blk := Fb.fabric, det := 2, cls := 1, addr := stateAddr Fb.fabric 0 }

/-- FABRIC_MB_TAKE on MB12–MB15 (R227). -/
def State.fabTake (s : State) (k : Nat) : State := if s.fab.state = .run then s.mbTake (12 + k) else s

/-- CONFIG_SCRUB, every 1 ms (R242): a CRC mismatch of the live plane is CFGCRC. -/
def State.configScrub (s : State) (bad : Bool) : State :=
  if (s.fab.state = .run ∨ s.fab.state = .safe) ∧ s.kiln.state ≠ .hibernate ∧ s.fab.scrubAt + msTicks 1 ≤ s.t then
    let s := { s with fab := { s.fab with scrubAt := s.t, scrubOk := !bad } }
    let s := s.bump P.FAB_SCRUB
    if bad then
      s.askEpisode { blk := Fb.fabric, det := 4, cls := 3, access := 1, form := 1, addr := 7 * 2 ^ 28 }
    else s.endEpisode Fb.fabric 4
  else s

/-- FCLK_LOSS: no FCLK edge for 100 ns in RUN (Table 8.6). -/
def State.fclkLoss (s : State) : State :=
  if s.fab.state = .run ∧ s.kiln.state ≠ .hibernate ∧ 10 ≤ s.fab.quiet then s.raise Fb.fabric 5 3 else s

/-- One TCLK edge of the fabric's clock: while FCLK should run, the time without an edge grows. -/
def State.fclkTick (s : State) : State :=
  let f := s.fab
  { s with fab := { f with
    tclk := (f.tclk + 1) % 4, edges := 0
    quiet := if f.state = .run ∧ s.kiln.state ≠ .hibernate then min 10 (f.quiet + 1) else 0 } }

/-- Class C or D reaction for the fabric: in RUN its clock stops (R238, Table 8.4), and the timers enter SAFE (Table 8.5). -/
def State.fabEnterSafe (s : State) : State :=
  let s := if s.fab.state = .run then { s with fab := { s.fab with state := .safe, pulses := [] } } else s
  (s.timers.map Prod.fst).foldl State.tmEnterSafe s

/-- HIBERNATE stops the fabric with every line at its level, and the exit starts it again (R239, R267). -/
def State.fabSleep (s : State) : State :=
  if s.fab.state = .run then { s with fab := { s.fab with state := .sleep, gpo := s.gpoLines, held := true } } else s
def State.fabWake (s : State) : State :=
  if s.fab.state = .sleep then { s with fab := { s.fab with state := .run, quiet := 0 } } else s

/-- `FAB_CTRL` RESUME (R238, R470); a fabric that reloads its flip-flops is a mailbox party that resets (Table 15.3). -/
def State.fabResume (s : State) : State :=
  if s.fab.state = .safe ∧ s.pendingC Fb.fabric = false then
    let s := { s with fab := { s.fab with state := .run, quiet := 0, ffs := Config.planeInit s.fab.live.bytes } }
    ((s.mbParties [.fabric]).openWindow Fb.fabric).done
  else s.answer Status.notPermitted

/-- `FAB_CTRL` 2 clears the fabric's counters (R245). -/
def State.fabClear (s : State) : State :=
  let s := (List.range 64).foldl (fun s n => (s.setPar P.FAB_PULSECNT n 0).setPar P.FAB_PULSEMRG n 0) s
  let s := (List.range 8).foldl (fun s n => s.setPar P.FAB_MBREFUSE n 0) s
  let s := (List.range 24).foldl (fun s n => s.setPar P.FAB_PARCNT n 0) s
  (s.setPar P.FAB_SCRUB 0 0).done

/-- `FAB_CTRL` REINIT (R245). -/
def State.fabReinit (s : State) : State :=
  match s.fab.state with
  | .run => ({ s with fab := { s.fab with reinitDue := true } }.mbParties [.fabric]).done
  | .safe => s.answer Status.faultState
  | _ => s.answer Status.notPermitted

/-- A write of `FAB_CTRL`. -/
def State.fabCtrl (s : State) (v : Nat) : State :=
  if v = 1 then s.fabResume else if v = 2 then s.fabClear else s.fabReinit

/-- Reset of the fabric (R243). -/
def State.fabReset (s : State) : State :=
  let s := (List.range 64).foldl State.tmReset (if s.fab.swapDue then s.swapTaken 0xC0 else s)
  (s.resetParams Fb.fabric).mbParties [.fabric] |> fun s =>
    { s with fab := { ramGen := s.fab.ramGen + 1, scrubAt := s.t, tclk := s.fab.tclk, edges := s.fab.edges } }

/-- `FAB_STATUS` (Table 8.7). -/
def State.fabStatus (s : State) : Nat :=
  b2n s.fab.live.loaded + 2 * b2n s.fab.scrubOk
    + 4 * b2n (s.fab.live.loaded && Config.reflexLines s.fab.live.bytes != 0)

end Sys2Proof.Machine
end

