-- ==== Sys2Proof/Machine/Plan.lean ====
section
/-! DEFINITION. What a Kiln plan knows: jobs and classes (Table 9.1), the work predicted for a period (R249–R251) and
its cost (Table 9.2). Times of a period are in parts of a TCLK period: `scale` parts to a tick, so that a bin crossing at
the measured speed falls on a whole part. -/

namespace Sys2Proof.Machine

/-! ### Fractions -/

/-- A fraction in lowest terms. -/
def qNorm (x : Frac) : Frac :=
  let g := Nat.gcd x.num.natAbs x.den
  if g = 0 then x else ⟨x.num / (g : Int), x.den / g⟩

/-- Sum of fractions, in lowest terms. -/
def qAdd (x y : Frac) : Frac := qNorm (fracAdd x y)

/-- Product of a fraction by a ratio of natural numbers. -/
def qScale (x : Frac) (n d : Nat) : Frac := qNorm ⟨x.num * (n : Int), x.den * d⟩

/-- The sum of a list of fractions. -/
def qSum (xs : List Frac) : Frac := xs.foldl qAdd ⟨0, 1⟩

/-- The least natural number at or above a fraction that is not negative. -/
def qCeil (x : Frac) : Nat := ceilDiv x.num.toNat x.den

/-- `x` is at most `y`. -/
def qLe (x y : Frac) : Bool := decide (x.num * (y.den : Int) ≤ y.num * (x.den : Int))

/-- The greater of two fractions. -/
def qMax (x y : Frac) : Frac := if qLe x y then y else x

/-! ### Actions and their jobs -/

/-- The block code that owns an action (Table 11.6). -/
def actOwner (w : BitVec 64) : Nat :=
  let t := actType w
  let g := actTarget w
  if t ≤ Act.urgentConv then (if g ≤ 3 then 0x80 + g else 0x88 + (g - 0x10))
  else if t ≤ Act.cmpThr then 0x40 + g
  else if t ≤ Act.outRamp then g
  else if t = Act.fabPulse then 0xC0
  else if t = Act.stamp ∨ t = Act.mbPost then 0xC3
  else if t = Act.bankSwap then g
  else if t = Act.kilnPlan then 0xC1
  else if t = Act.idleOpen ∨ t = Act.idleClose then 0xC2
  else 0xA0 + g

/-- The job that an action belongs to; BANK_SWAP and KILN_PLAN belong to none (R247). -/
def actJob (w : BitVec 64) : Option Nat :=
  let t := actType w
  let g := actTarget w
  if t ≤ Act.urgentConv then some (if g ≤ 3 then 0x08 + g else g)
  else if t ≤ Act.cmpThr then some (0x80 + g)
  else if t ≤ Act.outRamp then some (0x40 + g)
  else if t = Act.fabPulse then some 0x06
  else if t = Act.stamp ∨ t = Act.mbPost then some 0x07
  else if t = Act.idleOpen ∨ t = Act.idleClose then some 0x18
  else if t = Act.laneSync then some (0x20 + g)
  else none

/-- The bank tag of an action agrees with the live bank of its owner (R324). -/
def State.tagOk (s : State) (a : Action) : Bool :=
  let b := s.grist.liveB.contains (actOwner a.word)
  match a.tag with
  | .none => true
  | .bankA => !b
  | .bankB => b

/-! ### Classes (R246) -/

/-- Group `g` serves a sin/cos source while it is selected (R20): one of its lists carries the pair to the lane that
resolves it, whether that list runs or not (DEDUCED, log entry 126). -/
def State.sinCosGroup (s : State) (g : Nat) : Bool :=
  s.par P.WH_SRC == 2 && (List.range 16).any (fun l =>
    let w := s.par P.SAR_LIST (16 * g + l)
    (List.range (listLength w)).any (fun k =>
      let e := s.scanEntry g (listFirst w + k)
      !scanDiag e && s.carriesSinCos (scanSrc e) && scanLane e == some (s.par P.WH_SCLANE)))

/-- Lane `n` resolves the sin/cos source while it is selected (R20). -/
def State.sinCosLane (s : State) (n : Nat) : Bool := s.par P.WH_SRC == 2 && s.par P.WH_SCLANE == n

/-- The class of a job (Table 9.1, R20). -/
def State.jobClass (s : State) (j : Nat) : Nat :=
  if j ≤ 0x06 then 0
  else if 0x0C ≤ j ∧ j ≤ 0x0F then 3
  else if j = 0x18 then 3
  else if 0x08 ≤ j ∧ j ≤ 0x0B ∧ s.sinCosGroup (j - 0x08) then 0
  else if 0x20 ≤ j ∧ j ≤ 0x3F ∧ s.sinCosLane (j - 0x20) then 0
  else if j ≤ 0x3F then s.par P.KL_JCLASS j
  else if j ≤ 0x7F then (if s.carriesSinCos (j - 0x40) then 0 else s.par P.KL_ACCLASS (j - 0x40))
  else 0

/-! ### Gating limits -/

/-- The block codes that a grist changeover lists, which Kiln treats as swapping in the period (R325). -/
def State.listedNow (s : State) : List Nat :=
  match s.grist.state with
  | .armed => s.grist.listed.map Prod.fst
  | .swapping => s.grist.listed.map Prod.fst
  | .swapped => s.grist.listed.map Prod.fst
  | .rollback => s.grist.listed.map Prod.fst
  | _ => []

/-- An enabled comparator sends urgent requests to this target (R149). -/
def State.urgentTarget (s : State) (target : Nat) : Bool :=
  (List.range 64).any (fun n =>
    !s.cmpIdle n && s.par P.CMP_URGEN n == 1 && s.par P.CMP_URGDST n == target)

/-- Kiln may gate SAR group `g` (R20, R149). -/
def State.mayGateSar (s : State) (g : Nat) : Bool := !s.sinCosGroup g && !s.urgentTarget g

/-- Kiln may gate cell `n` (R83): an input that carries no sin/cos source. -/
def State.mayGateCell (s : State) (n : Nat) : Bool := isInputMode (s.par P.AC_MODE n) && !s.carriesSinCos n

/-- Kiln may gate lane `n` (R20, R211). -/
def State.mayGateLane (s : State) (n : Nat) : Bool := !s.sinCosLane n && s.par P.FL_MODE n != 5

/-! ### Times of the period -/

/-- Where the Wheel stands as a plan is made: its high-water mark, and how many time queues the step under way has served. -/
structure PlanMoment where
  mark : BitVec 40
  served : Nat := 0
deriving DecidableEq, Repr

/-- A plan made between evaluation steps. -/
def State.betweenSteps (s : State) : PlanMoment := { mark := s.eng.hwm }

/-- A plan that a KILN_PLAN of queue `place` makes within a step: the step leaves the mark at the present position (R37), and
the queue is being served. -/
def State.withinStep (s : State) (place : Nat) : PlanMoment :=
  { mark := if 0 < binSub (binOf s.eng.pos) s.eng.hwm then binOf s.eng.pos else s.eng.hwm, served := place + 1 - 65536 }

/-- Position units per TCLK period forward; 0 where bins do not come at a predictable time (R251). -/
def State.planSpeed (s : State) : Nat :=
  if s.eng.state = .track ∨ s.eng.state = .coast then
    if s.eng.standstill ∧ s.eng.state = .track then 0 else s.speed.toNat
  else 0

/-- The bins from a high-water mark to the next crossing of bin `b`, 1–65,536. -/
def binsFrom (mark : BitVec 40) (b : Nat) : Nat := (b + 65536 - mark.toNat % 65536 - 1) % 65536 + 1

/-- The bins from the high-water mark to the next crossing of bin `b`. -/
def State.binsTo (s : State) (b : Nat) : Nat := binsFrom s.eng.hwm b

/-- The actions that the Wheel would deliver at bins (R251). -/
def State.binActions (s : State) : List Action :=
  (s.wheel.store.map Prod.snd).filter (fun a => decide (a.place < 65536) && s.tagOk a)

/-- T of a plan made now, in parts of a tick (R251). -/
def State.planPeriod (s : State) (m : PlanMoment) (scale : Nat) : Nat :=
  let cap := msTicks (s.par P.KL_PLANMAX) * scale
  if s.planSpeed = 0 then cap
  else
    (s.binActions.filter (fun a => actType a.word == Act.kilnPlan)).foldl
      (fun x a => min x (binsFrom m.mark a.place * 2 ^ 24)) cap

/-- The parts of a tick that a plan counts in. -/
def State.planScale (s : State) : Nat := max 1 s.planSpeed

/-- The actions of the period with their times in parts, in time order: those posted to bins, once or in every cycle, and
those of time queues that fall due, ONESHOT ones once (R41, R249). -/
def State.planEvents (s : State) (m : PlanMoment) (scale period : Nat) : List (Nat × BitVec 64) :=
  let bins := if s.planSpeed = 0 then [] else
    s.binActions.flatMap (fun a =>
      let first := binsFrom m.mark a.place * 2 ^ 24
      let again := if actOneshot a.word then 1 else period / 2 ^ 40 + 1
      (List.range again).filterMap (fun k =>
        let x := first + k * 2 ^ 40
        if x ≤ period then some (x, a.word) else none))
  let queues := (List.range 16).flatMap (fun q =>
    let tq := tblGet {} s.wheel.queues q
    if tq.enabled then
      let done := decide (q < m.served) && decide (tq.due ≤ s.t)
      let per := s.par P.WH_TQPER q * scale
      let first := (tq.due - s.t) * scale + (if done then per else 0)
      let times := if per = 0 then (if done then [] else [first])
        else (List.range (period / per + 1)).map (fun k => first + k * per)
      ((s.wheel.store.map Prod.snd).filter (fun a => a.place == 65536 + q && s.tagOk a)).flatMap (fun a =>
        (if actOneshot a.word then times.take 1 else times).filterMap (fun x => if x ≤ period then some (x, a.word) else none))
    else [])
  sortBy Prod.fst (bins ++ queues)

/-- The events of the period that swap a block, by block code (R250, R325). -/
def State.planSwaps (s : State) (evs : List (Nat × BitVec 64)) : List Nat :=
  (evs.filterMap (fun e => if actType e.2 = Act.bankSwap then some (actTarget e.2) else none)) ++ s.listedNow

/-! ### Predicted conversions -/

/-- Conversions predicted for one scan entry or converter: the job, the cell, the lane, whether a stream takes them, their
number, and the parts of the period over which they come. -/
structure Feed where
  job : Nat
  cell : Option Nat
  lane : Option Nat
  stream : Bool
  count : Frac
  span : Nat
  /-- Conversions per tick of the list they belong to. -/
  peak : Frac
deriving DecidableEq, Repr

/-- A pass of list `l` of group `g`: TCLK periods as a fraction, and its entries. -/
def State.passTime (s : State) (g l : Nat) : Frac × List Nat :=
  let w := s.par P.SAR_LIST (16 * g + l)
  let es := (List.range (listLength w)).map (fun k => s.scanEntry g (listFirst w + k))
  let live := (s.group g).live.length
  let slots := es.length - (es.dropLast.filter scanSim).length
  (⟨(max (s.par P.SAR_PACE (16 * g + l) * 2 * live) (max (slots * 25 * live) (es.length * 100)) : Nat), 2 * live⟩, es)

/-- The feeds of one stretch of a list's activity. -/
def State.listFeeds (s : State) (g l scale a b : Nat) : List Feed :=
  let (p, es) := s.passTime g l
  if p.den = 0 ∨ es.isEmpty then []
  else
    let once := !listContinuous (s.par P.SAR_LIST (16 * g + l))
    let passes : Frac := if once then ⟨1, 1⟩ else qNorm ⟨((b - a) * p.den : Nat), p.num.toNat * scale⟩
    es.map (fun e =>
      { job := 0x08 + g
        cell := if scanDiag e then none else some (scanSrc e)
        lane := scanLane e
        stream := (scanStream e).isSome
        count := passes
        span := if once then min (b - a) (p.num.toNat * scale / p.den) else b - a
        peak := ⟨(es.length * p.den : Nat), p.num.toNat⟩ })

/-- The feeds of a SAR group over the period: its active list, or what the commands that wait for the slot boundary make of
it, and the starts and stops of the period. -/
def State.sarFeeds (s : State) (g scale period : Nat) (evs : List (Nat × BitVec 64)) : List Feed :=
  let x := s.group g
  let start : Option (Nat × Nat) := match x.cmds.getLast?, x.state with
    | some (.start l), _ => some (l, 0)
    | some .stop, _ => none
    | none, .running => some (x.list, 0)
    | none, .gated true => some (x.list, 0)
    | none, _ => none
  let mine := evs.filter (fun e =>
    (actType e.2 == Act.convStart || actType e.2 == Act.convStop) && actTarget e.2 == g)
  let r := mine.foldl (fun (acc : List Feed × Option (Nat × Nat)) e =>
      let closed := match acc.2 with
        | some (l, a) => acc.1 ++ s.listFeeds g l scale a e.1
        | none => acc.1
      (closed, if actType e.2 = Act.convStart ∧ actArg e.2 ≤ 15 then some (actArg e.2, e.1) else none))
    ([], start)
  match r.2 with
  | some (l, a) => r.1 ++ s.listFeeds g l scale a period
  | none => r.1

/-- The feeds of an integrating converter: T divided by the window and its overhead, while it runs (R249). -/
def State.icFeeds (s : State) (i scale period : Nat) (evs : List (Nat × BitVec 64)) : List Feed :=
  let c := s.ic i
  let start : Option (Nat × Nat) :=
    if c.state = .running ∧ c.stopDue = false then some (c.nextSlot.getD c.slot, 0)
    else
      match tblGet 0 s.kiln.icRestart i with
      | 0 => none
      | k + 1 => some (k, 0)
  let win := s.icLength i * (if s.par P.IC_MODE i = 1 then 2 ^ 24 else scale)
  let feeds := fun (slot a b : Nat) =>
    let once := s.par P.IC_RUN i == 0
    let dst := s.par P.IC_DST i
    [({ job := 0x10 + i, cell := some (s.par P.IC_SRC (4 * i + slot) % 64), lane := dstLane dst
        stream := (dstStream dst).isSome
        count := if once then ⟨1, 1⟩ else qNorm ⟨((b - a : Nat) : Int), win + msTicks 1 * scale⟩
        span := b - a, peak := ⟨0, 1⟩ } : Feed)]
  let mine := evs.filter (fun e =>
    (actType e.2 == Act.convStart || actType e.2 == Act.convStop) && actTarget e.2 == 0x10 + i)
  let r := mine.foldl (fun (acc : List Feed × Option (Nat × Nat)) e =>
      if actType e.2 = Act.convStart ∧ actArg e.2 ≤ 3 then
        match acc.2 with
        | some (sl, a) => (acc.1 ++ feeds sl a e.1, some (actArg e.2, e.1))
        | none => (acc.1, some (actArg e.2, e.1))
      else
        match acc.2 with
        | some (sl, a) => (acc.1 ++ feeds sl a e.1, none)
        | none => acc)
    ([], start)
  match r.2 with
  | some (sl, a) => r.1 ++ feeds sl a period
  | none => r.1

/-- What a plan predicts for its period. -/
structure Forecast where
  scale : Nat
  period : Nat
  evs : List (Nat × BitVec 64)
  swaps : List Nat
  feeds : List Feed
  /-- Kiln's speed is known, so that parts are position units. -/
  moving : Bool
deriving DecidableEq, Repr

/-- The forecast of a plan made now. -/
def State.forecast (s : State) (m : PlanMoment) : Forecast :=
  let scale := s.planScale
  let period := s.planPeriod m scale
  let evs := s.planEvents m scale period
  { scale := scale, period := period, evs := evs, swaps := s.planSwaps evs
    feeds := (List.range 4).flatMap (fun g => s.sarFeeds g scale period evs)
      ++ (List.range 8).flatMap (fun i => s.icFeeds i scale period evs)
    moving := decide (0 < s.planSpeed) }

/-- T of a forecast in ms times a coefficient. -/
def Forecast.times (f : Forecast) (num den : Nat) : Frac := qNorm ⟨(num * f.period : Nat), den * f.scale * 100000⟩

/-- Inputs predicted for lane `n`. -/
def Forecast.laneInputs (f : Forecast) (n : Nat) : Frac :=
  qSum ((f.feeds.filter (fun x => x.lane == some n)).map Feed.count)

/-- Outputs predicted for lane `n` (R249): by decimation and ratio in time, by `FL_APC` over the span in which its busiest
supplier delivers in angle. -/
def State.laneOutputs (s : State) (f : Forecast) (n : Nat) : Frac :=
  let x := f.laneInputs n
  match s.par P.FL_MODE n with
  | 1 => qScale x (2 ^ 27) (s.par P.FL_DEC n * s.par P.FL_RATIO n)
  | 3 => qScale x 1 (s.par P.FL_DEC n)
  | 5 => qScale x 1 2
  | 0 => ⟨0, 1⟩
  | _ =>
    if f.moving then
      let fs := f.feeds.filter (fun y => y.lane == some n)
      let jobs := fs.map Feed.job
      let spans := jobs.map (fun j => (fs.filter (fun y => y.job == j && y.cell == (fs.find? (fun z => z.job == j)).bind Feed.cell)).foldl
        (fun a y => a + y.span) 0)
      qNorm ⟨(s.par P.FL_APC n * spans.foldl max 0 : Nat), 2 ^ 40⟩
    else ⟨0, 1⟩

/-- Events of a type in the forecast. -/
def Forecast.count (f : Forecast) (typ : Nat) : Nat := (f.evs.filter (fun e => actType e.2 == typ)).length

/-- Stream records predicted: lane outputs, converter results routed directly, and STAMP actions (R249). -/
def State.predictRecords (s : State) (f : Forecast) : Frac :=
  let lanes := (List.range 32).map (fun n => if bitOf (s.par P.FL_DST n) 6 then s.laneOutputs f n else ⟨0, 1⟩)
  let direct := (f.feeds.filter Feed.stream).map Feed.count
  qSum (⟨f.count Act.stamp, 1⟩ :: lanes ++ direct)

/-- The members of a list, each once. -/
def distinct (xs : List Nat) : List Nat := xs.foldl (fun a x => if a.contains x then a else a ++ [x]) []

/-- The converter jobs that deliver to lane `n`, and that convert cell `n`. -/
def Forecast.laneSuppliers (f : Forecast) (n : Nat) : List Nat :=
  distinct ((f.feeds.filter (fun x => x.lane == some n)).map Feed.job)
def Forecast.cellSuppliers (f : Forecast) (n : Nat) : List Nat :=
  distinct ((f.feeds.filter (fun x => x.cell == some n)).map Feed.job)

/-! ### Costs (Table 9.2) -/

/-- Currents by rail of Table 9.9, in µA. -/
def rails (vcore vioA vioB avdd avpos avneg : Nat) : List Nat := [vcore, vioA, vioB, avdd, avpos, avneg]

/-- FCLK in MHz (R217). -/
def State.fclkMHz (s : State) : Nat := nthD 100 [100, 150, 50, 25] (s.par P.FAB_CLKSEL)

/-- I_max of OUT-I cell `n` in nA: the code in force, and the codes of the period's OUT_SET and OUT_RAMP actions, each
clamped, and at most 24 mA (R72, R73, R248); `static` leaves the actions out. -/
def State.iMax (s : State) (f : Forecast) (n : Nat) (static : Bool) : Nat :=
  let clamp := fun (v : Nat) => min (max v (s.par P.AC_OUTMIN n)) (s.par P.AC_OUTMAX n)
  let codes := if static then [] else
    (f.evs.filter (fun e => (actType e.2 == Act.outSet || actType e.2 == Act.outRamp) && actTarget e.2 == n)).map
      (fun e => clamp (bitsOf (actArg e.2) 0 16))
  400 * currentCode (codes.foldl max (s.cell n).code.toNat)

/-- A job with its energy, from what it costs in the period and as if it stood idle. -/
def mkJob (s : State) (j : Nat) (e r : Frac) (cur rest : List Nat) : PlanJob :=
  { job := j, energy := qCeil e, resid := qCeil r, cls := s.jobClass j, rails := cur, residRails := rest }

/-- Spare-slice calibration of group `g`: a group whose spare is not READY. -/
def State.spareJob (s : State) (f : Forecast) (g : Nat) : Option PlanJob :=
  let x := s.group g
  match x.spare with
  | some i =>
    if (x.slice i).ready = false ∧ x.state ≠ .safe then
      some (mkJob s (0x0C + g) (f.times 100 1) ⟨0, 1⟩ (rails 0 0 0 20000 0 0) [])
    else none
  | none => none

/-- The job of SAR group `g`, if it has work or stays powered: Kiln may not gate it, or its spare's calibration is a job
of the group (R260). -/
def State.sarJob (s : State) (f : Forecast) (g : Nat) : Option PlanJob :=
  let mine := f.feeds.filter (fun x => x.job == 0x08 + g)
  let convs := qSum (mine.map Feed.count)
  let keep := !s.mayGateSar g || f.swaps.contains (0x80 + g)
  let idleOn := keep || !bitOf (s.par P.KL_GATEEN) 1 || (s.spareJob f g).isSome
  let on := match (s.group g).state with
    | .safe => false
    | _ => true
  if on && (!mine.isEmpty || idleOn) then
    let peak := mine.foldl (fun a x => qMax a x.peak) ⟨0, 1⟩
    let e := qAdd (f.times 15 1) (qScale convs 4 100)
    let cur := 3000 + openDiv 11 (800000 * peak.num.toNat) peak.den
    some (mkJob s (0x08 + g) e (if keep then f.times 15 1 else ⟨0, 1⟩) (rails 0 0 0 cur 0 0)
      (if keep then rails 0 0 0 3000 0 0 else []))
  else none

/-- The job of integrating converter `i`. -/
def State.icJob (s : State) (f : Forecast) (i : Nat) : Option PlanJob :=
  let mine := f.feeds.filter (fun x => x.job == 0x10 + i)
  let keep := f.swaps.contains (0x88 + i)
  let rest := if keep then f.times 2 1 else ⟨0, 1⟩
  let restI := if keep then rails 0 0 0 400 0 0 else []
  let on := (s.ic i).state != .safe
  if on && !mine.isEmpty then
    let e := qAdd (f.times 12 1) (qScale (qSum (mine.map Feed.count)) 8 1)
    some (mkJob s (0x10 + i) e rest (rails 0 0 0 2400 0 0) restI)
  else if on && (keep || !bitOf (s.par P.KL_GATEEN) 2) then
    some (mkJob s (0x10 + i) (f.times 2 1) rest (rails 0 0 0 400 0 0) restI)
  else none

/-- The job of lane `n`. -/
def State.laneJob (s : State) (f : Forecast) (n : Nat) : Option PlanJob :=
  let x := f.laneInputs n
  let sup := f.laneSuppliers n
  let keep := f.swaps.contains (0xA0 + n)
  let on := s.par P.FL_MODE n != 0 && (s.lane n).state != .safe
  if on && (!sup.isEmpty || keep || !bitOf (s.par P.KL_GATEEN) 3) then
    let e := qAdd (f.times 2 1) (qScale x 1 100)
    let kSps := if f.period = 0 then 0 else openDiv 12 (x.num.toNat * f.scale * 1000000) (x.den * f.period)
    let j := mkJob s (0x20 + n) e (if keep then f.times 2 1 else ⟨0, 1⟩) (rails (2000 + kSps) 0 0 0 0 0)
      (if keep then rails 2000 0 0 0 0 0 else [])
    some { j with suppliers := sup }
  else none

/-- The job of cell `n`. -/
def State.cellJob (s : State) (f : Forecast) (n : Nat) : Option PlanJob :=
  let m := s.par P.AC_MODE n
  let idle := s.cmpIdle n
  let l := s.par P.KL_OUTLOAD n
  if isInputMode m then
    let sup := f.cellSuppliers n
    let keep := !s.mayGateCell n || f.swaps.contains n
    if (s.cell n).state != .safe && (!sup.isEmpty || keep || !bitOf (s.par P.KL_GATEEN) 0) then
      let e := f.times (if idle then 6 else 2) 1
      let cur := rails 0 0 0 (if idle then 1200 else 400) 0 0
      let j := mkJob s (0x40 + n) e (if keep then e else ⟨0, 1⟩) cur (if keep then cur else [])
      some { j with dependent := true, suppliers := sup }
    else none
  else if m = 7 then
    let e := f.times (4000 + 5 * l) 1000
    let cur := rails 0 0 0 (800 + l) 0 0
    some { mkJob s (0x40 + n) e e cur cur with committed := true }
  else if m = 8 then
    let e := f.times (4000 + 5 * s.par P.AC_EXCI n) 1000
    let cur := rails 0 0 0 (800 + s.par P.AC_EXCI n) 0 0
    some { mkJob s (0x40 + n) e e cur cur with committed := true }
  else if m = 5 then
    let e := f.times (20000 + 30 * l) 1000
    let cur := rails 0 0 0 0 (670 + l) (670 + l)
    some { mkJob s (0x40 + n) e e cur cur with committed := true }
  else if m = 6 then
    let i := s.iMax f n false
    let r := s.iMax f n true
    let cur := fun (x : Nat) => rails 0 0 0 0 (670 + ceilDiv x 1000) (670 + ceilDiv x 1000)
    some { mkJob s (0x40 + n) (f.times (20000000 + 30 * i) 1000000) (f.times (20000000 + 30 * r) 1000000) (cur i) (cur r)
           with committed := true }
  else none

/-- The job of traffic (R248). -/
def State.trafficJob (s : State) (f : Forecast) : Option PlanJob :=
  let on := bitOf (s.par P.HP_PORTEN) 3
  let recs := s.predictRecords f
  let stat := if on then f.times 130 1 else ⟨0, 1⟩
  let e := qAdd stat (qAdd (qScale recs 124 100) ⟨5 * f.count Act.mbPost, 1⟩)
  if e.num ≤ 0 then none
  else
    let cur := rails 50000 0 (if on then 25000 else 0) 0 0 0
    some { mkJob s 0x07 e stat cur (if on then cur else []) with committed := true }

/-- A run of calibration that job 0x18 stands for (R248): requested, once start-up is over (R576). -/
def State.calJob (s : State) (f : Forecast) : Option PlanJob :=
  if s.cal.state ≠ .idle ∧ s.pwr.step = .ready then
    some (mkJob s 0x18 (qAdd ⟨4000, 1⟩ (f.times 400 1)) ⟨0, 1⟩ (rails 100000 0 0 60000 0 0) [])
  else none

/-- A P0 job of fixed power. -/
def fixedJob (s : State) (f : Forecast) (j num den : Nat) (cur : List Nat) : PlanJob :=
  mkJob s j (f.times num den) (f.times num den) cur cur

/-- Job `j` of the period, with the banks in force (Tables 9.1 and 9.2). -/
def State.jobOf (s : State) (f : Forecast) (j : Nat) : Option PlanJob :=
  if j = 0 then some (fixedJob s f 0 280 1 (rails 247000 10000 0 0 0 0))
  else if j ≤ 4 then
    if s.par P.SAR_REFEN (j - 1) = 1 then some (fixedJob s f j 8 1 (rails 0 0 0 1600 0 0)) else none
  else if j = 5 then if s.par P.IC_REFEN = 1 then some (fixedJob s f j 8 1 (rails 0 0 0 1600 0 0)) else none
  else if j = 6 then
    if s.fab.state = .run then some (fixedJob s f j (3 * s.fclkMHz) 10 (rails (300 * s.fclkMHz) 0 0 0 0 0)) else none
  else if j = 7 then s.trafficJob f
  else if j ≤ 0x0B then s.sarJob f (j - 0x08)
  else if j ≤ 0x0F then s.spareJob f (j - 0x0C)
  else if j ≤ 0x17 then s.icJob f (j - 0x10)
  else if j = 0x18 then s.calJob f
  else if j ≤ 0x1F then none
  else if j ≤ 0x3F then s.laneJob f (j - 0x20)
  else if j ≤ 0x7F then s.cellJob f (j - 0x40)
  else if j ≤ 0xBF then
    if s.cmpIdle (j - 0x80) = false then some (fixedJob s f j 5 1 (rails 0 0 0 1000 0 0)) else none
  else if (s.timer (j - 0xC0)).state = .run ∧ s.timersStop = false then
    some (fixedJob s f j 15 10 (rails 1500 0 0 0 0 0))
  else none

/-- The block code whose bank swap changes what a job costs. -/
def jobBank (j : Nat) : Option Nat :=
  if j = 6 then some 0xC0
  else if 0x08 ≤ j ∧ j ≤ 0x0B then some (0x80 + (j - 0x08))
  else if 0x10 ≤ j ∧ j ≤ 0x17 then some (0x88 + (j - 0x10))
  else if 0x20 ≤ j ∧ j ≤ 0x3F then some (0xA0 + (j - 0x20))
  else if 0x40 ≤ j ∧ j ≤ 0x7F then some (j - 0x40)
  else if 0x80 ≤ j ∧ j ≤ 0xBF then some (0x40 + (j - 0x80))
  else if 0xC0 ≤ j then some 0xC0
  else none

/-- A job at the larger of two costs. -/
def PlanJob.larger (a b : PlanJob) : PlanJob :=
  { a with
    energy := max a.energy b.energy
    resid := max a.resid b.resid
    rails := List.zipWith max a.rails b.rails }

/-- Job `j` of the period; a block that swaps in it is costed at the larger of its two banks' costs (R250). -/
def State.planJob (s : State) (f : Forecast) (j : Nat) : Option PlanJob :=
  let live := s.jobOf f j
  match jobBank j with
  | some code =>
    if f.swaps.contains code then
      let s' := s.exchangeBanks code
      let f' := { f with feeds := (List.range 4).flatMap (fun g => s'.sarFeeds g f.scale f.period f.evs)
                    ++ (List.range 8).flatMap (fun i => s'.icFeeds i f.scale f.period f.evs) }
      match live, s'.jobOf f' j with
      | some a, some b => some (a.larger b)
      | some a, none => some a
      | none, other => other
    else live
  | none => live

/-- Every job with work in the period (R257). -/
def State.planJobs (s : State) (f : Forecast) : List PlanJob := (List.range 256).filterMap (s.planJob f)

end Sys2Proof.Machine
end

