-- ==== Sys2Proof/Machine/Kiln.lean ====
section
/-! DEFINITION. Kiln: plans, admission, gating, power states and the thermal sample (R246–R277). -/

namespace Sys2Proof.Machine

/-! ### Thermal and rail budgets -/

/-- Terms k to k + n of the series of e^(num/den), in units of 2^−96. -/
def expSeries (num den : Nat) : Nat → Nat → Nat → Nat
  | 0, _, _ => 0
  | n + 1, k, term => term + expSeries num den n (k + 1) (term * num / (den * (k + 1)))

/-- e^(−num/den) in units of 2^−64. -/
def expNeg (num den : Nat) : Nat := 2 ^ 160 / expSeries num den 80 0 (2 ^ 96)

/-- The temperature predicted for the end of a period, in 0.01 °C, from an energy in µJ (R255). -/
def State.predictTemp (s : State) (energy period scale : Nat) : Frac :=
  let d := scale * 100000
  if period = 0 then ⟨s.tNow, 1⟩
  else
    let ex := expNeg period (d * s.par P.KL_TAU)
    let num : Int := (s.par P.KL_THETA : Int) * ((energy * d * 2 ^ 32 : Nat) - (s.kiln.pf * period : Nat))
      * ((2 ^ 64 : Nat) - (ex : Nat))
    fracAdd ⟨s.tNow, 1⟩ ⟨num, 1000 * period * 2 ^ 96⟩

/-- Sum of a rail's currents. -/
def railSum (r : Nat) (js : List PlanJob) (resid : Bool) : Nat :=
  js.foldl (fun a j => a + nthD 0 (if resid then j.residRails else j.rails) r) 0

/-- Planned currents by rail, in µA, of admitted and deferred jobs (R256). -/
def railPlan (a d : List PlanJob) : List Nat :=
  (List.range 6).map (fun r => railSum r a false + railSum r d true)

/-- Every rail's planned current is within `KL_RAILMAX`. -/
def State.railsHold (s : State) (cur : List Nat) : Bool :=
  (List.range 6).all (fun r => decide (nthD 0 cur r ≤ 1000 * s.par P.KL_RAILMAX r))

/-- Energy of admitted jobs and residual energy of deferred ones (R257). -/
def planEnergy (a d : List PlanJob) : Nat :=
  a.foldl (fun x j => x + j.energy) 0 + d.foldl (fun x j => x + j.resid) 0

/-! ### Admission (R257) -/

/-- The sets A and D of a plan, and the budgets that failed. -/
structure Admission where
  a : List PlanJob
  d : List PlanJob := []
  failE : Bool := false
  failT : Bool := false
  failR : Bool := false
  unmet : Bool := false
deriving DecidableEq, Repr

/-- Dependent jobs left with no supplier in A follow their suppliers into D. -/
def Admission.dropDependents (x : Admission) : Admission :=
  let left := fun (j : PlanJob) =>
    j.cls != 0 && !j.suppliers.isEmpty && !j.suppliers.any (fun k => x.a.any (fun i => i.job == k))
  { x with a := x.a.filter (fun j => !left j), d := x.d ++ x.a.filter left }

/-- The jobs that satisfy `p` move to D, with their dependents. -/
def Admission.defer (x : Admission) (p : PlanJob → Bool) : Admission :=
  ({ x with a := x.a.filter (fun j => !p j), d := x.d ++ x.a.filter p }).dropDependents

/-- The job to defer next: of the lowest class, then of the highest number (R257). -/
def Admission.candidate (x : Admission) : Option PlanJob :=
  x.a.foldl (fun best j =>
    if j.cls != 0 && !j.committed && !j.dependent && decide (j.resid < j.energy) then
      match best with
      | some b => if b.cls < j.cls ∨ (b.cls = j.cls ∧ b.job < j.job) then some j else best
      | none => some j
    else best) none

/-- The admission loop. -/
def State.admission (s : State) (f : Forecast) (x : Admission) : Nat → Admission
  | 0 => x
  | n + 1 =>
    let e := planEnergy x.a x.d
    let okE := decide (e * f.scale * 100000 ≤ s.par P.KL_PBUDGET * f.period)
    let okT := qLe (s.predictTemp e f.period f.scale) ⟨(s.par P.KL_TLIM : Nat), 1⟩
    let okR := s.railsHold (railPlan x.a x.d)
    if okE && okT && okR then x
    else
      let x := { x with failE := x.failE || !okE, failT := x.failT || !okT, failR := x.failR || !okR }
      match x.candidate with
      | none => { x with unmet := true }
      | some j => s.admission f (x.defer (fun k => k.job == j.job)) n

/-- A plan's decision (R257); in IDLE every P1–P3 job is in D, and THERMAL holds every P2 and P3 job there that Kiln defers
outside IDLE: not a committed one, and one that is only dependent with its suppliers (R246). -/
def State.planDecision (s : State) (f : Forecast) : Admission :=
  let jobs := s.planJobs f
  let x : Admission := { a := jobs }
  let x := if s.kiln.state = .idle then x.defer (fun j => j.cls != 0) else x
  let x := if s.kiln.thermalHold then x.defer (fun j => decide (2 ≤ j.cls) && !j.committed && !j.dependent) else x
  s.admission f x 257

/-! ### Gating -/

/-- Blocks whose gating is due, without block `b`. -/
def State.ungateDue (s : State) (b : Nat) : State :=
  { s with kiln := { s.kiln with gateDue := s.kiln.gateDue.filter (fun x => !(x == b)) } }

/-- Block `b` is to be gated when it is idle. -/
def State.gateWhenIdle (s : State) (b : Nat) : State :=
  let s := { s with kiln := { s.kiln with powerDue := tblErase s.kiln.powerDue b } }
  if s.kiln.gateDue.contains b then s else { s with kiln := { s.kiln with gateDue := s.kiln.gateDue ++ [b] } }

/-- Block `b` is gated. -/
def State.isGated (s : State) (b : Nat) : Bool :=
  if b < 0x40 then (s.cell b).state == .gated
  else if b < 0xC0 then false
  else if b < 0xE0 then (s.lane (b - 0xC0)).state == .gated
  else if b < 0xE4 then (match (s.group (b - 0xE0)).state with | .gated _ => true | _ => false)
  else if b < 0xEC then (s.ic (b - 0xE4)).state == .gated
  else false

/-- Block `b` stays powered, or is powered again within 50 µs (R260). -/
def State.keepPowered (s : State) (b : Nat) : State :=
  let s := s.ungateDue b
  if s.isGated b then s.powerUp b else s

/-- The decision for one block: gate it, or keep it powered. -/
def State.settleBlock (s : State) (b : Nat) (gate : Bool) : State :=
  if gate then (if s.isGated b then s else s.gateWhenIdle b) else s.keepPowered b

/-- A converter in D completes the integration in progress and stops; CONTINUOUS ones are started again on readmission, at
once where the converter is not gated yet (R259). -/
def State.icPlanStop (s : State) (i : Nat) (inD : Bool) : State :=
  let c := s.ic i
  if inD then
    if c.state = .running ∧ c.stopDue = false then
      let s := if s.par P.IC_RUN i = 1 then
          { s with kiln := { s.kiln with icRestart := tblSet 0 s.kiln.icRestart i (c.nextSlot.getD c.slot + 1) } }
        else s
      s.icConvStop i
    else s
  else
    match tblGet 0 s.kiln.icRestart i with
    | 0 => s
    | k + 1 =>
      let t := { s with kiln := { s.kiln with icRestart := tblSet 0 s.kiln.icRestart i 0 } }
      if c.state = .running then t.setIc i { c with stopDue := false }
      else if c.state = .stopped then t.icConvStart i k {}
      else s

/-- The decision is carried out for the period (R259, R260). -/
def State.carryOut (s : State) (f : Forecast) (x : Admission) : State :=
  let inA := fun (j : Nat) => x.a.any (fun k => k.job == j)
  let inD := fun (j : Nat) => x.d.any (fun k => k.job == j)
  let en := s.par P.KL_GATEEN
  let want := fun (j bit : Nat) => inD j || (!inA j && bitOf en bit)
  let s := (List.range 4).foldl (fun s g =>
    s.settleBlock (Fb.sar g) (want (0x08 + g) 1 && s.mayGateSar g && !f.swaps.contains (0x80 + g)
      && (s.group g).state != .safe)) s
  let s := (List.range 8).foldl (fun s i =>
    let gate := want (0x10 + i) 2 && !f.swaps.contains (0x88 + i) && (s.ic i).state != .safe
    let s := s.icPlanStop i (inD (0x10 + i) && gate)
    s.settleBlock (Fb.ic i) gate) s
  let s := (List.range 32).foldl (fun s n =>
    let st := (s.lane n).state
    s.settleBlock (Fb.lane n) (want (0x20 + n) 3 && !f.swaps.contains (0xA0 + n) && s.mayGateLane n
      && (st == .run || st == .priming || st == .gated))) s
  (List.range 64).foldl (fun s n =>
    let st := (s.cell n).state
    s.settleBlock (Fb.cell n) (want (0x40 + n) 0 && !f.swaps.contains n && s.mayGateCell n
      && (st == .active || st == .settling || st == .gated))) s

/-- A block whose gating is due is idle: a group in D has completed its conversions, any other has no request left to serve
either (R259, R260, R173). -/
def State.gateIdle (s : State) (b : Nat) : Bool :=
  if 0xE0 ≤ b ∧ b < 0xE4 then
    let x := s.group (b - 0xE0)
    x.quiet && (s.kiln.deferred.contains (0x08 + (b - 0xE0))
      || (x.state == .stopped && x.cmds.isEmpty && x.urgent.isEmpty && !x.syscal.busy))
  else if 0xE4 ≤ b ∧ b < 0xEC then (s.ic (b - 0xE4)).state == .stopped
  else true

/-- Block `b` is powered down (R272, Table 3.4, Table 5.7, Table 6.5). -/
def State.gateBlock (s : State) (b : Nat) : State :=
  if b < 0x40 then (s.cellGate b).calInjectEnd b
  else if b < 0xC0 then s
  else if b < 0xE0 then (s.laneGate (b - 0xC0)).openWindow b
  else if b < 0xE4 then (s.sarGate (b - 0xE0)).openWindow b
  else if b < 0xEC then (s.icGate (b - 0xE4)).openWindow b
  else s

/-- Block `b` may be gated now: its state leads to GATED (Tables 3.4, 5.7, 6.5, 7.6), and no rule keeps it powered (R20, R83,
R149, R211). -/
def State.mayGate (s : State) (b : Nat) : Bool :=
  if b < 0x40 then s.mayGateCell b && ((s.cell b).state == .active || (s.cell b).state == .settling)
  else if b < 0xC0 then false
  else if b < 0xE0 then
    s.mayGateLane (b - 0xC0) && ((s.lane (b - 0xC0)).state == .run || (s.lane (b - 0xC0)).state == .priming)
  else if b < 0xE4 then s.mayGateSar (b - 0xE0) && (s.group (b - 0xE0)).state != .safe
  else if b < 0xEC then (s.ic (b - 0xE4)).state != .safe
  else false

/-- BLOCK_GATED (R260); a block that may not be gated any more runs on. -/
def State.blockGated (s : State) (b : Nat) : State :=
  if s.kiln.gateDue.contains b = false then s
  else if s.mayGate b = false then s.ungateDue b
  else if s.gateIdle b then (s.gateBlock b).ungateDue b
  else s

/-- Block `b` is powered again (R259, R260): a converter that Kiln stopped, or that a command wants, starts. -/
def State.ungateBlock (s : State) (b : Nat) : State :=
  let s := { s with kiln := { s.kiln with hitOpen := s.kiln.hitOpen.filter (fun x => !(x == b)) } }
  if b < 0x40 then s.cellUngate b
  else if b < 0xC0 then s
  else if b < 0xE0 then (s.laneResume (b - 0xC0)).openWindow b
  else if b < 0xE4 then ((s.sarUngate (b - 0xE0)).takeLive b).openWindow b
  else if b < 0xEC then
    let i := b - 0xE4
    let s := (s.icUngate i).openWindow b
    match tblGet 0 s.kiln.icRestart i with
    | 0 => s
    | k + 1 => ({ s with kiln := { s.kiln with icRestart := tblSet 0 s.kiln.icRestart i 0 } }).icConvStart i k {}
  else s

/-- BLOCK_POWERED (R260). -/
def State.blockPowered (s : State) (b : Nat) : State :=
  if tblGet 0 s.kiln.powerDue b = 0 then s
  else
    let s := { s with kiln := { s.kiln with powerDue := tblErase s.kiln.powerDue b } }
    if s.isGated b then s.ungateBlock b else s

/-- The job that the work of a block belongs to. -/
def blockJob (b : Nat) : Nat :=
  if b < 0x40 then 0x40 + b else if b < 0xE0 then 0x20 + (b - 0xC0) else if b < 0xE4 then 0x08 + (b - 0xE0) else 0x10 + (b - 0xE4)

/-- An action reaches gated block `b`, or one not yet powered (R273); one record an episode (R466). -/
def State.gateHit (s : State) (b : Nat) (o : Origin) : State :=
  let s := (s.bump P.WH_SKIPCNT).bump P.KL_GATEHIT
  let job := blockJob b
  let s := if s.kiln.hits.contains job then s else { s with kiln := { s.kiln with hits := s.kiln.hits ++ [job] } }
  if s.kiln.hitOpen.contains b then s
  else
    let s := { s with kiln := { s.kiln with hitOpen := s.kiln.hitOpen ++ [b] } }
    s.ask { blk := Fb.kiln, det := 5, cls := 1, master := o.master, access := o.access, form := o.form, addr := o.addr }

/-! ### Plans -/

/-- Which kind of plan is made (R251, R252). -/
inductive PlanKind where
  | action | timed | immediate
deriving DecidableEq, Repr

/-- The period that a plan ends: its measured energy, and OVERRUN (R261, Table 9.7). -/
def State.endPeriod (s : State) : State :=
  if s.kiln.planned = false then s
  else
    let m := openDiv 13 s.kiln.measured 1000000
    let s := s.setPar P.KL_EMEAS 0 (min m (2 ^ 32 - 1))
    if s.kiln.admitted * (100 + s.par P.KL_OVRTOL) < m * 100 then s.raise Fb.kiln 4 1 else s

/-- Jobs of groups, converters and lanes whose next result carries DFR (R262). -/
def dfrJob (j : Nat) : Bool :=
  (decide (0x08 ≤ j) && decide (j ≤ 0x0B)) || (decide (0x10 ≤ j) && decide (j ≤ 0x17))
    || (decide (0x20 ≤ j) && decide (j ≤ 0x3F))

/-- The bitmap of D as bytes. -/
def defBytes (d : List Nat) : List Byte :=
  (List.range 32).map (fun k => BitVec.ofNat 8 ((List.range 8).foldl (fun a b => if d.contains (8 * k + b) then a + 2 ^ b else a) 0))

/-- The plan report (Table 9.3). -/
def State.planReport (s : State) (timed : Bool) (x : Admission) : List Byte :=
  leBytes 6 s.angleStamp ++ leBytes 8 s.t ++ leBytes 2 (s.par P.KL_PLANCNT) ++ leBytes 4 (s.par P.KL_EBUDGET)
    ++ leBytes 4 (s.par P.KL_EADM) ++ leBytes 4 (s.par P.KL_EREQ)
    ++ leBytes 1 (b2n x.failE + 2 * b2n x.failT + 4 * b2n x.failR + 8 * b2n timed + 16 * b2n x.unmet)
    ++ leBytes 1 (match s.kiln.state with | .run => 0 | .trim => 1 | .idle => 2 | .hibernate => 3)
    ++ leBytes 2 (s.par P.KL_TPRED) ++ defBytes s.kiln.deferred

/-- The report of a plan that deferred a job (R263). -/
def State.postReport (s : State) (x : Admission) : State :=
  let cfg := s.par P.KL_RPTMB
  if bitOf cfg 4 ∧ x.d.isEmpty = false then
    let n := cfg % 8
    if (s.mbox n).msg.isSome then (s.bump P.KL_RPTLOST).raise Fb.kiln 6 1
    else
      let (ok, s) := s.mbPost n Sender.kiln s.kiln.report (mboxOrigin n)
      if ok then s else (s.bump P.KL_RPTLOST).raise Fb.kiln 6 1
  else s

/-- The parameters that report a plan (R261). -/
def State.planParams (s : State) (f : Forecast) (jobs : List PlanJob) (x : Admission) (timed : Bool) : State :=
  let e := planEnergy x.a x.d
  let sum := fun (js : List PlanJob) (c : Nat) =>
    (js.filter (fun j => j.cls == c)).foldl (fun a j => a + j.energy) 0
  let cur := railPlan x.a x.d
  let temp := s.predictTemp e f.period f.scale
  let s := s.setPar P.KL_EBUDGET 0 (openDiv 14 (s.par P.KL_PBUDGET * f.period) (f.scale * 100000))
  let s := (s.setPar P.KL_EADM 0 e).setPar P.KL_EREQ 0 (jobs.foldl (fun a j => a + j.energy) 0)
  let s := s.setPar P.KL_TPER 0 (openDiv 15 f.period (f.scale * 100))
  let s := s.setParI P.KL_TPRED 0 (openDivI 16 temp.num temp.den)
  let s := (List.range 4).foldl (fun s c => (s.setPar P.KL_CLASSE c (sum x.a c)).setPar P.KL_CLASSD c (sum x.d c)) s
  let s := (List.range 6).foldl (fun s r => s.setPar P.KL_RAILI r (openDiv 17 (nthD 0 cur r) 100)) s
  let d := x.d.map PlanJob.job
  let s := (List.range 8).foldl (fun s k =>
    s.setPar P.KL_DEFMAP k ((List.range 32).foldl (fun a b => if d.contains (32 * k + b) then a + 2 ^ b else a) 0)) s
  s.setPar P.KL_STATUS 0 (b2n (!x.d.isEmpty) + 2 * b2n x.failE + 4 * b2n x.failT + 8 * b2n x.failR + 16 * b2n timed
    + 64 * b2n x.unmet)

/-- No IDLE_OPEN action is posted. -/
def State.noIdleOpen (s : State) : Bool := !s.wheel.store.any (fun e => actType e.2.word == Act.idleOpen)

/-- What a plan's decision means for the calibration run (R285, R289, R299). -/
def State.calPlan (s : State) (x : Admission) : State :=
  if x.d.any (fun j => j.job == 0x18) then ({ s with cal := { s.cal with admitted := false } }).calSuspend
  else if x.a.any (fun j => j.job == 0x18) then
    match s.cal.state with
    | .pending =>
      let s := { s with cal := { s.cal with admitted := true } }
      if s.noIdleOpen then s.calRunStart else s
    | .suspended => s.calReadmit
    | _ => s
  else s

/-- A plan (R251–R263), made at a moment of the Wheel. -/
def State.planAt (s : State) (kind : PlanKind) (m : PlanMoment) : State :=
  let first := !s.kiln.planned
  let before := s.kiln.deferred
  let beforeP1 := (s.kiln.jobs.filter (fun j => before.contains j.job && j.cls == 1)).isEmpty
  let s := s.endPeriod
  let owed := distinct (s.kiln.dfrOwed ++ (before ++ s.kiln.hits).filter dfrJob)
  let s := { s with kiln := { s.kiln with dfrOwed := owed, hits := [] } }
  let s := s.takeLive Fb.kiln
  let s := s.calTrigger.spareReadyCheck
  let f := s.forecast m
  let jobs := s.planJobs f
  let x := s.planDecision f
  let s := s.planParams f jobs x (kind == .timed)
  let s := { s with kiln := { s.kiln with
    planTime := s.t, period := f.period, scale := f.scale, planned := true, jobs := jobs
    deferred := x.d.map PlanJob.job, measured := 0, admitted := planEnergy x.a x.d
    state := match s.kiln.state with
      | .idle => .idle
      | .hibernate => .hibernate
      | _ => if x.d.isEmpty then .run else .trim } }
  let s := s.bump P.KL_PLANCNT
  let s := if x.d.isEmpty then s else s.bump P.KL_DEFCNT
  let s := if kind = .timed then s.bump P.KL_TIMEDCNT else s
  let s := if !x.d.isEmpty && before.isEmpty then s.raise Fb.kiln 0 1 else s
  let s := if x.d.any (fun j => j.cls == 1) && beforeP1 then s.raise Fb.kiln 1 2 else s
  let s := if x.unmet then s.raise Fb.kiln 2 2 else s
  let s := if kind = .timed ∧ first = false then s.raise Fb.kiln 3 1 else s
  let s := (s.carryOut f x).spareGuard
  let s := { s with kiln := { s.kiln with report := s.planReport (kind == PlanKind.timed) x } }
  (s.calPlan x).postReport x

/-- A plan made between evaluation steps. -/
def State.plan (s : State) (kind : PlanKind) : State := s.planAt kind s.betweenSteps

/-- TIMED_PLAN (R252, R275): at once after a reset of Kiln, then when no plan has been made for `KL_PLANMAX`. -/
def State.timedPlan (s : State) : State :=
  if s.kiln.state = .hibernate then s
  else if s.kiln.planned = false ∨ s.kiln.planTime + msTicks (s.par P.KL_PLANMAX) ≤ s.t then s.plan .timed
  else s

/-! ### Host commands under a budget (R264, R270) -/

/-- Work of a job that a command starts: its energy over the rest of the period, and its currents. -/
structure Extra where
  energy : Frac
  cur : List Nat
deriving DecidableEq, Repr

/-- Ticks left of the period. -/
def State.restTicks (s : State) : Nat := s.kiln.period / s.kiln.scale - (s.t - s.kiln.planTime)

/-- Kiln admits the work that a command starts (R264); THERMAL defers every P2 and P3 job (R274). -/
def State.budgetOk (s : State) (job : Nat) (x : Extra) : Bool :=
  let k := s.kiln
  if s.jobClass job = 0 ∨ k.planned = false then true
  else if k.state = .idle ∨ k.state = .hibernate ∨ k.deferred.contains job then false
  else if k.thermalHold = true ∧ 2 ≤ s.jobClass job then false
  else if k.jobs.any (fun j => j.job == job) then true
  else
    let e := k.admitted + qCeil x.energy
    let inD := fun (j : PlanJob) => k.deferred.contains j.job
    let cur := railPlan (k.jobs.filter (fun j => !inD j)) (k.jobs.filter inD)
    let cur := List.zipWith (· + ·) cur x.cur
    decide (e * k.scale * 100000 ≤ s.par P.KL_PBUDGET * k.period)
      && qLe (s.predictTemp e k.period k.scale) ⟨(s.par P.KL_TLIM : Nat), 1⟩ && s.railsHold cur

/-- The refusal (R264). -/
def State.budgetRefuse (s : State) : State := (s.bump P.KL_BDREFUSE).answer Status.budgetDeferred

/-- Coefficient × rest of the period, plus work counted once. -/
def State.restCost (s : State) (perMs fixedNum fixedDen : Nat) : Frac :=
  qAdd ⟨(perMs * s.restTicks : Nat), 100000⟩ ⟨fixedNum, fixedDen⟩

/-- What starting list `l` of group `g` costs. -/
def State.sarExtra (s : State) (g l : Nat) : Extra :=
  let fs := s.listFeeds g l 1 0 s.restTicks
  let peak := fs.foldl (fun a x => qMax a x.peak) ⟨0, 1⟩
  { energy := qAdd (s.restCost 15 0 1) (qScale (qSum (fs.map Feed.count)) 4 100)
    cur := rails 0 0 0 (3000 + openDiv 11 (800000 * peak.num.toNat) peak.den) 0 0 }

/-- What starting converter `i` costs. -/
def State.icExtra (s : State) (i : Nat) : Extra :=
  let win := s.icLength i * (if s.par P.IC_MODE i = 1 ∧ 0 < s.planSpeed then 2 ^ 24 / s.planSpeed else 1)
  let n : Frac := if s.par P.IC_RUN i = 0 then ⟨1, 1⟩ else ⟨s.restTicks, win + msTicks 1⟩
  { energy := qAdd (s.restCost 12 0 1) (qScale n 8 1), cur := rails 0 0 0 2400 0 0 }

/-- A system-calibration step of 256 conversions, and a calibration run. -/
def State.sysExtra (s : State) : Extra := { energy := s.restCost 15 1024 100, cur := rails 0 0 0 3000 0 0 }
def State.calExtra (s : State) : Extra := { energy := s.restCost 400 4000 1, cur := rails 100000 0 0 60000 0 0 }

/-- `SAR_CTRL` START (R130, R264). -/
def State.sarStartCmd (s : State) (g l : Nat) : State :=
  if s.budgetOk (0x08 + g) (s.sarExtra g l) then s.sarCtrlStart g l else s.budgetRefuse

/-- A write of `SAR_CTRL` (R155). -/
def State.sarCtrl (s : State) (g v : Nat) : State :=
  let c := bitsOf v 0 8
  if c = 1 then s.sarStartCmd g (bitsOf v 8 4)
  else if c = 2 then s.sarCtrlStop g
  else if c = 3 then s.sarCtrlResume g
  else s.sarClear g

/-- `IC_CTRL` START (R166, R264). -/
def State.icStartCmd (s : State) (i slot : Nat) : State :=
  if s.budgetOk (0x10 + i) (s.icExtra i) then s.icCtrlStart i slot else s.budgetRefuse

/-- A write of `IC_CTRL` (R179). -/
def State.icCtrl (s : State) (i v : Nat) : State :=
  let c := bitsOf v 0 8
  if c = 1 then s.icStartCmd i (bitsOf v 8 2)
  else if c = 2 then s.icCtrlStop i
  else if c = 3 then s.icCtrlResume i
  else s.icClear i

/-- `SAR_SYSCAL` ZERO and FULL (R144, R264). -/
def State.sysStepCmd (s : State) (g cell : Nat) (full : Bool) : State :=
  if (s.group g).syscal.busy then s.answer Status.busyLocked
  else if s.budgetOk (0x08 + g) s.sysExtra then s.sysStart g cell full else s.budgetRefuse

/-- A write of `SAR_SYSCAL` at instance `g`. -/
def State.sysCalWrite (s : State) (g v : Nat) : State :=
  let cell := bitsOf v 0 6
  match bitsOf v 8 2 with
  | 0 => s.sysClear g cell
  | 1 => s.sysStepCmd g cell false
  | 2 => s.sysStepCmd g cell true
  | _ => s.sysApply g cell

/-- `CAL_CTRL` START (R264, R285, R300). -/
def State.calStartCmd (s : State) : State :=
  if s.cal.state ≠ .idle then s.answer Status.busyLocked
  else if s.budgetOk 0x18 s.calExtra then s.calStart else s.budgetRefuse

/-- A write of `CAL_CTRL` (R309). -/
def State.calCtrl (s : State) (v : Nat) : State :=
  if v = 1 then s.calStartCmd
  else if v = 2 then s.calAbort
  else if v = 3 then s.calCommit
  else if v = 4 then s.calRetrig
  else s.calClear

/-! ### The 1 ms sample (R254, R255) -/

/-- The median of a list of values, doubled. -/
def median2 (vs : List Int) : Int :=
  let s := sortBy (fun (x : Int) => (x + 2 ^ 40).toNat) vs
  let n := s.length
  if n = 0 then 0
  else if n % 2 = 1 then 2 * nthD 0 s (n / 2)
  else nthD 0 s (n / 2 - 1) + nthD 0 s (n / 2)

/-- One sensor's reading, in steps of 0.25 K, against the median of the other valid sensors. -/
def State.sensorRead (s : State) (vals : List Int) (i : Nat) : State :=
  let d := tblGet {} s.kiln.sensors i
  let v := nthD 0 vals i * 25
  let others := ((List.range 5).filter (fun k => k != i && (tblGet {} s.kiln.sensors k).valid)).map
    (fun k => nthD 0 vals k * 25)
  let far := !others.isEmpty && decide (1600 < (2 * v - median2 others).natAbs)
  let bad := if far then d.bad + 1 else 0
  let fails := d.valid && decide (10 ≤ bad)
  let d := { d with value := v, bad := bad, valid := d.valid && !fails }
  let s := { s with kiln := { s.kiln with sensors := tblInsert (tblErase s.kiln.sensors i) i d } }
  if fails then s.raise Fb.kiln 7 2 i else s

/-- Measured power in units of 10^−6 mW, from rail currents in µA (R255). -/
def State.measuredPower (s : State) (cur : List Nat) : Nat :=
  (List.range 6).foldl (fun a r => a + nthD 0 cur r * s.par P.KL_RAILV r) 0

/-- The temperature limits (Table 9.7). -/
def State.tempLimits (s : State) : State :=
  let t := s.tNow
  let valid := ((List.range 5).filter (fun i => (tblGet {} s.kiln.sensors i).valid)).length
  let lim : Int := s.par P.KL_TLIM
  let s := if lim < t then
      let s := { s with kiln := { s.kiln with thermalHold := true } }
      if s.episodeOpen Fb.kiln 8 then s else (s.raiseEpisode Fb.kiln 8 2).plan .immediate
    else if t < lim - 200 then { s with kiln := { s.kiln with thermalHold := false } }.endEpisode Fb.kiln 8
    else s
  let s := if (s.par P.KL_TCRIT : Int) ≤ t ∨ valid < 3 then s.raiseEpisode Fb.kiln 9 3 else s.endEpisode Fb.kiln 9
  if 12500 ≤ t then s.raiseEpisode Fb.kiln 11 4 else s.endEpisode Fb.kiln 11

/-- The rail monitors: above 1.25 × `KL_RAILMAX` for 1 ms (Table 9.7). -/
def State.railLimits (s : State) (cur : List Nat) : State :=
  (List.range 6).foldl (fun s r =>
    let above := decide (1250 * s.par P.KL_RAILMAX r < nthD 0 cur r)
    let n := if above then tblGet 0 s.kiln.railOver r + 1 else 0
    let s := { s with kiln := { s.kiln with railOver := tblSet 0 s.kiln.railOver r n } }
    if n = 2 then s.raise Fb.kiln 10 3 r else s) s

/-- THERMAL_SAMPLE (R254, R255): five readings in steps of 0.25 K, and six rail currents in µA. -/
def State.thermalSample (s : State) (temps : List Int) (cur : List Nat) : State :=
  let s := (List.range 5).foldl (fun s i => s.sensorRead temps i) s
  let m := s.measuredPower cur
  let tau := s.par P.KL_TAU
  let step := openDivI 18 ((m * 2 ^ 32 : Nat) - (s.kiln.pf * 1000000 : Nat)) (tau * 1000000)
  let s := { s with kiln := { s.kiln with pf := ((s.kiln.pf : Int) + step).toNat, measured := s.kiln.measured + m } }
  (s.tempLimits.railLimits cur).spareReadyCheck

/-! ### Power states (R265–R269) -/

/-- `KL_CTRL` RUN. -/
def State.klRun (s : State) : State :=
  if s.kiln.heldC then s.answer Status.faultState
  else if s.kiln.state = .idle then
    (({ s with kiln := { s.kiln with state := .run } }).plan .immediate).done
  else s.answer Status.notPermitted

/-- `KL_CTRL` IDLE. -/
def State.klIdle (s : State) : State :=
  if s.kiln.state = .run ∨ s.kiln.state = .trim then
    (({ s with kiln := { s.kiln with state := .idle } }).plan .immediate).done
  else s.answer Status.notPermitted

/-- `KL_CTRL` RESUME (R265, R470). -/
def State.klResume (s : State) : State :=
  if s.kiln.heldC ∧ s.pendingC Fb.kiln = false then
    ((({ s with kiln := { s.kiln with state := .run, heldC := false } }).plan .immediate).openWindow Fb.kiln).done
  else s.answer Status.notPermitted

/-- HIBERNATE may be entered (R266). -/
def State.mayHibernate (s : State) : Bool :=
  s.kiln.state == .idle
    && !(List.range 64).any (fun n => isOutputMode (s.par P.AC_MODE n) || isExciteMode (s.par P.AC_MODE n))
    && !(List.range 4).any (fun g => (s.group g).state == .running)
    && !(List.range 8).any (fun i => (s.ic i).state == .running)
    && s.par P.KL_WAKESRC != 0

/-- The blocks that HIBERNATE gates: converters, lanes and cells that no enabled comparator needs (R149, R267). R20 keeps
the cells, the group and the lane of a selected sin/cos source powered, and R267 gates every one that no comparator needs:
the model follows R267 in HIBERNATE, where nothing converts (DESIGN CHOICE, log entry 127). -/
def State.hibernateGate (s : State) : State :=
  let s := (List.range 4).foldl (fun s g => if s.urgentTarget g then s else s.gateBlock (Fb.sar g)) s
  let s := (List.range 8).foldl (fun s i =>
    if (s.ic i).state = .stopped ∧ s.urgentTarget (0x10 + i) = false then s.gateBlock (Fb.ic i) else s) s
  let s := (List.range 32).foldl (fun s n =>
    if (s.lane n).state = .run ∨ (s.lane n).state = .priming then s.gateBlock (Fb.lane n) else s) s
  (List.range 64).foldl (fun s n =>
    let st := (s.cell n).state
    if isInputMode (s.par P.AC_MODE n) && s.cmpIdle n && (st == .active || st == .settling) then
      s.gateBlock n
    else s) s

/-- `KL_CTRL` HIBERNATE (R266, R267). -/
def State.klHibernate (s : State) : State :=
  if s.mayHibernate then
    let s := s.hibernateGate.fabSleep
    let s := { s with kiln := { s.kiln with
      state := .hibernate, hibernateAt := s.t, wake := none, gateDue := [], powerDue := [] } }
    (s.trace 0x01 0).done
  else s.answer Status.notPermitted

/-- `KL_CTRL` 5 clears Kiln's counters (R276). -/
def State.klClear (s : State) : State :=
  (s.clearPars [(P.KL_PLANCNT, 0), (P.KL_DEFCNT, 0), (P.KL_TIMEDCNT, 0), (P.KL_RPTLOST, 0), (P.KL_GATEHIT, 0),
    (P.KL_GATEDROP, 0), (P.KL_BDREFUSE, 0)]).done

/-- A write of `KL_CTRL`. -/
def State.klCtrl (s : State) (v : Nat) : State :=
  if v = 1 then s.klRun
  else if v = 2 then s.klIdle
  else if v = 3 then s.klHibernate
  else if v = 4 then s.klResume
  else s.klClear

/-- WAKE_TIMER (R268). -/
def State.wakeTimer (s : State) : State :=
  if s.kiln.state = .hibernate ∧ s.kiln.hibernateAt + msTicks (s.par P.KL_WAKET) ≤ s.t then s.requestWake 3 else s

/-- HIBERNATE_EXIT (R268, R269): bins passed meanwhile do not fire, and Kiln plans in the state of `KL_WAKEST`. -/
def State.hibernateExit (s : State) : State :=
  if s.kiln.state = .hibernate ∧ s.kiln.wake.isSome then
    let s := s.setEng { s.eng with hwm := binOf s.eng.pos, firstCrossed := none, lastStep := none }
    let s := (s.bump P.WH_GAPCNT).raise Fb.wheel 9 1
    let s := { s with kiln := { s.kiln with
      state := if s.par P.KL_WAKEST = 1 then .run else .idle, wake := none } }
    s.fabWake.plan .immediate
  else s

/-- Class C reaction for Kiln: IDLE, held until RESUME (Table 9.5). -/
def State.kilnEnterSafe (s : State) : State :=
  let s := { s with kiln := { s.kiln with heldC := true } }
  if s.kiln.state = .hibernate then s
  else ({ s with kiln := { s.kiln with state := .idle } }).plan .immediate

/-- Reset of Kiln (R275): its timed plan is due at once. -/
def State.kilnReset (s : State) : State :=
  let due := s.kiln.powerDue
  { (s.resetParams Fb.kiln) with kiln := { icRestart := s.kiln.icRestart, powerDue := due } }

/-- Code of a power state (Table 9.4). -/
def KilnState.code : KilnState → Nat
  | .run => 0
  | .trim => 1
  | .idle => 2
  | .hibernate => 3

/-- `KL_STATUS` (Table 9.8). -/
def State.klStatus (s : State) : Nat := s.par P.KL_STATUS + 32 * b2n s.kiln.heldC

end Sys2Proof.Machine
end

