-- ==== Sys2Proof/Machine/Store.lean ====
section
/-! DEFINITION. The action store (R41–R44), and the values a parameter admits whatever the state (R374, R644). -/

namespace Sys2Proof.Machine

/-- `WH_FREE`: entries that hold no action and are not reserved (R325). -/
def State.freeEntries (s : State) : Nat := 131072 - s.wheel.store.length - s.grist.reserved

/-- The first handle at or after `h` that a rising list of handles leaves free. -/
def freeFrom : List Nat → Nat → Nat
  | [], h => h
  | k :: t, h => if k < h then freeFrom t h else if k = h then freeFrom t (h + 1) else h

/-- The handle for the next post: 17 bits, not in use (R42). -/
def State.nextHandle (s : State) : Nat :=
  let keys := s.wheel.store.map Prod.fst
  let h := freeFrom keys (Config.handleSeed s.wheel.nextSeq % 131072)
  if h < 131072 then h else freeFrom keys 0

/-- An action enters the store. -/
def State.post (s : State) (w : BitVec 64) (place : Nat) (tag : BankTag) (ctl : Bool) : Nat × State :=
  let h := s.nextHandle
  let a : Action := { word := w, place := place, seq := s.wheel.nextSeq, posted := s.t, tag := tag, ctl := ctl }
  (h, { s with wheel := { s.wheel with
    store := tblInsert (tblErase s.wheel.store h) h a, nextSeq := s.wheel.nextSeq + 1 } })

/-- The action with a handle leaves the store. -/
def State.unpost (s : State) (h : Nat) : State :=
  { s with wheel := { s.wheel with store := tblErase s.wheel.store h } }

/-- A read of the store entry with handle `h` checks it (R46). `ecc` lists the errors that reads find: a single-bit error is
corrected and counted, an uncorrectable one frees the entry. -/
def State.storeCheck (s : State) (ecc : List StoreError) (h : Nat) : State :=
  let note := fun (s : State) (d k : Nat) =>
    s.ask { blk := Fb.wheel, det := d, cls := k, access := 1, form := 1, addr := h }
  if (s.wheel.store.any (fun e => e.1 == h)) = false then s
  else
    match ecc.find? (fun e => e.handle.toNat == h) with
    | none => s
    | some e =>
      if e.uncorrectable then note ((s.unpost h).bump P.WH_ECCCNT 1) 11 2
      else note (s.bump P.WH_ECCCNT 0) 10 1

/-- The actions that satisfy `p` leave the store. -/
def State.unpostAll (s : State) (p : Action → Bool) : State :=
  { s with wheel := { s.wheel with store := s.wheel.store.filter (fun e => !p e.2) } }

/-- The status with which a post of this word is refused (R42); OK where it is not. -/
def actStatus (w : BitVec 64) : Nat :=
  if actTypeOk (actType w) = false then Status.outOfRange
  else if actTargetOk (actType w) (actTarget w) = false then Status.badTarget
  else if actArgOk (actType w) (actArg w) = false then Status.outOfRange
  else Status.ok

/-- A value lies in the range of its parameter (R374, R644), with the layouts of scan entries, list words, item
words and post lists. -/
def valueOk (id inst w : Nat) : Bool :=
  match paramDef? id with
  | none => false
  | some d =>
    d.range.admits inst w
      && (if P.SAR_G0SCAN ≤ id ∧ id ≤ P.SAR_G3SCAN then scanOk w
          else if id = P.SAR_LIST then listOk w
          else if id = P.CAL_CSEL then itemOk w
          else if id = P.MB_POSTLIST then decide (bitsOf w 8 4 ≤ 12)
          else true)

end Sys2Proof.Machine
end

