-- ==== Sys2Proof/Machine/Grist.lean ====
section
/-! DEFINITION. Grist images, banks and the changeover (R310–R341): the image format and its checks, loads, the bank
exchange of every block, and the states of the grist block. -/

namespace Sys2Proof.Machine

/-- Codes of the grist states (Table 11.7). -/
def GristState.code : GristState → Nat
  | .idle => 0
  | .loading => 1
  | .verified => 2
  | .armed => 3
  | .swapping => 4
  | .swapped => 5
  | .rollback => 6
  | .restoring => 7

/-- The state with the grist block set. -/
def State.setGrist (s : State) (g : Grist) : State := { s with grist := g }

/-- Every block code of Table 11.1. -/
def blockCodes : List Nat := (List.range 0xC5).filter isBlockCode

/-! ### Image format (R316, R317) -/

/-- A section of an image. -/
structure Section where
  typ : Nat
  flags : Nat
  off : Nat
  len : Nat
  crc : Nat
  /-- Offset of its table entry. -/
  at' : Nat
deriving DecidableEq, Repr

/-- The image is a patch by its magic. -/
def isPatch (img : List Byte) : Bool := slice img 0 4 == [0x4B, 0x5A, 0x50, 0x54]

/-- The magic is one of the two of Table 11.2. -/
def magicOk (img : List Byte) : Bool := slice img 0 4 == [0x4B, 0x5A, 0x47, 0x52] || isPatch img

/-- The section table. -/
def sections (img : List Byte) : List Section :=
  (List.range (min 64 (fieldAt img 6 2))).map (fun k =>
    let a := 64 + 16 * k
    { typ := fieldAt img a 2, flags := fieldAt img (a + 2) 2, off := fieldAt img (a + 4) 4
      len := fieldAt img (a + 8) 4, crc := fieldAt img (a + 12) 4, at' := a })

/-- Record length of a section type of a grist image (Table 11.4); 1 for NOTE, 0 for an unknown type. -/
def recordLen (typ : Nat) : Nat := nthD 0 [0, 8, 8, 8, 4, 12, 0x2C000, 2052, 1] typ

/-- The section of a type. -/
def sectionOf (img : List Byte) (typ : Nat) : Option Section := (sections img).find? (fun x => x.typ == typ)

/-- The offsets of the records of a section type. -/
def recordsOf (img : List Byte) (typ : Nat) : List Nat :=
  match sectionOf img typ with
  | some x => (List.range (x.len / max 1 (recordLen typ))).map (fun k => x.off + k * recordLen typ)
  | none => []

/-- A parameter record: ID with its reserved bits, instance, reserved byte and value (R317). -/
structure ParamRec where
  at' : Nat
  id : Nat
  inst : Nat
  spare : Nat
  value : Nat
deriving DecidableEq, Repr

/-- The parameter record at an offset. -/
def paramRec (img : List Byte) (a : Nat) : ParamRec :=
  { at' := a, id := fieldAt img a 2, inst := fieldAt img (a + 2) 1, spare := fieldAt img (a + 3) 1
    value := fieldAt img (a + 4) 4 }

/-- The parameter records of a section type. -/
def paramRecs (img : List Byte) (typ : Nat) : List ParamRec := (recordsOf img typ).map (paramRec img)

/-- The block codes and swap bins that SWAPMAP lists. -/
def swapMap (img : List Byte) : List (Nat × Nat × Nat) :=
  (recordsOf img 4).map (fun a => (a, fieldAt img a 1, fieldAt img (a + 2) 2))

/-- An action record: its offset, its queue (65,536 + n for a time queue) and its word. -/
def actionRecs (img : List Byte) : List (Nat × Nat × BitVec 64) :=
  (recordsOf img 5).map (fun a =>
    let q := fieldAt img a 2
    (a, if bitOf (fieldAt img (a + 2) 1) 0 then 65536 + q % 16 else q, BitVec.ofNat 64 (fieldAt img (a + 4) 8)))

/-- The grist hash: CRC-32 of bytes 0 to L − 17 (R318). -/
def gristHash (img : List Byte) : Nat := crc32 (img.take (img.length - 16))

/-! ### Checks (Table 11.5) -/

/-- A failed check: `GR_ERRCODE`, `GR_ERRPOS`, status and detector of Table 11.8. -/
structure LoadFailure where
  code : Nat
  pos : Nat
  status : Nat
  det : Nat
deriving DecidableEq, Repr

/-- The first failure of a list of them. -/
def firstSome {α : Type} : List (Option α) → Option α
  | [] => none
  | some a :: _ => some a
  | none :: t => firstSome t

/-- A failure of this kind where a condition does not hold. -/
def unless' (ok : Bool) (code pos status det : Nat) : Option LoadFailure :=
  if ok then none else some ⟨code, pos, status, det⟩

/-- Sections in rising order, apart, after the table and before the tag; `lo` is the least offset of the next. -/
def layoutCheck (limit : Nat) : Nat → List Section → Option LoadFailure
  | _, [] => none
  | lo, x :: t =>
    if lo ≤ x.off ∧ x.off + x.len ≤ limit then layoutCheck limit (x.off + x.len) t
    else some ⟨1, x.at' + 4, Status.badLength, 0⟩

/-- Check 1: format. -/
def check1 (img : List Byte) (len : Nat) : Option LoadFailure :=
  let bad := fun (ok : Bool) (pos : Nat) => unless' ok 1 pos Status.badLength 0
  let n := fieldAt img 6 2
  let xs := sections img
  let known := fun (x : Section) =>
    if isPatch img then x.typ == 0x10 else decide (1 ≤ x.typ) && decide (x.typ ≤ 8)
  firstSome ([bad (magicOk img) 0, bad (fieldAt img 4 2 == 1) 4, bad (decide (1 ≤ n) && decide (n ≤ 64)) 6,
      bad (fieldAt img 8 4 == len && img.length == len) 8, bad (decide (64 + 16 * n + 16 ≤ len)) 6]
    ++ xs.map (fun x => bad (known x || bitOf x.flags 0) x.at')
    ++ xs.map (fun x => bad (decide (x.flags < 2)) (x.at' + 2))
    ++ [layoutCheck (len - 16) (64 + 16 * n) xs]
    ++ (if isPatch img then
          [bad (n == 1 && xs.all (fun x => x.typ == 0x10 && decide (x.len ≤ 16384))) 64]
        else
          xs.map (fun x => bad (!known x || (xs.filter (fun y => y.typ == x.typ)).length == 1) x.at')
          ++ xs.map (fun x => bad (!known x || x.typ == 8 ||
              (if x.typ = 6 then x.len == 0x2C000 else x.len % recordLen x.typ == 0)) (x.at' + 8))))

/-- Check 2: header and section CRCs. -/
def check2 (img : List Byte) : Option LoadFailure :=
  firstSome (unless' (crc32 (img.take 60) == fieldAt img 60 4) 2 60 Status.badCheck 0
    :: (sections img).map (fun x =>
        unless' (crc32 (slice img x.off x.len) == x.crc) 2 (x.at' + 12) Status.badCheck 0))

/-- Check 3: part, stepping and firmware; a patch names the device's firmware exactly and no older revision (R334). -/
def State.check3 (s : State) (img : List Byte) : Option LoadFailure :=
  let bad := fun (ok : Bool) (pos : Nat) => unless' ok 3 pos Status.notPermitted 1
  let rom := fieldAt img 18 2
  firstSome [bad (fieldAt img 12 2 == s.par P.HP_PARTNO) 12, bad (decide (fieldAt img 14 1 ≤ s.par P.HP_STEPPING)) 14,
    bad (if isPatch img then rom == s.par P.HP_ROMVER else decide (rom ≤ s.par P.HP_ROMVER)) 18,
    bad (!isPatch img || decide (s.grist.patchRev ≤ fieldAt img 24 4)) 24]

/-- Check 4: the contract. -/
def check4 (img : List Byte) : Option LoadFailure :=
  unless' (decide (fieldAt img 16 1 ≤ 4) && decide (4 ≤ fieldAt img 17 1)) 4 16 Status.contractMismatch 1

/-- State of a key slot: 0 BLANK, 1 ACTIVE, 2 REVOKED. -/
def State.keySlot (s : State) (k : Nat) : Nat := tblGet 0 s.pwr.keyState k

/-- Some key slot is ACTIVE. -/
def State.anyKey (s : State) : Bool := (List.range 4).any (fun k => s.keySlot k == 1)

/-- Check 5: the key slot and the CMAC tag (R322). -/
def State.check5 (s : State) (img : List Byte) : Option LoadFailure :=
  let k := fieldAt img 15 1
  if s.anyKey = false then none
  else if s.keySlot k ≠ 1 then some ⟨5, 15, Status.authFailed, 2⟩
  else
    let n := img.length - 16
    let key := beBytes 16 (tblGet 0 s.pwr.keys k).toNat
    unless' (aesCmac key (img.take n) == img.drop n) 5 n Status.authFailed 2

/-- The banked block that a RW-LIVE parameter belongs to; shared values and unbanked blocks have none. -/
def liveCode (id inst : Nat) : Option Nat :=
  let b := ownerOf id inst
  if b = 0xFF ∨ b = Fb.ports ∨ b = Fb.wheel ∨ b = Fb.grist ∨ b = Fb.sync ∨ b = Fb.test then none
  else some (bankCode id inst)

/-- Check 6: a parameter record's ID, instance, attribute and block. -/
def check6Rec (img : List Byte) (typ : Nat) (r : ParamRec) : Option LoadFailure :=
  let listed := fun (c : Nat) => (swapMap img).any (fun e => e.2.1 == c)
  let ok := match paramDef? r.id with
    | none => false
    | some d =>
      decide (r.inst < d.count) && r.spare == 0
        && (if typ = 1 then d.attr == .rwShadow && listed (bankCode r.id r.inst)
            else if typ = 2 then d.attr == .rwLive && (match liveCode r.id r.inst with | some c => listed c | none => false)
            else true)
  unless' ok 6 r.at' Status.notPermitted 1

/-- Check 6 over the image's parameter records. -/
def check6 (img : List Byte) : Option LoadFailure :=
  firstSome ([1, 2, 3].flatMap (fun t => (paramRecs img t).map (check6Rec img t)))

/-- Check 7: values in range. -/
def check7 (img : List Byte) : Option LoadFailure :=
  firstSome ([1, 2, 3].flatMap (fun t => (paramRecs img t).map (fun r =>
    unless' (valueOk r.id r.inst r.value) 7 (r.at' + 4) Status.outOfRange 1)))

/-- Check 8: SWAPMAP codes and actions. -/
def check8 (img : List Byte) : Option LoadFailure :=
  let map := swapMap img
  let listed := fun (c : Nat) => map.any (fun e => e.2.1 == c)
  firstSome (map.map (fun e =>
      unless' (isBlockCode e.2.1 && (map.filter (fun x => x.2.1 == e.2.1)).length == 1) 8 e.1 Status.notPermitted 1)
    ++ (actionRecs img).map (fun e =>
      let w := e.2.2
      unless' (actStatus w == Status.ok && actType w != Act.bankSwap && listed (actOwner w)) 8 e.1 Status.notPermitted 1))

/-- Check 9: the rules over the shadow bank (R62, R64, R81, R226), bridge partners, and the sin/cos source. -/
def State.check9 (s : State) (img : List Byte) : Option LoadFailure :=
  let map := swapMap img
  let binOf' := fun (c : Nat) => (map.find? (fun e => e.2.1 == c)).map (fun e => e.2.2)
  let mode := fun (n : Nat) => s.shadowPar P.AC_MODE n
  let cellOk := fun (n : Nat) =>
    let m := mode n
    let high := m == 3 || isOutputMode m
    let safeSet := (paramRecs img 2).any (fun r => r.id == P.AC_SAFE && r.inst == n)
      || (paramRecs img 1).any (fun r => r.id == P.AC_INIT && r.inst == n)
    cellModeLegal mode n && (!high || (s.pwr.avpos && s.pwr.avneg)) && (!isOutputMode m || safeSet)
      && (m != 4 || binOf' n == binOf' (n + 1))
  let cells := (map.map (fun e => e.2.1)).filter (fun c => decide (c < 0x40))
  let partners := cells.filter (fun c => c % 2 == 1)
  let ok := cells.all cellOk
    && partners.all (fun c => mode (c - 1) != 4 || binOf' (c - 1) == binOf' c)
    && ((sectionOf img 6).isNone || Config.planeOk s.fab.shadow.bytes)
    && !(s.par P.WH_SRC == 2 && map.any (fun e =>
        e.2.1 == s.par P.WH_SCCELL || e.2.1 == s.par P.WH_SCCELL + 1 || e.2.1 == 0xA0 + s.par P.WH_SCLANE))
  unless' ok 9 (Config.gristErrPos img) Status.notPermitted 1

/-! ### Swaps that wait for a sample boundary (R312) -/

/-- The block of a swap that waits is told that it is over. -/
def State.swapForget (s : State) (code : Nat) : State :=
  if code < 0x84 then s.setGroup (code - 0x80) { s.group (code - 0x80) with swapDue := false }
  else if code < 0x90 then s.setIc (code - 0x88) { s.ic (code - 0x88) with swapDue := false }
  else if code < 0xC0 then s.setLane (code - 0xA0) { s.lane (code - 0xA0) with swapDue := false }
  else { s with fab := { s.fab with swapDue := false } }

/-- The swap of a block that waits for its boundary is cancelled by a second one. -/
def State.swapCancel (s : State) (code : Nat) : State :=
  (s.swapForget code).setGrist { s.grist with waiting := tblErase s.grist.waiting code }

/-- The swap of a block that waits is made before its boundary (DESIGN CHOICE, log entry 125). -/
def State.swapMake (s : State) (code : Nat) : State :=
  if code < 0x84 then s.sarSwap (code - 0x80)
  else if code < 0x90 then s.icSwap (code - 0x88)
  else if code < 0xC0 then s.laneSwap (code - 0xA0)
  else s.fabSwap

/-- Every swap that waits is made. -/
def State.swapsMake (s : State) : State := (s.grist.waiting.map Prod.fst).foldl State.swapMake s

/-! ### Loads -/
/-- Shadow values of the SHADOW records that end within bytes `a` to `b` of the image: they are written as they arrive. -/
def State.applyShadow (s : State) (img : List Byte) (a b : Nat) : State :=
  (paramRecs img 1).foldl (fun s r =>
    if a < r.at' + 8 ∧ r.at' + 8 ≤ b then
      match paramDef? r.id with
      | some d => if d.attr = .rwShadow ∧ r.inst < d.count then s.setShadow r.id r.inst r.value else s
      | none => s
    else s) s

/-- The FABRIC section's plane. -/
def imagePlane (img : List Byte) : Option Plane :=
  (sectionOf img 6).map (fun x => { loaded := true, bytes := memWriteAll 0 [] 0 (slice img x.off x.len) })

/-- The shadow bank at reset values, the shadow plane cleared, and no block pending (R318). -/
def State.clearShadow (s : State) : State :=
  let s := { s with shadow := [], fab := { s.fab with shadow := {} } }
  s.setGrist { s.grist with pend := [], hostWritten := false }

/-- A load opens (R318, R319), from a port or from Port F (0); a swap that still waits for its boundary is made before it. -/
def State.openLoad (s : State) (port len : Nat) : State :=
  let s := s.swapsMake.clearShadow
  s.setGrist { s.grist with
    state := .loading, port := port, length := len, image := [], lastData := s.t, checking := none, listed := []
    swapped := [], failed := [], due := [], verified := false, part := false, unauth := false, shHeader := [] }

/-- GRIST_OPEN. -/
def State.gristOpen (s : State) (port len : Nat) : State :=
  if s.grist.state ≠ .idle then s.answer Status.busyLocked
  else if len < 96 ∨ 0x100000 < len then s.answer Status.outOfRange
  else (s.openLoad port len).done

/-- GRIST_DATA (R319). -/
def State.gristData (s : State) (port off : Nat) (data : List Byte) : State :=
  let g := s.grist
  if g.state ≠ .loading ∨ g.checking.isSome then s.answer Status.notPermitted
  else if g.port ≠ port then s.answer Status.notOwner
  else if off ≠ g.image.length then s.answer Status.sequenceGap g.image.length
  else if g.length < g.image.length + data.length then s.answer Status.outOfRange
  else
    let img := g.image ++ data
    let s := s.setGrist { g with image := img, lastData := s.t }
    let s := if magicOk img && !isPatch img then s.applyShadow img g.image.length img.length else s
    s.done (leBytes 4 img.length)

/-- GRIST_CLOSE (R319): the checks start. -/
def State.gristClose (s : State) (port : Nat) : State :=
  let g := s.grist
  if g.state ≠ .loading ∨ g.checking.isSome then s.answer Status.notPermitted
  else if g.port ≠ port then s.answer Status.notOwner
  else (s.setGrist { g with checking := some s.t }).answer Status.acceptedPending

/-- GRIST_CLOSE completes (R355). -/
def State.closeAnswer (s : State) (status detail pos : Nat) : State :=
  [1, 2, 3, 4].foldl (fun s port =>
    ((s.session port).slots.filter (fun (p : PendSlot) => p.opcode == 0x22)).foldl
      (fun s p => s.complete port p.seq status (leBytes 4 pos) detail) s) s

/-- The load ends without an image (R320): the shadow bank is to be restored from the live bank. -/
def State.startRestore (s : State) : State :=
  s.setGrist { s.grist with
    state := .restoring, restoreAt := s.t, checking := none, image := [], length := 0, listed := [], verified := false
    reserved := 0, due := [] }

/-- A load fails (R320). -/
def State.loadFail (s : State) (f : LoadFailure) : State :=
  let s := (s.setPar P.GR_ERRCODE 0 f.code).setPar P.GR_ERRPOS 0 f.pos
  let s := (s.bump P.GR_FAILCNT).raise Fb.grist f.det 1
  s.startRestore.closeAnswer f.status f.code f.pos

/-- Entries that ARM needs: the image's actions and a swap for each listed block. -/
def actNeed (img : List Byte) : Nat := (actionRecs img).length + (swapMap img).length

/-- The checks end well for a patch: it is staged, and the banks stay as they were (R334). -/
def State.stagePatch (s : State) (img : List Byte) : State :=
  let code := match sectionOf img 0x10 with
    | some x => slice img x.off x.len
    | none => []
  let s := blockCodes.foldl State.restoreShadow s
  (s.setGrist { s.grist with
    state := .idle, checking := none, image := [], length := 0, staged := code, stagedRev := fieldAt img 24 4
    patchSt := 1 }).closeAnswer Status.ok 0 0

/-- The shadow bank as check 9 sees it (R318): unlisted blocks equal their live bank, listed ones are pending. -/
def State.settleShadow (s : State) (img : List Byte) : State :=
  let codes := (swapMap img).map (fun e => e.2.1)
  let s := (blockCodes.filter (fun c => !codes.contains c)).foldl State.restoreShadow s
  s.setGrist { s.grist with pend := codes }

/-- The checks end well for a grist image. -/
def State.verify (s : State) (img : List Byte) : State :=
  let s := s.setGrist { s.grist with
    state := .verified, checking := none, verified := true, shHeader := img.take 64
    listed := (swapMap img).foldl (fun t e => tblInsert t e.2.1 e.2.2) [] }
  let s := (s.setPar P.GR_SHID 0 (fieldAt img 20 4)).setPar P.GR_SHREV 0 (fieldAt img 24 4)
  let s := (s.setPar P.GR_SHHASH 0 (gristHash img)).setPar P.GR_ACTNEED 0 (actNeed img)
  let s := (s.setPar P.GR_ERRCODE 0 0).setPar P.GR_ERRPOS 0 0
  s.closeAnswer Status.ok 0 0

/-- The checks of a load, in the order of Table 11.5. -/
def State.runChecks (s : State) : State :=
  let img := s.grist.image
  let len := s.grist.length
  match firstSome [check1 img len, check2 img, s.check3 img, check4 img, s.check5 img] with
  | some f => s.loadFail f
  | none =>
    let s := if s.anyKey then s else (s.setGrist { s.grist with unauth := true }).raise Fb.grist 4 1
    if isPatch img then s.stagePatch img
    else
      match firstSome [check6 img, check7 img, check8 img] with
      | some f => s.loadFail f
      | none =>
        let s := s.applyShadow img 0 img.length
        let s := match imagePlane img with
          | some p => { s with fab := { s.fab with shadow := p } }
          | none => s
        let s := s.settleShadow img
        match s.check9 img with
        | some f => s.loadFail f
        | none => s.verify img

/-- GRIST_CHECK_DONE. -/
def State.gristCheckDone (s : State) : State :=
  if s.grist.state = .loading ∧ s.grist.checking.isSome then s.runChecks else s

/-- GRIST_LOAD_TIMEOUT (R321). -/
def State.gristLoadTimeout (s : State) : State :=
  let g := s.grist
  if g.state = .loading ∧ g.checking.isNone ∧ g.port ≠ 0 ∧ g.lastData + msTicks (s.par P.GR_LOADTO) ≤ s.t then
    s.loadFail ⟨10, g.image.length, Status.timeout, 3⟩
  else s

/-- RESTORE_DONE: the shadow bank has been restored from the live bank (Table 11.7). -/
def State.restoreDone (s : State) : State :=
  if s.grist.state = .restoring then
    let s := blockCodes.foldl State.restoreShadow s
    s.setGrist { s.grist with state := .idle, pend := [], hostWritten := false }
  else s

/-! ### Port F (R332, R333, R365) -/

/-- A byte of the flash; an erased byte reads 0xFF. -/
def State.flashBytes (s : State) (a n : Nat) : List Byte := memReadAll 0xFF s.grist.flash a n

/-- A directory entry, when its CRC is right and it is not empty: address, length, type and BOOT (R332). -/
def State.dirEntry (s : State) (k : Nat) : Option (Nat × Nat × Nat × Bool) :=
  let e := s.flashBytes (16 * k) 16
  if crc32 (e.take 12) = fieldAt e 12 4 ∧ fieldAt e 8 1 ≠ 0 then
    some (fieldAt e 0 3, fieldAt e 4 4, fieldAt e 8 1, bitOf (fieldAt e 9 1) 0)
  else none

/-- The directory entry is read: one with a bad CRC is treated as empty and records FLASHDIR (R332). -/
def State.readDir (s : State) (k : Nat) : State :=
  let e := s.flashBytes (16 * k) 16
  if crc32 (e.take 12) = fieldAt e 12 4 then s else s.raise Fb.grist 6 1

/-- A load of a directory entry from Port F: the image is read, and the checks run (R333). -/
def State.flashLoad (s : State) (k : Nat) : State :=
  let s := s.readDir k
  let (a, n) := match s.dirEntry k with
    | some (a, n, _, _) => (a, n)
    | none => (0, 0)
  let s := s.openLoad 0 n
  s.setGrist { s.grist with image := s.flashBytes a (min n 0x100000), checking := some s.t }

/-- Port F loads an image. -/
def State.portFBusy (s : State) : Bool := s.grist.state == .loading && s.grist.port == 0

/-- FLASH_READ. -/
def State.flashRead (s : State) (a n : Nat) : State :=
  if s.portFBusy then s.answer Status.busyLocked
  else if n < 1 ∨ 1020 < n ∨ 2 ^ 24 < a + n then s.answer Status.outOfRange
  else s.done (s.flashBytes a n)

/-- FLASH_ERASE (R365). -/
def State.flashErase (s : State) (port seq a : Nat) : State :=
  if s.portFBusy ∨ s.grist.flashOp.isSome then s.answer Status.busyLocked
  else if a % 4096 ≠ 0 ∨ 2 ^ 24 ≤ a then s.answer Status.outOfRange
  else (s.setGrist { s.grist with flashOp := some { port := port, seq := seq, addr := a } }).answer Status.acceptedPending

/-- FLASH_WRITE (R365). -/
def State.flashWrite (s : State) (port seq a : Nat) (data : List Byte) : State :=
  if s.portFBusy ∨ s.grist.flashOp.isSome then s.answer Status.busyLocked
  else if 2 ^ 24 ≤ a ∨ 256 < a % 256 + data.length then s.answer Status.outOfRange
  else
    (s.setGrist { s.grist with flashOp := some { port := port, seq := seq, addr := a, data := some data } }).answer
      Status.acceptedPending

/-- Bytes programmed into the flash: programming clears bits. -/
def programBytes (m : Mem) (a : Nat) : List Byte → Mem
  | [] => m
  | b :: bs => programBytes (memWrite 0xFF m a (memRead 0xFF m a &&& b)) (a + 1) bs

/-- FLASH_OP_DONE: the status poll reads ready (R365). -/
def State.flashOpDone (s : State) : State :=
  match s.grist.flashOp with
  | none => s
  | some op =>
    let mem := match op.data with
      | some d => programBytes s.grist.flash op.addr d
      | none => s.grist.flash.filter (fun e => !(e.1 / 4096 == op.addr / 4096))
    (s.setGrist { s.grist with flash := mem, flashOp := none }).complete op.port op.seq Status.ok

/-- GRIST_INFO: the header of the live or the shadow image (R362). -/
def State.gristInfo (s : State) (which : Nat) : State :=
  let h := if which = 0 then s.grist.liveHeader else s.grist.shHeader
  s.done (slice h 0 64)

/-- KEY_PROGRAM (R323): the write of a BLANK slot starts. -/
def State.keyProgram (s : State) (k : Nat) : State :=
  if s.keySlot k = 0 ∧ s.pwr.keyDue.any (fun d => d.1 == k) = false then s.answer Status.acceptedPending
  else s.answer Status.notPermitted

/-- KEY_PROGRAM_COMPLETE: the slot becomes ACTIVE. -/
def State.keyProgrammed (s : State) (k : Nat) (key : BitVec 128) : State :=
  { s with pwr := { s.pwr with keyState := tblSet 0 s.pwr.keyState k 1, keys := tblSet 0 s.pwr.keys k key } }

/-! ### Bank swaps (R311, R312) -/

/-- The exchange of a block's banks at its sample boundary; a converter, a lane and the fabric take it at their next one. A
second exchange due at that boundary cancels the first (DESIGN CHOICE, log entry 125). -/
def State.swapBanks (s : State) (code : Nat) (host : Bool) : State :=
  let after := fun (s : State) => if host then s.restoreShadow code else s
  let later := fun (s : State) =>
    s.setGrist { s.grist with waiting := tblSet 0 s.grist.waiting code (if host then 2 else 1) }
  if tblGet 0 s.grist.waiting code ≠ 0 then s.swapCancel code
  else if code < 0x40 then after (s.cellSwap code)
  else if code < 0x80 then after (s.cmpSwap (code - 0x40))
  else if code < 0x84 then
    let g := code - 0x80
    let s := later s
    let s := s.setGroup g { s.group g with swapDue := true }
    if (s.group g).serves then s else s.sarSwap g
  else if code < 0x90 then (later s).icSwapEffect (code - 0x88)
  else if code < 0xC0 then (later s).laneSwapEffect (code - 0xA0)
  else if code = 0xC0 then (later s).fabSwapEffect
  else after (s.exchangeBanks code)

/-- The live bank bit of a block toggles. -/
def State.toggleLive (s : State) (code : Nat) : State :=
  let b := s.grist.liveB
  s.setGrist { s.grist with liveB := if b.contains code then b.filter (fun c => !(c == code)) else b ++ [code] }

/-- A BANK_SWAP effect (R312): a block that is not pending does not change. -/
def State.bankSwap (s : State) (code : Nat) (host : Bool) : State :=
  if s.grist.pend.contains code = false then s
  else
    let s := s.setGrist { s.grist with pend := s.grist.pend.filter (fun c => !(c == code)) }
    (s.swapBanks code host).toggleLive code

/-- A host write of an RW-SHADOW parameter (R311, R313); a shared converter parameter marks G0 (R142). A write while the
block's swap waits for its boundary is swapped in, and the swap clears pending (R48, R312). -/
def State.shadowWrite (s : State) (id inst v : Nat) : State :=
  let s := s.setShadow id inst v
  let c := bankCode id inst
  let g := s.grist
  let kept := g.pend.contains c || tblGet 0 g.waiting c != 0
  s.setGrist { g with pend := if kept then g.pend else g.pend ++ [c], hostWritten := true }

/-! ### The changeover -/

/-- The tag of the bank that is not live for a block. -/
def State.shadowTag (s : State) (code : Nat) : BankTag := if s.grist.liveB.contains code then .bankA else .bankB

/-- The tag of the bank that is live for a block. -/
def State.liveTag (s : State) (code : Nat) : BankTag := if s.grist.liveB.contains code then .bankB else .bankA

/-- The image's actions are posted, each with a tag of its owner's bank. -/
def State.postImage (s : State) (tag : State → Nat → BankTag) : State :=
  (actionRecs s.grist.image).foldl (fun s e => (s.post e.2.2 e.2.1 (tag s (actOwner e.2.2)) false).2) s

/-- The angle engine is in TRACK or COAST. -/
def State.engineRuns (s : State) : Bool := s.eng.state == .track || s.eng.state == .coast

/-- `GR_CTRL` ARM (R325). -/
def State.grArm (s : State) : State :=
  if s.grist.state ≠ .verified ∨ s.engineRuns = false then s.answer Status.notPermitted
  else if s.freeEntries < s.par P.GR_ACTNEED then s.answer Status.noBuffer
  else
    let s := s.postImage State.shadowTag
    let s := s.setGrist { s.grist with state := .armed, reserved := s.grist.listed.length, swapped := [], failed := [], due := [] }
    (s.plan .immediate).done

/-- BANK_SWAPs of the swap controller for blocks, in ascending code, at their swap bins (R326). -/
def State.postSwaps (s : State) (codes : List Nat) : State :=
  let s := s.setGrist { s.grist with reserved := 0, due := codes }
  codes.foldl (fun s c =>
    (s.post (actWord Act.bankSwap true 0 c 0) (tblGet 0 s.grist.listed c) .none true).2) s

/-- The identity of the live image changes (R327, R330). -/
def State.setLiveId (s : State) (x : Nat × Nat × Nat) : State :=
  ((s.setPar P.GR_LIVEID 0 x.1).setPar P.GR_LIVEREV 0 x.2.1).setPar P.GR_LIVEHASH 0 x.2.2

/-- The identity in force. -/
def State.liveId (s : State) : Nat × Nat × Nat := (s.par P.GR_LIVEID, s.par P.GR_LIVEREV, s.par P.GR_LIVEHASH)

/-- `GR_STATUS` (Table 11.9). -/
def State.grStatus (s : State) : Nat :=
  let g := s.grist
  b2n (g.hostWritten && !g.pend.isEmpty && g.state == .idle) + 2 * b2n g.verified + 4 * b2n g.part + 8 * b2n g.unauth
    + 16 * b2n g.lastFailed + 32 * b2n (g.patchSt == 1)

/-- The changeover report (R327): image ID, dual stamp and `GR_STATUS`. -/
def State.changeReport (s : State) : State :=
  let cfg := s.par P.GR_RPTMB
  if bitOf cfg 4 then
    let n := cfg % 8
    (s.mbPost n Sender.grist (leBytes 4 (s.par P.GR_LIVEID) ++ leBytes 6 s.angleStamp ++ leBytes 8 s.t ++ leBytes 4 s.grStatus)
      (mboxOrigin n)).2
  else s

/-- The last listed swap enters SWAPPED (R327, R338). -/
def State.enterSwapped (s : State) : State :=
  let g := s.grist
  let missed := g.listed.any (fun e => !g.swapped.contains e.1)
  let s := s.setGrist { g with
    state := .swapped, swappedAt := s.eng.hwm, oldId := s.liveId, part := missed, liveHeader := g.shHeader
    oldHeader := g.liveHeader, lastFailed := missed }
  (s.setLiveId (s.par P.GR_SHID, s.par P.GR_SHREV, s.par P.GR_SHHASH)).changeReport

/-- A listed block's live bank is copied into its shadow bank: at once, or once a swap that waits for its boundary is
made. -/
def State.restoreTaken (s : State) (code : Nat) : State :=
  if tblGet 0 s.grist.waiting code = 0 then s.restoreShadow code
  else s.setGrist { s.grist with waiting := tblSet 0 s.grist.waiting code 2 }

/-- What commit and the end of a rollback do (R329): grist actions of the other bank are freed, and the listed blocks' live
banks are copied into their shadow banks. -/
def State.commitBanks (s : State) : State :=
  let s := s.unpostAll (fun a => !s.tagOk a)
  let s := (s.grist.listed.map Prod.fst).foldl State.restoreTaken s
  s.setGrist { s.grist with
    state := .idle, image := [], length := 0, listed := [], swapped := [], due := [], verified := false, turning := false
    reserved := 0 }

/-- COMMIT of a SWAPPED changeover (R329); values that host commands wrote before it leave the snapshots (Table 17.6). -/
def State.grCommitNow (s : State) : State :=
  let s := s.commitBanks.bump P.GR_SWAPCNT
  { s with sl := { s.sl with hostLive := [] } }

/-- A rollback revolution ends (R330). -/
def State.endRollback (s : State) : State :=
  let g := s.grist
  let s := s.commitBanks.bump P.GR_RBCNT
  (s.setGrist { s.grist with liveHeader := g.oldHeader }).setLiveId g.oldId

/-- Entry into ROLLBACK (R330): swaps not yet fired are cancelled, and the blocks that have swapped are pending again. -/
def State.enterRollback (s : State) : State :=
  let s := s.unpostAll (fun a => a.ctl)
  let g := s.grist
  let old := if g.state = .swapped then g.oldId else s.liveId
  s.setGrist { g with
    state := .rollback, turning := false, due := [], oldId := old
    oldHeader := if g.state = .swapped then g.oldHeader else g.liveHeader
    pend := g.pend ++ g.swapped.filter (fun c => !g.pend.contains c) }

/-- A listed block fails to swap (R338). -/
def State.swapFail (s : State) (code : Nat) : State :=
  let g := s.grist
  let s := s.setGrist { g with
    failed := if g.failed.contains code then g.failed else g.failed ++ [code], lastFailed := true }
  s.raise Fb.grist 7 2 code

/-- The changeover goes on after failures (R338). -/
def State.afterFail (s : State) : State :=
  if s.grist.state ≠ .swapping then s
  else if s.par P.GR_FAILACT = 0 then s.enterRollback
  else if s.grist.due.isEmpty then s.enterSwapped
  else s

/-- The controller's swap of a block is over: made, or failed. -/
def State.swapOver (s : State) (code : Nat) (made : Bool) : State :=
  let g := s.grist
  let due := g.due.filter (fun c => !(c == code))
  match g.state with
  | .swapping =>
    if made then
      let s := s.setGrist { g with due := due, swapped := g.swapped ++ [code] }
      if due.isEmpty then s.enterSwapped else s
    else ((s.setGrist { g with due := due }).swapFail code).afterFail
  | .rollback =>
    let s := s.setGrist { g with due := due, swapped := g.swapped.filter (fun c => !(c == code)) }
    if due.isEmpty then s.endRollback else s
  | _ => s

/-- The angle engine has left TRACK and COAST for STOPPED, UNREF or HOLD (R338): every block that has still to swap fails;
under CONTINUE its posted swap stays. -/
def State.gristEngineLost (s : State) : State :=
  if s.grist.state = .swapping ∧ s.engineRuns = false then (s.grist.due.foldl State.swapFail s).afterFail else s

/-- A listed block is reset between ARM and commit (R338). -/
def State.gristBlockReset (s : State) (code : Nat) : State :=
  let g := s.grist
  let s := s.setGrist { g with pend := g.pend.filter (fun c => !(c == code)) }
  let listed := g.listed.any (fun e => e.1 == code)
  if listed = false then s
  else
    match g.state with
    | .armed => s.swapFail code
    | .swapping =>
      let s := s.unpostAll (fun a => a.ctl && actTarget a.word == code)
      ((s.setGrist { s.grist with due := s.grist.due.filter (fun c => !(c == code)) }).swapFail code).afterFail
    | .swapped => s.swapFail code
    | _ => s

/-- The step that fires `GR_STARTBIN` under cycle count `cycle` is over (R326, R330). -/
def State.gristStartBin (s : State) (cycle : Nat) : State :=
  let g := s.grist
  match g.state with
  | .armed =>
    let c := s.par P.GR_ARMCYC
    if c = 0xFFFFFFFF ∨ c = cycle then
      let codes := (g.listed.map Prod.fst).filter (fun k => !g.failed.contains k)
      let s := (s.setGrist { g with state := .swapping }).postSwaps codes
      if g.failed.isEmpty then (if codes.isEmpty then s.enterSwapped else s) else s.afterFail
    else s
  | .rollback =>
    if g.turning ∨ s.eng.state ≠ .track then s
    else
      let s := s.setGrist { g with turning := true }
      if g.swapped.isEmpty then s.endRollback
      else s.postSwaps ((g.listed.map Prod.fst).filter (fun k => g.swapped.contains k))
  | _ => s

/-- AUTOCOMMIT (R329). -/
def State.autocommit (s : State) : State :=
  let n := s.par P.GR_AUTOCOMMIT
  if s.grist.state = .swapped ∧ n ≠ 0 ∧ (n * 65536 : Int) ≤ binSub s.eng.hwm s.grist.swappedAt then s.grCommitNow else s

/-- `GR_CTRL` COMMIT. -/
def State.grCommit (s : State) : State :=
  if s.grist.state = .swapped then s.grCommitNow.done else s.answer Status.notPermitted

/-- `GR_CTRL` ROLLBACK. -/
def State.grRollback (s : State) : State :=
  if s.grist.state = .swapped then s.enterRollback.done else s.answer Status.notPermitted

/-- `GR_CTRL` ABORT (R336, R337). -/
def State.grAbort (s : State) : State :=
  match s.grist.state with
  | .loading => (s.closeAnswer Status.notPermitted 0 0).startRestore.done
  | .verified => s.startRestore.done
  | .armed => ((s.unpostAll (fun a => a.tag != .none && !s.tagOk a)).startRestore).done
  | .swapping => s.enterRollback.done
  | _ => s.answer Status.notPermitted

/-- `GR_CTRL` FLASH (R333, Table 11.7). -/
def State.grFlash (s : State) : State :=
  if s.grist.state ≠ .idle then s.answer Status.busyLocked
  else if s.grist.flashOp.isSome then s.answer Status.busyLocked
  else (s.flashLoad (s.par P.GR_FSLOT)).done

/-- `GR_CTRL` KEYREVOKE (R323). -/
def State.grKeyRevoke (s : State) (k : Nat) : State :=
  if 3 < k then s.answer Status.outOfRange
  else if s.keySlot k = 1 ∧ 2 ≤ ((List.range 4).filter (fun j => s.keySlot j == 1)).length then
    ({ s with pwr := { s.pwr with keyState := tblSet 0 s.pwr.keyState k 2 } }).done
  else s.answer Status.notPermitted

/-- `GR_CTRL` 8 clears the grist counters (R341). -/
def State.grClear (s : State) : State :=
  (s.clearPars [(P.GR_SWAPCNT, 0), (P.GR_RBCNT, 0), (P.GR_SWAPSKIP, 0), (P.GR_FAILCNT, 0)]).done

/-- FABRIC_CLOCK_EDGE with the grist block's part: a swap that fails for a corrupt shadow plane is a swap failure, and the
fabric keeps its live bank (R242, R338). -/
def State.fabricClockEdge (s : State) (e : FabEdge) : State :=
  let failed := s.fclkComes && s.fab.swapDue && e.shadowBad
  let s := s.fabEdge e
  if failed then
    let host := tblGet 0 s.grist.waiting 0xC0 == 2
    let s := s.setGrist { s.grist with
      waiting := tblErase s.grist.waiting 0xC0, pend := s.grist.pend ++ [0xC0]
      swapped := s.grist.swapped.filter (fun c => !(c == 0xC0)) }
    let s := s.toggleLive 0xC0
    if host then s
    else
      match s.grist.state with
      | .swapping => (s.swapFail 0xC0).afterFail
      | .swapped => (s.setGrist { s.grist with part := true }).swapFail 0xC0
      | _ => s
  else s

/-- `GR_BLKSTATE` at a block code (Table 11.9). -/
def State.blkState (s : State) (code : Nat) : Nat :=
  let g := s.grist
  if isBlockCode code then
    b2n (g.listed.any (fun e => e.1 == code)) + 2 * b2n (g.pend.contains code) + 4 * b2n (g.liveB.contains code)
      + 8 * b2n (g.swapped.contains code) + 16 * b2n (g.failed.contains code)
  else 0

end Sys2Proof.Machine
end

