-- ==== Sys2Proof/Machine/Husk.lean ====
section
/-! DEFINITION. Husk: the pin map, what drives each general pin, the switching of a pin's function at an edge, the keeper,
and ENC_FLT_N (chapter Husk: balls, pins and function switching). -/

namespace Sys2Proof.Machine

/-- An entry of the pin map (Table 18.5). -/
structure PinEntry where
  func : Nat
  drive : Bool
  fast : Bool
  holdMode : Nat
  arg : Nat
deriving DecidableEq, Repr

/-- The entry a 16-bit word spells; one with a reserved value or bit acts as OFF with the keeper (R538). -/
def pinEntryOf (w : Nat) : PinEntry :=
  let e : PinEntry := { func := bitsOf w 0 3, drive := bitOf w 3, fast := bitOf w 4, holdMode := bitsOf w 5 2,
                        arg := bitsOf w 8 6 }
  if 5 < e.func ∨ e.holdMode = 3 ∨ bitOf w 7 = true ∨ bitsOf w 14 2 ≠ 0 then
    { func := 0, drive := false, fast := false, holdMode := 0, arg := 0 }
  else e

/-- The word of GP`p` in the live plane (R537). -/
def State.pinWord (s : State) (p : Nat) : Nat :=
  (memRead 0 s.fab.live.bytes (0x2BF00 + 2 * p)).toNat + 256 * (memRead 0 s.fab.live.bytes (0x2BF00 + 2 * p + 1)).toNat

/-- The entry of GP`p` in force. -/
def State.pinEntry (s : State) (p : Nat) : PinEntry := pinEntryOf (s.pinWord p)

/-- General pin `p`. -/
def State.pin (s : State) (p : Nat) : Pin := tblGet {} s.pins p

/-- The state with general pin `p` set. -/
def State.setPin (s : State) (p : Nat) (x : Pin) : State := { s with pins := tblSet {} s.pins p x }

/-- Level and enable that the pin's function gives it (Table 18.6); a standby and the hold of a take-over (R517, R522,
R550) change them. -/
def State.pinFunction (s : State) (p : Nat) : Bool × Bool :=
  let e := s.pinEntry p
  if e.func = 1 then
    match s.sl.heldPins with
    | some (o, oe) => (o.getLsbD p, oe.getLsbD p)
    | none => (s.gpoLines.getLsbD p, s.fab.gpoe.getLsbD p && !s.isStandby)
  else if e.func = 2 ∨ e.func = 4 ∨ e.func = 5 then
    let level := if e.func = 2 then s.tmLevel e.arg else e.func == 5
    (level, !(s.isStandby || s.sl.held))
  else (false, false)

/-- A safe drive applies to the pin (R480, R515, R548): in Halt to every pin; in SAFE of the fabric, or a halted ring, to
FAB pins; in SAFE of its timer to a TMOUT pin. -/
def State.pinSafe (s : State) (p : Nat) : Bool :=
  let e := s.pinEntry p
  s.flt.halted || (e.func == 1 && (s.fab.state == .safe || s.sl.state == .halted))
    || (e.func == 2 && (s.timer e.arg).state == .safe)

/-- Level and enable of the pin's safe drive, `FLT_GPSAFE` (Table 16.6). -/
def State.safeLevel (s : State) (p : Nat) : Bool × Bool :=
  let g := s.par P.FLT_GPSAFE p
  if g = 0 then (s.pin p).safe.getD (false, false)
  else if g = 1 then (false, true)
  else if g = 2 then (true, true)
  else (false, false)

/-- Level and enable of general pin `p`: off during a device reset (R542), by the boundary register under R586, by the safe
table, by the hold register between a switch and the first valid drive (R544), else by its function. -/
def State.pinDrive (s : State) (p : Nat) : Bool × Bool :=
  if s.pwr.phase ≠ .running then (false, false)
  else if s.tst.isolated then
    if s.tst.ir = 0x04 then (false, false) else (bitOf s.tst.boundary (3 * p + 1), bitOf s.tst.boundary (3 * p + 2))
  else if s.pinSafe p then
    let d := s.safeLevel p
    (d.1, d.2 && !s.isStandby)
  else match (s.pin p).hold with
    | some d => d
    | none => s.pinFunction p

/-- The level of the ball of general pin `p` that nothing outside drives (R542). -/
def State.pinLevel (s : State) (p : Nat) : Bool :=
  let d := s.pinDrive p
  if d.2 then d.1
  else if s.pwr.phase ≠ .running then false
  else
    let m := (s.pinEntry p).holdMode
    if m = 0 then (s.pin p).keeper else m == 1

/-- ENC_FLT_N is asserted: a pin of function ENCFLT reads low, three TCLK edges after its switch at the earliest (R541,
R546). -/
def State.encfltPins (s : State) : Bool :=
  (List.range 48).any (fun p =>
    (s.pinEntry p).func == 3 && !(s.pin p).input
      && (match (s.pin p).since with
          | none => true
          | some e => decide (e + 3 ≤ s.t)))

/-- ENC_FLT_N follows the pins. -/
def State.encfltUpdate (s : State) : State :=
  let a := s.encfltPins
  if a = s.eng.encFault then s else s.encFlt a

/-- One pin across an edge that may have switched its function, begun or ended a safe drive, or turned its driver off
(R544–R549). `s0` is the state just before the edge. -/
def State.huskPin (s0 s : State) (p : Nat) : State :=
  let d0 := s0.pinDrive p
  let x := s.pin p
  let x :=
    if s0.pinWord p ≠ s.pinWord p then
      { x with hold := some d0
               since := if (s.pinEntry p).func = 3 then some s.t else none
               input := if (s.pinEntry p).func = 3 then true else x.input }
    else x
  let x :=
    if s.pinSafe p then (if s0.pinSafe p then x else { x with safe := some d0 })
    else if s0.pinSafe p then { x with safe := none, hold := some d0 }
    else x
  let s := if x = s.pin p then s else s.setPin p x
  if d0.2 ∧ (s.pinDrive p).2 = false then s.setPin p { x with keeper := d0.1 } else s

/-- Every general pin across an edge (R543). -/
def State.husk (s0 s : State) : State :=
  ((List.range 48).foldl (fun s p => s0.huskPin s p) s).encfltUpdate

/-- The first valid drive of the pins that wait for it (Table 18.7): FAB pins at an FCLK edge, the others at a TCLK
edge. -/
def State.firstDrive (s : State) (fab : Bool) : State :=
  if (s.pins.any (fun e => e.2.hold.isSome)) = false then s
  else
    (s.pins.map Prod.fst).foldl (fun s p =>
      match (s.pin p).hold with
      | none => s
      | some d =>
        if ((s.pinEntry p).func == 1) == fab then
          let s := s.setPin p { s.pin p with hold := none }
          if (s.pinDrive p).2 then s else s.setPin p { s.pin p with keeper := d.1 }
        else s) s

/-- One TCLK edge of the pin ring: first valid drives, and ENCFLT pins whose synchroniser has filled (R546). -/
def State.pinsTick (s : State) : State :=
  let s := s.firstDrive false
  if s.pins.any (fun e => decide (e.2.since = some (s.t - 3))) then s.encfltUpdate else s

/-- ENCFLT_PIN_CHANGE: a pin of function ENCFLT changes level, and ENC_FLT_N follows it (R541). -/
def State.encfltPinChange (s : State) (p : Nat) (level : Bool) : State :=
  if (s.pinEntry p).func = 3 then (s.setPin p { s.pin p with input := level }).encfltUpdate else s

/-- The core's drive of SL_BYP_N: high only while the device is powered, out of reset and has `SL_ENABLE` at 1 (R507). -/
def State.slBypCore (s : State) : Bool := s.pwr.phase == .running && s.par P.SL_ENABLE == 1

/-- The level of ball SL_BYP_N: low in every reset and without its supply VIO_B; the core's drive, or, while boundary scan holds the balls, the boundary
register's (R586); the board pulls it low where nothing drives it (R507). Its cells are 200, output, and 201, control (R584). -/
def State.slBypN (s : State) : Bool :=
  if s.pwr.phase ≠ .running ∨ s.pwr.vioB = false then false
  else if s.tst.isolated then s.tst.ir != 0x04 && bitOf s.tst.boundary 200 && bitOf s.tst.boundary 201 else s.slBypCore

/-- The capture stage of the boundary register (R584). Of general pin p, in cells 3p to 3p + 2: the ball's level, then level
and enable of the core's drive. Of SL_BYP_N: the core's drive, always enabled. The other balls' cells take what the tester's
capture gives. -/
def State.boundaryCapture (s : State) (balls : Nat) : Nat :=
  let others := balls / 2 ^ 202 * 2 ^ 202 + balls % 2 ^ 200 / 2 ^ 144 * 2 ^ 144
  (List.range 48).foldl (fun b p =>
    let d := s.pinDrive p
    b + b2n (bitOf balls (3 * p)) * 2 ^ (3 * p) + b2n d.1 * 2 ^ (3 * p + 1) + b2n d.2 * 2 ^ (3 * p + 2))
    (others + b2n s.slBypCore * 2 ^ 200 + 2 ^ 201)

end Sys2Proof.Machine
end

