-- ==== Sys2Proof/Machine/FaultLog.lean ====
section
/-! DEFINITION. Fault state beside the blocks: pending bits, captures, grace timers and acknowledgement, the fault log and
the overflow log (chapter Faults: detection, capture and escalation). Reactions stand in `Faults`. -/

namespace Sys2Proof.Machine

/-- The 32 bytes of a capture record or log entry (Table 16.4). -/
def FaultRec.bytes (r : FaultRec) : List Byte :=
  leBytes 1 r.blk ++ leBytes 1 r.det
    ++ leBytes 1 (r.cls % 8 + 8 * b2n r.escalated + 16 * b2n r.conseq + 32 * b2n r.graceMark + 64 * b2n r.injected
        + 128 * b2n r.autoAck)
    ++ leBytes 1 r.detCls ++ leBytes 1 r.master ++ leBytes 1 r.access ++ leBytes 1 r.form ++ leBytes 1 0
    ++ leBytes 4 r.addr ++ leBytes 6 r.angle ++ leBytes 8 r.time ++ leBytes 2 r.seq ++ leBytes 4 r.value

/-- The sticky parameters and bit of a detector (R465, R467): the instances of the block. -/
def stickyBits (b d inst : Nat) : List (Nat × Nat × Nat) :=
  if b < 0x40 then [(P.AC_STICKY, b, d)]
  else if b < 0x80 then [(P.CMP_STICKY, b - 0x40, d)]
  else if b < 0xC0 then [(P.TM_STICKY, b - 0x80, d)]
  else if b < 0xE0 then [(P.FL_STICKY, b - 0xC0, d)]
  else if b < 0xE4 then [(P.SAR_STICKY, b - 0xE0, d)]
  else if b < 0xEC then [(P.IC_STICKY, b - 0xE4, d)]
  else if b = Fb.fabric then [(P.FAB_STICKY, 0, d)]
  else if b = Fb.wheel then [(P.WH_STICKY, 0, d)]
  else if b = Fb.kiln then [(P.KL_STICKY, 0, d)]
  else if b = Fb.cal then [(P.CAL_STICKY, 0, d)]
  else if b = Fb.grist then [(P.GR_STICKY, 0, d)]
  else if b = Fb.streams then
    if d < 4 then [(P.MB_STICKY, inst, d)]
    else if d = 11 then (List.range 64).map (fun n => (P.ST_STICKY, n, 3))
    else [(P.ST_STICKY, inst, d - 8)]
  else if b = Fb.ports then [(P.HP_PSTICKY, 0, d)]
  else if b = Fb.sync then [(P.SL_STICKY, 0, d)]
  else if b = Fb.hopper then [(P.FLT_STICKY, 0, d)]
  else if b = Fb.supply then [(P.TST_SUPSTICKY, 0, d)]
  else if b = Fb.faults then [(P.FLT_STICKY, 1, d)]
  else if b = Fb.test then [(P.TST_STICKY, 0, d)]
  else []

/-- The highest class with a pending bit, 0 for none. -/
def FaultBlock.highest (f : FaultBlock) : Nat := if f.pendC then 3 else if f.pendB then 2 else if f.pendA then 1 else 0

/-- The highest pending class that a grace timer serves: B or C (R473). -/
def FaultBlock.serves (f : FaultBlock) : Nat := if f.pendC then 3 else if f.pendB then 2 else 0

/-- The pending bit of class `k`. -/
def FaultBlock.isPending (f : FaultBlock) (k : Nat) : Bool :=
  if k = 1 then f.pendA else if k = 2 then f.pendB else if k = 3 then f.pendC else false

/-- The pending bit of class `k` set or cleared. -/
def FaultBlock.setPending (f : FaultBlock) (k : Nat) (v : Bool) : FaultBlock :=
  if k = 1 then { f with pendA := v } else if k = 2 then { f with pendB := v }
  else if k = 3 then { f with pendC := v } else f

/-- Hopper can accept commands: not restarting, and `HP_DEVSTATE` reports READY (R474). -/
def State.hopperAccepts (s : State) : Bool := s.hopperUp && s.pwr.step == .ready

/-- The fault parameter of block `b` among four definitions of 64 instances (R497). -/
def fltPar (id b : Nat) : Nat × Nat := (id + b / 64, b % 64)

/-- `FLT_GRACE` of block `b`, in ticks. -/
def State.graceTicks (s : State) (b : Nat) : Nat := usTicks (s.par (fltPar P.FLT_GRACE0 b).1 (fltPar P.FLT_GRACE0 b).2)

/-- A grace timer started anew: it counts while Hopper can accept commands (R473, R474). -/
def State.newGrace (s : State) (b : Nat) : GraceTimer :=
  if s.hopperAccepts then .running (s.t + s.graceTicks b) else .held (s.graceTicks b)

/-- Every grace timer stops counting: Hopper can no longer accept commands (R474). -/
def State.holdGrace (s : State) : State :=
  { s with flt := { s.flt with blocks := s.flt.blocks.map (fun e =>
      match e.2.grace with
      | .running due => (e.1, { e.2 with grace := .held (due - s.t) })
      | _ => e) } }

/-- Every grace timer counts on from the value it held (R474). -/
def State.resumeGrace (s : State) : State :=
  { s with flt := { s.flt with blocks := s.flt.blocks.map (fun e =>
      match e.2.grace with
      | .held left => (e.1, { e.2 with grace := .running (s.t + left) })
      | _ => e) } }

/-- `FLT_GREM`: grace time left, in µs (R497). -/
def State.graceLeft (s : State) (b : Nat) : Nat :=
  match (s.fb b).grace with
  | .off => 0
  | .running due => openDiv 20 (due - s.t) 100
  | .held left => openDiv 20 left 100

/-- Blocks with a fault of some class unacknowledged, ascending. -/
def State.faulty (s : State) : List Nat := (s.flt.blocks.filter (fun e => e.2.highest != 0)).map Prod.fst

/-- The highest unacknowledged class over all blocks, 0 for none. -/
def State.highestFault (s : State) : Nat := s.flt.blocks.foldl (fun m e => max m e.2.highest) 0

/-! ### The log -/

/-- Positions of the RAM log in use (R491). -/
def State.logCapacity (s : State) : Nat := 512 - s.flt.retired

/-- An entry reaches the overflow log, which keeps four; a further one is lost, which records OVFLOST at the start of its
episode (R466, R492). An OVFLOST record makes no overflow entry. -/
def State.toOverflow (s : State) (r : FaultRec) : State :=
  if r.blk = Fb.faults ∧ r.det = 1 then s
  else if s.flt.overflow.length < 4 then { s with flt := { s.flt with overflow := s.flt.overflow ++ [r] } }
  else
    let s := s.bump P.FLT_LOGLOSS
    if s.flt.ovfLost then s
    else
      let s : State := { s with flt := { s.flt with ovfLost := true } }
      s.ask { blk := Fb.faults, det := 1, cls := 1, addr := stateAddr Fb.faults 0, inst := 1 }

/-- A position of the RAM log fails (R491, R493): its entry goes to the overflow log, the position is retired, and LOGMEM
is recorded; the seventeenth failure abandons the RAM log instead. -/
def State.logFails (s : State) (r : FaultRec) : State :=
  let s := (s.bump P.FLT_LOGLOSS).toOverflow r
  let raise := fun (s : State) (d k : Nat) =>
    s.ask { blk := Fb.faults, det := d, cls := k, addr := stateAddr Fb.faults 0, inst := 1 }
  if s.flt.retired = 16 then raise s 2 3
  else raise { s with flt := { s.flt with retired := s.flt.retired + 1 } } 0 2

/-- An entry is written to the RAM log (R485): a full log overwrites its oldest entry, or with STOP refuses. -/
def State.toRam (s : State) (r : FaultRec) : State :=
  if s.flt.logBad then
    let s : State := { s with flt := { s.flt with logBad := false
                                                  log := if s.flt.log.length < s.logCapacity then s.flt.log else s.flt.log.drop 1 } }
    s.logFails r
  else if s.flt.log.length < s.logCapacity then { s with flt := { s.flt with log := s.flt.log ++ [r] } }
  else
    let s := s.bump P.FLT_LOGOVR
    if s.par P.FLT_LOGMODE = 1 then s else { s with flt := { s.flt with log := s.flt.log.drop 1 ++ [r] } }

/-- Every record is logged, counted and traced (R484, R485, R491; Table 20.2). -/
def State.logRecord (s : State) (r : FaultRec) : State :=
  let seq := s.par P.FLT_LOGSEQ
  let r := { r with seq := seq % 65536 }
  let f := fltPar P.FLT_FCNT0 r.blk
  let s := ((s.bump P.FLT_LOGSEQ).bump f.1 f.2).bump P.FLT_CLASSCNT (r.cls - 1)
  let s := if r.conseq then s else s.setPar P.FLT_LAST 0 (r.blk + 256 * r.det + 65536 * r.cls)
  let s := s.trace 0x04 r.blk (some (leBytes 1 r.det ++ slice r.bytes 2 1 ++ leBytes 2 r.seq ++ List.replicate 10 0))
  if s.flt.logOff ∨ (r.blk = Fb.faults ∧ r.det = 0) then s.toOverflow r else s.toRam r

/-- A RAM entry fails its ECC check at a read (R491). -/
def State.logReadFails (s : State) (i : Nat) : State :=
  match s.flt.log[i]? with
  | none => s
  | some r =>
    let s : State := { s with flt := { s.flt with log := s.flt.log.take i ++ s.flt.log.drop (i + 1) } }
    s.logFails r

/-- LOG_CLEAR: both logs are emptied, and `FLT_LOGSEQ` counts on (R484). -/
def State.logEmpty (s : State) : State :=
  { s with flt := { s.flt with log := [], overflow := [], ovfLost := false } }

/-- Entries that LOG_READ returns from an index on: the RAM log, or from 0xFF00 the overflow log (R484); `none` where the
request runs beyond the entries held. -/
def State.logEntries (s : State) (first count : Nat) : Option (List FaultRec) :=
  let (l, i) := if 0xFF00 ≤ first then (s.flt.overflow, first - 0xFF00) else (s.flt.log, first)
  if i + count ≤ l.length then some ((l.drop i).take count) else none

/-! ### Acknowledgement -/

/-- What an acknowledgement of class B ends: degraded forms tied to it (R475), and the exclusion of die sensors (R254). -/
def State.endDegraded (s : State) (b : Nat) : State :=
  let s := s.setFb b { s.fb b with degraded := [] }
  if b = Fb.kiln then
    { s with kiln := { s.kiln with sensors := s.kiln.sensors.map (fun e => (e.1, { e.2 with valid := true, bad := 0 })) } }
  else s

/-- The acknowledgement of one class of one block (R475). -/
def State.ackClass (s : State) (b k : Nat) : State :=
  let f := s.fb b
  if f.isPending k = false then s
  else
    let s := s.setFb b (f.setPending k false)
    let s := if k = 2 then s.endDegraded b else s
    let f := s.fb b
    let f := if f.serves = 0 then { f with served := 0, grace := .off }
             else { f with served := f.serves, grace := s.newGrace b }
    let s := s.setFb b (if f.highest = 0 then { f with capture := none } else f)
    let m := fltPar P.FLT_MORE0 b
    let s := if f.highest = 0 then s.setPar m.1 m.2 0 else s
    let s := s.bump P.FLT_ACKCNT
    if s.faulty.isEmpty then s.setPar P.FLT_FIRST 0 0 else s

/-- FAULT_ACK, or `FLT_CTRL` ACK: refused for a class with no unacknowledged fault (Table 12.14). -/
def State.faultAck (s : State) (b k : Nat) : State :=
  if 0xF8 ≤ b then s.answer Status.badTarget
  else if k = 0 ∨ 3 < k then s.answer Status.outOfRange
  else if (s.fb b).isPending k then (s.ackClass b k).done
  else s.answer Status.notPermitted

/-- `FLT_CTRL` ACKALL (R497). -/
def State.ackAll (s : State) : State :=
  (s.faulty.foldl (fun s b => ((s.ackClass b 1).ackClass b 2).ackClass b 3) s).done

/-- `FLT_CTRL` 4 clears the counters R497 names. -/
def State.fltClear (s : State) : State :=
  let blocks := (List.range 0xF8).map (fltPar P.FLT_FCNT0)
  (s.clearPars (blocks ++ [(P.FLT_LOGOVR, 0), (P.FLT_CONSCNT, 0), (P.FLT_ESCCNT, 0), (P.FLT_GRCCNT, 0),
    (P.FLT_ACKCNT, 0), (P.FLT_CLASSCNT, 0), (P.FLT_CLASSCNT, 1), (P.FLT_CLASSCNT, 2), (P.FLT_CLASSCNT, 3),
    (P.FLT_HPECC, 0), (P.FLT_HPRSTF, 0), (P.FLT_INJCNT, 0)])).done

/-- A write of `FLT_CTRL`: command [7:0], fault block [15:8], class [19:16] (R497). -/
def State.fltCtrl (s : State) (v : Nat) : State :=
  let c := bitsOf v 0 8
  if c = 1 then s.faultAck (bitsOf v 8 8) (bitsOf v 16 4)
  else if c = 2 then s.ackAll
  else if c = 3 then s.logEmpty.done
  else s.fltClear

/-- The capture of a block; 32 bytes of 0 where it is empty (R477). -/
def State.captureBytes (s : State) (b : Nat) : List Byte :=
  match (s.fb b).capture with
  | some r => r.bytes
  | none => List.replicate 32 0

/-- FAULT_SUMMARY: one nibble per fault block, lower nibble first (Table 12.14). -/
def State.faultNibbles (s : State) : List Byte :=
  (List.range 128).map (fun i => BitVec.ofNat 8 ((s.fb (2 * i)).highest + 16 * (s.fb (2 * i + 1)).highest))

/-- A window is open (R488). -/
def State.windowOpen (s : State) (b : Nat) : Bool :=
  match (s.fb b).window with
  | .closed => false
  | .opened _ => true
  | .closing c _ => decide (s.t < c)

/-- `FLT_PEND` of a block (Table 16.9). -/
def State.pendWord (s : State) (b : Nat) : Nat :=
  let f := s.fb b
  b2n f.pendA + 2 * b2n f.pendB + 4 * b2n f.pendC + 8 * b2n (f.grace != .off) + 16 * b2n (s.windowOpen b)
    + 32 * b2n f.capture.isSome

/-- FAULT_N is low: in Halt, or with `FLT_FNCFG` on an unacknowledged class C fault (R481, R483). -/
def State.faultNLow (s : State) : Bool := s.flt.halted || (s.par P.FLT_FNCFG == 1 && s.highestFault == 3)

/-- `FLT_STATE` (Table 16.9). -/
def State.fltState (s : State) : Nat :=
  s.highestFault + 256 * s.faulty.length + 65536 * b2n (s.flt.retired != 0) + 131072 * b2n s.flt.logOff
    + 262144 * b2n s.faultNLow

end Sys2Proof.Machine
end

