-- ==== Sys2Proof/Machine/ReadParam.lean ====
section
/-! DEFINITION. Reads of parameters: the values that block state gives RO parameters, the reads that latch or advance
something, and the attention sources (chapter The parameter space; R418). -/

namespace Sys2Proof.Machine

/-! ### Attention -/

/-- `HP_IRQSTAT` (R418, R437, R455, R483). -/
def State.irqStat (s : State) : Nat :=
  let cmp := (List.range 64).any (fun n => s.par P.CMP_EVENT n == 1 && s.par P.CMP_IRQEN n == 1)
  let reply := s.hp.s1.unread || !(s.session 2).ready.isEmpty
  let mail := (List.range 8).any (fun n => s.toHost n && bitOf (s.par P.MB_IRQEN) n && (s.mbox n).msg.isSome)
  let fault := decide (s.par P.FLT_IRQMIN ≤ s.highestFault)
  b2n cmp + 2 * b2n reply + 4 * b2n mail + 8 * b2n (s.attnRings != 0) + 16 * b2n fault + 32 * b2n s.hp.ptp.changed

/-- IRQ_N is low: an enabled source is pending, or the device is in Halt (R418, R481). Bit [0] is always enabled. -/
def State.irqLow (s : State) : Bool :=
  s.flt.halted || decide (s.irqStat &&& (s.par P.HP_IRQEN 0 ||| 1) ≠ 0)

/-! ### Ports -/

/-- The number of a port in `HP_OWNER` and Table 16.5. -/
def portCode : HostPort → Nat
  | .s1 => 1
  | .s2 => 2
  | .u => 3
  | .e => 4

/-- Port `p` (1–4) holds write ownership. -/
def State.owns (s : State) (p : Nat) : Bool := s.par P.HP_OWNER == p

/-- `HP_PSTATUS` of the port with instance `i` (Table 14.9). -/
def State.portStatus (s : State) (i : Nat) : Nat :=
  let x := s.session (i + 1)
  b2n (s.hp.links.contains (i + 1)) + 2 * b2n x.isOpen + 4 * b2n (s.owns (i + 1)) + 8 * b2n x.personality

/-- Codes of the PTP states (Table 14.6). -/
def PtpState.code : PtpState → Nat
  | .disabled => 0
  | .listening => 1
  | .uncalibrated => 2
  | .slave => 3
  | .faulty => 4

/-- The MAC address of Port E: 0 where its OTP word was lost (R581). -/
def State.mac (s : State) : Nat := if s.pwr.otpBadMac then 0 else Config.otpMac.toNat

/-- Address, mask and gateway in force, 0 for none (R411). -/
def State.address (s : State) : Nat × Nat × Nat :=
  if s.par P.HP_EIPMODE = 0 then
    if s.par P.HP_EIP = 0 then (0, 0, 0) else (s.par P.HP_EIP, s.par P.HP_EMASK, s.par P.HP_EGW)
  else match s.hp.eth.lease with
    | some l => (l.ip, l.mask, l.gw)
    | none => (0, 0, 0)

/-- `HP_EIPNOW`: address, mask, gateway, lease left in s. -/
def State.eipNow (s : State) (i : Nat) : Nat :=
  if i = 0 then s.address.1
  else if i = 1 then s.address.2.1
  else if i = 2 then s.address.2.2
  else if s.par P.HP_EIPMODE = 0 then 0
  else match s.hp.eth.lease with
    | some l => openDiv 21 (l.expiry - s.t) 100000000
    | none => 0

/-! ### Sync link -/

/-- Codes of the device states (Table 17.2). -/
def SlState.code : SlState → Nat
  | .off => 0
  | .search => 1
  | .locking => 2
  | .synced => 3
  | .hold => 4
  | .halted => 5

/-- `SL_STATE` (Table 17.9). -/
def State.slStateWord (s : State) : Nat :=
  s.sl.state.code + 256 * b2n s.sl.holdHash + 512 * b2n s.sl.holdContract + 1024 * b2n s.sl.holdPair

/-- The ring state of Table 17.3. DEDUCED (log entry 132): an originator without returning frames shows FORMING, CLOSED being
clear, and not DOWN. -/
def State.ringState (s : State) : Nat :=
  if s.sl.state = .off ∨ (s.sl.framed = false ∧ s.sl.originates = false) then 0
  else if s.sl.haltSeen then 3
  else if s.sl.closed ∧ s.sl.reform = false then 2
  else 1

/-- `SL_SNAPAGE`: cycles since the committed snapshot's stamp, bytes 8–13 of its header (Table 17.6). -/
def State.snapAge (s : State) : Nat :=
  match s.sl.committed with
  | none => 0
  | some b => ((stampSub s.angleStamp (fieldAt b 8 6)).toNat) / 2 ^ 24

/-! ### Test and trace -/

/-- `TST_STATE` (Table 20.4). -/
def State.tstState (s : State) : Nat :=
  b2n s.tst.testMode + 2 * b2n (!s.tst.testPinN) + 4 * b2n s.tst.running + 8 * b2n s.tst.testLock
    + 16 * s.par P.TST_AUTHFAIL + 64 * b2n s.tst.isolated

/-! ### Values -/

/-- Parameters of the device, session, port and command layers that block state gives. -/
def State.readPort (s : State) (port id inst : Nat) : Option Nat :=
  if id = P.HP_GRADE then some (b2n Config.otpGrade)
  else if id = P.HP_UID then some (if inst = 0 then Config.otpUid.toNat % 2 ^ 32 else Config.otpUid.toNat / 2 ^ 32)
  else if id = P.HP_DEVSTATE then some (b2n (s.pwr.step == .ready))
  else if id = P.HP_TIMEL then some (s.t % 2 ^ 32)
  else if id = P.HP_TIMEH then some s.hp.timeLatch
  else if id = P.HP_SELF then some port
  else if id = P.HP_GRPCNT then some (s.session (inst + 1)).group.length
  else if id = P.HP_SESSION then some (b2n (s.session (inst + 1)).isOpen + 16 * (s.session (inst + 1)).contract)
  else if id = P.HP_EXPSEQ then some (s.session (inst + 1)).expSeq
  else if id = P.HP_PSTATUS then some (s.portStatus inst)
  else if id = P.HP_EMAC then some (if inst = 0 then s.mac % 2 ^ 32 else s.mac / 2 ^ 32)
  else if id = P.HP_EIPNOW then some (s.eipNow inst)
  else if id = P.HP_PTPSTATE then some s.hp.ptp.state.code
  else if id = P.HP_PTPOFSL then some (wrapTo 64 s.hp.ptp.ofs % 2 ^ 32)
  else if id = P.HP_PTPOFSH then some s.hp.ofsLatch
  else if id = P.HP_PTPDELAY then some (wrapTo 32 s.hp.ptp.delay)
  else if id = P.HP_PTPRATE then some (wrapTo 32 (openDivI 22 s.hp.ptp.rate 1000))
  else if id = P.HP_IRQSTAT then some s.irqStat
  else if id = P.HP_IRQEN then some (if inst = 0 then s.lastPar id inst ||| 1 else s.lastPar id inst)
  else none

/-- Parameters of the Wheel, cells, comparators and SAR groups that block state gives. -/
def State.readMachine (s : State) (id inst : Nat) : Option Nat :=
  if id = P.WH_STATE then some s.eng.state.code
  else if id = P.WH_STATUS then some s.whStatus
  else if id = P.WH_ANGLE then some s.angleWord
  else if id = P.WH_CYCLE then some s.cycle
  else if id = P.WH_SPEED then some (wrapTo 32 s.speed)
  else if id = P.WH_HWM then some (if inst = 0 then s.eng.hwm.toNat % 65536 else s.eng.hwm.toNat / 65536)
  else if id = P.WH_FREE then some s.freeEntries
  else if id = P.AC_STATE then some (s.cell inst).state.code
  else if id = P.AC_STATUS then some (s.acStatus inst)
  else if id = P.AC_OUT then some (s.cell inst).code.toNat
  else if id = P.AC_SUPPLY then some (b2n s.pwr.avpos + 2 * b2n s.pwr.avneg)
  else if id = P.CMP_STATE then some (s.cmp inst).state.code
  else if id = P.CMP_STATUS then some (s.cmpStatus inst)
  else if id = P.SAR_STATE then some (s.group inst).state.code
  else if id = P.SAR_STATUS then some (s.sarStatus inst)
  else if id = P.SAR_SLICE then some (s.sarSliceWord (inst / 5) (inst % 5))
  else if id = P.IC_STATE then some (s.ic inst).state.code
  else if id = P.IC_STATUS then some (s.icStatus inst)
  else if id = P.IC_MSTATE then some (if inst = 0 then s.mains.state.code else 0)
  else if id = P.IC_MPER then some (if inst = 0 then s.icMper else 0)
  else if id = P.FL_STATE then some (s.lane inst).state.code
  else if id = P.FL_STATUS then some (s.flStatus inst)
  else if id = P.FL_DCM then some (wrapTo 32 ((s.lane inst).dc / 64))
  else if id = P.FL_DELAY then some (laneDelay (s.par P.FL_MODE inst) (s.par P.FL_DEC inst))
  else if id = P.FL_SCAMP then some (s.lane inst).scAmp
  else if id = P.FL_SCANG then some (s.lane inst).scAngle
  else none

/-- Parameters of the fabric, timers, Kiln, calibration, the grist block, mailboxes and streams that block state gives. -/
def State.readBlocks (s : State) (id inst : Nat) : Option Nat :=
  if id = P.FAB_STATE then some s.fab.state.code
  else if id = P.FAB_STATUS then some s.fabStatus
  else if id = P.FAB_CFGID then some s.fabCfgId
  else if id = P.FAB_SWOUT then some s.fab.swout.toNat
  else if id = P.FAB_GPOUT then some (if inst = 0 then s.gpoLines.toNat % 2 ^ 32 else s.gpoLines.toNat / 2 ^ 32)
  else if id = P.FAB_RAMDAT then some (s.ramWord inst (s.par P.FAB_RAMADR inst)).toNat
  else if id = P.TM_STATE then some (s.timer inst).state.code
  else if id = P.TM_CNT then some (s.timer inst).cnt
  else if id = P.TM_LASTANG then some ((s.timer inst).last.1 % 2 ^ 24)
  else if id = P.TM_LASTCYC then some ((s.timer inst).shown.1 / 2 ^ 24)
  else if id = P.TM_LASTTL then some ((s.timer inst).shown.2 % 2 ^ 32)
  else if id = P.TM_LASTTH then some ((s.timer inst).shown.2 / 2 ^ 32)
  else if id = P.KL_STATE then some s.kiln.state.code
  else if id = P.KL_STATUS then some s.klStatus
  else if id = P.KL_TNOW then some (wrapTo 32 s.tNow)
  else if id = P.KL_TSENS then
    some (if (tblGet {} s.kiln.sensors inst).valid then wrapTo 32 (tblGet {} s.kiln.sensors inst).value else 0x80000000)
  else if id = P.KL_PF then some (openDiv 19 s.kiln.pf (2 ^ 32))
  else if id = P.CAL_STATE then some s.cal.state.code
  else if id = P.CAL_STATUS then some s.calStatus
  else if id = P.CAL_CGAIN then
    some (s.coef (s.lastPar P.CAL_CSEL / 4096) (s.lastPar P.CAL_CSEL % 4096)).g
  else if id = P.CAL_COFS then
    some (wrapTo 32 (s.coef (s.lastPar P.CAL_CSEL / 4096) (s.lastPar P.CAL_CSEL % 4096)).o)
  else if id = P.CAL_CTEMP then
    some (wrapTo 32 (s.coef (s.lastPar P.CAL_CSEL / 4096) (s.lastPar P.CAL_CSEL % 4096)).temp)
  else if id = P.GR_STATE then some s.grist.state.code
  else if id = P.GR_STATUS then some s.grStatus
  else if id = P.GR_BLKSTATE then some (s.blkState inst)
  else if id = P.GR_KEYSTATE then some (s.keySlot inst)
  else if id = P.GR_PATCHREV then some s.grist.patchRev
  else if id = P.GR_PATCHST then some s.grist.patchSt
  else if id = P.MB_STATE then some (s.mbox inst).word
  else if id = P.ST_STATE then some (s.ring inst).state.code
  else if id = P.ST_HELD then some (s.ring inst).words.length
  else if id = P.ST_BUFS then some (s.ring inst).bufs
  else if id = P.ST_AGE then some (openDiv 23 (s.ringAge inst) 100)
  else if id = P.ST_POOL then
    some (if inst = 0 then s.freeBufs else if inst = 1 then s.pool.low else if inst = 2 then s.pool.retired
          else s.sharedBufs)
  else if id = P.ST_ATTNMAP then some (if inst = 0 then s.attnRings % 2 ^ 32 else s.attnRings / 2 ^ 32)
  else none

/-- Parameters of the fault logic, the sync link and test and trace that block state gives. -/
def State.readShared (s : State) (id inst : Nat) : Option Nat :=
  let quarter := fun (first : Nat) => if first ≤ id ∧ id < first + 4 then some (64 * (id - first) + inst) else none
  match quarter P.FLT_PEND0, quarter P.FLT_GREM0 with
  | some b, _ => some (s.pendWord b)
  | none, some b => some (s.graceLeft b)
  | none, none =>
    if id = P.FLT_STATE then some s.fltState
    else if id = P.FLT_LOGCNT then some s.flt.log.length
    else if id = P.FLT_LOGRET then some s.flt.retired
    else if id = P.FLT_OVFCNT then some s.flt.overflow.length
    else if id = P.FLT_CAP0 then some (fieldAt (s.captureBytes (s.lastPar P.FLT_SEL)) 0 4)
    else if P.FLT_CAP0 < id ∧ id ≤ P.FLT_CAP0 + 7 then some (fieldAt s.flt.capLatch (4 * (id - P.FLT_CAP0)) 4)
    else if id = P.SL_STATE then some s.slStateWord
    else if id = P.SL_RING then some s.ringState
    else if id = P.SL_PEERST then
      let r := tblGet {} s.sl.peers inst
      some (r.b4 + 256 * r.b5 + 65536 * r.b67)
    else if id = P.SL_PEERHASH then some (tblGet {} s.sl.peers inst).hash
    else if id = P.SL_COPYST then
      some (b2n (s.sl.transfer || s.sl.staging.isSome) + 2 * b2n s.sl.committed.isSome + 4 * b2n s.sl.held)
    else if id = P.SL_SNAPAGE then some s.snapAge
    else if id = P.TST_STATE then some s.tstState
    else if id = P.TST_TRCCNT then some s.tst.buffer.length
    else if id = P.TST_TRCDEPTH then some (4096 - s.tst.retired)
    else if id = P.TST_JTAGIR then some s.tst.ir
    else none

/-- The value a read of a parameter instance by a port (1–4, 0 for Hopper's own work) returns (Table 13.1): that of block
state, 0 for a CMD parameter, the last value accepted for a RW-LIVE parameter (R377), else the value in force. -/
def State.readValue (s : State) (port id inst : Nat) : Nat :=
  let v :=
    if id < 0x040 ∨ (0x3C0 ≤ id ∧ id < 0x400) then s.readPort port id inst
    else if id < 0x2C0 then s.readMachine id inst
    else if id < 0x440 then s.readBlocks id inst
    else s.readShared id inst
  match v with
  | some w => w
  | none =>
    match paramDef? id with
    | some d => if d.attr = .cmd then 0 else if d.attr = .rwLive then s.lastPar id inst else s.par id inst
    | none => 0

/-- The parameter and instance exist (R373). -/
def paramExists (id inst : Nat) : Bool :=
  match paramDef? id with
  | some d => decide (inst < d.count)
  | none => false

/-- Whether a read is refused, and its status: BAD_TARGET (R373), a block that is being reset (R577), or a block RAM the host
may not access (R220). -/
def State.readStatus (s : State) (id inst : Nat) : Nat :=
  if paramExists id inst = false then Status.badTarget
  else if s.resetting (ownerOf id inst) then Status.busyLocked
  else if id = P.FAB_RAMDAT ∧ (s.fab.live.loaded = false ∨ Config.planeHostRam s.fab.live.bytes inst = false) then
    Status.notPermitted
  else Status.ok

/-- What a read latches (R382): `HP_TIMEH`, `HP_PTPOFSH`, a timer's last capture, the capture of `FLT_SEL`. A read of
`HP_PTPSTATE` ends the attention of its change. -/
def State.readLatch (s : State) (id inst : Nat) : State :=
  if id = P.HP_TIMEL then { s with hp := { s.hp with timeLatch := s.t / 2 ^ 32 } }
  else if id = P.HP_PTPOFSL then { s with hp := { s.hp with ofsLatch := wrapTo 64 s.hp.ptp.ofs / 2 ^ 32 } }
  else if id = P.HP_PTPSTATE then { s with hp := { s.hp with ptp := { s.hp.ptp with changed := false } } }
  else if id = P.TM_LASTANG then (s.tmLastAng inst).2
  else if id = P.FLT_CAP0 then { s with flt := { s.flt with capLatch := s.captureBytes (s.lastPar P.FLT_SEL) } }
  else s

/-- What a read by a port does: one of a block-RAM word moves `FAB_RAMADR` on (R220). -/
def State.readAdvance (s : State) (port id inst : Nat) : State :=
  if id = P.FAB_RAMDAT then s.ramRead port inst else s

/-- Several items read at one edge (R381): every latch takes the values of that edge, then the items in order. -/
def State.readItems (s : State) (port : Nat) (items : List (Nat × Nat)) : List Nat × State :=
  let s := items.foldl (fun s i => s.readLatch i.1 i.2) s
  items.foldl (fun a i => (a.1 ++ [a.2.readValue port i.1 i.2], a.2.readAdvance port i.1 i.2)) ([], s)

/-- One parameter read by a command: refused, or answered with its value. -/
def State.readParam (s : State) (port id inst : Nat) : State :=
  let st := s.readStatus id inst
  if st ≠ Status.ok then s.answer st
  else
    let r := s.readItems port [(id, inst)]
    r.2.done (leBytes 4 (nthD 0 r.1 0))

end Sys2Proof.Machine
end

