-- ==== Sys2Proof/Machine/Resets.lean ====
section
/-! DEFINITION. What ends sessions, ownership and factory test mode (R353, R358, R589), the Hopper restart (R354, R568) and the
reset of one block (R569, R577–R580, R592). -/

namespace Sys2Proof.Machine

namespace Op
/-- Opcodes that other blocks name (Tables 12.8–12.17). -/
def setParam : Nat := 0x11
def gristClose : Nat := 0x22
def keyProgram : Nat := 0x24
def flashErase : Nat := 0x27
def flashWrite : Nat := 0x28
def waitBin : Nat := 0x37
def calStart : Nat := 0x50
def mbWrite : Nat := 0x64
def slRole : Nat := 0x91
def slCopy : Nat := 0x92
def slTakeover : Nat := 0x93
end Op

/-! ### Sessions, ownership and factory test mode -/

/-- Factory test mode ends (R589). -/
def State.testEnd (s : State) : State :=
  if s.tst.testMode then
    { s with tst := { s.tst with testMode := false, testPort := 0, challenge := none } }.trace 0x0C 0
  else s

/-- The group of a port is discarded (R388). -/
def State.groupDiscard (s : State) (port : Nat) : State :=
  s.setSession port { s.session port with group := [], groupLapsed := false }

/-- A load opened by a port ends as `GR_CTRL` ABORT ends it (R358, R336). -/
def State.loadEnd (s : State) (port : Nat) : State :=
  if s.grist.state = .loading ∧ s.grist.port = port then (s.closeAnswer Status.notPermitted 0 0).startRestore else s

/-- Write ownership of a port ends, where it holds it (R358, R589). -/
def State.endOwnership (s : State) (port : Nat) : State :=
  if s.owns port then
    let s := ((s.setPar P.HP_OWNER 0 0).groupDiscard port).loadEnd port
    if s.tst.testPort = port then s.testEnd else s
  else s

/-- What waits for a port's commands with a sequence number of its closed session: the number moves out of the range of
the next session's. -/
def oldSeq (port : Nat) (w : Nat × Nat) : Nat × Nat := if w.1 = port then (w.1, w.2 + 65536) else w

/-- The command queue of a port is discarded; its pending commands go on without a reply, under numbers that no later command
has (R353). -/
def State.retireSlots (s : State) (port : Nat) : State :=
  let x := s.session port
  let s := s.setSession port { x with slots := x.slots.map (fun p => { p with noReply := true, seq := p.seq + 65536 }) }
  let mbox := fun (m : Mailbox) => { m with
    pendWrites := m.pendWrites.map (fun w => if w.port = port then { w with seq := w.seq + 65536 } else w) }
  { s with
    mboxes := s.mboxes.map (fun e => (e.1, mbox e.2))
    grist := { s.grist with flashOp := s.grist.flashOp.map (fun o =>
      if o.port = port then { o with seq := o.seq + 65536 } else o) }
    sl := { s.sl with
      roleWait := s.sl.roleWait.map (oldSeq port), takeWait := s.sl.takeWait.map (oldSeq port)
      copyWait := s.sl.copyWait.map (oldSeq port), copyDue := s.sl.copyDue.map (oldSeq port) }
    hp := { s.hp with waits := s.hp.waits.filter (fun w => !(w.port == port)) } }

/-- A port's session closes (R353): pending commands complete without a reply. -/
def State.closeSession (s : State) (port : Nat) : State :=
  let s := (s.endOwnership port).retireSlots port
  let x := s.session port
  let s := s.setSession port { expSeq := x.expSeq, slots := x.slots, ready := x.ready, lastCmd := x.lastCmd }
  if x.isOpen then
    let s := s.trace 0x09 port (some (leBytes 1 0 ++ leBytes 1 x.contract ++ List.replicate 12 0))
    let s := if s.tst.testPort = port then s.testEnd else s
    s.mbParties [.host port]
  else s

/-! ### Hopper restart -/

/-- A Hopper restart begins (R354, R392, R438, R474, R568): sessions, ownership and waiting commands are lost without
reply, and grace timers stop. -/
def State.hopperRestart (s : State) : State :=
  let opened := [1, 2, 3, 4].filter (fun p => (s.session p).isOpen)
  let s := opened.foldl (fun (s : State) p =>
    s.trace 0x09 p (some (leBytes 1 0 ++ leBytes 1 (s.session p).contract ++ List.replicate 12 0))) s
  let s := [1, 2, 3, 4].foldl State.loadEnd s
  let s := s.testEnd
  let s := s.setPar P.HP_OWNER 0 0
  let s := { s with
    sessions := []
    mboxes := s.mboxes.foldl (fun (t : Tbl Mailbox) (e : Nat × Mailbox) => tblSet {} t e.1 { e.2 with pendWrites := [] }) []
    hp := { s.hp with waits := [], s1 := { frames := s.hp.s1.frames } }
    sl := { s.sl with roleWait := [], takeWait := [], copyWait := [], copyDue := [] } }
  let s := s.mbParties (.hopper :: opened.map Party.host)
  let s := s.bump P.HP_RSTCNT
  let s := (s.setPar P.TST_LASTRST 0 6).trace 0x03 6
  let s := { s with pwr := { s.pwr with hopperDown := some s.t } }
  (s.holdGrace).holdWindow Fb.hopper

/-- A staged patch comes into force, and a patch in force that fails its CRC is dropped (R567, Table 16.7). -/
def State.patchInForce (s : State) (bad : Bool) : State :=
  let g := s.grist
  let g := if g.patchSt = 1 then
      { g with patch := g.staged, patchRev := g.stagedRev, staged := [], stagedRev := 0, patchSt := 2 }
    else g
  if g.patchSt = 2 ∧ bad = true then
    ({ s with grist := { g with patch := [], patchRev := 0, patchSt := 0 } }).raise Fb.hopper 1 2
  else { s with grist := g }

/-- The restart of Hopper is over (R568). -/
def State.hopperRestartDone (s : State) (patchBad : Bool) : State :=
  match s.pwr.hopperDown with
  | none => s
  | some _ =>
    if s.alive then
      let s := { s with pwr := { s.pwr with hopperDown := none } }
      let s := { s with flt := { s.flt with served := s.t } }
      let s := s.patchInForce patchBad
      let s := if s.pwr.step = .ready then s.resumeGrace else s
      s.openWindow Fb.hopper
    else s

/-! ### Block resets -/

/-- The blocks that accept a block reset (Table 19.5). -/
def acceptsReset (b : Nat) : Bool := decide (b ≤ Fb.kiln)

/-- t_BRST of a block, in TCLK periods: the maximum of Table 19.5. -/
def resetTicks (b : Nat) : Nat :=
  if b = Fb.fabric then usTicks 200 else if b = Fb.wheel then usTicks 1500 else usTicks 10

/-- The block code whose banks a fault block's reset concerns (Table 11.1); none for the Wheel and a timer. -/
def resetCode (b : Nat) : Option Nat :=
  if b < 0x80 then some b
  else if b < 0xC0 then none
  else if b < 0xE0 then some (0xA0 + (b - 0xC0))
  else if b < 0xE4 then some (0x80 + (b - 0xE0))
  else if b < 0xEC then some (0x88 + (b - 0xE4))
  else if b = Fb.fabric then some 0xC0
  else if b = Fb.kiln then some 0xC1
  else none

/-- A block at the state its chapter gives for its reset. -/
def State.resetState (s : State) (b : Nat) : State :=
  if b < 0x40 then s.cellReset b
  else if b < 0x80 then s.cmpReset (b - 0x40)
  else if b < 0xC0 then s.tmReset (b - 0x80)
  else if b < 0xE0 then s.laneReset (b - 0xC0)
  else if b < 0xE4 then s.sarReset (b - 0xE0)
  else if b < 0xEC then s.icReset (b - 0xE4)
  else if b = Fb.fabric then s.fabReset
  else if b = Fb.wheel then
    let s := s.engReset.mbParties [.block Sender.wheel]
    (s.completeAll Op.waitBin 0 Status.abortedByReset).gristEngineLost
  else s.kilnReset.mbParties [.block Sender.kiln]

/-- The fault state beside a block that is reset (R496); the window of the reset opens (R488). -/
def State.clearFaultState (s : State) (b : Nat) : State := (s.setFb b { window := (s.fb b).window }).holdWindow b

/-- The fault blocks that a block reset resets: the fabric's takes every timer with it. -/
def resetSet (b : Nat) : List Nat := if b = Fb.fabric then Fb.fabric :: (List.range 64).map Fb.timer else [b]

/-- A block reset takes effect (R569, R577, R579, R580, R592). -/
def State.resetBlock (s : State) (b : Nat) : State :=
  let s := match resetCode b with
    | some c => s.gristBlockReset c
    | none => s
  let s := s.resetState b
  let s := { s with kiln := { s.kiln with hitOpen := s.kiln.hitOpen.filter (fun x => !(x == b)) } }
  let s := (resetSet b).foldl (fun (s : State) x =>
    let s := s.clearFaultState x
    { s with pwr := { s.pwr with blockReset := tblSet 0 s.pwr.blockReset x (s.t + resetTicks b) } }) s
  let s := (s.setPar P.TST_LASTRST 0 (7 + 256 * b)).bump P.TST_BRSTCNT
  s.trace 0x03 7 (some (leBytes 1 b ++ List.replicate 13 0))

/-- A write of `TST_BLKRST` (R592): the key, the block, and factory test mode, in which no block reset is accepted (R569). -/
def State.blockResetWrite (s : State) (v : Nat) : State :=
  let b := v % 256
  if bitsOf v 16 16 ≠ 0x5AA5 ∨ bitsOf v 8 8 ≠ 0 then s.answer Status.outOfRange
  else if s.tst.testMode || !acceptsReset b then s.answer Status.notPermitted
  else if s.resetting b then s.answer Status.busyLocked
  else (s.resetBlock b).done

/-- t_BRST of a block has passed (R569). -/
def State.blockResetDone (s : State) (b : Nat) : State :=
  let due := tblGet 0 s.pwr.blockReset b
  if due ≠ 0 ∧ due ≤ s.t then
    (resetSet b).foldl (fun (s : State) x =>
      if tblGet 0 s.pwr.blockReset x = due then
        ({ s with pwr := { s.pwr with blockReset := tblErase s.pwr.blockReset x } }).openWindow x
      else s) s
  else s

end Sys2Proof.Machine
end

