-- ==== Sys2Proof/Machine/TimeLoad.lean ====
section
/-! DEFINITION. A load of the time counter (R417, R508). The model measures every interval on the time counter, so a load
moves each instant that an interval counts from or to by the same amount as the counter; dual stamps and times that name a
value of the counter itself (`WH_TQDUE`) do not move. -/

namespace Sys2Proof.Machine

/-- An instant moved by a signed number of TCLK periods. -/
def shiftT (d : Int) (t : Nat) : Nat := ((t : Int) + d).toNat

/-- An instant that may be absent. -/
def shiftO (d : Int) (t : Option Nat) : Option Nat := t.map (shiftT d)

/-- A table of instants. -/
def shiftV (d : Int) (t : Tbl Nat) : Tbl Nat := t.map (fun e => (e.1, shiftT d e.2))

/-- The instants of a block's fault state. -/
def FaultBlock.shift (d : Int) (f : FaultBlock) : FaultBlock :=
  { f with
    grace := match f.grace with
      | .running due => .running (shiftT d due)
      | g => g
    window := match f.window with
      | .closing t l => .closing (shiftT d t) l
      | w => w }

/-- The instants of the angle engine. -/
def Engine.shift (d : Int) (e : Engine) : Engine :=
  { e with
    interp := { e.interp with tPrev := shiftT d e.interp.tPrev, tBase := shiftT d e.interp.tBase }
    lastEvent := shiftT d e.lastEvent
    edgeTimes := e.edgeTimes.map (shiftT d)
    mainsRise := shiftO d e.mainsRise
    lossFree := shiftO d e.lossFree
    lastStep := shiftO d e.lastStep
    firstCrossed := shiftO d e.firstCrossed }

/-- The instants of a cell. -/
def Cell.shift (d : Int) (c : Cell) : Cell :=
  { c with settleEnd := shiftO d c.settleEnd, boundary := shiftO d c.boundary }

/-- The instants of a comparator. -/
def Comparator.shift (d : Int) (c : Comparator) : Comparator :=
  { c with blankEnd := shiftO d c.blankEnd, phase := shiftT d c.phase, edges := c.edges.map (shiftT d) }

/-- The instants of a lane; arrivals count in units of 5 ns. -/
def Lane.shift (d : Int) (l : Lane) : Lane :=
  { l with arrival := shiftO (2 * d) l.arrival, left := shiftO d l.left, lastIn := shiftT d l.lastIn }

/-- The instants of a conversion, in units of 5 ns. -/
def Conv.shift (d : Int) (c : Conv) : Conv := { c with start := shiftT (2 * d) c.start }

/-- The instants of a SAR group; those of its clock count in units of 5 ns. -/
def Group.shift (d : Int) (x : Group) : Group :=
  { x with
    passStart := shiftO (2 * d) x.passStart
    slices := x.slices.map (fun e => (e.1, { e.2 with conv := e.2.conv.map (Conv.shift d) }))
    restart := x.restart.map (Conv.shift d)
    lastSlot := shiftO (2 * d) x.lastSlot
    lastRotation := shiftT (2 * d) x.lastRotation
    refOn := shiftO d x.refOn
    syscal := { x.syscal with since := shiftT d x.syscal.since }
    codes := x.codes.map (fun e => (e.1, (e.2.1, shiftT (2 * d) e.2.2))) }

/-- The instants of an integrating converter. -/
def IntConv.shift (d : Int) (c : IntConv) : IntConv := { c with start := shiftT d c.start, stop := shiftT d c.stop }

/-- The instants of the mains lock. -/
def MainsLock.shift (d : Int) (m : MainsLock) : MainsLock :=
  { m with lastRise := shiftO d m.lastRise, lastAny := shiftO d m.lastAny, refOn := shiftO d m.refOn }

/-- The instants of Kiln. -/
def Kiln.shift (d : Int) (k : Kiln) : Kiln :=
  { k with
    planTime := shiftT d k.planTime, powerDue := shiftV d k.powerDue, hibernateAt := shiftT d k.hibernateAt
    wakeAt := shiftT d k.wakeAt }

/-- The instants of calibration. -/
def Calib.shift (d : Int) (c : Calib) : Calib :=
  { c with
    itemStart := shiftT d c.itemStart, recovering := shiftV d c.recovering, since := shiftT d c.since
    begun := shiftT d c.begun
    blends := c.blends.map (fun e => (e.1, e.2.map (fun (b : Blend) => { b with since := shiftT d b.since })))
    spares := c.spares.map (fun e => (e.1, { e.2 with start := shiftO d e.2.start })) }

/-- The instants of the grist block. -/
def Grist.shift (d : Int) (g : Grist) : Grist :=
  { g with checking := shiftO d g.checking, lastData := shiftT d g.lastData, restoreAt := shiftT d g.restoreAt }

/-- The instants of a session. -/
def Session.shift (d : Int) (x : Session) : Session :=
  { x with
    slots := x.slots.map (fun (p : PendSlot) => { p with start := shiftT d p.start, limit := shiftT d p.limit })
    groupSet := shiftT d x.groupSet
    lastCmd := shiftT d x.lastCmd }

/-- The instants of the host ports. -/
def HostPorts.shift (d : Int) (h : HostPorts) : HostPorts :=
  { h with
    lastValid := shiftV d h.lastValid
    waits := h.waits.map (fun (w : PersWait) => { w with release := shiftO d w.release })
    uIdle := shiftT d h.uIdle
    uDe := h.uDe.map (fun (x : Nat × Nat) => (shiftT d x.1, x.2))
    eth := { h.eth with
      lease := h.eth.lease.map (fun (l : Lease) =>
        { l with t1 := shiftT d l.t1, t2 := shiftT d l.t2, expiry := shiftT d l.expiry })
      sentAt := shiftT d h.eth.sentAt
      eventAt := shiftO d h.eth.eventAt }
    ptp := { h.ptp with
      foreign := h.ptp.foreign.map (fun (f : Foreign) => { f with last := shiftT d f.last })
      lastSync := shiftT d h.ptp.lastSync
      nextReq := shiftT d h.ptp.nextReq } }

/-- The instants of a mailbox and of a ring's words. -/
def Mailbox.shift (d : Int) (m : Mailbox) : Mailbox :=
  { m with msg := m.msg.map (fun (x : Message) => { x with arrival := shiftT d x.arrival }) }
def Ring.shift (d : Int) (r : Ring) : Ring :=
  { r with words := r.words.map (fun (w : RingWord) => { w with time := shiftT d w.time }) }

/-- The instants of the supplies, clocks and resets. -/
def Power.shift (d : Int) (p : Power) : Power :=
  { p with hopperDown := shiftO d p.hopperDown, readyAt := shiftT d p.readyAt, blockReset := shiftV d p.blockReset }

/-- The time counter takes the value `t`, and every interval goes on. -/
def State.loadTime (s : State) (t : Nat) : State :=
  let d : Int := (t : Int) - s.t
  { s with
    now := BitVec.ofNat 64 t
    flt := { s.flt with
      blocks := s.flt.blocks.map (fun e => (e.1, e.2.shift d)), served := shiftT d s.flt.served }
    tst := { s.tst with testLast := shiftT d s.tst.testLast, challengeTime := shiftT d s.tst.challengeTime }
    eng := s.eng.shift d
    wheel := { s.wheel with store := s.wheel.store.map (fun e => (e.1, { e.2 with posted := shiftT d e.2.posted })) }
    cells := s.cells.map (fun e => (e.1, e.2.shift d))
    cmps := s.cmps.map (fun e => (e.1, e.2.shift d))
    groups := s.groups.map (fun e => (e.1, e.2.shift d))
    ics := s.ics.map (fun e => (e.1, e.2.shift d))
    mains := s.mains.shift d
    lanes := s.lanes.map (fun e => (e.1, e.2.shift d))
    fab := { s.fab with scrubAt := shiftT d s.fab.scrubAt }
    kiln := s.kiln.shift d
    cal := s.cal.shift d
    grist := s.grist.shift d
    sessions := s.sessions.map (fun e => (e.1, e.2.shift d))
    mboxes := s.mboxes.map (fun e => (e.1, e.2.shift d))
    rings := s.rings.map (fun e => (e.1, e.2.shift d))
    pwr := s.pwr.shift d
    hp := s.hp.shift d
    sl := { s.sl with
      lastValid := shiftT d s.sl.lastValid, divergedAt := shiftT d s.sl.divergedAt, sentAt := shiftT d s.sl.sentAt
      nextFrame := shiftT d s.sl.nextFrame }
    pins := s.pins.map (fun e => (e.1, { e.2 with since := shiftO d e.2.since })) }

end Sys2Proof.Machine
end

