-- ==== Sys2Proof/Machine/SyncLink.lean ====
section
/-! DEFINITION. The sync link (chapter Several devices as one): frames, formation, time and angle, status and agreement, pairs,
state copy and take-over. A frame is held as its bytes 1–49. -/

namespace Sys2Proof.Machine

/-! ### Roles and records -/

namespace Role
/-- Roles of Table 17.4. -/
def leader : Nat := 0
def follower : Nat := 1
def active : Nat := 2
def standby : Nat := 3
end Role

/-- The sync link works: the device is out of reset with `SL_ENABLE` at 1; Halt does not stop it (R515). -/
def State.slUp (s : State) : Bool := s.pwr.phase == .running && s.sl.state != .off

/-- The role in force (`SL_ROLE`), and the position. -/
def State.role (s : State) : Nat := s.par P.SL_ROLE
def State.slPos (s : State) : Nat := s.par P.SL_POS

/-- A member of a pair (R516). -/
def State.isPair (s : State) : Bool := decide (2 ≤ s.par P.SL_ROLECFG)

/-- The position of a pair member's partner. -/
def State.partner (s : State) : Nat := if s.slPos % 2 = 0 then s.slPos + 1 else s.slPos - 1

/-- A follower for R514: a device that does not originate. -/
def State.isFollower (s : State) : Bool := s.sl.state != .off && !s.sl.originates

/-- The state with the sync link set. -/
def State.setSl (s : State) (x : SyncLink) : State := { s with sl := x }

/-- The device's own status record (Table 17.4). -/
def State.ownRecord (s : State) : PeerRec :=
  { hash := s.par P.GR_LIVEHASH
    b4 := s.kiln.state.code + 4 * b2n s.flt.halted + 8 * b2n (s.sl.state == .hold) + 16 * s.role
      + 64 * b2n (s.grist.state != .idle) + 128
    b5 := s.readValue 0 P.HP_CONTRACTS 0 % 16 + 16 * (s.readValue 0 P.HP_CONTRACTS 0 / 256 % 16)
    b67 := (if s.highestFault ≤ 3 then s.highestFault else 3) + 8 * b2n s.sl.held + 16 * b2n s.sl.diverged
      + 256 * (s.par P.SL_SNAPSEQ % 256) }

/-- VALID, Halt, HOLD, the role and the busy grist bit of a record. -/
def PeerRec.valid (r : PeerRec) : Bool := bitOf r.b4 7
def PeerRec.halt (r : PeerRec) : Bool := r.valid && bitOf r.b4 2
def PeerRec.hold (r : PeerRec) : Bool := bitOf r.b4 3
def PeerRec.role (r : PeerRec) : Nat := bitsOf r.b4 4 2
def PeerRec.gristBusy (r : PeerRec) : Bool := bitOf r.b4 6

/-- The bytes of a record. -/
def PeerRec.bytes (r : PeerRec) : List Byte := leBytes 4 r.hash ++ leBytes 1 r.b4 ++ leBytes 1 r.b5 ++ leBytes 2 r.b67

/-- The record of the partner as last received. -/
def State.partnerRec (s : State) : PeerRec := tblGet {} s.sl.peers s.partner

/-- Any valid record, the device's own included, shows Halt (R515). -/
def State.anyHalt (s : State) : Bool := s.flt.halted || s.sl.peers.any (fun e => e.2.halt)

/-- The ring contract of the valid records (R512). -/
def State.ringContract (s : State) : Nat :=
  let rs := s.ownRecord :: (s.sl.peers.filter (fun e => e.2.valid && !(e.1 == s.slPos))).map Prod.snd
  let c := rs.foldl (fun m r => min m (r.b5 % 16)) 15
  let l := rs.foldl (fun m r => max m (r.b5 / 16)) 0
  if l ≤ c then c else 0

/-! ### Frames -/

/-- A frame's byte `k`, and a field of it (Table 17.1). -/
def frByte (f : List Byte) (k : Nat) : Nat := fieldAt f (k - 1) 1
def frField (f : List Byte) (k n : Nat) : Nat := fieldAt f (k - 1) n

/-- Bytes from byte `k` of a frame on replaced. -/
def frPut (f : List Byte) (k : Nat) (bs : List Byte) : List Byte := f.take (k - 1) ++ bs ++ f.drop (k - 1 + bs.length)

/-- Bytes 48–49 of a frame recomputed (R500). -/
def frSeal (f : List Byte) : List Byte := f.take 47 ++ leBytes 2 (crc16 (f.take 47))

/-- The frame's CRC-16 is right. -/
def frGood (f : List Byte) : Bool := f.length == 49 && crc16 (f.take 47) == frField f 48 2

/-- The copy channel of a frame; `none` where VALID is 0. -/
def frChannel (f : List Byte) : Option CopyItem :=
  let h := frByte f 38
  if bitOf h 3 then some { src := h % 8, kind := bitsOf h 4 2, data := slice f 38 9 } else none

/-- The frame with its copy channel set. -/
def frSetChannel (f : List Byte) (c : Option CopyItem) : List Byte :=
  match c with
  | none => frPut f 38 (List.replicate 10 0)
  | some x => frPut f 38 (leBytes 1 (x.src % 8 + 8 + 16 * (x.kind % 4)) ++ slice x.data 0 9)

/-- The byte of `HP_UID` under comparison (R505). -/
def State.uidByte (s : State) : Nat := bitsOf Config.otpUid.toNat (8 * s.sl.uidByte) 8

/-! ### Snapshots (R519) -/

/-- A section that the mask selects. -/
def sectionIf (on : Bool) (bs : List Byte) : List Byte := if on then bs else []

/-- OUTPUTS (Table 17.6). -/
def State.snapOutputs (s : State) : List Byte :=
  let cs := (List.range 64).filter (fun n => isOutputMode (s.par P.AC_MODE n))
  leBytes 4 cs.length ++ cs.flatMap (fun n =>
    let c := s.cell n
    let r := c.ramp.getD { s := 0, e := 0, l := 0 }
    leBytes 2 n ++ leBytes 2 c.code.toNat ++ leBytes 2 r.e ++ leBytes 2 r.s ++ leBytes 2 r.l ++ leBytes 2 r.k
      ++ leBytes 4 (b2n c.ramp.isSome))

/-- COMPARATORS. -/
def State.snapCmps (s : State) : List Byte :=
  (List.range 64).flatMap (fun n =>
    leBytes 1 (s.cmp n).state.code ++ leBytes 3 (b2n (s.cmp n).delivered) ++ leBytes 4 (s.par P.CMP_THR n))

/-- HOST: the values host commands wrote, and the actions they posted, in the order of posting. -/
def State.snapHost (s : State) : List Byte :=
  let acts := sortBy Action.seq ((s.wheel.store.map Prod.snd).filter (fun a => a.tag == .none && !a.ctl))
  leBytes 4 s.sl.hostLive.length
    ++ s.sl.hostLive.flatMap (fun k => leBytes 2 (k / 256) ++ leBytes 2 (k % 256) ++ leBytes 4 (s.lastPar (k / 256) (k % 256)))
    ++ leBytes 4 acts.length
    ++ acts.flatMap (fun a =>
        (if a.place < 65536 then leBytes 2 a.place ++ leBytes 2 0 else leBytes 2 (a.place - 65536) ++ leBytes 2 1)
          ++ leBytes 8 a.word.toNat)

/-- FABRIC. -/
def State.snapFabric (s : State) : List Byte :=
  let keep := s.fab.ffs &&& Config.planeKeep s.fab.live.bytes
  leBytes 192 keep.toNat ++ leBytes 6 s.gpoLines.toNat ++ leBytes 6 s.fab.gpoe.toNat

/-- RAM. -/
def State.snapRam (s : State) : List Byte :=
  ((List.range 24).filter (fun r => bitOf (s.par P.SL_RAMCOPY) r)).flatMap (fun r =>
    leBytes 4 r ++ (List.range 512).flatMap (fun a => leBytes 4 (s.ramWord r a).toNat))

/-- A snapshot taken now under sequence number `q`. -/
def State.snapshot (s : State) (q : Nat) : List Byte :=
  let m := s.par P.SL_COPYSEL
  let body := sectionIf (bitOf m 0) s.snapOutputs ++ sectionIf (bitOf m 1) s.snapCmps ++ sectionIf (bitOf m 2) s.snapHost
    ++ sectionIf (bitOf m 3) s.snapFabric ++ sectionIf (bitOf m 4) s.snapRam
  let all := leBytes 2 q ++ leBytes 2 m ++ leBytes 4 (32 + body.length + 4) ++ leBytes 6 s.angleStamp ++ leBytes 8 s.t
    ++ List.replicate 10 0 ++ body
  all ++ leBytes 4 (crc32 all)

/-- The DATA items of a snapshot from chunk `i` on (Table 17.1); the last chunk is filled up with zeros. -/
def dataItems (src : Nat) (bs : List Byte) : List CopyItem :=
  (List.range ((bs.length + 6) / 7)).map (fun i =>
    { src := src, kind := 0, data := leBytes 2 i ++ slice bs (7 * i) 7 })

/-- COPYFAIL (R519, R520). -/
def State.copyFail (s : State) : State := s.raise Fb.sync 2 1

/-- Replies owed to a list of ports and sequence numbers. -/
def State.completeThese (s : State) (ws : List (Nat × Nat)) (status : Nat) : State :=
  ws.foldl (fun s w => s.complete w.1 w.2 status) s

/-- A transfer ends, acknowledged or not (R520, R526). -/
def State.transferEnd (s : State) (ok : Bool) : State :=
  let ws := s.sl.copyWait
  (s.setSl { s.sl with transfer := false, outbox := [], copyWait := [] }).completeThese ws
    (if ok then Status.ok else Status.timeout)

/-- The active starts a copy at the end of a step that fired `SL_SNAPBIN`, where one is due (R520). -/
def State.copyStart (s : State) : State :=
  let x := s.sl
  let per := s.par P.SL_COPYPER
  let since := match x.lastCopy with
    | none => 2 ^ 24
    | some c => (s.cycle + 2 ^ 24 - c) % 2 ^ 24
  let due := (decide (0 < per) && decide (per ≤ since)) || !x.copyDue.isEmpty
  if s.slUp && s.role == Role.active && due && s.grist.state == .idle then
    let s := if x.transfer then s.copyFail.transferEnd false else s
    let q := (s.sl.frozenSeq + 1) % 65536
    let snap := s.snapshot q
    if 65536 < snap.length then
      let ws := s.sl.copyDue
      ((s.setSl { s.sl with copyDue := [], lastCopy := some s.cycle }).completeThese ws Status.timeout).copyFail
    else
      let p := s.slPos
      (s.setSl { s.sl with
        frozenSeq := q, transfer := true, lastCopy := some s.cycle
        copyWait := s.sl.copyDue, copyDue := []
        outbox := { src := p, kind := 1, data := leBytes 2 q ++ leBytes 4 snap.length ++ leBytes 3 0 } :: dataItems p snap
          ++ [{ src := p, kind := 2, data := leBytes 2 q ++ leBytes 4 (crc32 snap) ++ leBytes 3 0 }] }).setPar
        P.SL_SNAPLEN 0 snap.length
  else s

/-- The staging buffer is emptied. -/
def State.dropStaging (s : State) : State := s.setSl { s.sl with staging := none, nextChunk := 0, staged := [] }

/-- The standby takes one item of the copy channel (R520); outside SYNCED it discards what comes. -/
def State.copyTake (s : State) (c : CopyItem) : State :=
  let x := s.sl
  if x.state ≠ .synced then s.dropStaging
  else if c.kind = 1 then
    s.setSl { x with staging := some (fieldAt c.data 0 2, fieldAt c.data 2 4), nextChunk := 0, staged := [] }
  else
    match x.staging with
    | none => if c.kind = 0 ∧ x.nextChunk = 0 then s else s.copyFail.dropStaging
    | some (q, n) =>
      if c.kind = 0 then
        let i := fieldAt c.data 0 2
        if i = x.nextChunk then
          s.setSl { x with
            nextChunk := i + 1, staged := x.staged ++ (slice c.data 2 7).take (n - x.staged.length) }
        else s.copyFail.dropStaging
      else if c.kind = 2 ∧ fieldAt c.data 0 2 = q ∧ x.staged.length = n ∧ fieldAt c.data 2 4 = crc32 x.staged then
        let s := s.setSl { x with committed := some x.staged, staging := none, nextChunk := 0, staged := [] }
        ((s.setPar P.SL_SNAPSEQ 0 q).setPar P.SL_SNAPLEN 0 n).bump P.SL_COPYCNT
      else s.copyFail.dropStaging

/-! ### Sections of a committed snapshot -/

/-- Offsets of the sections of a snapshot by its mask: OUTPUTS, COMPARATORS, HOST values, HOST actions, FABRIC and RAM; each
with whether it is there. -/
structure SnapMap where
  outputs : Option Nat
  cmps : Option Nat
  host : Option Nat
  acts : Nat
  fabric : Option Nat
  ram : Option Nat
  stop : Nat
deriving DecidableEq, Repr

/-- The section offsets of a snapshot. -/
def snapMap (b : List Byte) : SnapMap :=
  let m := fieldAt b 2 1
  let o0 := 32
  let o1 := if bitOf m 0 then o0 + 4 + 16 * fieldAt b o0 4 else o0
  let o2 := if bitOf m 1 then o1 + 512 else o1
  let oa := o2 + 4 + 8 * fieldAt b o2 4
  let o3 := if bitOf m 2 then oa + 4 + 12 * fieldAt b oa 4 else o2
  let o4 := if bitOf m 3 then o3 + 204 else o3
  { outputs := if bitOf m 0 then some o0 else none
    cmps := if bitOf m 1 then some o1 else none
    host := if bitOf m 2 then some o2 else none
    acts := oa
    fabric := if bitOf m 3 then some o3 else none
    ram := if bitOf m 4 then some o4 else none
    stop := b.length - 4 }

/-! ### Take-over (R521–R523) -/

/-- An output cell delivers its code: its driver is enabled. -/
def State.driveCode (s : State) (n : Nat) : State :=
  if (s.cell n).state = .active then s.setCell n { s.cell n with drive := .code } else s

/-- One OUTPUTS entry at take-over: code in force, ramp cancelled. -/
def State.takeOutput (s : State) (b : List Byte) (a : Nat) : State :=
  let n := fieldAt b a 1
  if (s.cell n).state = .active ∧ isOutputMode (s.par P.AC_MODE n) = true then
    let s := s.setCode n (fieldAt b (a + 2) 2)
    (s.setCell n { s.cell n with ramp := none }).driveCode n
  else s

/-- The standby takes over (R522). -/
def State.takeOver (s : State) : State :=
  let lead := decide (s.slPos ≤ 1) && s.isPair
  let s := s.dropStaging
  let s := s.setPar P.SL_ROLE 0 Role.active
  let s := match s.sl.committed with
    | some b =>
      let m := snapMap b
      let s := match m.outputs with
        | some o => (List.range (fieldAt b o 4)).foldl (fun (s : State) i => s.takeOutput b (o + 4 + 16 * i)) s
        | none => s
      let pins := match m.fabric with
        | some o => (BitVec.ofNat 48 (fieldAt b (o + 192) 6), BitVec.ofNat 48 (fieldAt b (o + 198) 6))
        | none => (s.gpoLines, s.fab.gpoe)
      s.setSl { s.sl with heldPins := some pins }
    | none =>
      let s := (List.range 64).foldl (fun (s : State) n =>
        if isOutputMode (s.par P.AC_MODE n) then s.driveCode n else s) s
      (s.setSl { s.sl with heldPins := some (s.gpoLines, s.fab.gpoe) }).raise Fb.sync 12 2
  let s := if lead then
      s.setSl { s.sl with
        originates := true, reformLeft := 64, reform := true, closed := false, hops := 0, uidByte := 0, rivals := 0
        flying := [], returned := none, nextFrame := s.t }
    else s
  let ws := s.sl.takeWait ++ s.sl.roleWait
  let s := s.setSl { s.sl with
    held := true, takeDue := false, releaseDue := false, takeWait := [], roleWait := [], frozenSeq := s.par P.SL_SNAPSEQ
    lastCopy := none, partnerLost := 0, partnerSeen := false }
  let s := (s.bump P.SL_TOCNT).raise Fb.sync 3 1
  s.completeThese ws Status.ok

/-- The active becomes STANDBY (R516, R521, R522). -/
def State.becomeStandby (s : State) (two : Bool) : State :=
  let ws := s.sl.roleWait
  let s := (s.transferEnd false).dropStaging
  let s := s.setPar P.SL_ROLE 0 Role.standby
  let s := s.setSl { s.sl with
    originates := false, reformLeft := 0, held := false, heldPins := none, releaseDue := false, takeDue := false
    roleWait := [], partnerLost := 0 }
  let s := if two then s.raiseEpisode Fb.sync 10 2 else s
  s.completeThese ws Status.ok

/-- What was asked for at the next frame boundary happens (Table 17.7). -/
def State.frameBoundary (s : State) : State :=
  let s := if s.sl.takeDue ∧ s.role = Role.standby then
      (if s.sl.state = .synced then s.takeOver
       else
        let ws := s.sl.takeWait ++ s.sl.roleWait
        (s.setSl { s.sl with takeDue := false, takeWait := [], roleWait := [] }).completeThese ws Status.notPermitted)
    else s
  if s.sl.releaseDue ∧ s.role = Role.active then s.becomeStandby false else s

/-! ### States -/

/-- The device enters SEARCH (R506, R510, R524): the ring is lost. -/
def State.enterSearch (s : State) : State :=
  let was := s.sl.state
  let s := s.setSl { s.sl with state := .search, framed := false, loaded := false, within := 0, closed := false }
  let s := s.dropStaging.engRingLost
  if was = .synced ∨ was = .hold then s.raiseEpisode Fb.sync 5 2 else s

/-- A hold cause has arisen (R514): HOLD, with Kiln in IDLE. -/
def State.enterHold (s : State) : State :=
  let s := s.setSl { s.sl with state := .hold, clearAt := some s.angleStamp }
  if s.kiln.state = .run ∨ s.kiln.state = .trim then s.klIdle else s

/-- A follower in SYNCED takes the run state, and one in HOLD keeps Kiln in IDLE (R513, R514). A
refused RUN leaves Kiln in IDLE (STATEREF; DESIGN CHOICE, log entry 138). -/
def State.followRun (s : State) : State :=
  if s.alive && (s.sl.state == .synced || s.sl.state == .hold) && s.isFollower then
    let r := s.result
    let idle := s.sl.state == .hold || s.sl.runState == 2
    let runs := s.sl.state == .synced && s.sl.runState == 0 && s.kiln.state == .idle
    let s := if runs && s.kiln.heldC then s.raiseEpisode Fb.sync 4 1 else s.endEpisode Fb.sync 4
    let s := if runs && !s.kiln.heldC then s.klRun
      else if idle && (s.kiln.state == .run || s.kiln.state == .trim) then s.klIdle
      else s
    { s with result := r }
  else s

/-- HALT in the ring word (R515): every device not in Halt records RINGHALT and enters HALTED. -/
def State.ringHalt (s : State) : State :=
  if s.sl.haltSeen && s.sl.state != .halted && s.sl.state != .off && !s.flt.halted then
    (s.setSl { s.sl with state := .halted }).raise Fb.sync 13 3
  else s

/-- Hold causes that the frames show (Table 17.5): ring contract 0, and the pair hash. -/
def State.agreement (s : State) : State :=
  let x := s.sl
  let live := x.state == .synced || x.state == .hold
  let noContract := s.isFollower && live && s.par P.SL_CONTRACT == 0 && !x.reform
  let rec' := s.partnerRec
  let differs := s.isPair && s.role == Role.standby && rec'.valid && !rec'.gristBusy && s.grist.state == .idle
    && rec'.hash != s.par P.GR_LIVEHASH
  let s := s.setSl { x with
    pairAt := if differs then (if x.pairAt.isNone then some s.angleStamp else x.pairAt) else none
    holdContract := noContract
    holdPair := x.holdPair && differs
    clearAt := if noContract || (x.holdPair && differs) then none
      else if x.clearAt.isNone then some s.angleStamp else x.clearAt }
  if noContract then
    let s := s.raiseEpisode Fb.sync 8 2
    if s.sl.state = .synced then s.enterHold else s
  else s.endEpisode Fb.sync 8

/-- The delay *d* of the follower from the leader, in ns (R508). -/
def State.slDelay (s : State) : Int :=
  let n := s.par P.SL_NDEV
  (if n = 0 then 0 else openDivI 24 (s.slPos * s.par P.SL_RTT : Nat) n) + s.parI P.SL_DLYADJ

/-- Time following at a valid frame (R508, R509). -/
def State.timeFollow (s : State) (f : List Byte) : State :=
  let lead : Int := (frField f 14 8 * 10 : Nat) + s.slDelay
  if s.sl.loaded = false then
    let s := s.loadTime (openDivI 25 lead 10).toNat
    (s.setSl { s.sl with loaded := true, within := 0 }).raise Fb.sync 1 1
  else
    let e : Int := lead - (s.t * 10 : Nat)
    let tol : Int := (s.par P.SL_TTOL * 10 : Nat)
    let inside := decide (-tol ≤ e) && decide (e ≤ tol)
    let f' := s.sl.freq + e
    let lim : Int := (s.par P.SL_SLEWMAX * 1000000 : Nat)
    let r := clampInt (-lim) lim (5 * f' + 100000 * e)
    let x := s.sl
    let within := if inside then x.within + 1 else 0
    let live := x.state == .synced || x.state == .hold
    let lost := live && !inside
    let s := { s with slew := r }
    let s := ((s.setParI P.SL_TERR 0 e).setParI P.SL_RATE 0 (openDivI 26 r 1000))
    let s := s.setSl { x with
      freq := f', within := within
      divergedAt := if lost && !x.diverged then s.t else x.divergedAt
      diverged := (x.diverged || lost) && !(decide (8 ≤ within))
      timeDiv := x.timeDiv && !(decide (8 ≤ within)) }
    let s := if s.sl.timeDiv then s else s.endEpisode Fb.sync 6
    if s.sl.state = .locking ∧ 8 ≤ within ∧ s.sl.reform = false then
      (s.setSl { s.sl with state := .synced, diverged := false }).endEpisode Fb.sync 5
    else s

/-- The leader's angle at a valid frame with AV set (R510). -/
def State.angleFollow (s : State) (f : List Byte) : State :=
  if bitOf (frByte f 1) 5 && (s.sl.state == .synced || s.sl.state == .hold) then
    let adv := openDivI 28 (signedOf 32 (frField f 22 4) * s.slDelay) 10
    s.engSync (posAdd (BitVec.ofNat 64 (frField f 8 6 * 65536)) adv)
  else s

/-- Position taken, or the ring word and figures of a valid frame, at a device that repeats (R503, R512). -/
def State.takeRing (s : State) (f : List Byte) : State :=
  let w := frByte f 5
  let reform := bitOf w 3
  let s := s.setSl { s.sl with
    runState := w % 4, haltSeen := bitOf w 2, reform := reform, closed := bitOf (frByte f 1) 6, framed := true
    lastValid := s.t, forming := s.sl.forming || reform }
  let s := s.setPar P.SL_CONTRACT 0 (w / 16)
  let s := if reform then s.setPar P.SL_POS 0 (min 7 (frByte f 4 + 1)) else s
  let s := s.setPar P.SL_NDEV 0 (min 8 (frByte f 6))
  s.setPar P.SL_RTT 0 (frField f 26 3)

/-- The record of the frame's slot (R511), the partner's presence and the take-over causes (Table 17.7). -/
def State.takeRecord (s : State) (f : List Byte) : State :=
  let p := frByte f 7 % 8
  if p = s.slPos then s
  else
    let r : PeerRec := { hash := frField f 30 4, b4 := frByte f 34, b5 := frByte f 35, b67 := frField f 36 2 }
    let old := tblGet {} s.sl.peers p
    let s := s.setSl { s.sl with peers := tblSet {} s.sl.peers p r }
    let s := (s.setPar P.SL_PEERST p (r.b4 + 256 * r.b5 + 65536 * r.b67)).setPar P.SL_PEERHASH p r.hash
    if s.isPair && p == s.partner then
      let s := s.setSl { s.sl with
        partnerSeen := s.sl.partnerSeen || r.valid
        partnerLost := if r.valid then 0 else if s.sl.partnerSeen then s.sl.partnerLost + 1 else 0 }
      let cfg := s.par P.SL_TOCFG
      if s.role = Role.standby then
        let cause := decide (2 ≤ s.sl.partnerLost)
          || (r.valid && !r.halt && ((bitOf cfg 0 && r.b67 % 8 == 3) || (bitOf cfg 1 && r.hold)
            || r.role == Role.standby && old.valid && old.role == Role.active))
        if s.sl.state = .synced ∧ cause = true then s.takeOver else s
      else if s.role = Role.active ∧ r.valid = true ∧ r.role = Role.active then
        if old.valid && old.role != Role.active then s.becomeStandby false
        else if s.partner < s.slPos then s.becomeStandby true
        else s
      else
        let acked := s.role == Role.active && s.sl.transfer && s.sl.outbox.isEmpty && r.valid
          && r.b67 / 256 == s.sl.frozenSeq % 256
        if acked then s.transferEnd true else s
    else s

/-- The copy channel of a valid frame: a standby takes what its partner sent, and an active fills an empty channel
(R500, R520). -/
def State.channel (s : State) (c : Option CopyItem) : Option CopyItem × State :=
  let (c, s) := match c with
    | some x => if s.role = Role.standby ∧ s.isPair = true ∧ x.src = s.partner then (none, s.copyTake x) else (some x, s)
    | none => (none, s)
  match c, s.sl.outbox with
  | none, o :: rest =>
    if s.role = Role.active then (some o, s.setSl { s.sl with outbox := rest }) else (none, s)
  | c, _ => (c, s)

/-- t_HOP, 480 ns, in TCLK periods (R500). -/
def tHop : Nat := 48

/-- What a device that repeats sends on for a valid frame (R500). -/
def State.repeatFrame (s : State) (f : List Byte) : State :=
  let g := frPut f 4 (leBytes 1 (frByte f 4 + 1))
  let g := if frByte f 7 = s.slPos then frPut g 30 s.ownRecord.bytes else g
  let (c, s) := s.channel (frChannel f)
  s.setSl { s.sl with sent := frSeal (frSetChannel g c), sentAt := s.t + tHop }
/-- A frame of the originator comes back to it (R502, R503, R506); in a ring of more than eight no device reaches SYNCED
(R504). -/
def State.frameReturned (s : State) (f : List Byte) (t0 : Nat) : State :=
  let q := frField f 2 2
  let rt := (s.t - t0) * 10
  let trips := (rt :: s.sl.trips).take 16
  let s := s.setSl { s.sl with
    closed := true, framed := true, lastValid := s.t, rivals := 0, trips := trips
    flying := tblErase s.sl.flying q
    hops := if s.sl.reform then max s.sl.hops (frByte f 4) else s.sl.hops
    state := if s.sl.state = .search ∧ frByte f 4 ≤ 7 then .synced else s.sl.state }
  let s := s.setPar P.SL_RTT 0 (openDiv 27 trips.sum trips.length % 2 ^ 24)
  let s := s.endEpisode Fb.sync 5
  let s := s.takeRecord f
  match frChannel f with
  | none => s.setSl { s.sl with returned := none }
  | some x =>
    if s.role = Role.standby ∧ s.isPair = true ∧ x.src = s.partner then
      (s.copyTake x).setSl { (s.copyTake x).sl with returned := none }
    else s.setSl { s.sl with returned := if x.src = s.slPos then none else some x }

/-- SYNC_FRAME: a frame arrives (R500, R501). -/
def State.syncFrame (s : State) (f : List Byte) : State :=
  if s.slUp = false then s
  else if frGood f = false then
    let s := s.bump P.SL_FRMERR
    let s := s.raiseEpisode Fb.sync 0 1
    if s.sl.originates then s
    else
      let g := slice f 0 49
      s.setSl { s.sl with sent := frSeal (frPut g 1 (leBytes 1 (frByte g 1 ||| 0x80))), sentAt := s.t + tHop }
  else
    let s := s.endEpisode Fb.sync 0
    if bitOf (frByte f 1) 7 then
      (if s.sl.originates then s else s.setSl { s.sl with sent := frSeal f, sentAt := s.t + tHop })
    else if s.sl.originates then
      match tblGet none s.sl.flying (frField f 2 2) with
      | some t0 =>
        if t0 = frField f 14 8 then s.frameReturned f t0
        else s.setSl { s.sl with rivals := s.sl.rivals + 1, rivalUid := frByte f 29 }
      | none => s.setSl { s.sl with rivals := s.sl.rivals + 1, rivalUid := frByte f 29 }
    else
      let s := s.repeatFrame f
      let s := s.takeRing f
      let s := if s.sl.state = .search then s.setSl { s.sl with state := .locking } else s
      let s := s.frameBoundary
      let follows := s.sl.state == .locking || s.sl.state == .synced || s.sl.state == .hold
      let s := if follows && s.isFollower then s.timeFollow f else s
      let s := s.angleFollow f
      let s := s.takeRecord f
      let s := s.agreement.ringHalt
      s.followRun

/-- SYNC_FRAME_ORIGINATE: the 2 µs boundary at which the originator sends a frame (R498, R499, R502, R503, R512, R515).
DESIGN CHOICE (log entry 133): the first is due as origination begins, and each further one 2 µs after the one before. -/
def State.syncOriginate (s : State) : State :=
  if s.slUp && s.sl.originates && decide (s.sl.nextFrame ≤ s.t) then
    let s := s.frameBoundary
    if s.sl.originates = false then s
    else
      let halt := s.anyHalt || s.sl.haltSeen
      let s := s.setSl { s.sl with haltSeen := halt }
      let s := s.setPar P.SL_CONTRACT 0 s.ringContract
      let x := s.sl
      let q := x.seq
      let own := q % 8 == s.slPos
      let run := if s.kiln.state = .run ∨ s.kiln.state = .trim then 0 else 2
      let (c, s) := match x.returned with
        | some i => (some i, s)
        | none =>
          match x.outbox with
          | o :: rest => if s.role = Role.active then (some o, s.setSl { x with outbox := rest }) else (none, s)
          | [] => (none, s)
      let av := s.eng.state == .track || s.eng.state == .coast
      let f := leBytes 1 (1 + 32 * b2n av + 64 * b2n x.closed) ++ leBytes 2 q ++ leBytes 1 0
        ++ leBytes 1 (run + 4 * b2n halt + 8 * b2n x.reform + 16 * s.par P.SL_CONTRACT) ++ leBytes 1 (s.par P.SL_NDEV)
        ++ leBytes 1 (q % 8) ++ leBytes 6 s.angleStamp ++ leBytes 8 s.t ++ leBytes 4 (wrapTo 32 s.speed)
        ++ leBytes 3 (s.par P.SL_RTT) ++ leBytes 1 s.uidByte
        ++ (if own then s.ownRecord.bytes else List.replicate 8 0) ++ List.replicate 10 0
      let fly := tblSet none s.sl.flying q (some s.t)
      let s := s.setSl { s.sl with
        sent := frSeal (frSetChannel f c), sentAt := s.t, seq := (q + 1) % 65536, nextFrame := s.t + usTicks 2
        returned := none, runState := run
        flying := fly.filter (fun e => decide ((q + 65536 - e.1) % 65536 < 64))
        reformLeft := s.sl.reformLeft - 1 }
      s.ringHalt
  else s

/-- SL_LOSS_TIMEOUT (R506, Table 17.7). -/
def State.slLoss (s : State) : State :=
  let wait := usTicks (s.par P.SL_LOSSTO)
  let idle := s.t - s.sl.lastValid
  if s.slUp = false ∨ idle < wait then s
  else
    let fromActive := decide (s.slPos ≤ 1) && s.isPair
    let s := if s.sl.state = .synced ∧ s.role = Role.standby ∧ fromActive = true then s.takeOver else s
    let s := s.dropStaging
    if 2 * wait ≤ idle ∧ (s.sl.state = .locking ∨ s.sl.state = .synced ∨ s.sl.state = .hold) then s.enterSearch else s

/-- Roles of a pair at formation (R516). -/
def State.formPair (s : State) : State :=
  let pref := s.par P.SL_ROLECFG
  if pref < 2 then s.setPar P.SL_ROLE 0 pref
  else if s.par P.SL_NDEV ≤ s.partner then
    let s := (s.setPar P.SL_ROLE 0 (if s.slPos = 0 then Role.leader else Role.follower)).dropStaging
    s.raiseEpisode Fb.sync 11 2
  else
    let s := s.endEpisode Fb.sync 11
    let own := s.role
    let r := s.partnerRec
    if r.valid = false ∨ own < 2 then s.setPar P.SL_ROLE 0 (if own < 2 then pref else own)
    else if own = Role.active ∧ r.role = Role.active then
      (if s.partner < s.slPos then s.becomeStandby true else s)
    else if own = Role.standby ∧ r.role = Role.standby then
      (if s.slPos < s.partner then s.setPar P.SL_ROLE 0 Role.active else s)
    else s

/-- REFORM_END: positions and N are latched (R503, R504, R515, R516). -/
def State.reformEnd (s : State) : State :=
  if s.slUp = false then s
  else if s.sl.originates then
    if s.sl.reform ∧ s.sl.reformLeft = 0 ∧ s.sl.closed then
      let n := s.sl.hops + 1
      if 8 < n then s.raiseEpisode Fb.sync 9 2
      else
        let s := (s.setPar P.SL_NDEV 0 n).setPar P.SL_POS 0 0
        let s := s.setSl { s.sl with reform := false, partnerSeen := false, partnerLost := 0, haltSeen := s.anyHalt }
        (s.endEpisode Fb.sync 9).formPair
    else s
  else if s.sl.forming ∧ s.sl.reform = false ∧ s.sl.framed then
    (s.setSl { s.sl with forming := false, partnerSeen := false, partnerLost := 0 }).formPair
  else s

/-- UID_COMPARE (R505). -/
def State.uidCompare (s : State) : State :=
  let x := s.sl
  if s.slUp && x.originates && decide (64 ≤ x.rivals) then
    let own := s.uidByte
    if x.rivalUid < own then
      let s := s.setSl { x with
        originates := false, reformLeft := 0, rivals := 0, state := .locking, loaded := false, within := 0, flying := [] }
      let s := if s.isPair then s else s.setPar P.SL_ROLE 0 Role.follower
      s.raiseEpisode Fb.sync 10 2
    else if own = x.rivalUid then s.setSl { x with rivals := 0, uidByte := min 7 (x.uidByte + 1) }
    else s.setSl { x with rivals := 0 }
  else s

/-- TIME_DIVERGENCE_TIMEOUT (R509). -/
def State.timeDiverged (s : State) : State :=
  let x := s.sl
  if s.slUp && x.diverged && !x.timeDiv && decide (x.divergedAt + msTicks (s.par P.SL_CONVT) ≤ s.t) then
    (s.setSl { x with timeDiv := true }).raiseEpisode Fb.sync 6 2
  else s

/-- HASH_MISMATCH (R513): a standby's hash against its active's, by the records; otherwise the originator's expected hash,
which no frame carries, so that the event itself is the mismatch. Neither device's grist block is busy. -/
def State.hashMismatch (s : State) : State :=
  let x := s.sl
  let lasts := match x.pairAt with
    | some a => decide ((s.par P.SL_HASHCYC * 2 ^ 24 : Nat) ≤ stampSub s.angleStamp a)
    | none => false
  if s.slUp = false ∨ s.isFollower = false ∨ (x.state ≠ .synced ∧ x.state ≠ .hold) then s
  else if lasts then ((s.setSl { x with holdPair := true }).enterHold).raiseEpisode Fb.sync 7 2
  else if s.grist.state = .idle ∧ (tblGet {} x.peers 0).gristBusy = false then ((s.setSl { x with holdHash := true }).enterHold).raiseEpisode Fb.sync 7 2
  else s

/-- SYNC_HOLD_EXIT (R514): every hold cause has been absent for one machine cycle. -/
def State.holdExit (s : State) : State :=
  let x := s.sl
  let absent := match x.clearAt with
    | some a => decide ((2 ^ 24 : Nat) ≤ stampSub s.angleStamp a)
    | none => false
  if s.slUp && x.state == .hold && absent && !x.holdContract && !x.holdPair then
    let s := s.setSl { x with state := .synced, holdHash := false, holdPair := false }
    (s.endEpisode Fb.sync 7).followRun
  else s

/-! ### Commands -/

/-- A write of `SL_ENABLE` takes effect (R503, R506, R507). -/
def State.slEnable (s : State) (on : Bool) : State :=
  if on then
    if s.sl.state ≠ .off then s
    else
      let cfg := s.par P.SL_ROLECFG
      let lead := cfg == 0 || cfg == 2
      let s := s.setPar P.SL_ROLE 0 cfg
      let s := (s.setPar P.SL_POS 0 0).setPar P.SL_NDEV 0 0
      s.setSl { s.sl with
        state := if s.flt.halted then .halted else .search, originates := lead, reformLeft := if lead then 64 else 0
        reform := lead, hops := 0, uidByte := 0, rivals := 0, lastValid := s.t, framed := false, closed := false
        forming := false, loaded := false, within := 0, diverged := false, timeDiv := false, peers := []
        flying := [], trips := [], returned := none, partnerLost := 0, partnerSeen := false, haltSeen := false
        nextFrame := s.t
        holdHash := false, holdContract := false, holdPair := false, clearAt := none, pairAt := none }
  else if s.sl.state = .off then s
  else
    let s := (s.transferEnd false).dropStaging
    let s := s.setSl { s.sl with
      state := .off, originates := false, reformLeft := 0, reform := false, framed := false, closed := false
      forming := false, held := false, heldPins := none, takeDue := false, releaseDue := false }
    ({ s with slew := 0 }).engRingLost

/-- `SL_CTRL` REFORM: the originator re-forms the ring (R503). -/
def State.slReform (s : State) : State :=
  if s.sl.originates then
    (s.setSl { s.sl with reformLeft := 64, reform := true, hops := 0, uidByte := 0 }).done
  else s.answer Status.notPermitted

/-- `SL_CTRL` RELEASE: an ACTIVE gives up its role at the next frame boundary (R521). -/
def State.slRelease (s : State) : State :=
  if s.sl.state ≠ .off ∧ s.isPair = true ∧ s.role = Role.active then (s.setSl { s.sl with releaseDue := true }).done
  else s.answer Status.notPermitted

/-- `SL_CTRL` RESUME: an acknowledged HALTED device returns (R470, R515). -/
def State.slResume (s : State) : State :=
  if s.sl.state = .halted ∧ s.pendingC Fb.sync = false ∧ s.sl.haltSeen = false then
    let back := if s.sl.originates then (if s.sl.closed then SlState.synced else SlState.search)
      else if s.sl.framed then SlState.locking else SlState.search
    ((s.setSl { s.sl with state := back, within := 0 }).openWindow Fb.sync).done
  else s.answer Status.notPermitted

/-- `SL_CTRL` 4 clears the sync link's counters. -/
def State.slClear (s : State) : State :=
  (s.clearPars [(P.SL_TOCNT, 0), (P.SL_COPYCNT, 0), (P.SL_FRMERR, 0)]).done

/-- A write of `SL_CTRL` (R526). -/
def State.slCtrl (s : State) (v : Nat) : State :=
  if v = 1 then s.slReform
  else if v = 2 then s.slRelease
  else if v = 3 then s.slResume
  else s.slClear

/-- A host's `KL_CTRL` RUN, IDLE or HIBERNATE that R514 refuses. -/
def State.klRefused (s : State) (v : Nat) : Bool :=
  (decide (v ≤ 3) && s.isFollower && (s.sl.state == .synced || s.sl.state == .hold))
    || (v == 3 && s.par P.SL_ENABLE == 1)

/-- A host's write of `KL_CTRL` or KILN_POWER (R514): a refusal records STATEREF. -/
def State.klHostCtrl (s : State) (v : Nat) : State :=
  if s.klRefused v then (s.raise Fb.sync 4 1).answer Status.notPermitted else s.klCtrl v

end Sys2Proof.Machine
end

