-- ==== Sys2Proof/Machine/TestTrace.lean ====
section
/-! DEFINITION. Boundary scan, factory test mode and the trace buffer (chapter Boundary scan, factory test and trace). -/

namespace Sys2Proof.Machine

/-- The state with the test-and-trace block set. -/
def State.setTst (s : State) (x : TestTrace) : State := { s with tst := x }

/-! ### Trace -/

/-- An entry of 16 bytes: type, info, angle stamp, time stamp, or an EXT entry (R593). -/
def TraceEntry.bytes : TraceEntry → List Byte
  | .head typ info angle time => leBytes 1 typ ++ leBytes 1 info ++ leBytes 6 angle ++ leBytes 8 time
  | .ext typ payload => [0x0F] ++ leBytes 1 typ ++ slice payload 0 14
  | .bad => List.replicate 16 0

/-- The entry is an EXT. -/
def TraceEntry.isExt : TraceEntry → Bool
  | .ext _ _ => true
  | _ => false

/-- Types recorded whatever the mask says (R594). -/
def alwaysTraced (t : Nat) : Bool := t == 0x01 || t == 0x02 || t == 0x03 || t == 0x0E

/-- The entries of an event at this edge. -/
def State.eventEntries (s : State) (e : TraceEvent) : List TraceEntry :=
  .head e.typ e.info s.angleStamp s.t :: (match e.ext with
    | some p => [.ext e.typ p]
    | none => [])

/-- The place of an event's entries in the FIFO: behind those of earlier edges, and before those of the edge at time `t` whose
type is higher (R594). A LOST entry stays where it is. -/
def traceInsert (t typ : Nat) (es : List TraceEntry) : List TraceEntry → List TraceEntry
  | [] => es
  | .head y i a t' :: l =>
    if t' = t ∧ typ < y ∧ y ≠ 0x0E then es ++ .head y i a t' :: l else .head y i a t' :: traceInsert t typ es l
  | e :: l => e :: traceInsert t typ es l

/-- The stop trigger counts entries recorded, and starts at the first FAULT entry of its class (R595). -/
def State.trigger (s : State) (e : TraceEvent) (n : Nat) : State :=
  let cfg := s.par P.TST_TRCTRIG
  let k := cfg % 8
  match s.tst.trigLeft with
  | some left =>
    if left ≤ n then s.setTst { s.tst with trigLeft := none, running := false }
    else s.setTst { s.tst with trigLeft := some (left - n) }
  | none =>
    let cls := match e.ext with
      | some p => fieldAt p 1 1 % 8
      | none => 0
    if e.typ = 0x04 ∧ 1 ≤ k ∧ k ≤ cls then
      (if bitsOf cfg 8 8 = 0 then s.setTst { s.tst with running := false }
       else s.setTst { s.tst with trigLeft := some (bitsOf cfg 8 8) })
    else s

/-- One event reaches the trace FIFO of 16 entries, or is lost (R594). -/
def State.traceEvent (s : State) (e : TraceEvent) : State :=
  if s.tst.running && (alwaysTraced e.typ || bitOf (s.par P.TST_TRCMASK) e.typ) then
    let es := s.eventEntries e
    let lost := if s.tst.lostSince = 0 then []
      else s.eventEntries { typ := 0x0E, info := 0, ext := some (leBytes 4 s.tst.lostSince ++ List.replicate 10 0) }
    let all := lost ++ es
    if s.tst.fifo.length + all.length ≤ 16 then
      let s := s.setTst { s.tst with fifo := traceInsert s.t e.typ all s.tst.fifo, lostSince := 0 }
      let s := s.bump P.TST_TRCSEQ 0 all.length
      let s := if e.typ = 0x01 then s.bump P.TST_SLEEPCNT else s
      (s.trigger e es.length).endEpisode Fb.test 0
    else
      let s := (s.setTst { s.tst with lostSince := s.tst.lostSince + 1 }).bump P.TST_TRCLOST
      s.raiseEpisode Fb.test 0 1
  else s

/-- The events of one edge enter in ascending type (R594). -/
def State.traceFlush (s : State) : State :=
  let es := sortBy TraceEvent.typ s.trcPend
  es.foldl State.traceEvent { s with trcPend := [] }

/-- Oldest entry overwritten, with its EXT (R595). -/
def dropOldest (b : List TraceEntry) : List TraceEntry :=
  match b with
  | [] => []
  | _ :: rest => match rest with
    | e :: more => if e.isExt then more else rest
    | [] => []

/-- Entries the trace buffer can hold (R596). -/
def State.traceDepth (s : State) : Nat := 4096 - s.tst.retired

/-- TRACE_FIFO_DRAIN: the buffer takes one entry from its FIFO (R594, R595). -/
def State.traceDrain (s : State) : State :=
  if s.pwr.phase ≠ .running then s
  else
    match s.tst.fifo with
    | [] => s
    | e :: rest =>
      let x := s.tst
      let full := decide (s.traceDepth ≤ x.buffer.length)
      if full && s.par P.TST_TRCMODE == 1 then
        let rest := match rest with
          | r :: more => if !e.isExt && r.isExt then more else rest
          | [] => []
        let s := (s.setTst { x with fifo := rest, lostSince := x.lostSince + 1 }).bump P.TST_TRCLOST
        s.raiseEpisode Fb.test 0 1
      else if full && x.buffer.isEmpty then s.setTst { x with fifo := rest }
      else
        let b := if full then dropOldest x.buffer else x.buffer
        s.setTst { x with fifo := rest, buffer := b ++ [e] }

/-- Start of recording (R601). -/
def State.traceStart (s : State) : State :=
  if s.tst.running then s
  else
    let s := s.setTst { s.tst with running := true, trigLeft := none }
    (s.setPar P.TST_TRCSTART 0 (s.t % 2 ^ 32)).setPar P.TST_TRCSTART 1 (s.t / 2 ^ 32)

/-- Stop of recording. -/
def State.traceStop (s : State) : State := s.setTst { s.tst with running := false, trigLeft := none }

/-- The buffer and its FIFO are emptied. -/
def State.traceClear (s : State) : State := s.setTst { s.tst with buffer := [], fifo := [], lostSince := 0 }

/-- An ECC error in an entry that TRACE_READ returns (R596, R599). -/
def State.traceEcc (s : State) (i : Nat) (bad : Bool) : State :=
  if bad then
    let s := s.setTst { s.tst with
      buffer := (List.range s.tst.buffer.length).map (fun k => if k = i then .bad else nthD .bad s.tst.buffer k)
      retired := s.tst.retired + 1 }
    (s.bump P.TST_TRCECC 1).raise Fb.test 2 2
  else (s.bump P.TST_TRCECC 0).raise Fb.test 1 1

/-- `TST_CTRL` 4 clears the block's counters; the trace counts that R600 keeps apart are its last two. -/
def State.tstClear (s : State) : State :=
  (s.clearPars [(P.TST_TRCLOST, 0), (P.TST_TRCECC, 0), (P.TST_TRCECC, 1), (P.TST_SLEEPCNT, 0), (P.TST_BRSTCNT, 0),
    (P.TST_TESTCNT, 0), (P.TST_JTAGCNT, 0)]).done

/-- A write of `TST_CTRL` (R601). -/
def State.tstCtrl (s : State) (v : Nat) : State :=
  if v = 1 then s.traceStart.done
  else if v = 2 then s.traceStop.done
  else if v = 3 then s.traceClear.done
  else s.tstClear

/-- A write of `TST_MARK`. -/
def State.traceMark (s : State) (v : Nat) : State := (s.trace 0x0B 0 (some (leBytes 4 v ++ List.replicate 10 0))).done

/-! ### Boundary scan (R582–R587) -/

/-- The TAP works: VCORE and VIO_B. -/
def State.tapUp (s : State) : Bool := s.pwr.vcore && s.pwr.vioB

/-- R586 ends: balls take their core drive by way of the hold register, and input cells settle again. -/
def State.tapLeave (s : State) : State :=
  if s.tst.isolated = false then s
  else
    let d := (List.range 48).map (fun p => s.pinDrive p)
    let s := s.setTst { s.tst with isolated := false }
    let s := if s.pwr.phase = .running then
        (List.range 48).foldl (fun s p =>
          s.setPin p { s.pin p with hold := some (nthD (false, false) d p) }) s
      else s
    (List.range 64).foldl (fun s n =>
      if isInputMode (s.par P.AC_MODE n) && ((s.cell n).state == .active || (s.cell n).state == .settling) then
        s.startSettling n 10000
      else s) s

/-- R586 begins. -/
def State.tapEnter (s : State) : State :=
  if s.tst.isolated then s
  else
    let s := (s.setTst { s.tst with isolated := true }).bump P.TST_JTAGCNT
    s.raise Fb.test 5 1

/-- An instruction becomes current (Table 20.1). -/
def State.tapInstr (s : State) (code : Nat) (isolates : Bool) : State :=
  if s.tapUp then
    let s := if isolates then s.tapEnter else s.tapLeave
    s.setTst { s.tst with ir := code, bypass := false }
  else s

/-- Capture-IR: [7] Halt, [6] factory test mode, [1:0] 0b01 (R583). -/
def State.captureIr (s : State) : State :=
  if s.tapUp then
    s.setTst { s.tst with irCapture := 128 * b2n (s.flt.halted && s.pwr.phase == .running) + 64 * b2n s.tst.testMode + 1 }
  else s

/-- The tester loads an instruction (Table 20.1). -/
def State.tapLoad (s : State) (code : Nat) (isolates : Bool) : State := s.captureIr.tapInstr code isolates

/-- IDCODE: the data register captures the part's code (R3, Table 20.1). -/
def State.idcodeRead (s : State) : State :=
  if s.tapUp then
    let s := s.tapLoad 0x02 false
    s.setTst { s.tst with idcode := 0x2B6A41D3 }
  else s

/-- The 32 bytes that a selector names (R587). -/
def State.recBytes (s : State) (sel : Nat) : List Byte :=
  let src := sel / 2 ^ 14
  if src = 0 then s.captureBytes (sel % 256)
  else if src = 1 then ((s.flt.log.drop (sel % 512)).head?.map FaultRec.bytes).getD (List.replicate 32 0)
  else if src = 2 then ((s.flt.overflow.drop (sel % 4)).head?.map FaultRec.bytes).getD (List.replicate 32 0)
  else
    let at' := fun (k : Nat) => ((s.tst.buffer.drop k).head?.map TraceEntry.bytes).getD (List.replicate 16 0)
    at' (sel % 4096) ++ at' (sel % 4096 + 1)

/-- The selector after Update-DR of RECDATA: one record on, or two trace entries, within its index field. -/
def nextSel (sel : Nat) : Nat :=
  let src := sel / 2 ^ 14
  let w := if src = 0 then 256 else if src = 1 then 512 else if src = 2 then 4 else 4096
  let i := (sel % w + (if src = 3 then 2 else 1)) % w
  sel - sel % w + i

/-- RECSEL: the selector (R587). -/
def State.recSelect (s : State) (sel : Nat) : State :=
  if s.tapUp then
    let s := s.tapLoad 0x10 false
    s.setTst { s.tst with recsel := sel % 65536 }
  else s

/-- RECDATA: the selected bytes are captured, and the index advances (R587). -/
def State.recRead (s : State) : State :=
  if s.tapUp then
    let s := s.tapLoad 0x11 false
    s.setTst { s.tst with recdata := s.recBytes s.tst.recsel, recsel := nextSel s.tst.recsel }
  else s

/-- SAMPLE/PRELOAD: the boundary register captures, and its update stage takes what was shifted in (R583, R584). -/
def State.samplePreload (s : State) (balls shifted : Nat) : State :=
  if s.tapUp then
    let b := s.boundaryCapture balls
    let s := s.tapLoad 0x01 false
    s.setTst { s.tst with bscan := b, boundary := shifted }
  else s

/-! ### Factory test mode (R588, R589) -/

/-- TESTMODE_N has been high for 1 µs. -/
def State.testPinHigh (s : State) : State := (s.setTst { s.tst with testPinN := true }).testEnd

/-- No command from the port that entered factory test mode for `TST_TESTTO`. -/
def State.testIdle (s : State) : State :=
  if s.tst.testMode ∧ s.tst.testLast + msTicks (s.par P.TST_TESTTO) ≤ s.t then s.testEnd else s

/-- What a device reset leaves of the block (R600): the trace and its parameters; a power-on reset empties them. -/
def State.testReset (s : State) (powerOn : Bool) : State :=
  let x := s.tst
  let kept : List (Nat × Nat) := if powerOn then [] else
    [(P.TST_TRCMODE, 0), (P.TST_TRCMASK, 0), (P.TST_TRCAUTO, 0), (P.TST_TRCTRIG, 0), (P.TST_TRCLOST, 0), (P.TST_TRCSEQ, 0),
      (P.TST_TRCSTART, 0), (P.TST_TRCSTART, 1), (P.TST_TRCECC, 0), (P.TST_TRCECC, 1)]
  let vals := kept.map (fun p => (p, s.lastPar p.1 p.2))
  let s := s.resetParams Fb.test
  let s := vals.foldl (fun (s : State) v => s.setPar v.1.1 v.1.2 v.2) s
  s.setTst {
    buffer := if powerOn then [] else x.buffer
    fifo := if powerOn then [] else x.fifo
    lostSince := if powerOn then 0 else x.lostSince
    retired := if powerOn then 0 else x.retired
    ir := if powerOn then 0x02 else x.ir
    boundary := x.boundary, bscan := x.bscan, recsel := x.recsel, recdata := x.recdata
    irCapture := x.irCapture, idcode := x.idcode
    isolated := if powerOn then false else x.isolated
    testPinN := x.testPinN }

end Sys2Proof.Machine
end

