-- ==== Sys2Proof/Machine/Links.lean ====
section
/-! DEFINITION. Port links and Port E (R396, R398, R410–R419): addresses, what the port sends, and the IEEE 1588 slave. -/

namespace Sys2Proof.Machine

/-! ### Links (R396, R398) -/

/-- The bit of a port, 1–4, in `HP_PORTEN`. -/
def State.portOn (s : State) (port : Nat) : Bool := bitOf (s.par P.HP_PORTEN) (port - 1)

/-- The state with the host ports, Port E or the PTP port set. -/
def State.setHp (s : State) (h : HostPorts) : State := { s with hp := h }
def State.setEth (s : State) (e : Ether) : State := { s with hp := { s.hp with eth := e } }
def State.setPtp (s : State) (p : Ptp) : State := { s with hp := { s.hp with ptp := p } }

/-- Port E can transmit: it is on, does more than watch for wake activity, and the MAC address of its OTP is good (R267, R396,
Table 19.8). -/
def State.ethMay (s : State) : Bool :=
  s.pwr.phase == .running && s.portOn 4 && !s.pwr.otpBadMac && !s.flt.halted && s.kiln.state != .hibernate

/-- Port E transmits a frame. -/
def State.ethSend (s : State) (o : EthOut) : State :=
  if s.ethMay then
    let e := s.hp.eth
    s.setEth { e with sent := if e.sentAt = s.t then e.sent ++ [o] else [o], sentAt := s.t }
  else s

/-- Port E has a link and an address (R398, R411). -/
def State.ethReady (s : State) : Bool :=
  s.portOn 4 && s.hp.eth.phyUp && s.address.1 != 0

/-! ### PTP states (R416) -/

/-- The PTP port changes state (Table 14.6). -/
def State.ptpTo (s : State) (st : PtpState) : State :=
  let p := s.hp.ptp
  if p.state = st then s
  else
    let s := if p.state = .slave then
        (s.setPtp { p with ofsExit := some p.ofs }).raise Fb.ports 2 1 (inst := 3)
      else s
    let p := s.hp.ptp
    let p := match st with
      | .uncalibrated =>
        { p with whole := true, good := 0, sync := none, syncs := [], req := none, delays := [], sinceCorr := 0 }
      | .listening => { p with master := none, sync := none }
      | .faulty => { p with master := none, sync := none }
      | .disabled => { p with master := none, sync := none, foreign := [] }
      | .slave => p
    let s := s.setPtp { p with state := st, changed := true }
    match st, p.ofsExit with
    | .slave, some x => if (1000000 : Int) < ((p.ofs - x).natAbs : Nat) then s.raise Fb.ports 5 2 (inst := 3) else s
    | _, _ => s

/-- The PTP port follows its enable and Port E's link (Table 14.6). -/
def State.ptpLink (s : State) : State :=
  let on := bitOf (s.par P.HP_PTPCTRL) 0
  let up := s.ethReady && (s.par P.HP_LINKTO 3 == 0 || s.hp.links.contains 4)
  if on = false then s.ptpTo .disabled
  else if up = false then s.ptpTo .faulty
  else if s.hp.ptp.state = .disabled ∨ s.hp.ptp.state = .faulty then s.ptpTo .listening
  else s

/-- The link of a port is lost (R398): ownership ends, and LINKLOSS is recorded. -/
def State.linkLost (s : State) (port : Nat) : State :=
  let s := if s.hp.links.contains port then
      let s := s.setHp { s.hp with links := s.hp.links.filter (fun p => !(p == port)) }
      (s.endOwnership port).raise Fb.ports 0 1 (inst := port - 1)
    else s
  if port = 4 then s.ptpLink else s

/-- A valid frame or packet has arrived on a port (R398). -/
def State.linkValid (s : State) (port : Nat) : State :=
  let s := s.setHp { s.hp with lastValid := tblSet 0 s.hp.lastValid port s.t }
  if s.hp.links.contains port then s
  else if port = 4 ∧ s.ethReady = false then s
  else
    let s := s.setHp { s.hp with links := sortBy id (port :: s.hp.links) }
    if port = 4 then s.ptpLink else s

/-- LINK_TIMEOUT: no valid frame or packet for `HP_LINKTO`. -/
def State.linkTimeout (s : State) (port : Nat) : State :=
  let n := s.par P.HP_LINKTO (port - 1)
  if s.hopperUp && n != 0 && decide (tblGet 0 s.hp.lastValid port + msTicks n ≤ s.t) then s.linkLost port else s

/-- A port's bit in `HP_PORTEN` has been cleared: its session closes as SESSION_CLOSE does, and U's transmission ends (R396). -/
def State.portOff (s : State) (port : Nat) : State :=
  let s := s.closeSession port
  let h := { s.hp with links := s.hp.links.filter (fun p => !(p == port)) }
  s.setHp (if port = 3 then { h with uAddressed := false, uDe := none }
    else if port = 4 then { h with eth := { h.eth with phyUp := false, phyMiss := 0 } } else h)

/-- A write of `HP_PORTEN` takes effect (R396). -/
def State.portenSet (s : State) (v : Nat) : State :=
  let was := s.par P.HP_PORTEN
  let s := s.setPar P.HP_PORTEN 0 v
  let s := [1, 2, 3, 4].foldl (fun (s : State) p =>
    if bitOf was (p - 1) && !bitOf v (p - 1) then s.portOff p else s) s
  s.ptpLink

/-- A write of `HP_ESTRIP` takes effect: the MAC address learnt from another address is not that of the new one (R413;
DESIGN CHOICE, log entry 140). -/
def State.estripSet (s : State) (v : Nat) : State :=
  let s := if s.par P.HP_ESTRIP = v then s else s.setEth { s.hp.eth with strMac := none }
  s.setPar P.HP_ESTRIP 0 v

/-- A write of `HP_PTPCTRL` takes effect (R414, R416, R417). -/
def State.ptpctrlSet (s : State) (v : Nat) : State :=
  let was := s.par P.HP_PTPCTRL
  let s := s.setPar P.HP_PTPCTRL 0 v
  let s := if was / 256 = v / 256 then s else s.ptpTo .disabled
  let s := if (bitOf v 0 && bitOf v 1) || s.isFollower then s else { s with slew := 0 }
  s.ptpLink

/-! ### Addresses (R411) -/

/-- The client looks for a lease. -/
def State.dhcpStart (s : State) : State :=
  if s.par P.HP_EIPMODE = 1 ∧ s.hp.eth.phyUp = true ∧ s.portOn 4 = true then
    (s.setEth { s.hp.eth with dhcp := .selecting }).ethSend (.dhcp 1)
  else s

/-- PHY_POLL (R398, Table 14.8). -/
def State.phyPoll (s : State) (r : PhyAnswer) : State :=
  if s.hopperUp = false ∨ s.portOn 4 = false then s
  else
    let e := s.hp.eth
    match r with
    | .up =>
      let s := (s.setEth { e with phyMiss := 0, phyUp := true }).endEpisode Fb.ports 7
      if e.phyUp then s
      else
        let s := if s.par P.HP_EIPMODE = 0 then
            (if s.par P.HP_EIP = 0 then s else s.ethSend (.arpGratuitous (s.par P.HP_EIP)))
          else if e.lease.isSome then s else s.dhcpStart
        s.ptpLink
    | .down => ((s.setEth { e with phyMiss := 0, phyUp := false }).endEpisode Fb.ports 7).linkLost 4
    | .silent =>
      let s := s.setEth { e with phyMiss := min 3 (e.phyMiss + 1) }
      if 2 ≤ e.phyMiss then
        ((s.setEth { s.hp.eth with phyUp := false }).raiseEpisode Fb.ports 7 2 (inst := 3)).linkLost 4
      else s

/-- Ticks in a number of seconds. -/
def secTicks (n : Nat) : Nat := n * 100000000

/-- DHCP_MESSAGE (R411). -/
def State.dhcpMessage (s : State) (m : DhcpMessage) : State :=
  if s.hopperUp = false ∨ s.portOn 4 = false ∨ s.par P.HP_EIPMODE = 0 then s
  else
    let e := s.hp.eth
    match m.kind with
    | .offer => if e.dhcp = .selecting then (s.setEth { e with dhcp := .requesting }).ethSend (.dhcp 3) else s
    | .ack =>
      if e.dhcp = .requesting ∨ e.dhcp = .renewing ∨ e.dhcp = .rebinding then
        let l : Lease := {
          ip := m.ip.toNat, mask := m.mask.toNat, gw := m.gw.toNat, t1 := s.t + secTicks m.t1.toNat
          t2 := s.t + secTicks m.t2.toNat, expiry := s.t + secTicks m.lease.toNat }
        let was := s.address.1
        let s := (s.setEth { e with dhcp := .bound, lease := some l }).endEpisode Fb.ports 6
        let s := if was = l.ip then s else s.ethSend (.arpGratuitous l.ip)
        s.ptpLink
      else s
    | .nak =>
      if e.dhcp = .requesting ∨ e.dhcp = .renewing ∨ e.dhcp = .rebinding then
        ((s.setEth { e with dhcp := .idle, lease := none }).linkLost 4).dhcpStart
      else s

/-- DHCP_RENEW, DHCP_REBIND and DHCP_LEASE_EXPIRY (R411, R427). -/
def State.dhcpRenew (s : State) : State :=
  match s.hp.eth.lease with
  | some l =>
    if s.hopperUp && s.hp.eth.dhcp == .bound && decide (l.t1 ≤ s.t) then
      (s.setEth { s.hp.eth with dhcp := .renewing }).ethSend (.dhcp 3)
    else s
  | none => s
def State.dhcpRebind (s : State) : State :=
  match s.hp.eth.lease with
  | some l =>
    if s.hopperUp && s.hp.eth.dhcp == .renewing && decide (l.t2 ≤ s.t) then
      (s.setEth { s.hp.eth with dhcp := .rebinding }).ethSend (.dhcp 3)
    else s
  | none => s
def State.dhcpExpiry (s : State) : State :=
  match s.hp.eth.lease with
  | some l =>
    if s.hopperUp && decide (l.expiry ≤ s.t) then
      let s := (s.setEth { s.hp.eth with dhcp := .idle, lease := none }).raiseEpisode Fb.ports 6 2 (inst := 3)
      (s.linkLost 4).dhcpStart
    else s
  | none => s

/-- ARP_REQUEST (R410, Table 14.5). -/
def State.arpRequest (s : State) (target sender : Nat) : State :=
  if s.hopperUp = false ∨ s.portOn 4 = false then s
  else if s.address.1 ≠ 0 ∧ target = s.address.1 then s.ethSend (.arpReply sender)
  else s.bump P.HP_ERXDROP 1

/-- ETH_FRAME_DISCARD (R410, R427). -/
def State.ethDiscard (s : State) (c : EthDrop) : State :=
  if s.hopperUp = false ∨ s.portOn 4 = false then s
  else
    match c with
    | .cause k => s.bump P.HP_ERXDROP k.val
    | .noBuffer => s.raise Fb.ports 4 1 (inst := 3)

/-- A datagram from an address teaches the port a MAC address (R413). -/
def State.learnMac (s : State) (p : Peer) : State :=
  let e := s.hp.eth
  let (ip, mask, _) := s.address
  let e := if p.ip.toNat = s.par P.HP_ESTRIP then { e with strMac := some p.mac.toNat } else e
  let e := if (p.ip.toNat &&& mask) = (ip &&& mask) then e else { e with outMac := some p.mac.toNat }
  s.setEth e

/-- The MAC address of stream datagrams, where one is known (R413). -/
def State.streamMac (s : State) : Option Nat :=
  let set := s.par P.HP_ESTRMAC 0 + 2 ^ 32 * s.par P.HP_ESTRMAC 1
  let (ip, mask, _) := s.address
  let dst := s.par P.HP_ESTRIP
  if set ≠ 0 then some set
  else if (dst &&& mask) = (ip &&& mask) then s.hp.eth.strMac
  else s.hp.eth.outMac

/-! ### IEEE 1588 (R414–R417) -/

/-- The ticks of 2^k seconds. -/
def logTicks (k : Int) : Nat := if 0 ≤ k then secTicks (2 ^ k.toNat) else secTicks 1 / 2 ^ (-k).toNat

/-- PTP takes messages of a domain: the port is enabled and its link is up. -/
def State.ptpTakes (s : State) (domain : Nat) : Bool :=
  s.hopperUp && s.portOn 4 && s.hp.ptp.state != .disabled && s.hp.ptp.state != .faulty
    && decide (domain = s.par P.HP_PTPCTRL / 256)

/-- A message that PTP does not take: one of another domain, or to a port not in use, is dropped (Table 14.5). -/
def State.ptpDrop (s : State) : State :=
  if s.hopperUp && s.portOn 4 then s.bump P.HP_ERXDROP 1 else s

/-- Lexicographic order of dataset fields: the lower is the better master. -/
def rankLt : List Nat → List Nat → Bool
  | [], [] => false
  | [], _ => true
  | _, [] => false
  | a :: as', b :: bs => if a = b then rankLt as' bs else decide (a < b)

/-- The best of the foreign masters. -/
def bestForeign (fs : List Foreign) : Option Foreign :=
  fs.foldl (fun (m : Option Foreign) f =>
    match m with
    | none => some f
    | some g => if rankLt f.rank g.rank then some f else some g) none

/-- The foreign masters that count: the master in use, until PTP_TIMEOUT, and any other heard within 3 of its announce
intervals, as R416 has it of the master (DEDUCED, log entry 139). -/
def State.foreignHeard (s : State) : List Foreign :=
  let p := s.hp.ptp
  p.foreign.filter (fun g => p.master == some g.port || decide (s.t < g.last + 3 * logTicks g.interval))

/-- PTP_ANNOUNCE (R414): the best of at most four foreign masters is chosen. -/
def State.ptpAnnounce (s : State) (m : PtpAnnounce) : State :=
  if s.ptpTakes m.domain.toNat = false then s.ptpDrop
  else
    let p := s.hp.ptp
    let f : Foreign := { port := m.port.toNat, rank := m.rank, interval := m.interval, last := s.t }
    let heard := s.foreignHeard
    let others := heard.filter (fun g => !(g.port == f.port))
    let known := decide (others.length < heard.length)
    let fs := if known || decide (heard.length < 4) then others ++ [f] else heard
    let s := s.setPtp { p with foreign := fs }
    match bestForeign fs with
    | none => s
    | some b =>
      let s := if b.port = m.port.toNat then
          (s.setPar P.HP_PTPGM 0 (m.gm.toNat % 2 ^ 32)).setPar P.HP_PTPGM 1 (m.gm.toNat / 2 ^ 32)
        else s
      if p.master = some b.port then s
      else
        let s := if s.hp.ptp.state = .uncalibrated then s.ptpTo .listening else s
        let s := s.ptpTo .uncalibrated
        s.setPtp { s.hp.ptp with master := some b.port, lastSync := s.t }

/-- A Sync with its origin time known, received at device time `t2` (R415–R417). -/
def State.ptpOffset (s : State) (t1 t2 : Int) : State :=
  let p := s.hp.ptp
  let o := t1 + p.delay - t2
  let ofs := if p.whole then o else p.ofs + openDivI 29 (o - p.ofs) 8
  let rate := match (p.syncs.drop 15).head? with
    | some (a, b) => if b < t2 then openDivI 30 (((t1 - a) - (t2 - b)) * 1000000000000) (t2 - b).toNat else p.rate
    | none => p.rate
  let near := decide (((o - ofs).natAbs : Nat) ≤ (1000 : Int))
  let full := decide (16 ≤ p.syncs.length)
  let s := s.setPtp { p with
    ofs := ofs, whole := false, good := if near then min 8 (p.good + 1) else 0, rate := rate
    syncs := ((t1, t2) :: p.syncs).take 17, sinceCorr := if full then p.sinceCorr + 1 else 0 }
  let s := if s.hp.ptp.state = .uncalibrated ∧ 8 ≤ s.hp.ptp.good then s.ptpTo .slave else s
  let p := s.hp.ptp
  if p.state = .slave && bitOf (s.par P.HP_PTPCTRL) 1 && !s.isDegraded Fb.ports 5 && !s.isFollower && full
      && (p.sinceCorr % 16 == 1) then
    { s with slew := clampInt (-100000000) 100000000 (s.slew + p.rate) }
  else s

/-- Device time now, in ns. -/
def State.devNs (s : State) : Int := (s.t * 10 : Nat)

/-- PTP_SYNC (R415). -/
def State.ptpSync (s : State) (m : PtpSync) : State :=
  if s.ptpTakes m.domain.toNat = false then s.ptpDrop
  else
    let p := s.hp.ptp
    if p.master ≠ some m.port.toNat ∨ (p.state ≠ .uncalibrated ∧ p.state ≠ .slave) then s
    else
      let s := s.setPtp { p with lastSync := s.t, syncInterval := m.interval }
      if m.twoStep then s.setPtp { s.hp.ptp with sync := some (m.seq.toNat, s.devNs, m.correction) }
      else (s.setPtp { s.hp.ptp with sync := none }).ptpOffset (m.origin + m.correction) s.devNs

/-- PTP_FOLLOW_UP (R415). -/
def State.ptpFollowUp (s : State) (m : PtpFollowUp) : State :=
  if s.ptpTakes m.domain.toNat = false then s.ptpDrop
  else
    let p := s.hp.ptp
    if p.master ≠ some m.port.toNat then s
    else
      match p.sync with
      | some (q, t2, c) =>
        if q = m.seq.toNat then (s.setPtp { p with sync := none }).ptpOffset (m.origin + c + m.correction) t2 else s
      | none => s

/-- PTP_DELAY_REQ_SEND (R414, R415). -/
def State.ptpDelayReq (s : State) : State :=
  let p := s.hp.ptp
  if s.hopperUp && (p.state == .uncalibrated || p.state == .slave) then
    match p.syncs with
    | (t1, t2) :: _ =>
      let s := s.setPtp { p with
        req := some (p.reqSeq, s.devNs, t1, t2), reqSeq := (p.reqSeq + 1) % 65536
        nextReq := s.t + logTicks p.reqInterval }
      s.ethSend (.delayReq p.reqSeq)
    | [] => s
  else s

/-- PTP_DELAY_RESP (R415). -/
def State.ptpDelayResp (s : State) (m : PtpDelayResp) : State :=
  if s.ptpTakes m.domain.toNat = false then s.ptpDrop
  else
    let p := s.hp.ptp
    if p.master ≠ some m.port.toNat then s
    else
      match p.req with
      | some (q, t3, t1, t2) =>
        if q = m.seq.toNat then
          let t4 := m.receive - m.correction
          let ds := (((t2 - t1) + (t4 - t3)) :: p.delays).take 8
          s.setPtp { p with
            req := none, reqInterval := m.interval, delays := ds
            delay := openDivI 31 (ds.foldl (· + ·) 0) (2 * ds.length) }
        else s
      | none => s

/-- PTP_TIMEOUT: no Announce from the master for 3 announce intervals, or no Sync for 3 sync intervals (R416). -/
def State.ptpTimeout (s : State) : State :=
  let p := s.hp.ptp
  match p.master with
  | none => s
  | some m =>
    let quiet := p.foreign.any (fun f => f.port == m && decide (f.last + 3 * logTicks f.interval ≤ s.t))
    let noSync := decide (p.lastSync + 3 * logTicks p.syncInterval ≤ s.t)
    if s.hopperUp && (quiet || noSync) then
      (s.setPtp { p with foreign := p.foreign.filter (fun f => !(f.port == m)) }).ptpTo .listening
    else s

/-! ### Event datagrams (R419) -/

/-- The sources of `HP_IRQSTAT` that raise event datagrams. -/
def State.eventBits (s : State) : Nat := s.irqStat &&& s.par P.HP_IRQEN 1

/-- An event datagram leaves, where a command has given its destination. -/
def State.eventSend (s : State) : State :=
  let e := s.hp.eth
  if e.peer.isSome ∧ s.ethReady = true then
    (s.setEth { e with eventAt := some s.t, eventHeld := false }).ethSend (.event s.irqStat s.angleStamp s.t)
  else s.setEth { e with eventHeld := false }

/-- The sources as they stand after an edge: a bit that becomes 1 sends a datagram, or is held back (R419). -/
def State.eventCheck (s : State) : State :=
  if s.hopperUp = false then s
  else
    let now := s.eventBits
    let e := s.hp.eth
    let rises := decide (now &&& e.irqSeen ≠ now)
    let s := if e.irqSeen = now then s else s.setEth { e with irqSeen := now }
    if rises && s.portOn 4 then
      match e.eventAt with
      | some t => if s.t < t + msTicks (s.par P.HP_EEVTMIN) then s.setEth { s.hp.eth with eventHeld := true } else s.eventSend
      | none => s.eventSend
    else s

/-- EVENT_HOLDOFF_EXPIRY (R419). -/
def State.eventHoldoff (s : State) : State :=
  match s.hp.eth.eventAt with
  | some t =>
    if s.hopperUp && s.hp.eth.eventHeld && decide (t + msTicks (s.par P.HP_EEVTMIN) ≤ s.t) then s.eventSend else s
  | none => s

end Sys2Proof.Machine
end

