-- ==== Sys2Proof/Machine/Params.lean ====
section
/-! DEFINITION. Writes of the parameter space (chapter The parameter space): the checks of a write, its effect by attribute, the
commands of CMD parameters, and groups. -/

namespace Sys2Proof.Machine

/-- One write: parameter, instance and value. -/
structure Write where
  id : Nat
  inst : Nat
  value : Nat
deriving DecidableEq, Repr

/-- The access attribute of a parameter; RO where there is none. -/
def attrOf (id : Nat) : Attr :=
  match paramDef? id with
  | some d => d.attr
  | none => .ro

/-! ### Conditions of single writes -/

/-- A port is off, and its parameters may be written (R429). -/
def State.portOffNow (s : State) (port : Nat) : Bool := !bitOf (s.lastPar P.HP_PORTEN) (port - 1)

/-- A code 0x22 session is open (R422, R429). -/
def State.persSession (s : State) : Bool := [2, 3].any (fun p => (s.session p).isOpen && (s.session p).personality)

/-- TQ15 is reserved for personalities (R422). -/
def State.tq15Reserved (s : State) : Bool := bitOf (s.lastPar P.HP_PORTEN) 0 || s.persSession

/-- A mailbox holds nothing and no MB_WRITE waits for it. -/
def State.mboxFree (s : State) (n : Nat) : Bool := (s.mbox n).msg.isNone && (s.mbox n).pendWrites.isEmpty

/-- The stopped condition of a RW-LOCKED parameter (R379), for a write of value `v`. -/
def State.stoppedFor (s : State) (id inst v : Nat) : Bool :=
  if id < 0x0C0 then s.eng.state == .stopped
  else if P.FL_CU0 ≤ id ∧ id ≤ P.FL_CU3 then s.setStopped (id - P.FL_CU0)
  else if id = P.HP_PERS ∨ id = P.HP_PMAP then s.portOffNow 1 && !s.persSession
  else if id = P.HP_S2QUAD then s.portOffNow 2
  else if id = P.HP_UBAUD ∨ id = P.HP_UADDR then s.portOffNow 3
  else if 0x3C0 ≤ id ∧ id < 0x400 then s.portOffNow 4
  else if id = P.MB_DIR ∨ id = P.MB_PORT then s.mboxFree inst
  else if id = P.MB_ROUTE then s.mboxFree (8 + inst) && s.mboxFree (s.par P.MB_ROUTE inst) && s.mboxFree v
  else if id = P.ST_CFG ∨ id = P.ST_RESV then (s.ring inst).state == .disabled
  else if id = P.SL_ROLECFG then s.lastPar P.SL_ENABLE == 0
  else false

/-- `KL_JCLASS` at a job whose class is fixed, or that is reserved (R276). -/
def fixedJobClass (j : Nat) : Bool :=
  decide (j ≤ 0x06) || (decide (0x0C ≤ j) && decide (j ≤ 0x0F)) || (decide (0x18 ≤ j) && decide (j ≤ 0x1F))

/-- The write conditions of the owning chapters that concern one parameter: status and detail. -/
def State.ownCheck (s : State) (id inst v : Nat) : Nat :=
  if id = P.AC_MODE ∧ (v = 3 ∨ isOutputMode v = true) ∧ (s.pwr.avpos && s.pwr.avneg) = false then Status.notPermitted
  else if id = P.AC_OUT then
    (if (s.cell inst).state = .safe then Status.faultState
     else if isOutputMode (s.par P.AC_MODE inst) then Status.ok else Status.notPermitted)
  else if id = P.CMP_THR ∧ thrOutOfOrder (s.par P.CMP_MODE inst) v = true then Status.outOfRange
  else if id = P.KL_JCLASS ∧ fixedJobClass inst = true then Status.notPermitted
  else if (id = P.CAL_CGAIN ∨ id = P.CAL_COFS) ∧ s.cal.state ≠ .idle then Status.busyLocked
  else if id = P.FAB_RAMDAT then s.readStatus id inst
  else if (id = P.WH_TQDUEL ∨ id = P.WH_TQDUEH ∨ id = P.WH_TQPER ∨ id = P.WH_TQCTL) ∧ inst = 15 ∧ s.tq15Reserved = true then
    Status.notPermitted
  else Status.ok

/-- The checks of one write but the rules that relate parameters (R373–R375, R379, R577): status and detail. -/
def State.writeCheck (s : State) (id inst v : Nat) : Nat × Nat :=
  if paramExists id inst = false then (Status.badTarget, 0)
  else
    let a := attrOf id
    if a = .ro then (Status.notPermitted, 2)
    else if valueOk id inst v = false then (Status.outOfRange, 0)
    else if s.resetting (ownerOf id inst) then (Status.busyLocked, 0)
    else if a = .rwShadow ∧ s.grist.state ≠ .idle then (Status.busyLocked, 0)
    else if a = .rwLocked ∧ s.stoppedFor id inst v = false then (Status.busyLocked, 0)
    else (s.ownCheck id inst v, 0)

/-! ### Rules over several parameters (R62, R63, R96, R649) -/

/-- The values of a state that a write or a group would leave: nothing but the tables of values changes. -/
def State.scratch (s : State) (w : Write) : State :=
  match attrOf w.id with
  | .rwShadow => s.setShadow w.id w.inst w.value
  | .rwLive => s.acceptLive w.id w.inst w.value
  | .rwLocked => s.setPar w.id w.inst w.value
  | _ => s

/-- The status of the rules over several parameters that a record names, in the state the whole group would leave. -/
def State.relationCheck (s : State) (id inst : Nat) : Nat :=
  if id = P.AC_MODE then
    let ok := fun (n : Nat) => cellModeLegal (fun m => s.shadowPar P.AC_MODE m) n
    if ok inst && (inst == 0 || ok (inst - 1)) then Status.ok else Status.notPermitted
  else if id = P.AC_OUTMIN ∨ id = P.AC_OUTMAX then
    if s.lastPar P.AC_OUTMAX inst < s.lastPar P.AC_OUTMIN inst then Status.outOfRange else Status.ok
  else
    let bits := s.lastPar P.WH_SSIBITS
    let stb := decide (s.lastPar P.WH_SSISTB ≤ bits)
    let per := decide ((bits + 1) * 1000 ≤ s.lastPar P.WH_SSIPER * s.lastPar P.WH_SSICLK)
    let named := id == P.WH_SSIBITS || id == P.WH_SSISTB || id == P.WH_SSICLK || id == P.WH_SSIPER
    if named && !(stb && per) then Status.outOfRange
    else Status.ok

/-- The checks of single writes in order, each as if those before it had been made: the state they would leave, and status,
detail and index of the first that fails. -/
def State.checkEach (s : State) (ws : List Write) : State × Nat × Option (Nat × Nat × Nat) :=
  ws.foldl (fun (acc : State × Nat × Option (Nat × Nat × Nat)) w =>
      let r := acc.1.writeCheck w.id w.inst w.value
      if r.1 = Status.ok then (acc.1.scratch w, acc.2.1 + 1, acc.2.2)
      else (acc.1, acc.2.1 + 1, acc.2.2.or (some (r.1, r.2, acc.2.1))))
    (s, 0, none)

/-- The first write that names a parameter of a rule over several that the state does not meet (R385): status, detail and
index. -/
def State.checkRelations (s : State) (ws : List Write) : Option (Nat × Nat × Nat) :=
  (ws.foldl (fun (acc : Nat × Option (Nat × Nat × Nat)) w =>
      let st := s.relationCheck w.id w.inst
      (acc.1 + 1, if st = Status.ok then acc.2 else acc.2.or (some (st, 0, acc.1))))
    (0, none)).2

/-- The checks of a list of writes (R384, R385): each as if those before it had been made, and the rules over several
parameters against the state the whole list would leave. `none` where all pass, else status, detail and index of the first
record that fails. -/
def State.checkWrites (s : State) (ws : List Write) : Option (Nat × Nat × Nat) :=
  let one := s.checkEach ws
  match one.2.2, one.1.checkRelations ws with
  | some f, some g => if g.2.2 < f.2.2 then some g else some f
  | some f, none => some f
  | none, g => g

/-! ### Effects of accepted writes -/

/-- An evaluation step can come, at which the Wheel's RW-LIVE values take effect: the engine is in TRACK or COAST, and its
source is not a VIRTUAL one that stands or turns backwards. Otherwise they take effect at acceptance (DEDUCED, log entry
33). -/
def State.wheelSteps (s : State) : Bool := s.engineRuns && !(s.par P.WH_SRC == 4 && decide (s.parI P.WH_VSPEED ≤ 0))

/-- A RW-LIVE value takes effect at acceptance; an earlier one that still waited never comes into force (R376). -/
def State.setLive (s : State) (id inst v : Nat) : State :=
  { s.setPar id inst v with pend := tblErase s.pend (paramKey id inst) }

/-- A RW-LIVE value is accepted (R376): it waits for the owning block's sample boundary where the block has one. -/
def State.liveWrite (s : State) (id inst v : Nat) : State :=
  if id < 0x040 then s.setPar id inst v
  else if id < 0x0C0 then (if s.wheelSteps then s.acceptLive id inst v else s.setLive id inst v)
  else if id < 0x140 then s.cellAccept inst id v
  else if id < 0x180 then (s.acceptLive id inst v).cmpBoundary inst
  else if id = P.SAR_SYSGAIN ∨ id = P.SAR_SYSOFS then ((s.sarKeepSys inst).setPar id inst v).sarCalCell inst
  else if id = P.SAR_SYSFS ∨ id = P.SAR_XCTOL ∨ id = P.SAR_XCWIN then s.setPar id inst v
  else if id = P.IC_REFEN then (s.setPar id inst v).icRefUpdate
  else if id = P.IC_MNOM ∨ id = P.IC_MAVG then s.setPar id inst v
  else if id = P.FAB_RAMDAT then s.ramWrite inst (BitVec.ofNat 32 v)
  else if id = P.CAL_CGAIN then
    s.coefWrite (s.par P.CAL_CSEL / 4096) (s.par P.CAL_CSEL % 4096) (some v) none
  else if id = P.CAL_COFS then
    s.coefWrite (s.par P.CAL_CSEL / 4096) (s.par P.CAL_CSEL % 4096) none (some (signedOf 32 v))
  else if id < 0x340 then s.acceptLive id inst v
  else if id = P.HP_PORTEN then s.portenSet v
  else if id = P.HP_PTPCTRL then s.ptpctrlSet v
  else if id = P.HP_ESTRIP then s.estripSet v
  else if id = P.SL_ENABLE then (s.setPar id inst v).slEnable (v == 1)
  else s.setPar id inst v

/-- An accepted write of any attribute but CMD takes effect (Table 13.1). -/
def State.applyWrite (s : State) (w : Write) : State :=
  match attrOf w.id with
  | .rwLive => s.liveWrite w.id w.inst w.value
  | .rwShadow => s.shadowWrite w.id w.inst w.value
  | .rwLocked => s.setPar w.id w.inst w.value
  | .w1c =>
    let v := s.par w.id w.inst
    s.setPar w.id w.inst (v - (v &&& w.value))
  | _ => s

/-- A host's RW-LIVE write is noted for snapshots (Table 17.6, HOST). -/
def State.noteHost (s : State) (w : Write) : State :=
  let k := paramKey w.id w.inst
  if attrOf w.id = .rwLive ∧ s.sl.hostLive.contains k = false then
    s.setSl { s.sl with hostLive := s.sl.hostLive ++ [k] }
  else s

/-- A write accepted from a port (`HP_WRCNT`); port 0 stands for none. -/
def State.countWrite (s : State) (port : Nat) (w : Write) : State :=
  if port = 0 then s else (s.noteHost w).bump P.HP_WRCNT (port - 1)

/-! ### Time queues and the Wheel's commands (R49–R51, R60) -/

/-- Time queue `q`. -/
def State.queue (s : State) (q : Nat) : TimeQueue := tblGet {} s.wheel.queues q
def State.setQueue (s : State) (q : Nat) (x : TimeQueue) : State :=
  { s with wheel := { s.wheel with queues := tblSet {} s.wheel.queues q x } }

/-- A commit of both halves of a due time arms the queue (R51). -/
def State.armQueue (s : State) (q : Nat) : State :=
  s.setQueue q { enabled := true, due := s.lastPar P.WH_TQDUEH q * 2 ^ 32 + s.lastPar P.WH_TQDUEL q }

/-- `WH_TQCTL` 1 ENABLE, 2 DISABLE, 3 CLEAR (R51, R60). -/
def State.tqEnable (s : State) (q : Nat) : State := (s.setQueue q { s.queue q with enabled := true }).done
def State.tqDisable (s : State) (q : Nat) : State := (s.setQueue q { s.queue q with enabled := false }).done
def State.tqClear (s : State) (q : Nat) : State := (s.unpostAll (fun a => a.place == 65536 + q)).done

/-- A write of `WH_CTRL`. -/
def State.whCtrl (s : State) (v : Nat) : State :=
  if v = 1 then s.whRun else if v = 2 then s.whStop else if v = 3 then s.whReref else s.whClear

/-- `HP_PCTRL` 1 clears the counters of Table 13.2 (R393). -/
def State.pctrlClear (s : State) : State :=
  (s.clearPars ((List.range 4).flatMap (fun i => [(P.HP_CMTCNT, i), (P.HP_CMTREF, i), (P.HP_WRCNT, i)]))).done

/-- A write of `GR_CTRL`: command [7:0], argument [15:8] (R341). `imm` is IMMEDIATE. -/
def State.grCtrl (s : State) (imm : State → State) (v : Nat) : State :=
  let c := v % 256
  if c = 1 then s.grArm
  else if c = 2 then s.grAbort
  else if c = 3 then s.grCommit
  else if c = 4 then s.grRollback
  else if c = 5 then imm s
  else if c = 6 then s.grFlash
  else if c = 7 then s.grKeyRevoke (v / 256)
  else s.grClear

/-- A write of a CMD parameter, checked: the command acts as its chapter defines. -/
def State.cmdWrite (s : State) (imm : State → State) (id inst v : Nat) : State :=
  if id = P.HP_PCTRL then s.pctrlClear
  else if id = P.WH_CTRL then s.whCtrl v
  else if id = P.WH_TQCTL then (if v = 1 then s.tqEnable inst else if v = 2 then s.tqDisable inst else s.tqClear inst)
  else if id = P.AC_CTRL then s.acCtrl inst v
  else if id = P.CMP_CTRL then s.cmpCtrl inst v
  else if id = P.SAR_CTRL then s.sarCtrl inst v
  else if id = P.SAR_SYSCAL then s.sysCalWrite inst v
  else if id = P.IC_CTRL then s.icCtrl inst v
  else if id = P.FL_CTRL then s.flCtrl inst v
  else if id = P.FAB_CTRL then s.fabCtrl v
  else if id = P.TM_CTRL then s.tmCtrl inst v
  else if id = P.KL_CTRL then s.klHostCtrl v
  else if id = P.CAL_CTRL then s.calCtrl v
  else if id = P.GR_CTRL then s.grCtrl imm v
  else if id = P.MB_CTRL then s.mbCtrl inst v
  else if id = P.ST_CTRL then s.stCtrl inst v
  else if id = P.ST_POOLCTRL then s.poolCtrl v
  else if id = P.FLT_CTRL then s.fltCtrl v
  else if id = P.SL_CTRL then s.slCtrl v
  else if id = P.TST_CTRL then s.tstCtrl v
  else if id = P.TST_BLKRST then s.blockResetWrite v
  else s.traceMark v

/-! ### Writes and groups -/

/-- A CMD write is accepted when its answer is OK or ACCEPTED_PENDING. -/
def accepted (st : Nat) : Bool := st == Status.ok || st == Status.acceptedPending

/-- One write from a port, or from none (port 0). -/
def State.writeWith (s : State) (imm : State → State) (port : Nat) (w : Write) : State :=
  match s.checkWrites [w] with
  | some (st, det, _) => s.answer st det
  | none =>
    if attrOf w.id = .cmd then
      let s := s.cmdWrite imm w.id w.inst w.value
      if accepted s.result.status then s.countWrite port w else s
    else ((s.applyWrite w).countWrite port w).done

/-- The write of a host, or of the block itself, outside an IMMEDIATE sequence, which such a write cannot start. -/
def State.write (s : State) (port : Nat) (w : Write) : State := s.writeWith (fun s => s.answer Status.notPermitted) port w

/-- CMD records of a group, in order, until one is refused (R386). -/
def State.runCmds (s : State) (imm : State → State) (port : Nat) : Nat → List Write → State
  | _, [] => s.done
  | i, w :: ws =>
    if attrOf w.id = .cmd then
      let s := s.cmdWrite imm w.id w.inst w.value
      if accepted s.result.status then (s.countWrite port w).runCmds imm port (i + 1) ws
      else s.answer s.result.status i
    else s.runCmds imm port (i + 1) ws

/-- Both halves of the queues' due times stand in the group: those queues arm (R51). -/
def queuesOf (ws : List Write) : List Nat :=
  (List.range 16).filter (fun q =>
    ws.any (fun w => w.id == P.WH_TQDUEL && w.inst == q) && ws.any (fun w => w.id == P.WH_TQDUEH && w.inst == q))

/-- The non-CMD records of a list, applied in order (R386 steps 1 to 3). -/
def State.applyWrites (s : State) (port : Nat) (ws : List Write) : State :=
  (ws.filter (fun w => attrOf w.id != .cmd)).foldl (fun s w => (s.applyWrite w).countWrite port w) s

/-- COMMIT of a port's group (R384–R386, R388). Queues arm as the commit completes (R51). -/
def State.commitGroup (s : State) (imm : State → State) (port : Nat) : State :=
  let x := s.session port
  let ws := x.group.map (fun (r : GroupRec) => ({ id := r.id, inst := r.inst, value := r.value } : Write))
  let i := port - 1
  if x.groupLapsed then
    (s.bump P.HP_CMTREF i).answer Status.notPermitted 3
  else if ws.isEmpty then s.done
  else
    let s := s.groupDiscard port
    match s.checkWrites ws with
    | some (st, _, k) => (s.bump P.HP_CMTREF i).answer st k
    | none =>

      let s := (queuesOf ws).foldl State.armQueue ((s.applyWrites port ws).runCmds imm port 0 ws)
      (s.bump P.HP_CMTCNT i).setPar P.HP_CMTSTAMP i (s.t % 2 ^ 32)

/-- GROUP_LAPSE (R388). -/
def State.groupLapse (s : State) (port : Nat) : State :=
  let x := s.session port
  let n := s.par P.HP_GRPTO
  if s.hopperUp && n != 0 && !x.group.isEmpty && decide (x.groupSet + msTicks n ≤ s.t) then
    s.setSession port { x with group := [], groupLapsed := true }
  else s

/-- A record of a running sequence that acts as a host write: refused quietly where its conditions do not hold (R328,
R522). -/
def State.actAsWrite (s : State) (w : Write) : State :=
  match s.checkWrites [w] with
  | some _ => s
  | none => if attrOf w.id = .cmd then s else s.applyWrite w

end Sys2Proof.Machine
end

