-- ==== Sys2Proof/Machine/Wheel.lean ====
section
/-! DEFINITION. Evaluation steps and the dispatcher (R37–R51): what a step covers, the order of its actions, what each action
does at its target, and what ends with a step. -/

namespace Sys2Proof.Machine

/-! ### When a step begins -/

/-- The Wheel dispatches now: no reset, Halt or HIBERNATE keeps it from it (R267, R481, R577). -/
def State.wheelActs (s : State) : Bool := s.alive && s.kiln.state != .hibernate && !s.resetting Fb.wheel

/-- A step may begin at this edge: 60 ns have passed since the last one began (R38). -/
def State.stepFree (s : State) : Bool :=
  s.wheelActs && (match s.eng.lastStep with
    | none => true
    | some t0 => decide (t0 + 6 ≤ s.t))

/-- Bins between the high-water mark and the present position that a step would fire (R37, R38). -/
def State.binsAhead (s : State) : Nat := if s.engineRuns then (binSub (binOf s.eng.pos) s.eng.hwm).toNat else 0

/-- Time queues that are due, in rising order (R47, R49). -/
def State.dueQueues (s : State) : List Nat :=
  (List.range 16).filter (fun q => (s.queue q).enabled && decide ((s.queue q).due ≤ s.t))

/-- The offsets from the high-water mark at which a step of `n` bins crosses bin `b`. -/
def State.crossings (s : State) (n b : Nat) : List Nat :=
  (List.range (n / 65536 + 1)).filterMap (fun j =>
    let o := s.binsTo b + 65536 * j
    if o ≤ n then some o else none)

/-! ### Order of dispatch (R47) -/

/-- An action that a step reads: the bins from the step's start to its queue, and its handle. -/
structure Firing where
  off : Nat
  handle : Nat
deriving DecidableEq, Repr

/-- Store entries in their order within one queue: rank of Table 2.6, then posting. -/
def queueOrder (es : List (Nat × Action)) : List (Nat × Action) :=
  sortBy (fun (e : Nat × Action) => actRank (actType e.2.word)) (sortBy (fun (e : Nat × Action) => e.2.seq) es)

/-- The actions that a step beginning now reads: bins in ascending order, then the due time queues; posts accepted at this
edge take no part (R43, R47). -/
def State.firings (s : State) (n : Nat) (qs : List Nat) : List Firing :=
  let es := queueOrder (s.wheel.store.filter (fun e => decide (e.2.posted < s.t)))
  let bins := es.flatMap (fun e =>
    if e.2.place < 65536 then (s.crossings n e.2.place).map (fun o => ({ off := o, handle := e.1 } : Firing)) else [])
  let queues := qs.flatMap (fun q =>
    (es.filter (fun e => e.2.place == 65536 + q)).map (fun e => ({ off := n, handle := e.1 } : Firing)))
  sortBy Firing.off bins ++ queues

/-! ### One action -/

/-- The fault block of a block code (Tables 11.1 and 16.1). -/
def codeBlock (c : Nat) : Nat :=
  if c < 0x80 then c
  else if c < 0x84 then Fb.sar (c - 0x80)
  else if c < 0x90 then Fb.ic (c - 0x88)
  else if c < 0xC0 then Fb.lane (c - 0xA0)
  else if c = 0xC0 then Fb.fabric
  else if c = 0xC1 then Fb.kiln
  else if c = 0xC2 then Fb.cal
  else Fb.streams

/-- An action of this word is skipped at its target: SAFE, DISABLED, no output mode, the take-over hold, or a reset
(R91, R106, R149, R173, R211, R239, R522, R578). -/
def State.actSkips (s : State) (w : BitVec 64) : Bool :=
  let t := actType w
  let g := actTarget w
  let b := codeBlock (actOwner w)
  s.resetting b
    || (decide (0xE0 ≤ b) && decide (b < 0xE4) && (s.group (b - 0xE0)).state == .safe)
    || (decide (0xE4 ≤ b) && decide (b < 0xEC) && (s.ic (b - 0xE4)).state == .safe)
    || ((t == Act.cmpArm || t == Act.cmpDisarm || t == Act.cmpThr) && s.cmpSkips g)
    || ((t == Act.outSet || t == Act.outRamp) && (s.outSkips g || s.sl.held))
    || (t == Act.fabPulse && s.fabSkips)
    || (t == Act.laneSync && s.laneSkips g)

/-- Payload of an MB_POST effect (R435). -/
def State.postPayload (s : State) (n tag : Nat) : List Byte :=
  let l := s.par P.MB_POSTLIST n
  leBytes 2 tag ++ leBytes 6 s.angleStamp ++ leBytes 8 s.t
    ++ (List.range (bitsOf l 8 4)).flatMap (fun k =>
        let e := s.par P.MB_POSTSEL (bitsOf l 0 6 + k)
        leBytes 4 (s.readValue 0 (bitsOf e 0 12) (bitsOf e 12 8)))

/-- The SWAPLIVE records of a block act as host writes of the step of its swap (R328). -/
def State.swapLive (s : State) (code : Nat) : State :=
  ((paramRecs s.grist.image 2).filter (fun r => liveCode r.id r.inst == some code)).foldl
    (fun s r => s.actAsWrite { id := r.id, inst := r.inst, value := r.value }) s

/-- A BANK_SWAP effect: the swap controller's, or one that the host posted (R312, R314, R315, R328). -/
def State.bankSwapAction (s : State) (code : Nat) (ctl : Bool) : State :=
  if ctl then
    let live := s.grist.state == .swapping
    let s := s.bankSwap code false
    (if live then s.swapLive code else s).swapOver code true
  else if s.grist.state = .idle then s.bankSwap code true
  else (s.bump P.GR_SWAPSKIP).raise Fb.grist 5 1 code

/-- The effect of an action at its target (Table 2.5). -/
def State.actEffect (s : State) (h : Nat) (a : Action) : State :=
  let t := actType a.word
  let g := actTarget a.word
  let v := actArg a.word
  let o := actionOrigin h
  if t = Act.convStart then (if g < 4 then s.sarConvStart g (v % 256) o else s.icConvStart (g - 0x10) (v % 256) o)
  else if t = Act.convStop then (if g < 4 then s.sarStop g else s.icConvStop (g - 0x10))
  else if t = Act.urgentConv then (if g < 4 then s.sarUrgent g (v % 64) o else s.icUrgent (g - 0x10) (v % 64))
  else if t = Act.cmpArm then s.cmpArm g true
  else if t = Act.cmpDisarm then s.cmpArm g false
  else if t = Act.cmpThr then s.cmpThrAction g v h
  else if t = Act.outSet then s.outSetAction g (v % 65536)
  else if t = Act.outRamp then s.outRampAction g (v % 65536) (bitsOf v 16 16)
  else if t = Act.fabPulse then s.fabPulse g o
  else if t = Act.stamp then s.stampEffect g (v % 65536)
  else if t = Act.mbPost then (s.mbPost g Sender.wheel (s.postPayload g (v % 65536)) o).2
  else if t = Act.bankSwap then s.bankSwapAction g a.ctl
  else if t = Act.kilnPlan then s.planAt .action (s.withinStep a.place)
  else if t = Act.idleOpen then s.idleOpen g
  else if t = Act.idleClose then s.idleClose g
  else s.laneSyncEffect g

/-- A BANK_SWAP of the swap controller that its target skips has failed (R338). -/
def State.swapSkipped (s : State) (a : Action) : State :=
  if a.ctl then s.swapOver (actTarget a.word) false else s

/-- The action is withheld: its bank tag is not live (R324), or its job is deferred (R45). -/
def State.deferredAct (s : State) (a : Action) : Bool :=
  actClass a.word != 0 && (match actJob a.word with
    | some j => s.kiln.deferred.contains j
    | none => false)

/-- What the dispatcher did with an entry it read: nothing, a delivery that its target skipped, or an effect. -/
inductive Delivery where
  | withheld | skipped | took
deriving DecidableEq, Repr

/-- An action that is dispatched: a skip at its target, or its effect; ONESHOT removes it (R41). -/
def State.deliver (s : State) (h : Nat) (a : Action) : Delivery × State :=
  let s := if actOneshot a.word then s.unpost h else s
  let b := codeBlock (actOwner a.word)
  if s.isGated b then (.skipped, (s.gateHit b (actionOrigin h)).swapSkipped a)
  else if s.actSkips a.word then (.skipped, (s.bump P.WH_SKIPCNT).swapSkipped a)
  else (.took, s.actEffect h a)

/-- An entry that the dispatcher reads (R45, R46, R324). `ecc` lists the errors that reads of the store find. -/
def State.dispatch (s : State) (h : Nat) (ecc : List StoreError) : Delivery × State :=
  let s := s.storeCheck ecc h
  match s.wheel.store.find? (fun e => e.1 == h) with
  | none => (.withheld, s)
  | some (_, a) =>
    if s.tagOk a = false then (.withheld, s)
    else if s.deferredAct a then (.withheld, s.bump P.WH_DFRCNT)
    else s.deliver h a

/-! ### The step -/

/-- A forward move of the high-water mark by `n` bins: ramps and CYCLE windows under way count them (R76, R156). -/
def State.advanceBins (s : State) (n : Int) : State := (s.rampAll n).icAdvance n

/-- A step under way: the state, and the actions that have been dispatched, some late. -/
structure StepRun where
  s : State
  taken : Nat := 0
  late : Bool := false
deriving DecidableEq, Repr

/-- One firing of a step: from the ninth action dispatched on, one may take effect later than 200 ns (R40). -/
def StepRun.fire (x : StepRun) (ecc : List StoreError) (f : Firing) : StepRun :=
  let (d, s) := x.s.dispatch f.handle ecc
  let k := if d = .withheld then x.taken else x.taken + 1
  let late := d == .took && decide (8 < k) && Config.actionLate s.t k
  { s := if late then s.bump P.WH_LATECNT else s, taken := k, late := x.late || late }

/-- A time queue that has fired (R49, R50). -/
def State.queueFired (s : State) (q : Nat) : State :=
  let x := s.queue q
  let per := s.par P.WH_TQPER q
  if per = 0 then s.setQueue q { x with enabled := false }
  else
    let due := x.due + per
    let skip := if due ≤ s.t then (s.t - due) / per + 1 else 0
    (s.setQueue q { x with due := (due + skip * per) % 2 ^ 64 }).bump P.WH_LATECNT 0 skip

/-- WAIT_BIN commands whose bin a step of `n` bins fires (R367). `at'` is the position before the step. -/
def State.waitBins (s : State) (n : Nat) : State :=
  let stamp := leBytes 6 s.angleStamp ++ leBytes 8 s.t
  [1, 2, 3, 4].foldl (fun (s : State) port =>
    ((s.session port).slots.filter (fun p => p.opcode == Op.waitBin && decide (s.binsTo p.arg ≤ n))).foldl
      (fun (s : State) p => s.complete port p.seq Status.ok stamp) s) s

/-- OVERSPEED (R39): a step of `n` bins coalesces when its first bin had waited for the evaluator; a step that does not
ends the episode. -/
def State.coalesce (s : State) (n : Nat) : State :=
  let waited := match s.eng.firstCrossed with
    | some t0 => decide (t0 < s.t)
    | none => false
  if 1 < n ∧ waited = true then
    let was := s.eng.overspeed
    let s := s.setEng { s.eng with overspeed := true }
    if was then s else s.raise Fb.wheel 0 1
  else s.setEng { s.eng with overspeed := false }

/-! ### The end of a take-over hold (R522) -/

/-- The comparator states and thresholds of a snapshot. -/
def State.loadCmp (s : State) (b : List Byte) (a n : Nat) : State :=
  let st := fieldAt b (a + 8 * n) 1
  let dl := fieldAt b (a + 8 * n + 1) 1
  let thr := fieldAt b (a + 8 * n + 4) 4
  let c := s.cmp n
  let after : CmpState := if st = 0 then .disabled else if st = 1 then .disarmed else if st = 2 then .armed
    else if st = 3 then .held else .safe
  let s := s.setCmp n { c with state := after, delivered := dl % 2 == 1, heldArmed := if st = 3 then true else c.heldArmed }
  s.cmpLoadThr n thr

/-- HOST records of a snapshot: values as host writes, then the actions, posted in their order. -/
def State.loadHost (s : State) (b : List Byte) (host acts : Nat) : State :=
  let s := (List.range (fieldAt b host 4)).foldl (fun (s : State) i =>
    let a := host + 4 + 8 * i
    s.actAsWrite { id := fieldAt b a 2, inst := fieldAt b (a + 2) 2, value := fieldAt b (a + 4) 4 }) s
  (List.range (fieldAt b acts 4)).foldl (fun (s : State) i =>
    let a := acts + 4 + 12 * i
    let place := if fieldAt b (a + 2) 2 = 1 then 65536 + fieldAt b a 2 % 16 else fieldAt b a 2
    if s.freeEntries = 0 then s else (s.post (BitVec.ofNat 64 (fieldAt b (a + 4) 8)) place .none false).2) s

/-- KEEP flip-flops of a snapshot. -/
def State.loadKeep (s : State) (b : List Byte) (a : Nat) : State :=
  let keep := Config.planeKeep s.fab.live.bytes
  let v := BitVec.ofNat 1536 (fieldAt b a 192)
  { s with fab := { s.fab with ffs := (s.fab.ffs &&& ~~~keep) ||| (v &&& keep) } }

/-- RAM sections of a snapshot. -/
def State.loadRams (s : State) (b : List Byte) (a stop : Nat) : State :=
  (List.range ((stop - a) / 2052)).foldl (fun (s : State) i =>
    let o := a + 2052 * i
    (List.range 512).foldl (fun (s : State) k =>
      s.setRamWord (fieldAt b o 1) k (BitVec.ofNat 32 (fieldAt b (o + 4 + 4 * k) 4))) s) s

/-- The ramps of a snapshot resume from its S, E, L and k. -/
def State.loadRamps (s : State) (b : List Byte) (a : Nat) : State :=
  (List.range (fieldAt b a 4)).foldl (fun (s : State) i =>
    let o := a + 4 + 16 * i
    let n := fieldAt b o 1
    if fieldAt b (o + 12) 1 = 1 ∧ (s.cell n).state = .active ∧ isOutputMode (s.par P.AC_MODE n) = true then
      let r : Ramp :=
        { s := fieldAt b (o + 6) 2, e := fieldAt b (o + 4) 2, l := fieldAt b (o + 8) 2, k := fieldAt b (o + 10) 2 }
      s.setCell n { s.cell n with ramp := some r }
    else s) s

/-- The first step after a take-over that fires `SL_SNAPBIN` ends the hold. -/
def State.releaseHold (s : State) : State :=
  let s := match s.sl.committed with
    | none => s
    | some b =>
      let m := snapMap b
      let s := match m.cmps with
        | some a => (List.range 64).foldl (fun (s : State) n => s.loadCmp b a n) s
        | none => s
      let s := match m.host with
        | some a => s.loadHost b a m.acts
        | none => s
      let s := match m.fabric with
        | some a => s.loadKeep b a
        | none => s
      let s := match m.ram with
        | some a => s.loadRams b a m.stop
        | none => s
      match m.outputs with
      | some a => s.loadRamps b a
      | none => s
  s.setSl { s.sl with held := false, heldPins := none }

/-! ### A whole step -/

/-- What follows a step's last action: the high-water mark and its counts, the queues that fired, waiting commands, the
changeover and the copy engine (R37, R39, R49, R326, R367, R520, R522). `s0` is the state before the step. -/
def State.stepEnd (s s0 : State) (n : Nat) (qs : List Nat) : State :=
  let present := if n = 0 then s.eng.hwm else binOf s0.eng.pos
  let s := qs.foldl State.queueFired s
  let s := if n = 0 then s else s.waitBins n
  let starts := s0.crossings n (s0.par P.GR_STARTBIN)
  let snaps := s0.crossings n (s0.par P.SL_SNAPBIN)
  let s := s.coalesce n
  let s := s.setEng { s.eng with
    hwm := present, firstCrossed := if n = 0 then s.eng.firstCrossed else none, lastStep := some s.t }
  let s := s.setPar P.WH_STEPMAX 0 (max (s.par P.WH_STEPMAX) (min n 65535))
  let s := starts.foldl (fun (s : State) o => s.gristStartBin ((s0.eng.hwm.toNat + o) % 2 ^ 40 / 65536)) s
  if snaps.isEmpty then s
  else if s.sl.held then s.releaseHold
  else s.copyStart

/-- An evaluation step: bins crossed and time queues due, in one pass (R38, R43, R47). Ramps and CYCLE windows under way
count the step's bins before its actions, in one jump; those that its actions start count from the next step on (R76;
the order is a DESIGN CHOICE, log entry 116). -/
def State.evalStep (s : State) (ecc : List StoreError) : State :=
  let s := s.takeLive Fb.wheel
  let n := s.binsAhead
  let qs := s.dueQueues
  let run := (s.firings n qs).foldl (fun (x : StepRun) f => x.fire ecc f) { s := s.advanceBins n }
  let t := run.s
  let t := if run.late then (if t.eng.lateEpisode then t else t.raise Fb.wheel 1 1) else t
  let t := t.setEng { t.eng with lateEpisode := run.late }
  t.stepEnd s n qs

/-- EVALUATION_STEP (R38): at least one bin lies between the high-water mark and the position. -/
def State.evaluationStep (s : State) (ecc : List StoreError) : State :=
  if s.stepFree && decide (0 < s.binsAhead) then s.evalStep ecc else s

/-- TIME_QUEUE_DUE (R49): queue `q` is due. -/
def State.timeQueueDue (s : State) (q : Nat) (ecc : List StoreError) : State :=
  if s.stepFree && s.dueQueues.contains q then s.evalStep ecc else s

/-- URGENT_REQUEST_DISPATCH (R112): between steps, the dispatcher takes comparator `n`'s request as a P0 URGENT_CONV. -/
def State.urgentDispatch (s : State) (n : Nat) : State :=
  let c := s.cmp n
  if s.wheelActs && c.urgent then
    let s := s.setCmp n { c with urgent := false, urgLost := false }
    let w := actWord Act.urgentConv true 0 (s.par P.CMP_URGDST n) n
    let o : Origin := { master := 6, access := 3 }
    let b := codeBlock (actOwner w)
    if s.isGated b then s.gateHit b o
    else if s.actSkips w then s.bump P.WH_SKIPCNT
    else if actTarget w < 4 then s.sarUrgent (actTarget w) n o
    else s.icUrgent (actTarget w - 0x10) n
  else s

end Sys2Proof.Machine
end

