-- ==== Sys2Proof/Machine/Boot.lean ====
section
/-! DEFINITION. The IMMEDIATE sequence (R331), and start-up from the end of device reset to READY (R332, R333, R571–R574). -/

namespace Sys2Proof.Machine

/-! ### IMMEDIATE -/

/-- Step 1: RAMINIT records into their block RAMs. -/
def State.ramInit (s : State) (img : List Byte) : State :=
  (recordsOf img 7).foldl (fun (s : State) a =>
    (List.range 512).foldl (fun (s : State) k =>
      s.setRamWord (fieldAt img a 1) k (BitVec.ofNat 32 (fieldAt img (a + 4 + 4 * k) 4))) s) s

/-- Step 6: BOOT records in order, each as a host write; the first one refused ends the sequence with BOOTREC. -/
def State.bootRecords (s : State) : List ParamRec → State
  | [] => s
  | r :: rs =>
    let s := s.write 0 { id := r.id, inst := r.inst, value := r.value }
    if accepted s.result.status then s.bootRecords rs
    else (s.setPar P.GR_ERRPOS 0 r.at').raise Fb.grist 8 2

/-- The IMMEDIATE sequence of a verified image. -/
def State.immediateSeq (s : State) : State :=
  let img := s.grist.image
  let codes := s.grist.listed.map Prod.fst
  let s := s.ramInit img
  let s := codes.foldl (fun (s : State) c => s.bankSwap c false) s
  let s := codes.foldl State.swapLive s
  let s := s.postImage State.liveTag
  let s := (s.setLiveId (s.par P.GR_SHID, s.par P.GR_SHREV, s.par P.GR_SHHASH))
  let s := s.setGrist { s.grist with liveHeader := s.grist.shHeader }
  (s.grCommitNow).bootRecords (paramRecs img 3)

/-- `GR_CTRL` IMMEDIATE (R331); as at ARM, the image's actions need free entries (R325). -/
def State.grImmediate (s : State) : State :=
  if s.grist.state ≠ .verified ∨ s.engineRuns = true then s.answer Status.notPermitted
  else if s.freeEntries < (actionRecs s.grist.image).length then s.answer Status.noBuffer
  else s.immediateSeq.done

/-! ### Start-up -/

/-- The device is out of reset, and the records of its end have been made. -/
def State.starting (s : State) (k : StartStep) : Bool := s.hopperUp && !s.pwr.originDue && s.pwr.step == k

/-- The state with the start-up step set. -/
def State.setStep (s : State) (k : StartStep) : State := { s with pwr := { s.pwr with step := k } }

/-- SELF_TEST_DONE (R571, Table 19.8): `fail` names the failing memory. -/
def State.selfTestDone (s : State) (fail : Option Nat) : State :=
  if s.starting .selfTest then
    match fail with
    | some k => s.raise Fb.supply 5 4 k
    | none => s.setStep .directory
  else s

/-- FLASH_DIRECTORY_READ (R332). -/
def State.directoryRead (s : State) : State :=
  if s.starting .directory then ((List.range 16).foldl State.readDir s).setStep .boot else s

/-- An entry is read and checked; a failed load restores the shadow bank at once (R333). -/
def State.tryBoot (s : State) (k : Nat) : State :=
  let s := (s.flashLoad k).runChecks
  if s.grist.state = .restoring then s.restoreDone else s

/-- Entry `k` is a boot entry of a type, whose image has the magic of that type; a grist image is BOOTABLE as well. -/
def State.bootEntry (s : State) (typ k : Nat) : Bool :=
  match s.dirEntry k with
  | some (a, _, t, boot) =>
    boot && t == typ && (isPatch (s.flashBytes a 4) == (typ == 2)) && (typ == 2 || bitOf (fieldAt (s.flashBytes a 32) 28 1) 0)
  | none => false

/-- The first boot patch that passes its checks is staged. -/
def State.bootPatch (s : State) : List Nat → State
  | [] => s
  | k :: ks =>
    if s.bootEntry 2 k then
      let failed := s.par P.GR_FAILCNT
      let s := s.tryBoot k
      if s.par P.GR_FAILCNT = failed then s else s.bootPatch ks
    else s.bootPatch ks

/-- The first bootable grist image that passes its checks is applied; none is BOOTNONE. -/
def State.bootGrist (s : State) : List Nat → State
  | [] => s.raise Fb.grist 9 2
  | k :: ks =>
    if s.bootEntry 1 k then
      let s := s.tryBoot k
      if s.grist.state = .verified then s.grImmediate else s.bootGrist ks
    else s.bootGrist ks

/-- READY (R571, R574, R474): Hopper accepts commands, I_CAL starts, and grace timers count. -/
def State.ready (s : State) : State :=
  let s := { s with
    pwr := { s.pwr with step := .ready, readyAt := s.t, icalOn := true }
    flt := { s.flt with served := s.t } }
  s.resumeGrace

/-- BOOT_IMAGE_LOADED (R333, R571). -/
def State.bootImageLoaded (s : State) : State :=
  if s.starting .boot then
    let r := s.result
    let s := ((s.bootPatch (List.range 16)).bootGrist (List.range 16)).ready
    { s with result := r }
  else s

/-- VREFIO_READY (R573): enables accepted before it become effective. -/
def State.vrefioReady (s : State) : State :=
  if s.pwr.phase = .running ∧ s.pwr.vrefReady = false then
    let s := { s with pwr := { s.pwr with vrefReady := true } }
    ((List.range 4).foldl State.sarRefUpdate s).icRefUpdate
  else s

/-- ICAL_SETTLED (R574): 1 ms after I_CAL started. -/
def State.icalSettled (s : State) : State :=
  if s.pwr.icalOn && !s.pwr.icalSettled && decide (s.pwr.readyAt + msTicks 1 ≤ s.t) then
    { s with pwr := { s.pwr with icalSettled := true } }
  else s

end Sys2Proof.Machine
end

