-- ==== Sys2Proof/Machine/Ports.lean ====
section
/-! DEFINITION. The acceptance of packets and their replies (chapter Command packets, R342–R361): sessions, sequence numbers,
the reply cache, ownership, pending slots. -/

namespace Sys2Proof.Machine

/-! ### Packets -/

/-- A command as it reaches the command layer: port 1–4, code, opcode byte and header fields, the packet's check value, NOREPLY,
whether nothing is sent (a U broadcast, R407), and, on Port E, its source. -/
structure Cmd where
  port : Nat
  code : Nat
  opcode : Nat
  seq : Nat
  target : Nat
  payload : List Byte
  crc : Nat
  quiet : Bool
  mute : Bool
  src : Option Peer
  /-- When its reply is released (R425). -/
  hold : Option Nat := none
deriving DecidableEq, Repr

/-- The bytes of a packet up to its trailer (Table 12.1). -/
def packetBytes (code opcode : Nat) (p : Packet) : List Byte :=
  let head := leBytes 1 0xC7 ++ leBytes 1 code ++ leBytes 2 p.payload.length ++ leBytes 2 p.seq.toNat ++ leBytes 1 opcode
    ++ leBytes 1 p.flags.toNat ++ leBytes 2 p.target.toNat
  head ++ leBytes 2 (crc16 head) ++ p.payload

/-- The code a packet carries (Table 12.2). -/
def packetCode (p : Packet) : Nat := if p.pers then 0x22 else if p.port = .e then 0x30 else 0x20

/-- The command that a packet with this opcode byte is. -/
def packetCmd (p : Packet) (opcode : Nat) : Cmd :=
  { port := portCode p.port, code := (packetCode p), opcode := opcode, seq := p.seq.toNat, target := p.target.toNat
    payload := p.payload, crc := crc32 (packetBytes (packetCode p) opcode p), quiet := bitOf p.flags.toNat 1, mute := p.broadcast
    src := if p.port = .e then some p.src else none }

/-- The opcode byte of a native opcode: under code 0x22, opcodes 0x00–0x0A stand at 0xC0–0xCA (R424). -/
def nativeByte (p : Packet) (op : Nat) : Nat := if p.pers then 0xC0 + op else op

/-- The port can carry a packet with its code and address: no packets on S1, code 0x22 on S2 and U, broadcasts on U. -/
def packetOk (p : Packet) : Bool :=
  p.port != .s1 && (!p.pers || p.port != .e) && (!p.broadcast || p.port == .u)

/-- The packet can be one of a native opcode: code 0x22 has 0x00–0x0A only. -/
def nativeOk (p : Packet) (op : Nat) : Bool := packetOk p && (!p.pers || decide (op ≤ 0x0A))

/-- A port takes what reaches it: Hopper works and is READY, and the port is on, Port E with link and address (R396, R398,
R411, R428). -/
def State.hears (s : State) (port : Nat) : Bool :=
  s.hopperAccepts && s.portOn port && (port != 4 || s.ethReady)

/-! ### Replies -/

/-- The flags of a reply: RSP, and NOREPLY copied. -/
def replyFlags (quiet : Bool) : Nat := if quiet then 0x03 else 0x01

/-- The reply to a command, as it would be without NOREPLY (R346). -/
def Cmd.reply (c : Cmd) (r : CmdResult) : Reply :=
  { code := c.code, opcode := c.opcode, flags := 0x01, seq := c.seq, target := c.target, dest := c.src
    payload := preamble r.status r.detail ++ (if r.status = Status.ok then r.data else []) }

/-- A reply joins those that wait on its port. -/
def State.queueReply (s : State) (port : Nat) (r : Reply) : State :=
  let x := s.session port
  s.setSession port { x with ready := x.ready ++ [r] }

/-- The first reply to a command leaves: none to a broadcast, and none with OK or ACCEPTED_PENDING under NOREPLY. -/
def State.sendReply (s : State) (c : Cmd) (r : Reply) (status : Nat) : State :=
  if c.mute || (c.quiet && (status == Status.ok || status == Status.acceptedPending)) then s
  else s.queueReply c.port { r with flags := replyFlags c.quiet }

/-- A refusal before the command counts as answered (steps 2–7). -/
def State.refuse (s : State) (c : Cmd) (status detail : Nat) : State :=
  let s := s.answer status detail
  s.sendReply c (c.reply s.result) status

/-- The answer is the command's reply: it is kept for retransmissions while a session is open (R349), and leaves. -/
def State.replyNow (s : State) (c : Cmd) : State :=
  let r := c.reply s.result
  let x := s.session c.port
  let s := if x.isOpen then
      s.setSession c.port { x with cache := ({ seq := c.seq, opcode := c.opcode, crc := c.crc, reply := r } :: x.cache).take 4 }
    else s
  s.sendReply c r s.result.status

/-- A personality command whose reply waits, with the present answer (R422, R425). -/
def State.persWait (s : State) (c : Cmd) (count : Nat) (codes starts : List Nat) : State :=
  let w : PersWait := {
    port := c.port, opcode := c.opcode, seq := c.seq, count := count, target := c.target, status := s.result.status
    detail := s.result.detail, data := s.result.data, crc := c.crc, quiet := c.quiet, mute := c.mute, release := c.hold
    codes := codes, starts := starts }
  { s with hp := { s.hp with waits := s.hp.waits ++ [w] } }

/-- The command is answered: at once, at its faithful latency, or where it has a wait already, once that is over. -/
def State.reply (s : State) (c : Cmd) : State :=
  if s.hp.waits.any (fun w => w.port == c.port && w.seq == c.seq && w.opcode == c.opcode && w.mute == c.mute) then s
  else if c.hold.isSome then s.persWait c 0 [] []
  else s.replyNow c

/-! ### Acceptance (Table 12.5) -/

/-- What the opcode tables say of an opcode and of a command with it. -/
structure Rule where
  /-- The opcode needs no session (step 5). -/
  free : Bool := false
  /-- It is marked W, and P. -/
  owner : Bool := false
  pend : Bool := false
  /-- Steps 8 and 9. -/
  lenOk : Bool := true
  targetOk : Bool := true
  /-- Payload bytes shown as 0 are 0. -/
  zeroOk : Bool := true
  /-- Completion limit in TCLK periods, and what the pending slot keeps. -/
  limit : Nat := 0
  arg : Nat := 0
deriving DecidableEq, Repr

/-- Buffers a packet of these bytes of payload asks of the pool: one for every 256 bytes beyond its first 256 (R449). -/
def packetBufs (n : Nat) : Nat := ceilDiv (16 + n - 256) 256

/-- The command is waiting for its first reply (R350). -/
def State.awaits (s : State) (c : Cmd) : Bool := s.hp.waits.any (fun w => w.port == c.port && w.seq == c.seq && !w.mute)

/-- The kept answer of a command (R349). -/
def State.cached (s : State) (c : Cmd) : Option Answered :=
  (s.session c.port).cache.find? (fun a => a.seq == c.seq && a.opcode == c.opcode && a.crc == c.crc)

/-- A retransmission is answered from the cache with CACHED (R349). -/
def State.resend (s : State) (c : Cmd) (a : Answered) : State :=
  let s := s.bump P.HP_RETXCNT (c.port - 1)
  if c.mute then s else s.queueReply c.port { a.reply with flags := a.reply.flags + 8, dest := c.src }

/-- A packet that passed step 3 has arrived: the link is valid, and Port E notes its source (R398, R413, R419). -/
def State.arrived (s : State) (c : Cmd) : State :=
  let s := match c.src with
    | some p => (s.learnMac p).setEth { (s.learnMac p).hp.eth with peer := some p }
    | none => s
  s.linkValid c.port

/-- The rate of Port U, in baud: exactly the selected one, which the device holds within 0.1 % (R406). -/
def State.uBaud (s : State) : Nat :=
  [115200, 230400, 460800, 921600, 1000000, 2000000, 3000000, 6000000, 12000000].getD (s.par P.HP_UBAUD) 115200

/-- `n` bit times of Port U are over, counted from an instant (R406, R408). -/
def State.uBitsOver (s : State) (start n : Nat) : Bool := decide (n * 100000000 ≤ (s.t - start) * s.uBaud)

/-- A frame has ended on Port U. Once one addressed to `HP_UADDR` has, the port may send what is ready after the turnaround
(R407, R408). -/
def State.addressed (s : State) (p : Packet) : State :=
  if p.port = .u then
    { s with hp := { s.hp with uAddressed := s.hp.uAddressed || !p.broadcast, uIdle := s.t } }
  else s

/-- Step 7 passed: the sequence number is used up, the command counts, and the port has sent a command (R347, R357, R589). -/
def State.passed (s : State) (c : Cmd) : State :=
  let x := s.session c.port
  let s := s.setSession c.port { x with
    expSeq := if x.isOpen then (c.seq + 1) % 65536 else x.expSeq, lastCmd := s.t }
  let s := if s.tst.testPort = c.port then { s with tst := { s.tst with testLast := s.t } } else s
  s.bump P.HP_CMDCNT (c.port - 1)

/-- A command answered ACCEPTED_PENDING takes a pending slot until its completion (R355, R360). -/
def State.takeSlot (s : State) (c : Cmd) (r : Rule) : State :=
  if s.result.status = Status.acceptedPending then
    let x := s.session c.port
    s.setSession c.port { x with slots := x.slots ++ [{
      opcode := c.opcode, seq := c.seq, target := c.target, start := s.t
      limit := s.t + min r.limit (msTicks (s.par P.HP_PENDMAX)), arg := r.arg, code := c.code, dest := c.src
      quiet := c.quiet, noReply := c.mute }] }
  else s

/-- Steps 8 to 11: the command executes, or is refused. -/
def State.execute (s : State) (c : Cmd) (r : Rule) (run : State → State) : State :=
  if r.lenOk = false then (s.answer Status.badLength 8).reply c
  else if r.targetOk = false then (s.answer Status.badTarget).reply c
  else if r.owner = true ∧ s.owns c.port = false then (s.answer Status.notOwner (s.par P.HP_OWNER)).reply c
  else if r.zeroOk = false then (s.answer Status.outOfRange).reply c
  else
    let s := (run s).takeSlot c r
    s.reply c

/-- Step 7: a command-queue entry, a pending slot and packet buffers are free. -/
def State.admitCmd (s : State) (c : Cmd) (r : Rule) (run : State → State) : State :=
  let need := packetBufs c.payload.length
  if 4 ≤ (s.hp.waits.filter (fun w => w.port == c.port)).length then s.refuse c Status.noBuffer 1
  else if r.pend = true ∧ 4 ≤ (s.session c.port).slots.length then s.refuse c Status.noBuffer 5
  else if s.sharedBufs < need then (s.bump P.ST_NOBUF 3).refuse c Status.noBuffer 3
  else
    let s := { s with pool := { s.pool with low := min s.pool.low (s.freeBufs - need) } }
    (s.passed c).execute c r run

/-- A packet that has passed steps 1–4 meets steps 5 to 11 (Table 12.5). -/
def State.accept (s : State) (c : Cmd) (r : Rule) (run : State → State) : State :=
  if s.hears c.port = false then s
  else
    let s := s.arrived c
    if r.free then s.admitCmd c r run
    else if (s.session c.port).isOpen = false then s.refuse c Status.notPermitted 1
    else if c.seq = (s.session c.port).expSeq then s.admitCmd c r run
    else if s.awaits c then s
    else
      match s.cached c with
      | some a => s.resend c a
      | none => (s.bump P.HP_GAPCNT (c.port - 1)).refuse c Status.sequenceGap (s.session c.port).expSeq

/-- A packet with a native opcode. -/
def State.native (s : State) (p : Packet) (op : Nat) (r : Rule) (run : State → State) : State :=
  if nativeOk p op = false ∨ s.hears (portCode p.port) = false then s
  else (s.addressed p).accept (packetCmd p (nativeByte p op)) r run

/-- A packet that fails one of steps 1 to 4 (Table 12.5). -/
def State.reject (s : State) (p : Packet) (why : Reject) : State :=
  let port := portCode p.port
  if packetOk p = false ∨ s.hears port = false then s
  else
    let s := s.addressed p
    match why with
    | .header => s.bump P.HP_HDRERR (port - 1)
    | .length op => s.refuse (packetCmd p op.toNat) Status.badLength 2
    | .trailer op => (s.bump P.HP_CRCERR (port - 1)).refuse (packetCmd p op.toNat) Status.badCheck 0
    | .opcode op => (s.arrived (packetCmd p op.toNat)).refuse (packetCmd p op.toNat) Status.badOpcode 0

/-- PENDING_TIMEOUT (R360): the completion limit of a pending command has passed. The waits of WAIT_BIN and MB_WRITE end; other
work goes on. -/
def State.pendingTimeout (s : State) (port seq : Nat) : State :=
  if s.hopperUp = false then s
  else
    match (s.session port).slots.find? (fun x => x.seq % 65536 == seq && decide (x.limit ≤ s.t)) with
    | none => s
    | some x =>
      let ends := fun (m : Mailbox) =>
        if x.opcode = Op.mbWrite then
          { m with pendWrites := m.pendWrites.filter (fun w => !(w.port == port && w.seq == x.seq)) }
        else m
      let boxes := s.mboxes.foldl (fun (t : Tbl Mailbox) (e : Nat × Mailbox) => tblSet {} t e.1 (ends e.2)) []
      let s := { s with mboxes := boxes }
      s.complete port x.seq Status.timeout

end Sys2Proof.Machine
end

