-- ==== Sys2Proof/Machine/Faults.lean ====
section
/-! DEFINITION. What the fault logic does with a record: masking, escalation, capture, the reactions of the classes, grace
expiries and the close of masking windows (chapter Faults: detection, capture and escalation). -/

namespace Sys2Proof.Machine

/-! ### Dependants (R488) -/

/-- The block holds banked configuration. -/
def isBanked (b : Nat) : Bool :=
  decide (b ≤ Fb.fabric) || b == Fb.kiln || b == Fb.cal || b == Fb.streams || b == Fb.faults

/-- Kiln plans the block: cells, lanes, SAR groups, integrating converters, the fabric, streams, calibration. -/
def kilnPlans (b : Nat) : Bool :=
  decide (b < 0x40) || (decide (0xC0 ≤ b) && decide (b ≤ Fb.fabric)) || b == Fb.cal || b == Fb.streams

/-- A SAR group or an integrating converter. -/
def isConverter (b : Nat) : Bool := decide (0xE0 ≤ b) && decide (b < 0xEC)
def isCellBlock (b : Nat) : Bool := decide (b < 0x40)
def isCmpBlock (b : Nat) : Bool := decide (0x40 ≤ b) && decide (b < 0x80)
def isTimerBlock (b : Nat) : Bool := decide (0x80 ≤ b) && decide (b < 0xC0)
def isLaneBlock (b : Nat) : Bool := decide (0xC0 ≤ b) && decide (b < 0xE0)

/-- Converters whose selectors have connected to the cell since its window opened. -/
def MaskWindow.linked : MaskWindow → List Nat
  | .closed => []
  | .opened l => l
  | .closing _ l => l

/-- Block `b` receives from block `x` by a row of Table 1.2 of `x`'s own. -/
def State.receivesFrom (s : State) (x b : Nat) : Bool :=
  if isCellBlock x then
    b == x + 0x40 || (b == Fb.wheel && s.carriesSinCos x) || (s.fb x).window.linked.contains b
  else if isCmpBlock x then isTimerBlock b || b == Fb.fabric || b == Fb.wheel
  else if isTimerBlock x then b == Fb.fabric || b == Fb.streams
  else if isLaneBlock x then b == Fb.streams
  else if x < 0xE4 then isLaneBlock b || b == Fb.streams || (decide (0xE4 ≤ b) && decide (b < 0xEC))
  else if x < 0xEC then isLaneBlock b || b == Fb.streams
  else if x = Fb.fabric then isTimerBlock b || b == Fb.hopper
  else if x = Fb.wheel then isBanked b || b == Fb.sync
  else if x = Fb.kiln then
    isCellBlock b || isConverter b || isLaneBlock b || b == Fb.cal || b == Fb.streams || b == Fb.sync
  else if x = Fb.cal then isCellBlock b || isCmpBlock b || isConverter b
  else if x = Fb.grist then isBanked b || b == Fb.streams || b == Fb.sync
  else if x = Fb.streams then b == Fb.ports || b == Fb.hopper || b == Fb.fabric
  else if x = Fb.ports then b == Fb.hopper
  else if x = Fb.sync then
    b == Fb.wheel || b == Fb.hopper || b == Fb.kiln || isCmpBlock b || b == Fb.fabric
      || (isCellBlock b && (isOutputMode (s.par P.AC_MODE b) || isExciteMode (s.par P.AC_MODE b)))
  else if x = Fb.hopper then true
  else if x = Fb.faults then b == Fb.hopper || b == Fb.sync
  else decide (b ≤ Fb.kiln)

/-- `b` is a dependant of `x` (R488): a row of Table 1.2, the rows of every block, and none for supplies and clocks. -/
def State.dependant (s : State) (x b : Nat) : Bool :=
  if x = b ∨ x = Fb.supply ∨ b = Fb.supply then false
  else b == Fb.test || (b == Fb.kiln && kilnPlans x) || s.receivesFrom x b

/-- A record in `b` is masked: it lies in an open window as a dependant (R489). -/
def State.masked (s : State) (b : Nat) : Bool :=
  s.flt.blocks.any (fun e => s.windowOpen e.1 && s.dependant e.1 b)

/-! ### Reactions (Tables 16.2 and 16.3) -/

/-- R515: outputs and excitations at the safe table, Kiln in IDLE, the device HALTED. -/
def State.ringHaltReaction (s : State) : State :=
  let r := s.result
  let s := (List.range 64).foldl (fun (s : State) n =>
    if isOutputMode (s.par P.AC_MODE n) || isExciteMode (s.par P.AC_MODE n) then s.cellEnterSafe n else s) s
  let s := if s.sl.state = .off then s else { s with sl := { s.sl with state := .halted } }
  let s := if s.kiln.state = .run ∨ s.kiln.state = .trim then s.klIdle else s
  { s with result := r }

/-- Grist in class C or D acts as `GR_CTRL` ABORT. -/
def State.gristReaction (s : State) : State :=
  let r := s.result
  { s.grAbort with result := r }

/-- The port a record of the host ports names (Table 16.4, address). -/
def recPort (r : FaultRec) : Nat := r.addr / 4096 % 4 + 1

/-- The port named in the capture closes its session and loses its link (Table 16.3). -/
def State.portReaction (s : State) : State :=
  match (s.fb Fb.ports).capture with
  | some r => (s.closeSession (recPort r)).linkLost (recPort r)
  | none => s

/-- The class C reaction of a block. -/
def State.reactC (s : State) (b : Nat) : State :=
  let s := s.openWindow b
  if isCellBlock b then s.cellEnterSafe b
  else if isCmpBlock b then s.cmpEnterSafe (b - 0x40)
  else if isTimerBlock b then s.tmEnterSafe (b - 0x80)
  else if isLaneBlock b then s.laneEnterSafe (b - 0xC0)
  else if b < 0xE4 then s.sarEnterSafe (b - 0xE0)
  else if b < 0xEC then s.icEnterSafe (b - 0xE4)
  else if b = Fb.fabric then s.fabEnterSafe
  else if b = Fb.wheel then s.engStop
  else if b = Fb.kiln then s.kilnEnterSafe
  else if b = Fb.cal then s.calEnterSafe
  else if b = Fb.grist then s.gristReaction
  else if b = Fb.streams then s.ringsSafe
  else if b = Fb.ports then s.portReaction
  else if b = Fb.sync then s.ringHaltReaction
  else if b = Fb.hopper then (s.hopperRestart).bump P.FLT_HPRSTF
  else if b = Fb.faults then { s with flt := { s.flt with logOff := true } }
  else s

/-- Halt (R481): every block in SAFE or as Table 16.3 has it, the angle counter counting on, Hopper stopped. -/
def State.halt (s : State) : State :=
  let s := (List.range 64).foldl State.cellEnterSafe s
  let s := (List.range 64).foldl State.cmpEnterSafe s
  let s := (List.range 64).foldl State.tmEnterSafe s
  let s := (List.range 32).foldl State.laneEnterSafe s
  let s := (List.range 4).foldl State.sarEnterSafe s
  let s := (List.range 8).foldl State.icEnterSafe s
  let s := s.fabEnterSafe.calEnterSafe.gristReaction.ringsSafe.kilnEnterSafe
  let s := if s.sl.state = .off then s else { s with sl := { s.sl with state := .halted } }
  { s with flt := { s.flt with halted := true } }

/-- A detector's class B degraded form is in force until class B is acknowledged: a class B detector's own, and a lane's
for a GOV that has escalated (chapter 7, At the edges). -/
def FaultRec.degrades (r : FaultRec) : Bool := r.detCls == 2 || (isLaneBlock r.blk && r.det == 0)

/-- The reaction to an applied record of a class (R468, R472). -/
def State.react (s : State) (r : FaultRec) : State :=
  if r.cls = 2 then
    let f := s.fb r.blk
    if r.degrades = true ∧ f.degraded.contains r.det = false then
      s.setFb r.blk { f with degraded := f.degraded ++ [r.det] }
    else s
  else if r.cls = 3 then s.reactC r.blk
  else if r.cls = 4 then s.halt
  else s

/-! ### Records (R471) -/

/-- The record a detector asks for, at this edge and in its own class. -/
def State.recordOf (s : State) (r : Raise) : FaultRec :=
  { blk := r.blk, det := r.det, cls := r.cls, injected := r.injected, detCls := r.cls, master := r.master
    access := r.access, form := r.form, addr := r.addr, angle := s.angleStamp, time := s.t, value := r.value }

/-- The first pending record while any block is pending (`FLT_FIRST`). -/
def State.noteFirst (s : State) (r : FaultRec) : State :=
  if r.cls < 4 ∧ s.faulty.isEmpty = true then s.setPar P.FLT_FIRST 0 (r.blk + 256 * r.det + 65536 * r.cls) else s

/-- The capture holds the first record since it was emptied; later ones are counted (R477). -/
def State.capture (s : State) (r : FaultRec) : State :=
  let f := s.fb r.blk
  if f.capture.isNone then s.setFb r.blk { f with capture := some r }
  else s.bump (fltPar P.FLT_MORE0 r.blk).1 (fltPar P.FLT_MORE0 r.blk).2

/-- `apply` of R471. In Halt, records are logged and cause no reaction (R481, R487). -/
def State.applyRec (s : State) (r : FaultRec) : State :=
  let r := { r with seq := s.par P.FLT_LOGSEQ % 65536 }
  let s := s.noteFirst r
  let s := if r.cls < 4 then s.setFb r.blk ((s.fb r.blk).setPending r.cls true) else s
  let s := (s.capture r).logRecord r
  let s := if s.flt.halted then s else s.react r
  let f := s.fb r.blk
  if (r.cls = 2 ∨ r.cls = 3) ∧ f.served < r.cls then
    s.setFb r.blk { f with served := r.cls, grace := s.newGrace r.blk }
  else s

/-- The open episode of a detector notes whether its record was made as consequential (R490). -/
def State.markEpisode (s : State) (b d : Nat) (conseq : Bool) : State :=
  if s.episodeOpen b d then
    let f := s.fb b
    s.setFb b { f with episodes := f.episodes.map (fun e => if e.det = d then { e with conseq := conseq } else e) }
  else s

/-- `record` of R471. A block that is being reset has inactive detectors (R486). -/
def State.record (s : State) (a : Raise) : State :=
  if s.resetting a.blk then s
  else
    let s := (stickyBits a.blk a.det a.inst).foldl (fun (s : State) p => s.setBit p.1 p.2.1 p.2.2) s
    let s := if a.injected then s.bump P.FLT_INJCNT else s
    let r := s.recordOf a
    let hidden := decide (a.cls < 4) && s.masked a.blk
    let s := s.markEpisode a.blk a.det hidden
    let aack := fltPar P.FLT_AACK0 a.blk
    if hidden then (s.logRecord { r with cls := 1, conseq := true }).bump P.FLT_CONSCNT
    else if a.cls = 1 ∧ s.par aack.1 aack.2 = 1 then s.logRecord { r with autoAck := true }
    else if a.cls < 4 ∧ (s.fb a.blk).isPending a.cls = true then
      (s.bump P.FLT_ESCCNT).applyRec { r with cls := a.cls + 1, escalated := true }
    else s.applyRec r

/-- The records of an edge, in ascending fault block and detector, with those that reactions add (R486). -/
def State.settle : Nat → State → State
  | 0, s => s
  | n + 1, s =>
    match sortBy (fun (r : Raise) => r.blk * 256 + r.det) s.todo with
    | [] => s
    | r :: rest => State.settle n (({ s with todo := rest }).record r)

/-! ### Timers and windows -/

/-- GRACE_EXPIRY (R473). -/
def State.graceExpiry (s : State) (b : Nat) : State :=
  let f := s.fb b
  match f.grace with
  | .running due =>
    if due ≤ s.t ∧ s.hopperAccepts = true then
      let s := (s.setFb b { f with grace := .off }).bump P.FLT_GRCCNT
      s.applyRec { blk := b, det := 0xFE, cls := f.served + 1, escalated := true, graceMark := true, detCls := f.served
                   addr := stateAddr b 0, angle := s.angleStamp, time := s.t }
    else s
  | _ => s

/-- Conditions of a block that persist although their record was consequential record again (R490). -/
def State.askAgain (s : State) (b : Nat) : State :=
  ((s.fb b).episodes.filter (fun e => e.conseq)).foldl (fun (s : State) e => s.raise b e.det e.cls e.value) s

/-- MASK_WINDOW_CLOSE (R488, R490). -/
def State.maskClose (s : State) (x : Nat) : State :=
  match (s.fb x).window with
  | .closing due _ =>
    if due ≤ s.t then
      let deps := (s.flt.blocks.map Prod.fst).filter (s.dependant x)
      deps.foldl State.askAgain (s.setFb x { s.fb x with window := .closed })
    else s
  | _ => s

/-- Whether the condition of a detector that the model itself follows still holds; the others' are what happens outside. -/
def State.conditionHolds (s : State) (b d : Nat) : Bool :=
  if isCellBlock b then d == 7
  else if isCmpBlock b then
    let n := b - 0x40
    let lim := s.par P.CMP_CHATLIM n
    d == 2 && decide (lim ≠ 0)
      && decide (lim < ((s.cmp n).edges.filter (fun e => decide (s.t < e + msTicks 1))).length)
  else if b = Fb.wheel then
    if d = 3 then decide (s.par P.WH_REVLIM ≠ 0) && decide ((s.par P.WH_REVLIM : Int) < s.binsBehind)
    else if d = 5 then s.zMissed
    else d == 7 && !s.lossOver
  else if b = Fb.fabric then d == 4
  else if b = Fb.kiln then decide (8 ≤ d)
  else b == Fb.sync || b == Fb.ports || b == Fb.test

/-- EPISODE_END: the condition of a detector has been absent for one TCLK period (R466). The integrating converters share
the buffer of REFOOT. -/
def State.episodeOver (s : State) (b d : Nat) : State :=
  if s.episodeOpen b d = false ∨ s.conditionHolds b d = true then s
  else if 0xE4 ≤ b ∧ b < 0xEC ∧ d = 4 then s.icRefOotEnd
  else s.endEpisode b d

/-! ### Hopper's detectors (Table 16.7) -/

/-- HOPPER_WATCHDOG: the firmware watchdog has not been served for `FLT_HPWDT`. -/
def State.hopperWatchdog (s : State) : State :=
  if s.hopperUp && decide (s.flt.served + msTicks (s.par P.FLT_HPWDT) ≤ s.t) then s.raise Fb.hopper 2 3 else s

/-- HOPPER_MEMORY_ECC. -/
def State.hopperEcc (s : State) (bad : Bool) : State :=
  if s.hopperUp then
    if bad then s.raise Fb.hopper 3 3 else (s.bump P.FLT_HPECC).raise Fb.hopper 0 1
  else s

/-- LOCKSTEP_MISMATCH. -/
def State.lockstep (s : State) : State := if s.hopperUp then s.raise Fb.hopper 4 4 else s

/-- CAPTURE_PARITY_ERROR (Table 16.8): the value names the block. -/
def State.capParity (s : State) (b : Nat) : State :=
  s.ask { blk := Fb.faults, det := 3, cls := 4, addr := stateAddr Fb.faults 0, inst := 1, value := b }

/-! ### Detectors of the blocks -/

/-- The class of detector `d` of block `b` (Tables 2.7 to 20.2), for FAULT_INJECT; none where the block has no such
detector. -/
def detClass (b d : Nat) : Option Nat :=
  let l : List Nat :=
    if isCellBlock b then [1, 1, 2, 2, 2, 3, 3, 1]
    else if isCmpBlock b then [1, 1, 1, 2, 3]
    else if isTimerBlock b then [1]
    else if isLaneBlock b then [1, 1, 1, 1, 1, 2, 3]
    else if b < 0xE4 then [1, 1, 1, 1, 2, 2, 2, 3, 3]
    else if b < 0xEC then [1, 1, 1, 2, 2, 3]
    else if b = Fb.fabric then [1, 1, 1, 2, 3, 3]
    else if b = Fb.wheel then [1, 1, 1, 2, 1, 2, 1, 2, 2, 1, 1, 2, 1]
    else if b = Fb.kiln then [1, 2, 2, 1, 1, 1, 1, 2, 2, 3, 3, 4]
    else if b = Fb.cal then [1, 1, 1, 1, 2, 2]
    else if b = Fb.grist then [1, 1, 1, 1, 1, 1, 1, 2, 2, 2]
    else if b = Fb.streams then [1, 1, 1, 1, 0, 0, 0, 0, 1, 1, 2, 3]
    else if b = Fb.ports then [1, 1, 1, 1, 1, 2, 2, 2]
    else if b = Fb.sync then [1, 1, 1, 1, 1, 2, 2, 2, 2, 2, 2, 2, 2, 3]
    else if b = Fb.hopper then [1, 2, 3, 3, 4]
    else if b = Fb.supply then [1, 2, 2, 1, 2, 4]
    else if b = Fb.faults then [2, 1, 3, 4]
    else if b = Fb.test then [1, 1, 2, 1, 1, 1, 2]
    else []
  match nthD 0 l d with
  | 0 => none
  | k => some k

end Sys2Proof.Machine
end

