-- ==== Sys2Proof/Machine/SessionCommands.lean ====
section
/-! DEFINITION. What the opcodes of Tables 12.7 to 12.10 do once a packet has passed the acceptance steps: sessions and identity,
parameters, grist and banks, the Wheel. -/

namespace Sys2Proof.Machine

/-! ### Forms of payload -/

/-- An opcode without payload, target 0. -/
def bare (p : Packet) : Rule := { lenOk := p.payload.isEmpty, targetOk := p.target.toNat == 0 }

/-- An opcode with a payload of `n` bytes, target 0. -/
def fixed (p : Packet) (n : Nat) : Rule := { lenOk := p.payload.length == n, targetOk := p.target.toNat == 0 }

/-- An opcode with a payload of `n` bytes, whose target the opcode itself reads. -/
def aimed (p : Packet) (n : Nat) : Rule := { lenOk := p.payload.length == n }

/-- An opcode with a payload of `n` bytes that names an ID in bytes 0–1 and its instance as target: the target is valid
where the instance exists (R373). -/
def onParam (p : Packet) (n : Nat) : Rule :=
  { aimed p n with targetOk := paramExists (fieldAt p.payload 0 2) p.target.toNat }

/-- A list whose count stands in bytes 0–1, of records of `w` bytes after byte 3, and `tail` bytes more. -/
def counted (p : Packet) (w : Nat) : Rule :=
  { lenOk := decide (4 ≤ p.payload.length) && p.payload.length == 4 + w * fieldAt p.payload 0 2
    targetOk := p.target.toNat == 0, zeroOk := fieldAt p.payload 2 2 == 0 }

/-- The target, the port and the sequence number of a packet. -/
def packetPort (p : Packet) : Nat := portCode p.port
def packetTarget (p : Packet) : Nat := p.target.toNat
def packetSeq (p : Packet) : Nat := p.seq.toNat

/-! ### Session and identity (Table 12.7) -/

/-- SESSION_OPEN (R351, R352, R357, R358). A contract above the ring's is not offered (R512). -/
def State.runSessionOpen (s : State) (p : Packet) : State :=
  let port := packetPort p
  let a := p.payload
  let ring := if s.sl.state = .off then 0 else s.par P.SL_CONTRACT
  let take := bitOf (fieldAt a 2 1) 0
  if 1 < fieldAt a 2 1 then s.answer Status.outOfRange
  else if fieldAt a 0 1 ≤ 4 ∧ 4 ≤ fieldAt a 1 1 ∧ (ring = 0 ∨ 4 ≤ ring) then
    let s := if (s.session port).isOpen then s.closeSession port else s
    let s := if take then s else s.endOwnership port
    let s := s.setSession port { s.session port with
      isOpen := true, contract := 4, personality := p.pers, expSeq := (packetSeq p + 1) % 65536 }
    let s := if take = true ∧ (s.par P.HP_OWNER = 0 ∨ s.owns port = true) then s.setPar P.HP_OWNER 0 port else s
    let s := s.trace 0x09 port (some (leBytes 1 1 ++ leBytes 1 4 ++ List.replicate 12 0))
    s.done (leBytes 1 4 ++ leBytes 1 port ++ leBytes 2 (s.session port).expSeq ++ leBytes 4 (s.par P.HP_RSTCNT)
      ++ leBytes 1 (s.par P.HP_OWNER) ++ leBytes 3 0)
  else s.answer Status.contractMismatch 4

/-- IDENTIFY. -/
def State.runIdentify (s : State) : State :=
  s.done (leBytes 4 (s.par P.HP_IDCODE) ++ leBytes 2 (s.par P.HP_PARTNO) ++ leBytes 1 (s.par P.HP_STEPPING) ++ leBytes 1 0
    ++ leBytes 2 (s.par P.HP_ROMVER) ++ leBytes 1 (s.par P.HP_CONTRACTS % 256) ++ leBytes 1 s.grist.patchSt
    ++ leBytes 4 s.grist.patchRev ++ leBytes 8 Config.otpUid.toNat)

/-- OWN_TAKE (R357): granted to a free device and to the owner; with FORCE, also past an idle owner. -/
def State.runOwnTake (s : State) (p : Packet) : State :=
  let port := packetPort p
  let owner := s.par P.HP_OWNER
  let idle := decide ((s.session owner).lastCmd + msTicks (s.par P.HP_OWNIDLE) ≤ s.t)
  if 1 < fieldAt p.payload 0 1 then s.answer Status.outOfRange
  else if owner = 0 ∨ owner = port ∨ (bitOf (fieldAt p.payload 0 1) 0 = true ∧ idle = true) then
    let s := if owner = port then s else s.endOwnership owner
    (s.setPar P.HP_OWNER 0 port).done (leBytes 1 port)
  else s.answer Status.notOwner owner

/-- OWN_QUERY. -/
def State.runOwnQuery (s : State) : State :=
  let owner := s.par P.HP_OWNER
  let ms := if owner = 0 then Config.noOwnerTime s.t else openDiv 32 (s.t - (s.session owner).lastCmd) 100000
  s.done (leBytes 1 owner ++ leBytes 3 0 ++ leBytes 4 ms)

/-- GET_TIME. -/
def State.runGetTime (s : State) : State :=
  s.done (leBytes 6 s.angleStamp ++ leBytes 8 s.t ++ leBytes 1 s.eng.state.code ++ leBytes 1 0)

/-- GET_STATUS. -/
def State.runGetStatus (s : State) : State :=
  s.done (leBytes 1 s.grist.state.code ++ leBytes 1 s.kiln.state.code ++ leBytes 1 s.eng.state.code
    ++ leBytes 1 s.highestFault ++ leBytes 4 s.faulty.length)

/-- RESET: the key and the scope; the reset follows once the reply has left (Table 12.7, R566). -/
def State.runReset (s : State) (p : Packet) : State :=
  let a := p.payload
  let scope := fieldAt a 0 1
  if fieldAt a 1 2 ≠ 0xA55A ∨ (scope ≠ 1 ∧ scope ≠ 2) then s.answer Status.outOfRange
  else ({ s with pwr := { s.pwr with resetDue := some (scope, packetPort p, packetSeq p) } }).done

def State.opNop (s : State) (p : Packet) : State :=
  s.native p 0x00 { bare p with free := true } (fun s => s.done)
def State.opSessionOpen (s : State) (p : Packet) : State :=
  s.native p 0x01 { fixed p 4 with free := true, zeroOk := fieldAt p.payload 3 1 == 0 } (fun s => s.runSessionOpen p)
def State.opSessionClose (s : State) (p : Packet) : State :=
  s.native p 0x02 (bare p) (fun s => (s.closeSession (packetPort p)).done)
def State.opIdentify (s : State) (p : Packet) : State := s.native p 0x03 { bare p with free := true } State.runIdentify
def State.opOwnTake (s : State) (p : Packet) : State :=
  s.native p 0x04 { fixed p 4 with zeroOk := fieldAt p.payload 1 3 == 0 } (fun s => s.runOwnTake p)
def State.opOwnRelease (s : State) (p : Packet) : State :=
  s.native p 0x05 { bare p with owner := true } (fun s => (s.endOwnership (packetPort p)).done)
def State.opOwnQuery (s : State) (p : Packet) : State := s.native p 0x06 (bare p) State.runOwnQuery
def State.opEcho (s : State) (p : Packet) : State :=
  s.native p 0x07 { lenOk := decide (p.payload.length ≤ 1020), targetOk := p.target.toNat == 0, free := true }
    (fun s => s.done p.payload)
def State.opGetTime (s : State) (p : Packet) : State := s.native p 0x08 (bare p) State.runGetTime
def State.opGetStatus (s : State) (p : Packet) : State := s.native p 0x09 (bare p) State.runGetStatus

/-- RESET with scope `k`: a packet of the other scope is the other row's. -/
def State.opReset (s : State) (p : Packet) (k : Nat) : State :=
  if p.payload.length = 4 ∧ fieldAt p.payload 0 1 = 3 - k then s
  else
    s.native p 0x0A { fixed p 4 with owner := true, zeroOk := fieldAt p.payload 3 1 == 0 } (fun s => s.runReset p)

/-! ### Parameters (Table 12.8) -/

/-- The records of SET_MULTI and SET_GROUP, with byte 3. -/
def setRecords (a : List Byte) : List (Write × Nat) :=
  (List.range (fieldAt a 0 2)).map (fun k =>
    let o := 4 + 8 * k
    ({ id := fieldAt a o 2, inst := fieldAt a (o + 2) 1, value := fieldAt a (o + 4) 4 }, fieldAt a (o + 3) 1))

/-- Writes in order until one is refused, whose index is the detail (R363). -/
def State.writeList (s : State) (port : Nat) : Nat → List (Write × Nat) → State
  | _, [] => s.done
  | i, (w, z) :: ws =>
    if z ≠ 0 then s.answer Status.outOfRange i
    else
      let s := s.writeWith State.grImmediate port w
      if accepted s.result.status then s.writeList port (i + 1) ws else s.answer s.result.status i

/-- Reads of several items at one edge; the first that fails gives its status and index (R364, R381). -/
def State.readMany (s : State) (port : Nat) (items : List (Nat × Nat)) : State :=
  let bad := (List.range items.length).find? (fun k =>
    let i := nthD (0, 0) items k
    s.readStatus i.1 i.2 != Status.ok)
  match bad with
  | some k => s.answer (s.readStatus (nthD (0, 0) items k).1 (nthD (0, 0) items k).2) k
  | none =>
    let r := s.readItems port items
    r.2.done (r.1.flatMap (leBytes 4))

/-- GET_MULTI. -/
def State.runGetMulti (s : State) (p : Packet) : State :=
  let n := fieldAt p.payload 0 2
  if n < 1 ∨ 128 < n then s.answer Status.outOfRange
  else s.readMany (packetPort p)
    ((List.range n).map (fun k => (fieldAt p.payload (4 + 4 * k) 2, fieldAt p.payload (6 + 4 * k) 2)))

/-- GET_RANGE. -/
def State.runGetRange (s : State) (p : Packet) : State :=
  let n := fieldAt p.payload 2 2
  if n < 1 ∨ 64 < n then s.answer Status.outOfRange
  else s.readMany (packetPort p) ((List.range n).map (fun k => (fieldAt p.payload 0 2, packetTarget p + k)))

/-- SET_MULTI. -/
def State.runSetMulti (s : State) (p : Packet) : State :=
  let n := fieldAt p.payload 0 2
  if n < 1 ∨ 127 < n then s.answer Status.outOfRange else s.writeList (packetPort p) 0 (setRecords p.payload)

/-- The status of a record of SET_GROUP (R383). -/
def groupRecStatus (w : Write × Nat) : Nat × Nat :=
  if w.2 ≠ 0 then (Status.outOfRange, 0)
  else if paramExists w.1.id w.1.inst = false then (Status.badTarget, 0)
  else if attrOf w.1.id = .ro then (Status.notPermitted, 2)
  else if w.1.id = P.SAR_SYSCAL then (Status.notPermitted, 4)
  else (Status.ok, 0)

/-- SET_GROUP (R383): all its records join the group, or none; indices count from the first record of the group. -/
def State.runSetGroup (s : State) (p : Packet) : State :=
  let port := packetPort p
  let x := s.session port
  let ws := setRecords p.payload
  let n := fieldAt p.payload 0 2
  if n < 1 ∨ 127 < n then s.answer Status.outOfRange
  else if s.par P.HP_GRPMAX < x.group.length + ws.length then s.answer Status.noBuffer 4
  else
    match (List.range ws.length).find? (fun k => (groupRecStatus (nthD ({ id := 0, inst := 0, value := 0 }, 0) ws k)).1 != Status.ok) with
    | some k =>
      let r := groupRecStatus (nthD ({ id := 0, inst := 0, value := 0 }, 0) ws k)
      if r.1 = Status.notPermitted then s.answer r.1 r.2 else s.answer r.1 (x.group.length + k)
    | none =>
      let recs := ws.map (fun w => ({ id := w.1.id, inst := w.1.inst, value := w.1.value } : GroupRec))
      (s.setSession port { x with group := x.group ++ recs, groupSet := s.t, groupLapsed := false }).done

/-- GROUP_CANCEL: a discard by lapse that came before stays known (R388). -/
def State.runGroupCancel (s : State) (p : Packet) : State :=
  (s.setSession (packetPort p) { s.session (packetPort p) with group := [] }).done

/-- Attribute codes of PARAM_INFO. -/
def Attr.code : Attr → Nat
  | .ro => 0
  | .rwLive => 1
  | .rwShadow => 2
  | .rwLocked => 3
  | .w1c => 4
  | .cmd => 5

/-- The reset value PARAM_INFO reports (R645). -/
def State.resetValue (s : State) (port id inst : Nat) : Nat :=
  if id = P.HP_SELF then port
  else if id = P.HP_UID ∨ id = P.HP_EMAC ∨ id = P.HP_GRADE then s.readValue port id inst
  else if id = P.AC_SUPPLY then s.pwr.supplyAtReset
  else if id = P.GR_KEYSTATE then tblGet 0 s.pwr.keyReset inst
  else if id = P.SAR_SLICE then ({ s with groups := [] }).sarSliceWord (inst / 5) (inst % 5)
  else paramReset id inst

/-- PARAM_INFO (R644, R645). -/
def State.runParamInfo (s : State) (p : Packet) : State :=
  let id := fieldAt p.payload 0 2
  let i := packetTarget p
  match paramDef? id with
  | none => s.answer Status.badTarget
  | some d =>
    if d.count ≤ i then s.answer Status.badTarget
    else if s.resetting (ownerOf id i) then s.answer Status.busyLocked
    else
      s.done (leBytes 1 (Attr.code d.attr) ++ leBytes 1 (d.count - 1) ++ leBytes 2 0 ++ leBytes 4 (s.resetValue (packetPort p) id i)
        ++ leBytes 4 d.range.lowest ++ leBytes 4 (d.range.highest i))

/-- The value that SET_BITS replaces (R364): block RAM words and staged coefficients are the last values accepted of their
parameters. -/
def State.bitsBase (s : State) (id inst : Nat) : Nat :=
  if attrOf id = .rwShadow then s.shadowPar id inst
  else if attrOf id = .rwLocked then s.par id inst
  else if id = P.FAB_RAMDAT then (s.ramWord inst (s.par P.FAB_RAMADR inst)).toNat
  else if id = P.CAL_CGAIN ∨ id = P.CAL_COFS then
    let k := s.lastPar P.CAL_CSEL
    let c := match s.cal.staging.find? (fun e => e.1 == coefKey (k / 4096) (k % 4096)) with
      | some e => e.2
      | none => s.coef (k / 4096) (k % 4096)
    if id = P.CAL_CGAIN then c.g else wrapTo 32 c.o
  else s.lastPar id inst

/-- SET_BITS (R364). -/
def State.runSetBits (s : State) (p : Packet) : State :=
  let id := fieldAt p.payload 0 2
  let i := packetTarget p
  let mask := fieldAt p.payload 4 4
  let bits := fieldAt p.payload 8 4
  if paramExists id i = false then s.answer Status.badTarget
  else
    match attrOf id with
    | .ro => s.answer Status.notPermitted 2
    | .w1c => s.answer Status.notPermitted
    | .cmd => s.answer Status.notPermitted
    | _ =>
      let v := s.bitsBase id i
      let w := v - (v &&& mask) + (bits &&& mask)
      let s := s.writeWith State.grImmediate (packetPort p) { id := id, inst := i, value := w }
      if s.result.status = Status.ok then s.done (leBytes 4 w) else s

def State.opGetParam (s : State) (p : Packet) : State :=
  s.native p 0x10 (onParam p 2) (fun s => s.readParam (packetPort p) (fieldAt p.payload 0 2) (packetTarget p))
def State.opSetParam (s : State) (p : Packet) : State :=
  let id := fieldAt p.payload 0 2
  s.native p 0x11
    { onParam p 8 with owner := true, pend := true, zeroOk := fieldAt p.payload 2 2 == 0, limit := msTicks 600000
                       arg := id + 4096 * packetTarget p }
    (fun s => s.writeWith State.grImmediate (packetPort p) { id := id, inst := packetTarget p, value := fieldAt p.payload 4 4 })
def State.opGetMulti (s : State) (p : Packet) : State := s.native p 0x12 (counted p 4) (fun s => s.runGetMulti p)
def State.opSetMulti (s : State) (p : Packet) : State :=
  s.native p 0x13 { counted p 8 with owner := true } (fun s => s.runSetMulti p)
def State.opGetRange (s : State) (p : Packet) : State := s.native p 0x14 (onParam p 4) (fun s => s.runGetRange p)
def State.opSetGroup (s : State) (p : Packet) : State :=
  s.native p 0x15 { counted p 8 with owner := true } (fun s => s.runSetGroup p)
def State.opCommit (s : State) (p : Packet) : State :=
  s.native p 0x16 { bare p with owner := true } (fun s => s.commitGroup State.grImmediate (packetPort p))
def State.opGroupCancel (s : State) (p : Packet) : State :=
  s.native p 0x17 { bare p with owner := true } (fun s => s.runGroupCancel p)
def State.opParamInfo (s : State) (p : Packet) : State := s.native p 0x18 (onParam p 2) (fun s => s.runParamInfo p)
def State.opSetBits (s : State) (p : Packet) : State :=
  s.native p 0x19 { onParam p 12 with owner := true, zeroOk := fieldAt p.payload 2 2 == 0 } (fun s => s.runSetBits p)

/-! ### Grist and banks (Table 12.9) -/

/-- BANK_READ. -/
def State.runBankRead (s : State) (p : Packet) : State :=
  let id := fieldAt p.payload 0 2
  let i := packetTarget p
  if paramExists id i = false then s.answer Status.badTarget
  else if attrOf id ≠ .rwShadow then s.answer Status.notPermitted
  else if s.resetting (ownerOf id i) then s.answer Status.busyLocked
  else s.done (leBytes 4 (s.shadowPar id i))

/-- KEY_PROGRAM: the write of the slot starts (R323). -/
def State.runKeyProgram (s : State) (p : Packet) : State :=
  let k := packetTarget p
  let s := s.keyProgram k
  if s.result.status = Status.acceptedPending then
    { s with pwr := { s.pwr with keyDue := s.pwr.keyDue ++ [(k, BitVec.ofNat 128 (beNat p.payload))] } }
  else s

/-- KEY_PROGRAM_COMPLETE: the oldest write under way is done, and its command completes. -/
def State.keyProgramDone (s : State) : State :=
  match s.pwr.keyDue with
  | [] => s
  | (k, key) :: rest =>
    let s := ({ s with pwr := { s.pwr with keyDue := rest } }).keyProgrammed k key
    s.completeAll Op.keyProgram k Status.ok

def State.opGristOpen (s : State) (p : Packet) : State :=
  s.native p 0x20 { fixed p 4 with owner := true } (fun s => s.gristOpen (packetPort p) (fieldAt p.payload 0 4))
def State.opGristData (s : State) (p : Packet) : State :=
  s.native p 0x21 { lenOk := decide (5 ≤ p.payload.length) && decide (p.payload.length ≤ 1024)
                    targetOk := p.target.toNat == 0, owner := true }
    (fun s => s.gristData (packetPort p) (fieldAt p.payload 0 4) (p.payload.drop 4))
def State.opGristClose (s : State) (p : Packet) : State :=
  s.native p 0x22 { bare p with owner := true, pend := true, limit := msTicks 200 } (fun s => s.gristClose (packetPort p))
def State.opGristInfo (s : State) (p : Packet) : State :=
  s.native p 0x23 { aimed p 0 with targetOk := decide (packetTarget p ≤ 1) } (fun s => s.gristInfo (packetTarget p))
def State.opKeyProgram (s : State) (p : Packet) : State :=
  s.native p 0x24 { aimed p 16 with targetOk := decide (packetTarget p ≤ 3), owner := true, pend := true, limit := msTicks 50 }
    (fun s => s.runKeyProgram p)
def State.opBankRead (s : State) (p : Packet) : State := s.native p 0x25 (onParam p 2) (fun s => s.runBankRead p)
def State.opFlashRead (s : State) (p : Packet) : State :=
  s.native p 0x26 (fixed p 6) (fun s => s.flashRead (fieldAt p.payload 0 4) (fieldAt p.payload 4 2))
def State.opFlashErase (s : State) (p : Packet) : State :=
  s.native p 0x27 { fixed p 4 with owner := true, pend := true, limit := msTicks 500 }
    (fun s => s.flashErase (packetPort p) (packetSeq p) (fieldAt p.payload 0 4))
def State.opFlashWrite (s : State) (p : Packet) : State :=
  s.native p 0x28 { lenOk := decide (5 ≤ p.payload.length) && decide (p.payload.length ≤ 260)
                    targetOk := p.target.toNat == 0, owner := true, pend := true, limit := msTicks 10 }
    (fun s => s.flashWrite (packetPort p) (packetSeq p) (fieldAt p.payload 0 4) (p.payload.drop 4))

/-! ### Wheel (Table 12.10) -/

/-- The queue that four bytes name: a bin, or 65,536 + n for time queue n. -/
def placeAt (a : List Byte) (o : Nat) : Option Nat :=
  let v := fieldAt a o 2
  if fieldAt a (o + 3) 1 ≠ 0 then none
  else if fieldAt a (o + 2) 1 = 0 then some v
  else if fieldAt a (o + 2) 1 = 1 ∧ v < 16 then some (65536 + v)
  else none

/-- The four bytes that name a queue. -/
def placeBytes (k : Nat) : List Byte := if k < 65536 then leBytes 4 k else leBytes 2 (k - 65536) ++ leBytes 2 1

/-- TQ15 while it is reserved for personalities (R422). -/
def State.placeBarred (s : State) (k : Nat) : Bool := k == 65536 + 15 && s.tq15Reserved

/-- The dual stamp of the present edge, as reply data. -/
def State.stampBytes (s : State) : List Byte := leBytes 6 s.angleStamp ++ leBytes 8 s.t

/-- The status of one post (R42, R422). -/
def State.postStatus (s : State) (place : Option Nat) (w : BitVec 64) : Nat :=
  match place with
  | none => Status.outOfRange
  | some k => if s.placeBarred k then Status.notPermitted else actStatus w

/-- A post that the store cannot hold is refused with POSTFULL (Table 2.7). -/
def State.postFull (s : State) : State := (s.raise Fb.wheel 12 1).answer Status.noBuffer 2

/-- The posts of POST_MULTI, from the record at offset `o`. -/
def postRecord (a : List Byte) (o : Nat) : Option Nat × BitVec 64 := (placeAt a o, BitVec.ofNat 64 (fieldAt a (o + 4) 8))

/-- POST_ACTION (R42, R43). -/
def State.runPost (s : State) (p : Packet) : State :=
  let (place, w) := postRecord p.payload 0
  let st := s.postStatus place w
  if st ≠ Status.ok then s.answer st
  else if s.freeEntries = 0 then s.postFull
  else
    let (h, s) := s.post w (place.getD 0) .none false
    s.done (leBytes 4 h ++ s.stampBytes)

/-- POST_MULTI (R366): all posts, or none. -/
def State.runPostMulti (s : State) (p : Packet) : State :=
  let n := fieldAt p.payload 0 2
  let recs := (List.range n).map (fun k => postRecord p.payload (4 + 12 * k))
  let st := fun (k : Nat) => (fun (r : Option Nat × BitVec 64) => s.postStatus r.1 r.2) (nthD (none, 0) recs k)
  if n < 1 ∨ 85 < n then s.answer Status.outOfRange
  else
    match (List.range n).find? (fun k => st k != Status.ok) with
    | some k => s.answer (st k) (if st k = Status.notPermitted then 0 else k)
    | none =>
      if s.freeEntries < n then s.postFull
      else
        let r := recs.foldl (fun (acc : List Nat × State) (r : Option Nat × BitVec 64) =>
          let (h, s) := acc.2.post r.2 (r.1.getD 0) .none false
          (acc.1 ++ [h], s)) ([], s)
        r.2.done (r.1.flatMap (leBytes 4) ++ r.2.stampBytes)

/-- The action with a handle. -/
def State.actionAt (s : State) (h : Nat) : Option Action := (s.wheel.store.find? (fun e => e.1 == h)).map Prod.snd

/-- CANCEL_ACTION (R44). -/
def State.runCancel (s : State) (p : Packet) : State :=
  let h := fieldAt p.payload 0 4
  match s.actionAt h with
  | some _ => (s.unpost h).done
  | none => s.answer Status.badTarget

/-- CLEAR_QUEUE (R44). -/
def State.runClearQueue (s : State) (p : Packet) : State :=
  match placeAt p.payload 0 with
  | none => s.answer Status.outOfRange
  | some k =>
    if s.placeBarred k then s.answer Status.notPermitted
    else
      let n := (s.wheel.store.filter (fun e => e.2.place == k)).length
      (s.unpostAll (fun a => a.place == k)).done (leBytes 4 n)

/-- The grist marks of READ_QUEUE and READ_ACTION. -/
def isGristAct (a : Action) : Bool := a.tag != .none
def isBankB (a : Action) : Bool := a.tag == .bankB

/-- The entries of one queue in order of posting. -/
def State.queueEntries (s : State) (k : Nat) : List (Nat × Action) :=
  sortBy (fun (e : Nat × Action) => e.2.seq) (s.wheel.store.filter (fun e => e.2.place == k))

/-- READ_QUEUE: entries in order of posting. The entries it returns are read, and checked as any read is (R46): one with an
uncorrectable error is freed and not returned. -/
def State.runReadQueue (s : State) (p : Packet) (ecc : List StoreError) : State :=
  match placeAt p.payload 0 with
  | none => s.answer Status.outOfRange
  | some k =>
    let read := ((s.queueEntries k).drop (fieldAt p.payload 4 2)).take 84
    let s := read.foldl (fun (s : State) e => s.storeCheck ecc e.1) s
    let es := s.queueEntries k
    let out := read.filter (fun e => (s.actionAt e.1).isSome)
    s.done (leBytes 2 (min es.length 65535) ++ leBytes 2 out.length ++ out.flatMap (fun e =>
      leBytes 4 (e.1 + 2 ^ 31 * b2n (isGristAct e.2) + 2 ^ 30 * b2n (isBankB e.2)) ++ leBytes 8 e.2.word.toNat))

/-- READ_ACTION: the entry is checked (R46); one that the check frees is answered as a handle not in use. -/
def State.runReadAction (s : State) (p : Packet) (ecc : List StoreError) : State :=
  let s := s.storeCheck ecc (fieldAt p.payload 0 4)
  match s.actionAt (fieldAt p.payload 0 4) with
  | none => s.answer Status.badTarget
  | some a =>
    s.done (placeBytes a.place ++ leBytes 8 a.word.toNat ++ leBytes 4 (b2n (isGristAct a) + 2 * b2n (isBankB a)))

/-- GET_ANGLE. -/
def State.runGetAngle (s : State) : State :=
  s.done (s.stampBytes ++ leBytes 4 (wrapTo 32 s.speed) ++ leBytes 1 s.eng.state.code ++ leBytes 1 0
    ++ leBytes 5 s.eng.hwm.toNat ++ leBytes 3 0)

/-- WAIT_BIN (R367). -/
def State.runWaitBin (s : State) (p : Packet) : State :=
  let ms := fieldAt p.payload 4 4
  if ms < 1 ∨ 60000 < ms then s.answer Status.outOfRange else s.answer Status.acceptedPending

def State.opPostAction (s : State) (p : Packet) : State :=
  s.native p 0x30 { fixed p 12 with owner := true } (fun s => s.runPost p)
def State.opCancelAction (s : State) (p : Packet) : State :=
  s.native p 0x31 { fixed p 4 with owner := true } (fun s => s.runCancel p)
def State.opClearQueue (s : State) (p : Packet) : State :=
  s.native p 0x32 { fixed p 4 with owner := true } (fun s => s.runClearQueue p)
def State.opPostMulti (s : State) (p : Packet) : State :=
  s.native p 0x33 { counted p 12 with owner := true } (fun s => s.runPostMulti p)
def State.opReadQueue (s : State) (p : Packet) (ecc : List StoreError) : State :=
  s.native p 0x34 { fixed p 8 with zeroOk := fieldAt p.payload 6 2 == 0 } (fun s => s.runReadQueue p ecc)
def State.opReadAction (s : State) (p : Packet) (ecc : List StoreError) : State :=
  s.native p 0x35 (fixed p 4) (fun s => s.runReadAction p ecc)
def State.opGetAngle (s : State) (p : Packet) : State := s.native p 0x36 (bare p) State.runGetAngle
def State.opWaitBin (s : State) (p : Packet) : State :=
  s.native p 0x37 { fixed p 8 with pend := true, zeroOk := fieldAt p.payload 2 2 == 0
                                   limit := msTicks (fieldAt p.payload 4 4), arg := fieldAt p.payload 0 2 }
    (fun s => s.runWaitBin p)

end Sys2Proof.Machine
end

