-- ==== Sys2Proof/Machine/BlockCommands.lean ====
section
/-! DEFINITION. What the opcodes of Tables 12.11 to 12.17 do once a packet has passed the acceptance steps: converters and lanes,
calibration, streams and mailboxes, faults, Kiln, sync link, test and trace. -/

namespace Sys2Proof.Machine

/-- A payload of four bytes that holds one byte, the other three 0; target 0. -/
def oneByte (p : Packet) : Rule := { fixed p 4 with zeroOk := fieldAt p.payload 1 3 == 0 }

/-- The first payload byte. -/
def byte0 (p : Packet) : Nat := fieldAt p.payload 0 1

/-- The packet is of another row of its opcode: it has the length the opcode demands, and its selecting byte, within
`lo` to `hi`, is not the row's. -/
def otherRow (p : Packet) (n lo hi k : Nat) : Bool :=
  p.payload.length == n && decide (lo ≤ byte0 p) && decide (byte0 p ≤ hi) && byte0 p != k

/-- A command aimed at a block that is being reset, as a write of its parameter would be refused (R577). -/
def State.unlessReset (s : State) (b : Nat) (run : State → State) : State :=
  if s.resetting b then s.answer Status.busyLocked else run s

/-! ### Converters and lanes (Table 12.11) -/

/-- A last record with its dual stamp; without one, record 0 with STL. -/
def State.lastReply (s : State) (target : Nat) (r : Option LastRecord) : State :=
  match r with
  | some x => s.done (leBytes 4 x.word.toNat ++ leBytes 6 x.angle ++ leBytes 8 x.time)
  | none => s.done (leBytes 4 Flag.stl ++ leBytes 14 (Config.noResultStamp target s.t))

/-- READ_RESULT: its target names a SAR entry or an integrating converter. -/
def State.runReadResult (s : State) (p : Packet) : State :=
  let k := packetTarget p
  if k < 192 then s.lastReply k (tblGet none (s.group (k / 48)).last (k % 48))
  else s.lastReply k (s.ic (k - 0x100)).last

/-- Scan entries or coefficients written in order, as SET_MULTI does (R313). -/
def State.loadWords (s : State) (p : Packet) (id first n off : Nat) : State :=
  s.writeList (packetPort p) 0 ((List.range n).map (fun k =>
    ({ id := id, inst := first + k, value := fieldAt p.payload (off + 4 * k) 4 }, 0)))

/-- SCAN_LOAD. -/
def State.runScanLoad (s : State) (p : Packet) : State :=
  let first := byte0 p
  let n := fieldAt p.payload 1 1
  if n < 1 ∨ 48 < n ∨ 48 < first + n then s.answer Status.outOfRange
  else s.loadWords p (P.SAR_G0SCAN + packetTarget p) first n 4

/-- SCAN_READ. -/
def State.runScanRead (s : State) (p : Packet) : State :=
  let first := byte0 p
  let n := fieldAt p.payload 1 1
  if n < 1 ∨ 48 < n ∨ 48 < first + n then s.answer Status.outOfRange
  else s.readMany (packetPort p) ((List.range n).map (fun k => (P.SAR_G0SCAN + packetTarget p, first + k)))

def State.opReadResult (s : State) (p : Packet) : State :=
  let k := packetTarget p
  s.native p 0x40 { aimed p 0 with targetOk := decide (k < 192) || (decide (0x100 ≤ k) && decide (k ≤ 0x107)) }
    (fun s => s.runReadResult p)
def State.opReadLane (s : State) (p : Packet) : State :=
  s.native p 0x41 { aimed p 0 with targetOk := decide (packetTarget p < 32) }
    (fun s => s.lastReply (0x200 + packetTarget p) (s.lane (packetTarget p)).last)
def State.opScanLoad (s : State) (p : Packet) : State :=
  s.native p 0x42
    { lenOk := decide (4 ≤ p.payload.length) && p.payload.length == 4 + 4 * fieldAt p.payload 1 1
      targetOk := decide (packetTarget p < 4), zeroOk := fieldAt p.payload 2 2 == 0, owner := true }
    (fun s => s.runScanLoad p)
def State.opCoefLoad (s : State) (p : Packet) : State :=
  s.native p 0x43 { aimed p 128 with targetOk := decide (packetTarget p < 4), owner := true }
    (fun s => s.loadWords p (P.FL_CU0 + packetTarget p) 0 32 0)
def State.opCoefRead (s : State) (p : Packet) : State :=
  s.native p 0x44 { aimed p 0 with targetOk := decide (packetTarget p < 4) }
    (fun s => s.readMany (packetPort p) ((List.range 32).map (fun k => (P.FL_CU0 + packetTarget p, k))))
def State.opScanRead (s : State) (p : Packet) : State :=
  s.native p 0x45 { aimed p 4 with targetOk := decide (packetTarget p < 4), zeroOk := fieldAt p.payload 2 2 == 0 }
    (fun s => s.runScanRead p)

/-! ### Calibration (Table 12.12) -/

/-- A coefficient pair as reply data. -/
def CoefPair.bytes (c : CoefPair) : List Byte := leBytes 4 c.g ++ leBytes 4 (wrapTo 32 c.o) ++ leBytes 4 (wrapTo 32 c.temp)

/-- CAL_START acts as `CAL_CTRL` START, and pends until the run ends. -/
def State.runCalStart (s : State) : State :=
  let s := s.calStartCmd
  if s.result.status = Status.ok then s.answer Status.acceptedPending else s

/-- COEF_PUT: both halves of a pair, as the writes of R304. -/
def State.runCoefPut (s : State) (p : Packet) : State :=
  let g := fieldAt p.payload 0 4
  let o := fieldAt p.payload 4 4
  if valueOk P.CAL_CGAIN 0 g && valueOk P.CAL_COFS 0 o then
    s.coefWrite (packetTarget p / 4096) (packetTarget p % 4096) (some g) (some (signedOf 32 o))
  else s.answer Status.outOfRange

/-- COEF_DUMP. -/
def State.runCoefDump (s : State) (p : Packet) : State :=
  let kind := packetTarget p / 4096
  let first := packetTarget p % 4096
  let n := byte0 p
  if n < 1 ∨ 84 < n ∨ coefCount kind < first + n then s.answer Status.outOfRange
  else s.done ((List.range n).flatMap (fun k => (s.coef kind (first + k)).bytes))

/-- The group and the cell that SYSCAL_STEP names. -/
def sysGroup (p : Packet) : Nat := bitsOf (packetTarget p) 8 2
def sysCellOf (p : Packet) : Nat := bitsOf (packetTarget p) 0 6

/-- SYSCAL_STEP acts as a write of `SAR_SYSCAL` of the group named (R144, R145, R147). -/
def State.runSysStep (s : State) (p : Packet) : State :=
  if 3 < byte0 p then s.answer Status.outOfRange
  else s.unlessReset (Fb.sar (sysGroup p)) (fun s => s.sysCalWrite (sysGroup p) (sysCellOf p + 256 * byte0 p))

def State.opCalStart (s : State) (p : Packet) : State :=
  s.native p 0x50 { bare p with owner := true, pend := true, limit := msTicks (s.par P.HP_PENDMAX) } State.runCalStart
def State.opCalAbort (s : State) (p : Packet) : State := s.native p 0x51 { bare p with owner := true } State.calAbort
def State.opCoefGet (s : State) (p : Packet) : State :=
  s.native p 0x52 { aimed p 0 with targetOk := itemOk (packetTarget p) }
    (fun s => s.done (s.coef (packetTarget p / 4096) (packetTarget p % 4096)).bytes)
def State.opCoefPut (s : State) (p : Packet) : State :=
  s.native p 0x53 { aimed p 8 with targetOk := itemOk (packetTarget p), owner := true } (fun s => s.runCoefPut p)
def State.opCoefCommit (s : State) (p : Packet) : State := s.native p 0x54 { bare p with owner := true } State.calCommit
def State.opCoefDump (s : State) (p : Packet) : State :=
  s.native p 0x55 { oneByte p with targetOk := itemOk (packetTarget p) } (fun s => s.runCoefDump p)

/-- SYSCAL_STEP with step `k`. -/
def State.opSysStep (s : State) (p : Packet) (k : Nat) : State :=
  if otherRow p 4 0 3 k then s
  else
    s.native p 0x56
      { oneByte p with targetOk := packetTarget p == sysCellOf p + 256 * sysGroup p, owner := true, pend := true
                       limit := msTicks (s.par P.CAL_TIMEOUT) }
      (fun s => s.runSysStep p)

/-! ### Streams and mailboxes (Table 12.13) -/

/-- A stream command reaches the port its ring is bound to (R452). -/
def State.onRing (s : State) (p : Packet) (run : State → State) : State :=
  let bound := s.ringPort (packetTarget p)
  if bound = packetPort p then run s else s.answer Status.notOwner bound

/-- STREAM_READ (R452); `poolBad` is an uncorrectable error in the words it takes (R459). -/
def State.runStreamRead (s : State) (p : Packet) (poolBad : Bool) : State :=
  let n := packetTarget p
  let max := fieldAt p.payload 0 2
  if s.ringPush n then s.answer Status.notPermitted
  else if max < 1 ∨ 254 < max then s.answer Status.outOfRange
  else
    let s := if poolBad then s.poolEcc n else s
    let (data, s) := s.ringTake n max
    s.done data

/-- STREAM_FLUSH (R457). -/
def State.runStreamFlush (s : State) (p : Packet) : State :=
  let n := packetTarget p
  let k := (s.ring n).words.length
  (s.ringFlush n).done (leBytes 4 k)

/-- MB_READ (R431, R434). -/
def State.runMbRead (s : State) (p : Packet) : State :=
  let n := packetTarget p
  let bound := s.par P.MB_PORT n
  if s.fromHost n then s.answer Status.notPermitted
  else if bound ≠ 0 ∧ bound ≠ packetPort p then s.answer Status.notOwner bound
  else
    match (s.mbox n).msg with
    | none => s.done (List.replicate 68 0)
    | some m =>
      (s.mbTake n).done (leBytes 2 m.status ++ leBytes 2 m.payload.length ++ slice m.payload 0 64)

/-- MB_WRITE (R431, R433): to a full mailbox it waits. -/
def State.runMbWrite (s : State) (p : Packet) : State :=
  let n := packetTarget p
  let port := packetPort p
  let bound := s.par P.MB_PORT n
  let len := fieldAt p.payload 0 2
  let routed := (List.range 4).any (fun k => s.par P.MB_ROUTE (4 + k) == n)
  if s.toHost n ∨ routed = false then s.answer Status.notPermitted
  else if bound ≠ 0 ∧ bound ≠ port then s.answer Status.notOwner bound
  else if len < 1 ∨ 64 < len then s.answer Status.outOfRange
  else
    let data := p.payload.drop 4
    if (s.mbox n).msg.isSome then
      let x := s.mbox n
      (s.setMbox n { x with pendWrites := x.pendWrites ++ [{ port := port, seq := packetSeq p, data := data }] }).answer
        Status.acceptedPending
    else (s.mbFill n (s.newMessage port data)).done

def State.opStreamRead (s : State) (p : Packet) (poolBad : Bool) : State :=
  s.native p 0x60 { aimed p 4 with targetOk := decide (packetTarget p < 64), zeroOk := fieldAt p.payload 2 2 == 0 }
    (fun s => s.onRing p (fun s => s.runStreamRead p poolBad))
def State.opStreamStatus (s : State) (p : Packet) : State :=
  s.native p 0x61 { aimed p 0 with targetOk := decide (packetTarget p < 64) }
    (fun s => s.onRing p (fun s =>
      s.done (leBytes 4 (s.ring (packetTarget p)).words.length ++ leBytes 4 (s.par P.ST_LOST (packetTarget p)))))
def State.opStreamFlush (s : State) (p : Packet) : State :=
  s.native p 0x62 { aimed p 0 with targetOk := decide (packetTarget p < 64) }
    (fun s => s.onRing p (fun s => s.runStreamFlush p))
def State.opMbRead (s : State) (p : Packet) : State :=
  s.native p 0x63 { aimed p 0 with targetOk := decide (packetTarget p < 8) } (fun s => s.runMbRead p)
def State.opMbWrite (s : State) (p : Packet) : State :=
  s.native p 0x64
    { lenOk := decide (4 ≤ p.payload.length) && p.payload.length == 4 + fieldAt p.payload 0 2
      targetOk := decide (packetTarget p < 8), zeroOk := fieldAt p.payload 2 2 == 0, pend := true
      limit := usTicks (s.par P.MB_TIMEOUT (packetTarget p)) }
    (fun s => s.runMbWrite p)
def State.opMbStatus (s : State) (p : Packet) : State :=
  s.native p 0x65 (bare p) (fun s => s.done (leBytes 2 s.mbFull ++ leBytes 2 0))

/-! ### Faults (Table 12.14) -/

/-- LOG_READ (R484, R491): an entry asked for that fails its check is lost first. -/
def State.runLogRead (s : State) (p : Packet) (bad : Option Nat) : State :=
  let first := packetTarget p
  let n := byte0 p
  if n < 1 ∨ 31 < n then s.answer Status.outOfRange
  else
    let s := match bad with
      | some i => if first ≤ i ∧ i < first + n then s.logReadFails i else s
      | none => s
    match s.logEntries first n with
    | some es => s.done (es.flatMap FaultRec.bytes)
    | none => s.answer Status.outOfRange

def State.opFaultSummary (s : State) (p : Packet) : State :=
  s.native p 0x70 (bare p) (fun s => s.done s.faultNibbles)
def State.opFaultRead (s : State) (p : Packet) : State :=
  s.native p 0x71 { aimed p 0 with targetOk := decide (packetTarget p < 0xF8) }
    (fun s => s.done (s.captureBytes (packetTarget p)))
def State.opFaultAck (s : State) (p : Packet) : State :=
  s.native p 0x72 { oneByte p with targetOk := decide (packetTarget p < 0xF8), owner := true }
    (fun s => s.faultAck (packetTarget p) (byte0 p))
def State.opLogRead (s : State) (p : Packet) (bad : Option Nat) : State :=
  s.native p 0x73 { oneByte p with targetOk := true } (fun s => s.runLogRead p bad)
def State.opLogClear (s : State) (p : Packet) : State :=
  s.native p 0x74 { bare p with owner := true } (fun s => s.logEmpty.done)

/-! ### Kiln (Table 12.15) -/

/-- One job of KILN_JOBS, as the last plan found it; a job without work has no energy. -/
def State.jobBytes (s : State) (j : Nat) : List Byte :=
  let d := s.kiln.deferred.contains j
  match s.kiln.jobs.find? (fun x => x.job == j) with
  | some x =>
    leBytes 4 x.energy ++ leBytes 1 x.cls ++ leBytes 1 (b2n d + 2 * b2n x.committed + 4 * b2n x.dependent) ++ leBytes 2 0
  | none => leBytes 4 0 ++ leBytes 1 (s.jobClass j) ++ leBytes 1 (b2n d) ++ leBytes 2 0

/-- KILN_JOBS. -/
def State.runKilnJobs (s : State) (p : Packet) : State :=
  let first := packetTarget p
  let n := byte0 p
  if n < 1 ∨ 127 < n ∨ 256 < first + n then s.answer Status.outOfRange
  else s.done ((List.range n).flatMap (fun k => s.jobBytes (first + k)))

/-- KILN_POWER (R265, R266, R514). -/
def State.runKilnPower (s : State) (p : Packet) : State :=
  let c := byte0 p
  if c < 1 ∨ 4 < c then s.answer Status.outOfRange
  else
    s.unlessReset Fb.kiln (fun s =>
      let s := s.klHostCtrl c
      if s.result.status = Status.ok then s.done (leBytes 1 s.kiln.state.code) else s)

def State.opKilnReport (s : State) (p : Packet) : State :=
  s.native p 0x80 (bare p) (fun s => s.done (slice s.kiln.report 0 64))
def State.opKilnJobs (s : State) (p : Packet) : State :=
  s.native p 0x81 { oneByte p with targetOk := decide (packetTarget p < 256) } (fun s => s.runKilnJobs p)

/-- KILN_POWER with command `k`. -/
def State.opKilnPower (s : State) (p : Packet) (k : Nat) : State :=
  if otherRow p 4 1 4 k then s
  else s.native p 0x82 { oneByte p with owner := true } (fun s => s.runKilnPower p)

/-! ### Sync link (Table 12.16) -/

/-- SL_STATUS. -/
def State.runSlStatus (s : State) : State :=
  let rec' := fun (k : Nat) =>
    if s.sl.state ≠ .off ∧ k = s.slPos then s.ownRecord else tblGet {} s.sl.peers k
  s.done (leBytes 1 s.slPos ++ leBytes 1 s.role ++ leBytes 1 s.ringState ++ leBytes 1 (s.par P.SL_NDEV)
    ++ leBytes 4 (s.par P.SL_CONTRACT)
    ++ (List.range 8).flatMap (fun k =>
      leBytes 4 (rec' k).hash ++ leBytes 1 (rec' k).b4 ++ leBytes 1 (rec' k).b5 ++ leBytes 2 0))

/-- A standby that may take over (R521). -/
def State.mayTakeOver (s : State) : Bool := s.isPair && s.role == Role.standby && s.sl.state == .synced

/-- SL_TAKEOVER: the take-over comes at the next frame boundary (Table 17.7). -/
def State.runTakeover (s : State) (p : Packet) : State :=
  if s.mayTakeOver then
    (s.setSl { s.sl with takeDue := true, takeWait := s.sl.takeWait ++ [(packetPort p, packetSeq p)] }).answer
      Status.acceptedPending
  else s.answer Status.notPermitted

/-- SL_ROLE with role 2 or 3 on a pair member: RELEASE on the active, SL_TAKEOVER on the standby. -/
def State.runSlRole (s : State) (p : Packet) : State :=
  let r := byte0 p
  let wait := s.sl.roleWait ++ [(packetPort p, packetSeq p)]
  if 3 < r then s.answer Status.outOfRange
  else if 2 ≤ r ∧ s.isPair = true ∧ s.sl.state ≠ .off ∧ s.role = Role.active then
    (s.setSl { s.sl with releaseDue := true, roleWait := wait }).answer Status.acceptedPending
  else if 2 ≤ r ∧ s.mayTakeOver = true then
    (s.setSl { s.sl with takeDue := true, roleWait := wait }).answer Status.acceptedPending
  else s.answer Status.notPermitted

/-- SL_COPY on an ACTIVE with a partner in SYNCED (R520). -/
def State.runSlCopy (s : State) (p : Packet) : State :=
  let r := s.partnerRec
  if s.isPair && s.role == Role.active && s.sl.state == .synced && r.valid && !r.hold then
    (s.setSl { s.sl with copyDue := s.sl.copyDue ++ [(packetPort p, packetSeq p)] }).answer Status.acceptedPending
  else s.answer Status.notPermitted

def State.opSlStatus (s : State) (p : Packet) : State := s.native p 0x90 (bare p) State.runSlStatus
def State.opSlRole (s : State) (p : Packet) : State :=
  s.native p 0x91 { oneByte p with owner := true, pend := true, limit := msTicks 100 } (fun s => s.runSlRole p)
def State.opSlCopy (s : State) (p : Packet) : State :=
  s.native p 0x92 { bare p with owner := true, pend := true, limit := msTicks (s.par P.HP_PENDMAX) } (fun s => s.runSlCopy p)
def State.opSlTakeover (s : State) (p : Packet) : State :=
  s.native p 0x93 { bare p with owner := true, pend := true, limit := msTicks 100 } (fun s => s.runTakeover p)

/-! ### Test and trace (Table 12.17) -/

/-- TRACE_CTRL (R601): the mask, then the command. -/
def State.runTraceCtrl (s : State) (p : Packet) : State :=
  let c := byte0 p
  if c < 1 ∨ 3 < c then s.answer Status.outOfRange
  else (s.setPar P.TST_TRCMASK 0 (fieldAt p.payload 4 4)).tstCtrl c

/-- TRACE_READ (R596): an ECC error is found in an entry that is read. -/
def State.runTraceRead (s : State) (p : Packet) (ecc : Option (Nat × Bool)) : State :=
  let first := packetTarget p
  let n := byte0 p
  if n < 1 ∨ 63 < n ∨ s.tst.buffer.length < first + n then s.answer Status.outOfRange
  else
    let s := match ecc with
      | some (i, bad) => if first ≤ i ∧ i < first + n then s.traceEcc i bad else s
      | none => s
    s.done (((s.tst.buffer.drop first).take n).flatMap TraceEntry.bytes)

/-- A refused or failed entry into factory test mode is traced (Table 20.2). -/
def State.testRefused (s : State) : State := s.trace 0x0C 2

/-- TEST_ENTER (R588), with the level of TESTMODE_N. -/
def State.runTestEnter (s : State) (pinLow : Bool) : State :=
  let s := { s with tst := { s.tst with testPinN := !pinLow } }
  if pinLow = false ∨ 3 ≤ s.par P.TST_AUTHFAIL ∨ s.tst.testLock = true then
    s.testRefused.answer Status.notPermitted
  else
    let c := (Config.challenge s.fresh).toNat
    ({ s.nextFresh with tst := { s.tst with challenge := some c, challengeTime := s.t } }).done (leBytes 8 c)

/-- The response a challenge demands (R588). -/
def testAnswer (challenge : Nat) : List Byte :=
  aesCmac (beBytes 16 Config.factoryKey.toNat) (leBytes 8 challenge ++ leBytes 8 Config.otpUid.toNat)

/-- A wrong or late response (R588). -/
def State.testFails (s : State) : State :=
  let n := s.par P.TST_AUTHFAIL
  let s := { s with tst := { s.tst with challenge := none } }
  let s := (s.setPar P.TST_AUTHFAIL 0 (min 3 (n + 1))).raise Fb.test 3 1
  let s := if n = 2 then
      ({ s with tst := { s.tst with testLock := true } }).raise Fb.test 6 2
    else s
  s.testRefused.answer Status.authFailed

/-- TEST_RESPONSE (R588). -/
def State.runTestResponse (s : State) (p : Packet) : State :=
  match s.tst.challenge with
  | none => s.testFails
  | some c =>
    if s.t ≤ s.tst.challengeTime + msTicks 1000 ∧ p.payload = testAnswer c then
      let s := { s with tst := { s.tst with
        challenge := none, testMode := true, testPort := packetPort p, testLast := s.t } }
      (((s.bump P.TST_TESTCNT).raise Fb.test 4 1).trace 0x0C 1).done
    else s.testFails

/-- TEST_EXIT (R589). -/
def State.runTestExit (s : State) : State := if s.tst.testMode then s.testEnd.done else s.answer Status.notPermitted

/-- FAULT_INJECT (R590). -/
def State.runInject (s : State) (p : Packet) : State :=
  let b := packetTarget p
  let d := byte0 p
  if s.tst.testMode = false then s.answer Status.notPermitted
  else
    match detClass b d with
    | none => s.answer Status.outOfRange
    | some k =>
      let s := s.setPar P.TST_INJLAST 0 (b + 256 * d)
      (s.ask { blk := b, det := d, cls := k, master := 5, addr := stateAddr b 0, injected := true
               inst := if b = Fb.faults then 1 else 0 }).done

/-- Bytes of a memory of R478. -/
def memSize (m : Nat) : Nat :=
  if m = 0 then 131072 * 8
  else if m = 1 then 2048 * 64 * 4
  else if m = 2 then 24 * 512 * 4
  else if m = 3 ∨ m = 4 then Config.hopperSize m
  else if m = 5 then 16384
  else if m = 6 then 512 * 32
  else if m = 7 then 2 * planeLength
  else 0

/-- A byte of a memory, where the model knows it: stored actions, block RAM words, the patch in force, log entries and the
planes. The rest is a free value, taken for the `k`-th read. -/
def State.memByte (s : State) (k m a : Nat) : Byte :=
  let open' := Config.memoryByte k m a
  if m = 0 then
    match s.actionAt (a / 8) with
    | some x => nthD 0 (leBytes 8 x.word.toNat) (a % 8)
    | none => open'
  else if m = 2 then nthD 0 (leBytes 4 (s.ramWord (a / 2048) (a / 4 % 512)).toNat) (a % 4)
  else if m = 5 then (if a < s.grist.patch.length then nthD 0 s.grist.patch a else open')
  else if m = 6 then
    match s.flt.log[a / 32]? with
    | some r => nthD 0 r.bytes (a % 32)
    | none => open'
  else if m = 7 then
    (if a < planeLength then memRead 0 s.fab.live.bytes a else memRead 0 s.fab.shadow.bytes (a - planeLength))
  else open'

/-- MEM_READ (R591). -/
def State.runMemRead (s : State) (p : Packet) : State :=
  let a := fieldAt p.payload 0 4
  let n := fieldAt p.payload 4 2
  let m := a / 2 ^ 28
  let o := a % 2 ^ 28
  if s.tst.testMode = false then s.answer Status.notPermitted
  else if n < 1 ∨ 1020 < n ∨ memSize m < o + n then s.answer Status.outOfRange
  else s.nextFresh.done ((List.range n).map (fun i => s.memByte s.fresh m (o + i)))

/-- TRACE_CTRL with command `k`. -/
def State.opTraceCtrl (s : State) (p : Packet) (k : Nat) : State :=
  if otherRow p 8 1 3 k then s
  else s.native p 0xA0 { fixed p 8 with owner := true, zeroOk := fieldAt p.payload 1 3 == 0 } (fun s => s.runTraceCtrl p)
def State.opTraceRead (s : State) (p : Packet) (ecc : Option (Nat × Bool)) : State :=
  s.native p 0xA1 { oneByte p with targetOk := true } (fun s => s.runTraceRead p ecc)
def State.opTestEnter (s : State) (p : Packet) (pinLow : Bool) : State :=
  s.native p 0xA2 { bare p with owner := true } (fun s => s.runTestEnter pinLow)
def State.opTestResponse (s : State) (p : Packet) : State :=
  s.native p 0xA3 { fixed p 16 with owner := true } (fun s => s.runTestResponse p)
def State.opTestExit (s : State) (p : Packet) : State := s.native p 0xA4 { bare p with owner := true } State.runTestExit
def State.opInject (s : State) (p : Packet) : State :=
  s.native p 0xA5 { oneByte p with targetOk := decide (packetTarget p < 0xF8), owner := true } (fun s => s.runInject p)
def State.opMemRead (s : State) (p : Packet) : State := s.native p 0xA6 (fixed p 6) (fun s => s.runMemRead p)

end Sys2Proof.Machine
end

