-- ==== Sys2Proof/Machine/Personality.lean ====
section
/-! DEFINITION. Port S1, the personalities and the transactions of ports S2 and U (chapter Host ports, R399–R409,
R420–R425). -/

namespace Sys2Proof.Machine

/-! ### The reply register of S1 (R401, Table 14.3) -/

/-- The Gen-1 status of a native status (Table 14.3). -/
def gen1Status (st : Nat) : Nat :=
  if st = Status.ok then 0
  else if st = Status.badOpcode then 2
  else if st = Status.badCheck then 3
  else if st = Status.badLength ∨ st = Status.badTarget ∨ st = Status.outOfRange then 4
  else if st = Status.faultState ∨ st = Status.abortedByReset then 6
  else if st = Status.timeout then 7
  else 5

/-- The state with the reply register set. -/
def State.setS1 (s : State) (x : S1Port) : State := { s with hp := { s.hp with s1 := x } }

/-- A frame of 48 clocks reads the register (R401). -/
def State.s1Read (s : State) : State := s.setS1 { s.hp.s1 with unread := false }

/-- A frame other than OP 0x00 ends: it is counted, and the register shows it with BUSY (R401). -/
def State.s1Frame (s : State) (op : Nat) : State :=
  let n := (s.hp.s1.frames + 1) % 4
  s.setS1 { op := op, status := 1, count := n, data := 0, frames := n, unread := false }

/-- The present answer replaces BUSY in the register, unless a later frame stands there. -/
def State.s1Reply (s : State) (op count : Nat) : State :=
  let x := s.hp.s1
  let r := s.result
  let q := if r.status = Status.ok then fieldAt r.data 0 2 else r.status
  if x.op = op ∧ x.count = count then s.setS1 { x with status := gen1Status r.status, data := q, unread := true } else s

/-! ### Personality commands (Table 14.7) -/

/-- What Table 14.7 says of an OP: the part that has it, its DATA and channel, whether it writes, the ARG values it takes,
and its faithful latencies in µs, 0 for none. -/
structure PersRule where
  op : Nat
  big : Bool := false
  data : Bool := false
  channel : Bool := false
  owner : Bool := false
  args : Nat := 65536
  slow : Nat := 0
  fast : Nat := 0
deriving DecidableEq, Repr

/-- What an OP leaves: its answer in the state, the blocks whose swap its reply awaits, and the groups to start then. -/
structure PersOut where
  s : State
  codes : List Nat := []
  starts : List Nat := []

/-- A personality command as its row executes it: port, KZA-3212 rather than KZA-1608, ARG and DATA. -/
structure PersArg where
  port : Nat
  big : Bool
  arg : Nat
  data : Nat
deriving DecidableEq, Repr

/-- Personality channels of the part (R420). -/
def persChannels (big : Bool) : Nat := if big then 32 else 16

/-- The cell of personality channel `c` (R420). -/
def State.persCell (s : State) (c : Nat) : Nat := s.par P.HP_PMAP c

/-- The instant at which a reply is released (R425); none outside faithful mode. -/
def State.persHold (s : State) (port us : Nat) : Option Nat :=
  if s.par P.HP_TFAITH (port - 1) = 1 ∧ us ≠ 0 then some (s.t + usTicks us) else none

/-- Step 10 on S1 (R402): a frame that writes takes a free device where `HP_S1AUTO` is 1. -/
def State.s1Auto (s : State) : State :=
  if s.par P.HP_S1AUTO = 1 ∧ s.par P.HP_OWNER = 0 then s.setPar P.HP_OWNER 0 1 else s

/-- Steps 7 to 11 of Table 12.5 for a frame. -/
def State.frameRun (s : State) (k : PersRule) (x : PersArg) (run : PersArg → State → PersOut) : PersOut :=
  if 4 ≤ (s.hp.waits.filter (fun w => w.port == 1 && !w.codes.isEmpty)).length then ⟨s.answer Status.noBuffer 1, [], []⟩
  else if (k.channel = true ∧ persChannels x.big ≤ x.arg) ∨ k.args ≤ x.arg then ⟨s.answer Status.badTarget, [], []⟩
  else
    let s := if k.owner then s.s1Auto else s
    if k.owner = true ∧ s.owns 1 = false then ⟨s.answer Status.notOwner (s.par P.HP_OWNER), [], []⟩
    else run x s

/-- A Gen-1 frame that meets R400 and carries an OP of Table 14.7 (R400–R402). -/
def State.persFrame (s : State) (k : PersRule) (arg data : Nat) (run : PersArg → State → PersOut) : State :=
  if s.hears 1 = false then s
  else
    let big := s.par P.HP_PERS == 2
    let s := (s.linkValid 1).s1Frame k.op
    let n := s.hp.s1.count
    if k.big = true ∧ big = false then (s.answer Status.badOpcode).s1Reply k.op n
    else
      let s := s.setSession 1 { s.session 1 with lastCmd := s.t }
      let s := (s.bump P.HP_S1FRAMES).bump P.HP_CMDCNT 0
      let hold := s.persHold 1 (if big then k.fast else k.slow)
      let o := s.frameRun k ⟨1, big, arg, data⟩ run
      if o.codes.isEmpty ∧ hold = none then o.s.s1Reply k.op n
      else
        o.s.persWait { port := 1, code := 0, opcode := k.op, seq := 0, target := 0, payload := [], crc := 0, quiet := false
                       mute := false, src := none, hold := hold } n o.codes o.starts

/-- A personality packet with code 0x22 (R424). -/
def State.persPacket (s : State) (p : Packet) (k : PersRule) (bytes us : Nat) (run : PersArg → State → PersOut) : State :=
  let port := portCode p.port
  if packetOk p = false ∨ p.pers = false ∨ s.hears port = false then s
  else
    let c := { packetCmd p k.op with hold := s.persHold port us }
    let t := p.target.toNat
    (s.addressed p).accept c
      { lenOk := p.payload.length == bytes, targetOk := !(k.channel && decide (32 ≤ t)) && decide (t < k.args)
        owner := k.owner }
      (fun s =>
        let o := run ⟨port, true, t, fieldAt p.payload 0 2⟩ s
        if o.codes.isEmpty then o.s else o.s.persWait c 0 o.codes o.starts)

/-- A personality command by frame or packet. -/
def State.pers (s : State) (c : PersCommand) (k : PersRule) (run : PersArg → State → PersOut) : State :=
  match c with
  | .frame arg data => s.persFrame k arg.toNat data.toNat run
  | .packet p => s.persPacket p k (if k.data then 2 else 0) k.fast run

/-- An OP whose reply is ready when it has executed. -/
def plainOp (f : PersArg → State → State) : PersArg → State → PersOut := fun x s => ⟨f x s, [], []⟩

/-- A reply's Q1. -/
def State.doneQ (s : State) (q : Nat) : State := s.done (leBytes 2 q)

/-! ### Writes of shadow parameters (R422) -/

/-- A list without repeats, in the order of first appearance. -/
def once (l : List Nat) : List Nat := l.foldl (fun (a : List Nat) x => if a.contains x then a else a ++ [x]) []

/-- The blocks of a list of writes, each once. -/
def codesOf (ws : List Write) : List Nat := once (ws.map (fun w => bankCode w.id w.inst))

/-- A ONESHOT BANK_SWAP of a block in TQ15, due at once (R422). -/
def State.postPersSwap (s : State) (code : Nat) : State :=
  ((s.post (actWord Act.bankSwap true 0 code 0) (65536 + 15) .none false).2).setQueue 15 { enabled := true, due := s.t }

/-- Shadow writes of a personality command; the reply awaits the swaps. -/
def State.persWrites (s : State) (port : Nat) (ws : List Write) (starts : List Nat) : PersOut :=
  let codes := codesOf ws
  if s.grist.state ≠ .idle then ⟨s.answer Status.busyLocked, [], []⟩
  else
    match s.checkWrites ws with
    | some (st, det, _) => ⟨s.answer st det, [], []⟩
    | none =>
      if s.freeEntries < codes.length then ⟨s.postFull, [], []⟩
      else ⟨(codes.foldl State.postPersSwap (s.applyWrites port ws)).done, codes, starts⟩

/-! ### The OPs -/

/-- Groups that run a list satisfying `p`. -/
def State.groupsOn (s : State) (p : Nat → Bool) : List Nat :=
  (List.range 4).filter (fun g =>
    let x := s.group g
    (x.state == .running || x.state == .gated true) && p x.list)

/-- READ_STATUS. -/
def State.persStatus (s : State) : Nat :=
  b2n (!(s.groupsOn (· == 15)).isEmpty) + 2 * b2n (s.highestFault != 0) + 4 * b2n s.irqLow + 8 * b2n (s.owns 1)
    + 256 * (s.par P.HP_RSTCNT % 256)

/-- Every personality list stops. -/
def State.stopLists (s : State) (port : Nat) : State :=
  (s.groupsOn (· == 15)).foldl (fun (s : State) g => s.write port { id := P.SAR_CTRL, inst := g, value := 2 }) s

/-- SOFT_RESET. -/
def State.runSoftReset (x : PersArg) (s : State) : PersOut :=
  let cells := once ((List.range (persChannels x.big)).map s.persCell)
  let set := fun (id : Nat) => cells.map (fun n => ({ id := id, inst := n, value := paramReset id n } : Write))
  let ws := set P.AC_GAIN ++ set P.AC_AAF ++ set P.AC_MODE
  if x.data ≠ 0xA55A then ⟨s.answer Status.outOfRange, [], []⟩
  else if s.grist.state ≠ .idle then ⟨s.answer Status.busyLocked, [], []⟩
  else
    match s.checkWrites ws with
    | some (st, det, _) => ⟨s.answer st det, [], []⟩
    | none =>
      if s.freeEntries < cells.length then ⟨s.postFull, [], []⟩
      else ⟨(cells.foldl State.postPersSwap ((s.stopLists x.port).applyWrites x.port ws)).done, cells, []⟩

/-- A parameter write of a channel's cell. -/
def cellWrite (id : Nat) (x : PersArg) (s : State) : State :=
  s.write x.port { id := id, inst := s.persCell x.arg, value := x.data }

/-- SET_THRH and SET_THRL: one threshold of `CMP_THR` by SET_BITS, at bit `sh`. -/
def setThr (sh : Nat) (x : PersArg) (s : State) : State :=
  let n := s.persCell x.arg
  let v := s.lastPar P.CMP_THR n
  let w := v - (v &&& (4095 * 2 ^ sh)) + x.data * 2 ^ sh
  if 4095 < x.data then s.answer Status.outOfRange else s.write x.port { id := P.CMP_THR, inst := n, value := w }

/-- CMP_CTRL: DISABLE, or ENABLE and ARM; an enabled comparator is armed. -/
def State.runPersCmp (x : PersArg) (s : State) : State :=
  let n := s.persCell x.arg
  let cmd := fun (s : State) (v : Nat) => s.write x.port { id := P.CMP_CTRL, inst := n, value := v }
  if x.data = 0 then cmd s 2
  else if x.data = 1 then
    let s := if (s.cmp n).state = .disabled then cmd s 1 else s.done
    if s.result.status = Status.ok then cmd s 3 else s
  else s.answer Status.outOfRange

/-- READ_CMP. -/
def State.runReadCmp (x : PersArg) (s : State) : State :=
  let n := s.persCell x.arg
  let st := s.readStatus P.CMP_STATUS n
  if st ≠ Status.ok then s.answer st
  else (s.setPar P.CMP_EVENT n 0).doneQ (b2n (s.cmp n).delivered + 2 * s.par P.CMP_EVENT n)

/-- The Q1 of READ_CH (Table 14.7); STL where no group has a result of the cell. -/
def State.chWord (s : State) (c : Nat) : Nat :=
  match (s.cell (s.persCell c)).readCh with
  | some (code, f) => code % 4096 + 4096 * b2n (f &&& Flag.xck ≠ 0) + 8192 * b2n (f &&& Flag.rnr ≠ 0)
      + 16384 * b2n (f &&& Flag.sat ≠ 0) + 32768 * b2n (f &&& Flag.stl ≠ 0)
  | none => 32768

/-- The selected channels of a group, in ascending order (R423). -/
def scanChannels (x : PersArg) (g : Nat) : List Nat :=
  ((List.range 16).filter (bitOf x.data)).map (· + 16 * x.arg) |>.filter (fun c => c % 4 == g)

/-- START_SCAN (R423). -/
def State.runStartScan (x : PersArg) (s : State) : PersOut :=
  let gs := (List.range 4).filter (fun g => !(scanChannels x g).isEmpty)
  let entries := fun (g : Nat) =>
    let cs := scanChannels x g
    (List.range cs.length).map (fun k =>
      ({ id := P.SAR_G0SCAN + g, inst := 40 + k, value := s.persCell (nthD 0 cs k) } : Write))
  let ws := gs.flatMap (fun g =>
    entries g ++ [{ id := P.SAR_LIST, inst := 16 * g + 15, value := 40 + 64 * (scanChannels x g).length + 4096 }])
  if x.big = false ∧ x.arg = 1 then ⟨s.answer Status.badTarget, [], []⟩
  else if (s.groupsOn (· != 15)).any gs.contains then ⟨s.answer Status.busyLocked, [], []⟩
  else s.persWrites x.port ws gs

/-- SET_RATE. -/
def State.runSetRate (x : PersArg) (s : State) : PersOut :=
  if x.data < 10 then ⟨s.answer Status.outOfRange, [], []⟩
  else s.persWrites x.port
    ((List.range 4).map (fun g => { id := P.SAR_PACE, inst := 16 * g + 15, value := 100 * x.data })) []

/-- The parameter selection of a port. -/
def State.sel (s : State) (port : Nat) : Select := tblGet {} s.hp.selects port
def State.setSel (s : State) (port : Nat) (x : Select) : State :=
  { s with hp := { s.hp with selects := tblSet {} s.hp.selects port x } }

/-- XRDLO. -/
def State.runXrdlo (x : PersArg) (s : State) : State :=
  let k := s.sel x.port
  let s := s.readParam x.port k.id k.inst
  let v := fieldAt s.result.data 0 4
  if s.result.status = Status.ok then (s.setSel x.port { k with latch := v / 65536 }).doneQ (v % 65536) else s

/-- XWRHI: SET_PARAM of the staged value. -/
def State.runXwrhi (x : PersArg) (s : State) : State :=
  let k := s.sel x.port
  let s := s.writeWith State.grImmediate x.port { id := k.id, inst := k.inst, value := x.data * 65536 + k.staged }
  if accepted s.result.status then s.done else s

/-- READ_BLOCK (R424). -/
def State.runReadBlock (first n : Nat) (s : State) : State :=
  if n < 1 ∨ 32 < n ∨ 32 < first + n then s.answer Status.outOfRange
  else s.done ((List.range n).flatMap (fun k => leBytes 2 (s.chWord (first + k))))

def State.opReadId (s : State) (c : PersCommand) : State :=
  s.pers c { op := 0x01, slow := 2, fast := 2 } (plainOp (fun x s => s.doneQ (if x.big then 0x3212 else 0x1608)))
def State.opReadStatus (s : State) (c : PersCommand) : State :=
  s.pers c { op := 0x02, slow := 3, fast := 3 } (plainOp (fun _ s => s.doneQ s.persStatus))
def State.opSoftReset (s : State) (c : PersCommand) : State :=
  s.pers c { op := 0x03, data := true, owner := true, slow := 50, fast := 40 } State.runSoftReset
def State.opSetGain (s : State) (c : PersCommand) : State :=
  s.pers c { op := 0x08, data := true, channel := true, owner := true, slow := 12, fast := 8 } (plainOp (cellWrite P.AC_GAIN))
def State.opGetGain (s : State) (c : PersCommand) : State :=
  s.pers c { op := 0x09, channel := true, slow := 4, fast := 3 }
    (plainOp (fun x s =>
      let s := s.readParam x.port P.AC_GAIN (s.persCell x.arg)
      if s.result.status = Status.ok then s.doneQ (fieldAt s.result.data 0 2) else s))
def State.opSetFilter (s : State) (c : PersCommand) : State :=
  s.pers c { op := 0x0A, data := true, channel := true, owner := true, slow := 12, fast := 8 } (plainOp (cellWrite P.AC_AAF))
def State.opSetMode (s : State) (c : PersCommand) : State :=
  s.pers c { op := 0x0B, data := true, channel := true, owner := true, slow := 30, fast := 25 }
    (fun x s =>
      if 3 < x.data ∨ (x.data = 3 ∧ x.big = false) then ⟨s.answer Status.outOfRange, [], []⟩
      else s.persWrites x.port [{ id := P.AC_MODE, inst := s.persCell x.arg, value := x.data }] [])
def State.opStartScan (s : State) (c : PersCommand) : State :=
  s.pers c { op := 0x10, data := true, args := 2, owner := true, slow := 800, fast := 600 } State.runStartScan
def State.opStopScan (s : State) (c : PersCommand) : State :=
  s.pers c { op := 0x11, owner := true, slow := 20, fast := 15 } (plainOp (fun x s => (s.stopLists x.port).done))
def State.opReadCh (s : State) (c : PersCommand) : State :=
  s.pers c { op := 0x12, channel := true, slow := 6, fast := 4 } (plainOp (fun x s => s.doneQ (s.chWord x.arg)))
def State.opSetRate (s : State) (c : PersCommand) : State :=
  s.pers c { op := 0x13, data := true, owner := true, slow := 12, fast := 8 } State.runSetRate
def State.opSetThrh (s : State) (c : PersCommand) : State :=
  s.pers c { op := 0x18, big := true, data := true, channel := true, owner := true, fast := 8 } (plainOp (setThr 16))
def State.opSetThrl (s : State) (c : PersCommand) : State :=
  s.pers c { op := 0x19, big := true, data := true, channel := true, owner := true, fast := 8 } (plainOp (setThr 0))
def State.opPersCmpCtrl (s : State) (c : PersCommand) : State :=
  s.pers c { op := 0x1A, big := true, data := true, channel := true, owner := true, fast := 10 } (plainOp State.runPersCmp)
def State.opReadCmp (s : State) (c : PersCommand) : State :=
  s.pers c { op := 0x1B, big := true, channel := true, fast := 4 } (plainOp State.runReadCmp)
def State.opSetOut (s : State) (c : PersCommand) : State :=
  s.pers c { op := 0x20, big := true, data := true, channel := true, owner := true, fast := 10 } (plainOp (cellWrite P.AC_OUT))
def State.opXsel (s : State) (c : PersCommand) : State :=
  s.pers c { op := 0x38, data := true, args := 256 }
    (plainOp (fun x s => (s.setSel x.port { s.sel x.port with id := x.data, inst := x.arg }).done))
def State.opXrdlo (s : State) (c : PersCommand) : State := s.pers c { op := 0x39 } (plainOp State.runXrdlo)
def State.opXrdhi (s : State) (c : PersCommand) : State :=
  s.pers c { op := 0x3A } (plainOp (fun x s => s.doneQ (s.sel x.port).latch))
def State.opXwrlo (s : State) (c : PersCommand) : State :=
  s.pers c { op := 0x3B, data := true } (plainOp (fun x s => (s.setSel x.port { s.sel x.port with staged := x.data }).done))
def State.opXwrhi (s : State) (c : PersCommand) : State :=
  s.pers c { op := 0x3C, data := true, owner := true } (plainOp State.runXwrhi)

/-- READ_BLOCK: a frame with its OP gives BAD_OP (R421). -/
def State.opReadBlock (s : State) (c : PersCommand) : State :=
  match c with
  | .frame _ _ =>
    if s.hears 1 = false then s
    else
      let s := (s.linkValid 1).s1Frame 0x30
      (s.answer Status.badOpcode).s1Reply 0x30 s.hp.s1.count
  | .packet p =>
    let n := fieldAt p.payload 1 1
    s.persPacket p { op := 0x30, args := 1 } 2 (4 + 2 * (n - 1)) (plainOp (fun _ s => s.runReadBlock (fieldAt p.payload 0 1) n))

/-! ### Waiting replies (R422, R425) -/

/-- A wait is over: its reply is given. -/
def State.persGive (s : State) (w : PersWait) : State :=
  let s := { s with
    hp := { s.hp with waits := s.hp.waits.erase w }, result := { status := w.status, detail := w.detail, data := w.data } }
  if w.port = 1 then s.s1Reply w.opcode w.count
  else
    s.replyNow {
      port := w.port, code := 0x22, opcode := w.opcode, seq := w.seq, target := w.target, payload := [], crc := w.crc
      quiet := w.quiet, mute := w.mute, src := none }

/-- The swap of a block has taken effect: it is neither pending nor waiting for its boundary. -/
def State.swapMade (s : State) (code : Nat) : Bool := !s.grist.pend.contains code && tblGet 0 s.grist.waiting code == 0

/-- The groups of START_SCAN start; the first one refused gives the answer. -/
def State.persStarts (s : State) : List Nat → State
  | [] => s.done
  | g :: gs =>
    let s := s.sarStartCmd g 15
    if s.result.status = Status.ok then s.persStarts gs else s

/-- The swaps that a wait awaits have taken effect; a reply that comes after its latency is late (R425). -/
def State.persSwapped (s : State) (w : PersWait) : State :=
  let rest := s.hp.waits.erase w
  let s := if w.starts.isEmpty then s else s.persStarts w.starts
  let w := if w.starts.isEmpty then { w with codes := [] } else
    { w with codes := [], starts := [], status := s.result.status, detail := s.result.detail, data := s.result.data }
  let s := { s with hp := { s.hp with waits := rest ++ [w] } }
  match w.release with
  | none => s.persGive w
  | some r =>
    if r < s.t then ((s.bump P.HP_TFLATE (w.port - 1)).raise Fb.ports 3 1 (inst := w.port - 1)).persGive w else s

/-- The waits whose swaps have taken effect, oldest first. -/
def State.persCheck (s : State) : State :=
  (s.hp.waits.filter (fun w => !w.codes.isEmpty && w.codes.all s.swapMade)).foldl State.persSwapped s

/-- FAITHFUL_REPLY_RELEASE (R425): the latency of a port's oldest reply that is ready has passed. -/
def State.faithfulRelease (s : State) (port : Nat) : State :=
  if s.hopperUp = false then s
  else
    match s.hp.waits.find? (fun w => w.port == port && w.codes.isEmpty && w.release.any (fun r => decide (r ≤ s.t))) with
    | some w => s.persGive w
    | none => s

/-! ### Frames of S1 that carry no command -/

/-- GEN1_NOP (R401): a frame with OP 0x00 reads the register. -/
def State.gen1Nop (s : State) : State := if s.hears 1 then (s.linkValid 1).s1Read else s

/-- GEN1_FRAME_DISCARD (R400). -/
def State.gen1Discard (s : State) : State := if s.hears 1 then s.bump P.HP_S1SHORT else s

/-- The OPs a Gen-1 frame can carry under the personality in force (Table 14.7). -/
def State.gen1Has (s : State) (op : Nat) : Bool :=
  [0x00, 0x01, 0x02, 0x03, 0x08, 0x09, 0x0A, 0x0B, 0x10, 0x11, 0x12, 0x13, 0x38, 0x39, 0x3A, 0x3B, 0x3C].contains op
    || (s.par P.HP_PERS == 2 && [0x18, 0x19, 0x1A, 0x1B, 0x20].contains op)

/-- GEN1_FRAME_REJECTED (R400, R421): a frame that fails its checks, or a valid one with an OP that does not exist. -/
def State.gen1Rejected (s : State) (op : Nat) (undefinedOp : Bool) : State :=
  if s.hears 1 = false ∨ (undefinedOp = true ∧ s.gen1Has op = true) then s
  else if undefinedOp then
    let s := (s.linkValid 1).s1Frame op
    (s.answer Status.badOpcode).s1Reply op s.hp.s1.count
  else
    let s := s.bump P.HP_CRCERR 0
    let s := if op = 0 then s.setS1 { s.hp.s1 with op := 0, count := s.hp.s1.frames } else s.s1Frame op
    (s.answer Status.badCheck).s1Reply op s.hp.s1.count

/-- Q0 of S1 as the next frame reads it (R399, R401, R428, R481). -/
def State.s1Q0 (s : State) : Nat :=
  let x := s.hp.s1
  let fault := s.flt.halted || decide (2 ≤ s.highestFault)
  let st := if s.flt.halted then 6 else if s.hopperAccepts = false then 1 else x.status
  16384 + 256 * (x.op % 64) + 16 * st + 8 * b2n s.irqLow + 4 * b2n fault + x.count % 4

/-! ### Ports S2 and U -/

/-- A port serves transactions: out of reset, not in Halt, on, and not watching for wake activity alone (R267, R396, R481). -/
def State.portServes (s : State) (port : Nat) : Bool := s.alive && s.portOn port && s.kiln.state != .hibernate

/-- The bytes of a reply packet (Table 12.1). -/
def Reply.bytes (r : Reply) : List Byte :=
  let head := leBytes 1 0xC7 ++ leBytes 1 r.code ++ leBytes 2 r.payload.length ++ leBytes 2 r.seq ++ leBytes 1 r.opcode
    ++ leBytes 1 r.flags ++ leBytes 2 r.target
  let body := head ++ leBytes 2 (crc16 head) ++ r.payload
  body ++ leBytes 4 (crc32 body)

/-- S2_READ (Table 14.4, R405): the head reply leaves once all its bytes have been clocked out. -/
def State.s2Read (s : State) (whole : Bool) : State :=
  if s.portServes 2 = false ∨ whole = false then s
  else
    let x := s.session 2
    match x.ready with
    | [] => s.done (leBytes 2 0)
    | r :: rest => (s.setSession 2 { x with ready := rest }).done (leBytes 2 r.bytes.length ++ r.bytes)

/-- The byte of an S2 STATUS transaction (Table 14.4, R428, R481). -/
def State.s2StatusByte (s : State) : Nat :=
  if s.flt.halted || s.pwr.step != .ready then 0
  else b2n (!(s.session 2).ready.isEmpty) + 2 * b2n (decide ((s.hp.waits.filter (fun w => w.port == 2)).length < 4))
    + 4 * b2n s.irqLow + 8 * b2n (s.owns 2)

/-- S2_STATUS (R403). -/
def State.s2Status (s : State) : State :=
  if s.pwr.phase = .running ∧ s.portOn 2 = true ∧ s.kiln.state ≠ .hibernate then s.done (leBytes 1 s.s2StatusByte) else s

/-- S2_WRITE_ABORT (R404). -/
def State.s2WriteAbort (s : State) : State := if s.hears 2 then s.bump P.HP_HDRERR 1 else s

/-- U_FRAME_GAP (R407): a gap of two character times, 20 bit times, has ended a frame to the device, whole or not
(DEDUCED, log entry 77). -/
def State.uFrameGap (s : State) (complete : Bool) : State :=
  if s.hears 3 = false then s
  else
    let s := { s with hp := { s.hp with uAddressed := s.hp.uAddressed || complete, uIdle := s.t - 2000000000 / s.uBaud } }
    if complete then s else s.bump P.HP_UFRERR

/-- U_FRAMING_ERROR (R407). -/
def State.uFramingError (s : State) : State :=
  if s.hears 3 then { s with hp := { s.hp with uIdle := s.t } }.bump P.HP_UFRERR else s

/-- The bit times U_DE stays high for these replies: one before them, ten for each character, an address byte before each
reply, and the hold (R406, R408). -/
def State.uDeBits (s : State) (l : List Reply) : Nat :=
  1 + 10 * (l.map (fun r => 1 + r.bytes.length)).sum + s.par P.HP_UDEHOLD

/-- The level of U_DE (R396, R408). -/
def State.uDeHigh (s : State) : Bool :=
  s.portServes 3 && s.hp.uDe.any (fun x => !s.uBitsOver x.1 x.2)

/-- Port U may send (R408): a frame addressed to it has ended, and the turnaround is over on the idle line. -/
def State.uMaySend (s : State) : Bool :=
  s.portServes 3 && s.hp.uAddressed && s.uBitsOver s.hp.uIdle (s.par P.HP_UTURN)

/-- U_TRANSMIT (R408, R409): every ready reply is sent, up to the one a collision stops, at which U_DE falls. -/
def State.uTransmit (s : State) (collision : Option Nat) : State :=
  let x := s.session 3
  let send := fun (n : Nat) (de : Option (Nat × Nat)) =>
    let u := s.setSession 3 { x with ready := x.ready.drop n }
    { u with hp := { u.hp with uAddressed := false, uSent := x.ready.take n, uDe := de } }
  if s.uMaySend = false then s
  else
    match collision with
    | none => send x.ready.length (if x.ready.isEmpty then none else some (s.t, s.uDeBits x.ready))
    | some k => if k < x.ready.length then (send k none).bump P.HP_UCOLL |>.raise Fb.ports 1 1 (inst := 2) else s

end Sys2Proof.Machine
end

