-- ==== Sys2Proof/Machine/Power.lean ====
section
/-! DEFINITION. Supplies, clocks and device resets (chapter Supplies, clocks, reset and start-up): the reset sources of Table 19.4,
the phases of Table 19.6, and the end of a device reset. -/

namespace Sys2Proof.Machine

/-- The state with the supply-and-reset block set. -/
def State.setPwr (s : State) (p : Power) : State := { s with pwr := p }

/-- The flash after a device reset: a page being written, or a sector being erased, is undefined (R580). -/
def State.flashAfterReset (s : State) : Mem :=
  match s.grist.flashOp with
  | none => s.grist.flash
  | some op =>
    let (a, n) := if op.data.isSome then (op.addr / 256 * 256, 256) else (op.addr / 4096 * 4096, 4096)
    memWriteAll 0xFF s.grist.flash a ((List.range n).map (fun k => Config.flashByte s.fresh (a + k)))

/-- A device reset begins (R566): every block is as its chapter leaves it. What outlives it: the OTP, the flash, the levels at
the balls and, but for power-on (cause 1), the patch RAM, `HP_RSTCNT` and the trace (R567, R598, R600). -/
def State.resetBegin (s : State) (cause : Nat) (phase : ResetPhase) : State :=
  let test := fun (k : Nat) => ownerOf (k / 256) (k % 256) == Fb.test
  let g := s.grist
  let n := if cause = 1 then 0 else satAdd (s.par P.HP_RSTCNT) 1
  let patch : Grist := if cause = 1 then {} else
    { staged := g.staged, stagedRev := g.stagedRev, patch := g.patch, patchRev := g.patchRev, patchSt := g.patchSt }
  let pins := s.pins.foldl (fun (t : Tbl Pin) (e : Nat × Pin) => tblSet {} t e.1 { input := e.2.input }) []
  let t : State := {
    params := tblKeep test s.params, pend := tblKeep test s.pend, shadow := tblKeep test s.shadow
    tst := s.tst, fab := { ramGen := s.fab.ramGen + 1 }, grist := { patch with flash := s.flashAfterReset }
    pins := pins, fresh := s.fresh + 1, pending := s.pending
    pwr := {
      phase := phase, cause := cause, vcore := s.pwr.vcore, vioA := s.pwr.vioA, avdd := s.pwr.avdd, vioB := s.pwr.vioB
      avpos := s.pwr.avpos, avneg := s.pwr.avneg, keyState := s.pwr.keyState, keys := s.pwr.keys } }
  (t.testReset (cause == 1)).setPar P.HP_RSTCNT 0 n

/-- A device reset other than power-on; it has no effect in Halt, or while the cause of another lasts (Table 19.4). -/
def State.resetSource (s : State) (cause : Nat) (phase : ResetPhase) : State :=
  if s.flt.halted ∨ s.pwr.phase = .cause then s else s.resetBegin cause phase

/-! ### Sources and phases -/

/-- Every required rail of power-on reset lies above its threshold. -/
def State.railsUp (s : State) : Bool := s.pwr.vcore && s.pwr.vioA && s.pwr.avdd

/-- POWER_ON (R560). -/
def State.powerOn (s : State) : State :=
  if s.railsUp then s else s.setPwr { s.pwr with vcore := true, vioA := true, avdd := true }

/-- SUPPLY_DROP (R560): rail 0 VCORE, 1 VIO_A, 2 AVDD. -/
def State.supplyDrop (s : State) (rail : Nat) : State :=
  let s := if s.pwr.phase = .cause ∧ s.pwr.cause = 1 then s else s.resetBegin 1 .cause
  let p := s.pwr
  s.setPwr (if rail = 0 then { p with vcore := false } else if rail = 1 then { p with vioA := false }
            else { p with avdd := false })

/-- RESET_N (R566). -/
def State.resetN (s : State) : State := s.resetSource 2 .cause

/-- CLOCK_LOSS (R564), and PLL_LOSS_OF_LOCK (R565): a clock that is not qualified, or a PLL that is not locked, cannot be
lost. -/
def State.clockLoss (s : State) : State := if s.pwr.phase = .clock then s else s.resetSource 4 .clock
def State.pllLoss (s : State) : State :=
  if s.pwr.phase = .clock ∨ s.pwr.phase = .pll then s else s.resetSource 5 .clock

/-- The state moved from one phase of Table 19.6 to the next. -/
def State.phaseStep (s : State) (a b : ResetPhase) : State :=
  if s.pwr.phase = a then s.setPwr { s.pwr with phase := b } else s

/-- DEVICE_RESET_CAUSE_END (R570). -/
def State.causeEnd (s : State) : State := if s.railsUp then s.phaseStep .cause .clock else s

/-- One OTP error of phase 4 (Table 19.8): the item that is lost takes its fallback. -/
def State.otpError (s : State) (e : OtpError) : State :=
  match e with
  | .corrected a => s.raise Fb.supply 3 1 a.toNat
  | .pair a k i =>
    (s.setPwr { s.pwr with otpBadPairs := s.pwr.otpBadPairs ++ [k.val * 1024 + i.toNat] }).raise Fb.supply 4 2 a.toNat
  | .key a k => (s.setPwr { s.pwr with keyState := tblSet 0 s.pwr.keyState k.val 2 }).raise Fb.supply 4 2 a.toNat
  | .mac a => (s.setPwr { s.pwr with otpBadMac := true }).raise Fb.supply 4 2 a.toNat

/-- END_OF_DEVICE_RESET (R570, R571, R581, R598): the time origin, with the first record, the OTP's errors, the patch that
comes into force, and Kiln's first timed plan. -/
def State.resetEnd (s : State) (otp : List OtpError) (patchBad : Bool) : State :=
  if s.pwr.phase = .otp ∨ (s.pwr.phase = .running ∧ s.pwr.originDue = true) then
    let s := s.setPwr { s.pwr with
      phase := .running, originDue := false, supplyAtReset := b2n s.pwr.avpos + 2 * b2n s.pwr.avneg }
    let s := s.raise Fb.supply 0 1 s.pwr.cause
    let s := otp.foldl State.otpError s
    let s := s.setPwr { s.pwr with keyReset := s.pwr.keyState }
    let s := if s.pwr.cause = 1 then s else s.patchInForce patchBad
    let s := if s.par P.TST_TRCAUTO = 1 then s.traceStart else s
    let s := (s.setPar P.TST_LASTRST 0 s.pwr.cause).trace 0x03 s.pwr.cause
    s.timedPlan
  else s

/-! ### Detectors of the supplies (Table 19.8) and of the threshold DACs (Table 4.6) -/

/-- RAIL_PRESENCE_CHANGE (R560). -/
def State.railPresence (s : State) (r : Rail) (present : Bool) : State :=
  match r with
  | .avpos => s.setPwr { s.pwr with avpos := present }
  | .avneg => s.setPwr { s.pwr with avneg := present }
  | .vioB =>
    let s := s.setPwr { s.pwr with vioB := present }
    if present then s.endEpisode Fb.supply 1 else s

/-- VIOBLOW. -/
def State.vioBLow (s : State) : State :=
  let s := s.setPwr { s.pwr with vioB := false }
  if s.pwr.phase = .running then s.raiseEpisode Fb.supply 1 2 else s

/-- VIORANGE. -/
def State.vioRange (s : State) (a b : Bool) : State :=
  if s.pwr.phase = .running ∧ (a || b) = true then s.raiseEpisode Fb.supply 2 2 (b2n a + 2 * b2n b) else s

/-- The reset that a RESET command asked for is performed once its reply has left the port (Table 12.7). -/
def State.resetAfterReply (s : State) : State :=
  match s.pwr.resetDue with
  | none => s
  | some (scope, port, seq) =>
    if (s.session port).ready.any (fun r => r.seq == seq && r.opcode % 0xC0 == 0x0A) then s
    else
      let s := s.setPwr { s.pwr with resetDue := none }
      if scope = 1 then s.hopperRestart else s.resetSource 3 .clock

end Sys2Proof.Machine
end

