-- ==== Sys2Proof/Machine/Finish.lean ====
section
/-! DEFINITION. What follows every command within its TCLK edge: the records that detectors ask for, the blocks that wait on what has
changed, replies on Port E, a reset whose reply has left, the pins, attention and trace; and the TCLK edge of an empty queue. -/

namespace Sys2Proof.Machine

/-- The engine's changes reach those that wait for them: ramps and CYCLE windows at a reference that moves the high-water
mark forward (R76, R156), CYCLE windows and the changeover (R159, R338). -/
def State.engineHooks (s0 s : State) : State :=
  let adv := binSub s.eng.hwm s0.eng.hwm
  let s := if s0.engineRuns = false ∧ s.eng.state ≠ .stopped ∧ 0 < adv then s.advanceBins adv else s
  let s := if s0.eng.state ≠ .track ∧ s.eng.state = .track then s.icTrack else s
  if s0.engineRuns = true ∧ s.engineRuns = false then s.gristEngineLost else s

/-- Replies leave Port E, or are lost where it has no link or address (R398, R411, R412). -/
def State.drainE (s : State) : State :=
  let x := s.session 4
  if x.ready.isEmpty then s
  else
    let s := s.setSession 4 { x with ready := [] }
    if s.ethReady then x.ready.foldl (fun (s : State) r => s.ethSend (.reply r)) s else s

/-- Grace timers count while Hopper can accept commands (R474). -/
def State.graceFollow (s0 s : State) : State :=
  if s0.hopperAccepts ∧ s.hopperAccepts = false then s.holdGrace
  else if s0.hopperAccepts = false ∧ s.hopperAccepts then s.resumeGrace
  else s

/-- Block codes whose banks have been exchanged (R312): swaps that waited for no boundary, and those that have reached it. -/
def State.swappedCodes (s0 s : State) : List Nat :=
  let toggled := (s0.grist.liveB ++ s.grist.liveB).filter (fun c => s0.grist.liveB.contains c != s.grist.liveB.contains c)
  toggled.filter (fun c => tblGet 0 s.grist.waiting c == 0)
    ++ (s0.grist.waiting.map Prod.fst).filter (fun c => tblGet 0 s.grist.waiting c == 0 && !toggled.contains c)

/-- The trace entries of changes of state (Table 20.2). -/
def State.stateTrace (s0 s : State) : State :=
  let s := (s0.swappedCodes s).foldl (fun (s : State) c => s.trace 0x05 c) s
  let s := if s0.grist.state = s.grist.state then s else s.trace 0x06 s.grist.state.code
  let s := if s0.kiln.state = s.kiln.state then s else s.trace 0x07 s.kiln.state.code
  let s := if s0.par P.HP_OWNER = s.par P.HP_OWNER then s else s.trace 0x08 (s.par P.HP_OWNER)
  let s := if s0.sl.state = s.sl.state then s else s.trace 0x0A s.sl.state.code
  if s0.eng.state = s.eng.state then s else s.trace 0x0D s.eng.state.code

/-- Trace events enter the FIFO; TRCOVF, if they find it full, is recorded (R594). -/
def State.traceAll (s : State) : State := ((s.traceFlush).settle 64).traceFlush

/-- The rest of the edge after `s0` became `s`, out of device reset. -/
def State.edgeRest (s0 s : State) : State :=
  let s := (s0.engineHooks (s.settle 4096)).calGuard.spareGuard
  let s := s.persCheck.drainE.resetAfterReply
  if s.pwr.phase ≠ .running then s
  else
    let s := (s0.husk s).settle 4096
    (s0.stateTrace (s0.graceFollow s)).eventCheck.traceAll

/-- What an edge leaves: the queue as it was, and Halt latched (R482). -/
def State.held (s0 s : State) : State :=
  { s with pending := s0.pending, flt := { s.flt with halted := s0.flt.halted || s.flt.halted } }

/-- The state after a command that has turned `s0` into `s`. -/
def State.finish (s0 s : State) : State := s0.held (if s.pwr.phase = .running then s0.edgeRest s else s)

/-- A command's outcome. -/
def State.ends (s0 s : State) : Host.Outcome State Fault Refusal := .next (s0.finish s)

/-! ### Kinds of row -/

/-- An event of a block, which acts outside resets and Halt. -/
def State.blockEvent (s : State) (f : State → State) : State := if s.alive then f s else s

/-- An event that reaches the device outside device resets. -/
def State.liveEvent (s : State) (f : State → State) : State := if s.pwr.phase = .running then f s else s

/-- An event at the angle engine's source: not while the Wheel is being reset (R569). -/
def State.sourceEvent (s : State) (f : State → State) : State :=
  if s.pwr.phase = .running ∧ s.resetting Fb.wheel = false then f s else s

/-- A write of one parameter instance that a command port has accepted. -/
def State.hostWrite (s : State) (id inst v : Nat) : State :=
  if s.hopperUp then s.writeWith State.grImmediate 0 { id := id, inst := inst, value := v } else s

/-- A read of one parameter instance. -/
def State.hostRead (s : State) (id inst : Nat) : State := if s.hopperUp then s.readParam 0 id inst else s

/-! ### The TCLK edge of an empty queue -/

/-- The time counter adds 1, or 2 or 0 at the edges that a rate correction takes (R417, R508). -/
def State.countTime (s : State) : State :=
  let part := s.slewPart + s.slew.natAbs
  if part < 1000000000000 then { s with now := s.now + 1, slewPart := part }
  else { s with now := s.now + (if 0 < s.slew then 2 else 0), slewPart := part - 1000000000000 }

/-- The blocks at a TCLK edge: the angle, sample instants, windows, timers, sample boundaries, the calibration bus, pins. -/
def State.clockBlocks (s : State) : State :=
  let s := if s.resetting Fb.wheel then s else s.engTick
  let s := s.sarSample
  let s := (s.ics.map Prod.fst).foldl (fun (s : State) i => (s.icWatch i).icGather i) s
  let s := (s.lanes.map Prod.fst).foldl State.laneWatch s
  let s := s.fclkTick.timersTick
  let due := (s.cells.filter (fun e => e.2.boundary.any (fun b => decide (b ≤ s.t)))).map Prod.fst
  let s := due.foldl State.cellBoundary s
  let waits := (s.cmps.filter (fun e =>
    e.2.actThr.isSome || s.pend.any (fun w => ownerOf (w.1 / 256) (w.1 % 256) == Fb.cmp e.1))).map Prod.fst
  let s := waits.foldl State.cmpBoundary s
  s.calKick.pinsTick

/-- One TCLK edge at which no command arrives; during a device reset no time passes. -/
def State.tick (s : State) : State := if s.pwr.phase = .running then s.finish s.cmpEdges.recordsEnter.countTime.clockBlocks else s

end Sys2Proof.Machine
end

