-- ==== Sys2Proof/Machine/Kinds.lean ====
section
/-! DEFINITION. Rows that several forms of a command share: those that reach the device by packet or by a write of a control
parameter, and stream datagrams. -/

namespace Sys2Proof.Machine

/-- A system-calibration step `k`, by `SAR_SYSCAL` or by SYSCAL_STEP (R144). -/
def State.sysCommand (s : State) (k : Nat) : SysStep → State
  | .ctrl g cell => s.hostWrite P.SAR_SYSCAL g.val (cell.val + 256 * k)
  | .packet p => s.opSysStep p k

/-- A power command `k`, by `KL_CTRL` or by KILN_POWER (R265). -/
def State.kilnCommand (s : State) (k : Nat) : Option Packet → State
  | none => s.hostWrite P.KL_CTRL 0 k
  | some p => s.opKilnPower p k

/-- STREAM_DATAGRAM_SEND (R453, R454): ring `n` has a datagram due, and no lower ring has; none leaves in HIBERNATE (R267). -/
def State.datagramSend (s : State) (n : Nat) (poolBad : Bool) : State :=
  let first := s.ringDue n && !(List.range n).any s.ringDue
  if (first && s.ethReady && s.streamMac.isSome && s.kiln.state != .hibernate) = false then s
  else
    let s := if poolBad then s.poolEcc n else s
    if (s.ring n).words.isEmpty then s
    else
      let (data, s) := s.ringTake n 254
      let seq := s.par P.ST_DGSEQ n
      (s.ethSend (.stream n seq (preamble Status.ok 0 ++ data))).setPar P.ST_DGSEQ n ((seq + 1) % 65536)

end Sys2Proof.Machine
end

