-- ==== Sys2Proof/Machine/ExecControl.lean ====
section
/-! DEFINITION. The meaning of each row of the table: the fabric and timers, Kiln, calibration and grist images. -/

namespace Sys2Proof.Machine

/-- `FAB_RAMDAT_ACCESS` (R220). -/
def execFabRamdatAccess (r : Fin 24) (write : Option Word) (s : State) : Host.Outcome State Fault Refusal :=
  s.ends (match write with
    | some w => s.hostWrite P.FAB_RAMDAT r.val w.toNat
    | none => s.hostRead P.FAB_RAMDAT r.val)

/-- `FABRIC_MB_POST` (R227). -/
def execFabricMbPost (k : Fin 4) (payload : List Byte) (s : State) : Host.Outcome State Fault Refusal :=
  s.ends (s.blockEvent (fun s => s.fabPost k.val payload))

/-- `FABRIC_MB_TAKE` (R227). -/
def execFabricMbTake (k : Fin 4) (s : State) : Host.Outcome State Fault Refusal :=
  s.ends (s.blockEvent (fun s => s.fabTake k.val))

/-- `TIMER_CAPTURE` (R230). -/
def execTimerCapture (n : Fin 64) (s : State) : Host.Outcome State Fault Refusal :=
  s.ends (s.blockEvent (fun s => s.timerCapture n.val))

/-- `TIMER_COMPARE` (R230). -/
def execTimerCompare (n : Fin 64) (s : State) : Host.Outcome State Fault Refusal :=
  s.ends (s.blockEvent (fun s => s.timerCompare n.val))

/-- `TIMER_TRIGGER` (R229). -/
def execTimerTrigger (n : Fin 64) (s : State) : Host.Outcome State Fault Refusal :=
  s.ends (s.blockEvent (fun s => s.timerTrigger n.val))

/-- `TM_CTRL_START` (R245). -/
def execTmCtrlStart (n : Fin 64) (s : State) : Host.Outcome State Fault Refusal :=
  s.ends (s.hostWrite P.TM_CTRL n.val 1)

/-- `TM_CTRL_STOP` (R245). -/
def execTmCtrlStop (n : Fin 64) (s : State) : Host.Outcome State Fault Refusal := s.ends (s.hostWrite P.TM_CTRL n.val 2)

/-- `TM_CTRL_RESUME` (R245). -/
def execTmCtrlResume (n : Fin 64) (s : State) : Host.Outcome State Fault Refusal :=
  s.ends (s.hostWrite P.TM_CTRL n.val 3)

/-- `TM_CTRL_CLEAR_COUNTERS` (R245). -/
def execTmCtrlClearCounters (n : Fin 64) (s : State) : Host.Outcome State Fault Refusal :=
  s.ends (s.hostWrite P.TM_CTRL n.val 4)

/-- `TM_CTRL_TRIG` (R229). -/
def execTmCtrlTrig (n : Fin 64) (s : State) : Host.Outcome State Fault Refusal := s.ends (s.hostWrite P.TM_CTRL n.val 5)

/-- `TM_LASTANG_READ` (R233). -/
def execTmLastangRead (n : Fin 64) (s : State) : Host.Outcome State Fault Refusal :=
  s.ends (s.hostRead P.TM_LASTANG n.val)

/-- `CONFIG_SCRUB` (R242). -/
def execConfigScrub (bad : Bool) (s : State) : Host.Outcome State Fault Refusal :=
  s.ends (s.liveEvent (fun s => s.configScrub bad))

/-- `FCLK_LOSS` (R242). -/
def execFclkLoss (s : State) : Host.Outcome State Fault Refusal := s.ends (s.liveEvent (fun s => s.fclkLoss))

/-- `FAB_CTRL_RESUME` (R238). -/
def execFabCtrlResume (s : State) : Host.Outcome State Fault Refusal := s.ends (s.hostWrite P.FAB_CTRL 0 1)

/-- `FAB_CTRL_CLEAR_COUNTERS` (R245). -/
def execFabCtrlClearCounters (s : State) : Host.Outcome State Fault Refusal := s.ends (s.hostWrite P.FAB_CTRL 0 2)

/-- `FAB_CTRL_REINIT` (R245). -/
def execFabCtrlReinit (s : State) : Host.Outcome State Fault Refusal := s.ends (s.hostWrite P.FAB_CTRL 0 3)

/-- `TIMED_PLAN` (R252). -/
def execTimedPlan (s : State) : Host.Outcome State Fault Refusal := s.ends (s.blockEvent (fun s => s.timedPlan))

/-- `BLOCK_GATED` (R260). -/
def execBlockGated (b : BitVec 8) (s : State) : Host.Outcome State Fault Refusal :=
  s.ends (s.blockEvent (fun s => s.blockGated b.toNat))

/-- `THERMAL_SAMPLE` (R254). -/
def execThermalSample (temps : List Int) (currents : List Nat) (s : State) : Host.Outcome State Fault Refusal :=
  s.ends (s.liveEvent (fun s => s.thermalSample temps currents))

/-- `KL_CTRL_RUN` (R265). -/
def execKlCtrlRun (c : Option Packet) (s : State) : Host.Outcome State Fault Refusal := s.ends (s.kilnCommand 1 c)

/-- `KL_CTRL_IDLE` (R265). -/
def execKlCtrlIdle (c : Option Packet) (s : State) : Host.Outcome State Fault Refusal := s.ends (s.kilnCommand 2 c)

/-- `KL_CTRL_HIBERNATE` (R266). -/
def execKlCtrlHibernate (c : Option Packet) (s : State) : Host.Outcome State Fault Refusal := s.ends (s.kilnCommand 3 c)

/-- `KL_CTRL_RESUME` (R265). -/
def execKlCtrlResume (c : Option Packet) (s : State) : Host.Outcome State Fault Refusal := s.ends (s.kilnCommand 4 c)

/-- `KL_CTRL_CLEAR_COUNTERS` (R276). -/
def execKlCtrlClearCounters (s : State) : Host.Outcome State Fault Refusal := s.ends (s.hostWrite P.KL_CTRL 0 5)

/-- `WAKE_TIMER` (R268). -/
def execWakeTimer (s : State) : Host.Outcome State Fault Refusal := s.ends (s.blockEvent (fun s => s.wakeTimer))

/-- `HIBERNATE_EXIT` (R269). -/
def execHibernateExit (s : State) : Host.Outcome State Fault Refusal := s.ends (s.blockEvent (fun s => s.hibernateExit))

/-- `SPARE_CAL_START` (R286). -/
def execSpareCalStart (g : Fin 4) (s : State) : Host.Outcome State Fault Refusal :=
  s.ends (s.blockEvent (fun s => s.spareCalStart g.val))

/-- `SPARE_CAL_DONE` (R286). -/
def execSpareCalDone (g : Fin 4) (zero full : BitVec 19) (vcr : BitVec 32)
    (s : State) : Host.Outcome State Fault Refusal :=
  s.ends (s.blockEvent (fun s => s.spareCalDone g.val zero.toNat full.toNat vcr.toNat))

/-- `SPARE_CAL_TIMEOUT` (R307). -/
def execSpareCalTimeout (g : Fin 4) (s : State) : Host.Outcome State Fault Refusal :=
  s.ends (s.blockEvent (fun s => s.spareCalTimeout g.val))

/-- `CAL_STEP_DONE` (R289). -/
def execCalStepDone (ic : Option (Fin 8)) (x : CalMeasure) (s : State) : Host.Outcome State Fault Refusal :=
  s.ends (s.blockEvent (fun s => s.calStepDone (ic.map Fin.val) x))

/-- `INJECTION_RECOVERY_END` (R292). -/
def execInjectionRecoveryEnd (n : Fin 64) (s : State) : Host.Outcome State Fault Refusal :=
  s.ends (s.blockEvent (fun s => s.recoveryEnd n.val))

/-- `CAL_RUN_TIMEOUT` (R305). -/
def execCalRunTimeout (s : State) : Host.Outcome State Fault Refusal := s.ends (s.blockEvent (fun s => s.calRunTimeout))

/-- `OUTPUT_BLEND_TICK` (R288). -/
def execOutputBlendTick (idx : Fin 128) (s : State) : Host.Outcome State Fault Refusal :=
  s.ends (s.blockEvent (fun s => s.blendTick idx.val))

/-- `CAL_CTRL_START` (R285). -/
def execCalCtrlStart (c : Option Packet) (s : State) : Host.Outcome State Fault Refusal :=
  s.ends (match c with
    | none => s.hostWrite P.CAL_CTRL 0 1
    | some p => s.opCalStart p)

/-- `CAL_CTRL_ABORT` (R304). -/
def execCalCtrlAbort (c : Option Packet) (s : State) : Host.Outcome State Fault Refusal :=
  s.ends (match c with
    | none => s.hostWrite P.CAL_CTRL 0 2
    | some p => s.opCalAbort p)

/-- `CAL_CTRL_COMMIT` (R304). -/
def execCalCtrlCommit (c : Option Packet) (s : State) : Host.Outcome State Fault Refusal :=
  s.ends (match c with
    | none => s.hostWrite P.CAL_CTRL 0 3
    | some p => s.opCoefCommit p)

/-- `CAL_CTRL_RETRIG` (R306). -/
def execCalCtrlRetrig (s : State) : Host.Outcome State Fault Refusal := s.ends (s.hostWrite P.CAL_CTRL 0 4)

/-- `CAL_CTRL_CLEAR_COUNTERS` (R309). -/
def execCalCtrlClearCounters (s : State) : Host.Outcome State Fault Refusal := s.ends (s.hostWrite P.CAL_CTRL 0 5)

/-- `CAL_COEF_WRITE` (R304). -/
def execCalCoefWrite (gain : Bool) (v : Word) (s : State) : Host.Outcome State Fault Refusal :=
  s.ends (if gain then s.hostWrite P.CAL_CGAIN 0 v.toNat else s.hostWrite P.CAL_COFS 0 v.toNat)

/-- `GRIST_OPEN` (R318). -/
def execGristOpen (p : Packet) (s : State) : Host.Outcome State Fault Refusal := s.ends (s.opGristOpen p)

/-- `GRIST_DATA` (R319). -/
def execGristData (p : Packet) (s : State) : Host.Outcome State Fault Refusal := s.ends (s.opGristData p)

/-- `GRIST_CLOSE` (R320). -/
def execGristClose (p : Packet) (s : State) : Host.Outcome State Fault Refusal := s.ends (s.opGristClose p)

/-- `GRIST_CHECK_DONE` (R320). -/
def execGristCheckDone (s : State) : Host.Outcome State Fault Refusal :=
  s.ends (s.blockEvent (fun s => s.gristCheckDone))

/-- `GRIST_LOAD_TIMEOUT` (R321). -/
def execGristLoadTimeout (s : State) : Host.Outcome State Fault Refusal :=
  s.ends (s.blockEvent (fun s => s.gristLoadTimeout))

/-- `RESTORE_DONE` (R336). -/
def execRestoreDone (s : State) : Host.Outcome State Fault Refusal := s.ends (s.blockEvent (fun s => s.restoreDone))

/-- `AUTOCOMMIT` (R329). -/
def execAutocommit (s : State) : Host.Outcome State Fault Refusal := s.ends (s.blockEvent (fun s => s.autocommit))

/-- `GRIST_INFO` (R362). -/
def execGristInfo (p : Packet) (s : State) : Host.Outcome State Fault Refusal := s.ends (s.opGristInfo p)

/-- `KEY_PROGRAM` (R323). -/
def execKeyProgram (p : Packet) (s : State) : Host.Outcome State Fault Refusal := s.ends (s.opKeyProgram p)

/-- `BANK_READ` (R362). -/
def execBankRead (p : Packet) (s : State) : Host.Outcome State Fault Refusal := s.ends (s.opBankRead p)

/-- `FLASH_READ` (R362). -/
def execFlashRead (p : Packet) (s : State) : Host.Outcome State Fault Refusal := s.ends (s.opFlashRead p)

/-- `FLASH_ERASE` (R365). -/
def execFlashErase (p : Packet) (s : State) : Host.Outcome State Fault Refusal := s.ends (s.opFlashErase p)

/-- `FLASH_WRITE` (R365). -/
def execFlashWrite (p : Packet) (s : State) : Host.Outcome State Fault Refusal := s.ends (s.opFlashWrite p)

/-- `FLASH_OP_DONE` (R365). -/
def execFlashOpDone (s : State) : Host.Outcome State Fault Refusal := s.ends (s.blockEvent (fun s => s.flashOpDone))

/-- `GR_CTRL_ARM` (R325). -/
def execGrCtrlArm (s : State) : Host.Outcome State Fault Refusal := s.ends (s.hostWrite P.GR_CTRL 0 1)

/-- `GR_CTRL_ABORT` (R337). -/
def execGrCtrlAbort (s : State) : Host.Outcome State Fault Refusal := s.ends (s.hostWrite P.GR_CTRL 0 2)

/-- `GR_CTRL_COMMIT` (R329). -/
def execGrCtrlCommit (s : State) : Host.Outcome State Fault Refusal := s.ends (s.hostWrite P.GR_CTRL 0 3)

/-- `GR_CTRL_ROLLBACK` (R330). -/
def execGrCtrlRollback (s : State) : Host.Outcome State Fault Refusal := s.ends (s.hostWrite P.GR_CTRL 0 4)

/-- `GR_CTRL_IMMEDIATE` (R331). -/
def execGrCtrlImmediate (s : State) : Host.Outcome State Fault Refusal := s.ends (s.hostWrite P.GR_CTRL 0 5)

/-- `GR_CTRL_FLASH` (R333). -/
def execGrCtrlFlash (s : State) : Host.Outcome State Fault Refusal := s.ends (s.hostWrite P.GR_CTRL 0 6)

/-- `GR_CTRL_KEYREVOKE` (R323). -/
def execGrCtrlKeyrevoke (slot : BitVec 8) (s : State) : Host.Outcome State Fault Refusal :=
  s.ends (s.hostWrite P.GR_CTRL 0 (7 + 256 * slot.toNat))

/-- `GR_CTRL_CLEAR_COUNTERS` (R341). -/
def execGrCtrlClearCounters (s : State) : Host.Outcome State Fault Refusal := s.ends (s.hostWrite P.GR_CTRL 0 8)

/-- `HOST_PORT_ACTIVITY_WAKE` (R268). -/
def execHostPortActivityWake (port : HostPort) (s : State) : Host.Outcome State Fault Refusal :=
  s.ends (s.blockEvent (fun s => if s.portOn (portCode port) then s.requestWake 4 else s))

/-- `FABRIC_CLOCK_EDGE` (R218). -/
def execFabricClockEdge (e : FabEdge) (s : State) : Host.Outcome State Fault Refusal :=
  s.ends (s.blockEvent (fun s => if s.fclkComes then (s.firstDrive true).fabricClockEdge e else s))

/-- `BLOCK_POWERED` (R260). -/
def execBlockPowered (b : BitVec 8) (s : State) : Host.Outcome State Fault Refusal :=
  s.ends (s.blockEvent (fun s => s.blockPowered b.toNat))

/-- `KEY_PROGRAM_COMPLETE` (R323). -/
def execKeyProgramComplete (s : State) : Host.Outcome State Fault Refusal :=
  s.ends (s.blockEvent (fun s => s.keyProgramDone))

end Sys2Proof.Machine
end

