-- ==== Sys2Proof/Machine/ExecConverters.lean ====
section
/-! DEFINITION. The meaning of each row of the table: SAR groups, integrating converters and filter lanes. -/

namespace Sys2Proof.Machine

/-- `SLOT_BOUNDARY` (R150). -/
def execSlotBoundary (g : Fin 4) (half : Bool) (s : State) : Host.Outcome State Fault Refusal :=
  s.ends (s.blockEvent (fun s => s.slotBoundary g.val half))

/-- `CONVERSION_COMPLETE` (R120). -/
def execConversionComplete (g : Fin 4) (i : Fin 5) (x : Sampled) (parity : Bool)
    (s : State) : Host.Outcome State Fault Refusal :=
  s.ends (s.blockEvent (fun s => s.conversionComplete g.val i.val x parity))

/-- `SLICE_TIMEOUT` (R152). -/
def execSliceTimeout (g : Fin 4) (i : Fin 5) (s : State) : Host.Outcome State Fault Refusal :=
  s.ends (s.blockEvent (fun s => s.sliceTimeout g.val i.val))

/-- `SAR_CTRL_START` (R130). -/
def execSarCtrlStart (g : Fin 4) (list : Fin 16) (s : State) : Host.Outcome State Fault Refusal :=
  s.ends (s.hostWrite P.SAR_CTRL g.val (1 + 256 * list.val))

/-- `SAR_CTRL_STOP` (R130). -/
def execSarCtrlStop (g : Fin 4) (s : State) : Host.Outcome State Fault Refusal :=
  s.ends (s.hostWrite P.SAR_CTRL g.val 2)

/-- `SAR_CTRL_RESUME` (R148). -/
def execSarCtrlResume (g : Fin 4) (s : State) : Host.Outcome State Fault Refusal :=
  s.ends (s.hostWrite P.SAR_CTRL g.val 3)

/-- `SAR_CTRL_CLEAR_COUNTERS` (R155). -/
def execSarCtrlClearCounters (g : Fin 4) (s : State) : Host.Outcome State Fault Refusal :=
  s.ends (s.hostWrite P.SAR_CTRL g.val 4)

/-- `SYSCAL_CLEAR` (R147). -/
def execSyscalClear (c : SysStep) (s : State) : Host.Outcome State Fault Refusal := s.ends (s.sysCommand 0 c)

/-- `SYSCAL_ZERO` (R144). -/
def execSyscalZero (c : SysStep) (s : State) : Host.Outcome State Fault Refusal := s.ends (s.sysCommand 1 c)

/-- `SYSCAL_FULL` (R144). -/
def execSyscalFull (c : SysStep) (s : State) : Host.Outcome State Fault Refusal := s.ends (s.sysCommand 2 c)

/-- `SYSCAL_APPLY` (R147). -/
def execSyscalApply (c : SysStep) (s : State) : Host.Outcome State Fault Refusal := s.ends (s.sysCommand 3 c)

/-- `SYSCAL_DONE` (R144). -/
def execSyscalDone (g : Fin 4) (s : State) : Host.Outcome State Fault Refusal :=
  s.ends (s.blockEvent (fun s => s.syscalDone g.val))

/-- `SYSCAL_TIMEOUT` (R145). -/
def execSyscalTimeout (g : Fin 4) (s : State) : Host.Outcome State Fault Refusal :=
  s.ends (s.blockEvent (fun s => s.syscalTimeout g.val))

/-- `REFSET_ELAPSED` (R135). -/
def execRefsetElapsed (b : RefBuf) (s : State) : Host.Outcome State Fault Refusal :=
  s.ends (s.blockEvent (fun s => match b with
    | .sar g => s.sarRefSettled g.val
    | .ic => s.icRefSettled))

/-- `REFOOT` (R153). -/
def execRefoot (b : RefBuf) (s : State) : Host.Outcome State Fault Refusal :=
  s.ends (s.liveEvent (fun s => match b with
    | .sar g => s.sarRefOot g.val
    | .ic => s.icRefOot))

/-- `SARCLK` (R153). -/
def execSarclk (g : Fin 4) (s : State) : Host.Outcome State Fault Refusal :=
  s.ends (s.liveEvent (fun s => s.sarClk g.val))

/-- `INTEGRATION_END` (R158). -/
def execIntegrationEnd (i : Fin 8) (s : State) : Host.Outcome State Fault Refusal :=
  s.ends (s.blockEvent (fun s => s.integrationEnd i.val))

/-- `OVERHEAD_END` (R157). -/
def execOverheadEnd (i : Fin 8) (x : Integrated) (parity : Bool) (s : State) : Host.Outcome State Fault Refusal :=
  s.ends (s.blockEvent (fun s => (s.overheadEnd i.val x parity).calOverheadOver i.val))

/-- `CYCLE_WINDOW_TIMEOUT` (R160). -/
def execCycleWindowTimeout (i : Fin 8) (s : State) : Host.Outcome State Fault Refusal :=
  s.ends (s.blockEvent (fun s => s.cycleTimeout i.val))

/-- `OVERHEAD_TIMEOUT` (R176). -/
def execOverheadTimeout (i : Fin 8) (s : State) : Host.Outcome State Fault Refusal :=
  s.ends (s.blockEvent (fun s => s.overheadTimeout i.val))

/-- `IC_CTRL_START` (R166). -/
def execIcCtrlStart (i : Fin 8) (slot : Fin 4) (s : State) : Host.Outcome State Fault Refusal :=
  s.ends (s.hostWrite P.IC_CTRL i.val (1 + 256 * slot.val))

/-- `IC_CTRL_STOP` (R166). -/
def execIcCtrlStop (i : Fin 8) (s : State) : Host.Outcome State Fault Refusal := s.ends (s.hostWrite P.IC_CTRL i.val 2)

/-- `IC_CTRL_RESUME` (R172). -/
def execIcCtrlResume (i : Fin 8) (s : State) : Host.Outcome State Fault Refusal :=
  s.ends (s.hostWrite P.IC_CTRL i.val 3)

/-- `IC_CTRL_CLEAR_COUNTERS` (R179). -/
def execIcCtrlClearCounters (i : Fin 8) (s : State) : Host.Outcome State Fault Refusal :=
  s.ends (s.hostWrite P.IC_CTRL i.val 4)

/-- `LANE_OUTPUT` (R194). -/
def execLaneOutput (n : Fin 32) (s : State) : Host.Outcome State Fault Refusal :=
  s.ends (s.blockEvent (fun s => s.laneOutput n.val))

/-- `ANGLE_BLOCK_TIMEOUT` (R201). -/
def execAngleBlockTimeout (n : Fin 32) (s : State) : Host.Outcome State Fault Refusal :=
  s.ends (s.blockEvent (fun s => s.laneBlockTimeout n.val))

/-- `LANE_STALL` (R213). -/
def execLaneStall (n : Fin 32) (s : State) : Host.Outcome State Fault Refusal :=
  s.ends (s.liveEvent (fun s => s.laneStall n.val))

/-- `FL_CTRL_RESUME` (R216). -/
def execFlCtrlResume (n : Fin 32) (s : State) : Host.Outcome State Fault Refusal :=
  s.ends (s.hostWrite P.FL_CTRL n.val 1)

/-- `FL_CTRL_RESTART` (R216). -/
def execFlCtrlRestart (n : Fin 32) (s : State) : Host.Outcome State Fault Refusal :=
  s.ends (s.hostWrite P.FL_CTRL n.val 2)

/-- `FL_CTRL_CLEAR_COUNTERS` (R216). -/
def execFlCtrlClearCounters (n : Fin 32) (s : State) : Host.Outcome State Fault Refusal :=
  s.ends (s.hostWrite P.FL_CTRL n.val 3)

/-- `FL_DCM_WRITE` (R185). -/
def execFlDcmWrite (n : Fin 32) (v : Word) (s : State) : Host.Outcome State Fault Refusal :=
  s.ends (s.hostWrite P.FL_DCM n.val v.toNat)

end Sys2Proof.Machine
end

