-- ==== Sys2Proof/Machine/ExecMachine.lean ====
section
/-! DEFINITION. The meaning of each row of the table: the angle engine, the Wheel, the analogue cells and the comparators. -/

namespace Sys2Proof.Machine

/-- `QUAD_EDGE` (R26). -/
def execQuadEdge (k : QuadStep) (s : State) : Host.Outcome State Fault Refusal :=
  s.ends (s.sourceEvent (fun s => s.quadEdge k))

/-- `REVERSE_LIMIT` (R52). -/
def execReverseLimit (s : State) : Host.Outcome State Fault Refusal := s.ends (s.sourceEvent (fun s => s.revLimit))

/-- `Z_EDGE` (R28). -/
def execZEdge (s : State) : Host.Outcome State Fault Refusal := s.ends (s.sourceEvent (fun s => s.zEdge))

/-- `ZMISS` (R28). -/
def execZmiss (s : State) : Host.Outcome State Fault Refusal := s.ends (s.sourceEvent (fun s => s.zMiss))

/-- `SSI_FRAME` (R30). -/
def execSsiFrame (data : BitVec 32) (startHigh endLow : Bool) (s : State) : Host.Outcome State Fault Refusal :=
  s.ends (s.sourceEvent (fun s => s.ssiFrame data.toNat startHigh endLow))

/-- `MAINS_ZERO_CROSSING` (R161). -/
def execMainsZeroCrossing (rising : Bool) (s : State) : Host.Outcome State Fault Refusal :=
  s.ends ((s.liveEvent (fun s => s.mainsCross rising)).sourceEvent (fun s => s.engMains rising))

/-- `MAINS_TIMEOUT` (R161). -/
def execMainsTimeout (s : State) : Host.Outcome State Fault Refusal :=
  s.ends (s.liveEvent (fun s => if s.mainsQuiet then (if s.resetting Fb.wheel then s.mainsLost else s.mainsLost.engMainsSilent) else s))

/-- `COAST_LIMIT` (R53). -/
def execCoastLimit (s : State) : Host.Outcome State Fault Refusal := s.ends (s.sourceEvent (fun s => s.coastLimit))

/-- `HOLD_RELEASE` (R33). -/
def execHoldRelease (s : State) : Host.Outcome State Fault Refusal := s.ends (s.sourceEvent (fun s => s.holdRelease))

/-- `STANDSTILL_TIMEOUT` (R34). -/
def execStandstillTimeout (s : State) : Host.Outcome State Fault Refusal :=
  s.ends (s.sourceEvent (fun s => s.standstill))

/-- `ENCFLT_PIN_CHANGE` (R541). -/
def execEncfltPinChange (pin : Fin 48) (level : Bool) (s : State) : Host.Outcome State Fault Refusal :=
  s.ends (s.liveEvent (fun s => s.encfltPinChange pin.val level))

/-- `EVALUATION_STEP` (R38). -/
def execEvaluationStep (ecc : List StoreError) (s : State) : Host.Outcome State Fault Refusal :=
  s.ends (s.evaluationStep ecc)

/-- `TIME_QUEUE_DUE` (R49). -/
def execTimeQueueDue (q : Fin 16) (ecc : List StoreError) (s : State) : Host.Outcome State Fault Refusal :=
  s.ends (s.timeQueueDue q.val ecc)

/-- `WH_CTRL_RUN` (R60). -/
def execWhCtrlRun (s : State) : Host.Outcome State Fault Refusal := s.ends (s.hostWrite P.WH_CTRL 0 1)

/-- `WH_CTRL_STOP` (R60). -/
def execWhCtrlStop (s : State) : Host.Outcome State Fault Refusal := s.ends (s.hostWrite P.WH_CTRL 0 2)

/-- `WH_CTRL_REREF` (R59). -/
def execWhCtrlReref (s : State) : Host.Outcome State Fault Refusal := s.ends (s.hostWrite P.WH_CTRL 0 3)

/-- `WH_CTRL_CLEAR_COUNTERS` (R60). -/
def execWhCtrlClearCounters (s : State) : Host.Outcome State Fault Refusal := s.ends (s.hostWrite P.WH_CTRL 0 4)

/-- `WH_TQCTL_ENABLE` (R51). -/
def execWhTqctlEnable (q : Fin 16) (s : State) : Host.Outcome State Fault Refusal :=
  s.ends (s.hostWrite P.WH_TQCTL q.val 1)

/-- `WH_TQCTL_DISABLE` (R51). -/
def execWhTqctlDisable (q : Fin 16) (s : State) : Host.Outcome State Fault Refusal :=
  s.ends (s.hostWrite P.WH_TQCTL q.val 2)

/-- `WH_TQCTL_CLEAR` (R60). -/
def execWhTqctlClear (q : Fin 16) (s : State) : Host.Outcome State Fault Refusal :=
  s.ends (s.hostWrite P.WH_TQCTL q.val 3)

/-- `SETTLING_END` (R69). -/
def execSettlingEnd (n : Fin 64) (s : State) : Host.Outcome State Fault Refusal :=
  s.ends (s.blockEvent (fun s => s.settlingEnd n.val))

/-- `AC_OUT_WRITE` (R74). -/
def execAcOutWrite (n : Fin 64) (v : Word) (s : State) : Host.Outcome State Fault Refusal :=
  s.ends (s.hostWrite P.AC_OUT n.val v.toNat)

/-- `AC_CTRL_RESUME` (R82). -/
def execAcCtrlResume (n : Fin 64) (s : State) : Host.Outcome State Fault Refusal :=
  s.ends (s.hostWrite P.AC_CTRL n.val 1)

/-- `AC_CTRL_CLEAR_COUNTERS` (R95). -/
def execAcCtrlClearCounters (n : Fin 64) (s : State) : Host.Outcome State Fault Refusal :=
  s.ends (s.hostWrite P.AC_CTRL n.val 2)

/-- `OVR` (R93). -/
def execOvr (n : Fin 64) (s : State) : Host.Outcome State Fault Refusal := s.ends (s.liveEvent (fun s => s.ovr n.val))

/-- `INCLAMP` (R93). -/
def execInclamp (n : Fin 64) (s : State) : Host.Outcome State Fault Refusal :=
  s.ends (s.liveEvent (fun s => s.cellDetect n.val 1 1 isInputMode))

/-- `OPENIN` (R93). -/
def execOpenin (n : Fin 64) (s : State) : Host.Outcome State Fault Refusal :=
  s.ends (s.liveEvent (fun s => if s.burnoutOn n.val then s.cellDetect n.val 2 2 isInputMode else s))

/-- `EXCFLT` (R93). -/
def execExcflt (n : Fin 64) (s : State) : Host.Outcome State Fault Refusal :=
  s.ends (s.liveEvent (fun s => s.cellDetect n.val 3 2 isExciteMode))

/-- `OUTOPEN` (R93). -/
def execOutopen (n : Fin 64) (s : State) : Host.Outcome State Fault Refusal :=
  s.ends (s.liveEvent (fun s => s.cellDetect n.val 4 2 (· == 6)))

/-- `OUTLIM` (R93). -/
def execOutlim (n : Fin 64) (logBad : Bool) (s : State) : Host.Outcome State Fault Refusal :=
  s.ends (s.liveEvent (fun s => { s with flt := { s.flt with logBad := logBad } }.cellDetect n.val 5 3 (· == 5)))

/-- `HVRAIL` (R93). -/
def execHvrail (n : Fin 64) (s : State) : Host.Outcome State Fault Refusal :=
  s.ends (s.liveEvent (fun s => s.cellDetect n.val 6 3 (fun m => m == 3 || isOutputMode m)))

/-- `DELIVERED_EDGE` (R109). -/
def execDeliveredEdge (n : Fin 64) (x : TapSample) (s : State) : Host.Outcome State Fault Refusal :=
  s.ends (s.blockEvent (fun s => s.cmpEdgeRow n.val x))

/-- `BLANK_END` (R100). -/
def execBlankEnd (n : Fin 64) (s : State) : Host.Outcome State Fault Refusal :=
  s.ends (s.blockEvent (fun s => s.cmpBlankEnd n.val))

/-- `HELD_RELEASE` (R108). -/
def execHeldRelease (n : Fin 64) (x : TapSample) (s : State) : Host.Outcome State Fault Refusal :=
  s.ends (s.blockEvent (fun s => s.cmpReleaseRow n.val x))

/-- `CMP_THR_WRITE` (R97). -/
def execCmpThrWrite (n : Fin 64) (v : Word) (s : State) : Host.Outcome State Fault Refusal :=
  s.ends (s.hostWrite P.CMP_THR n.val v.toNat)

/-- `CMP_CTRL_ENABLE` (R105). -/
def execCmpCtrlEnable (n : Fin 64) (s : State) : Host.Outcome State Fault Refusal :=
  s.ends (s.hostWrite P.CMP_CTRL n.val 1)

/-- `CMP_CTRL_DISABLE` (R105). -/
def execCmpCtrlDisable (n : Fin 64) (s : State) : Host.Outcome State Fault Refusal :=
  s.ends (s.hostWrite P.CMP_CTRL n.val 2)

/-- `CMP_CTRL_ARM` (R106). -/
def execCmpCtrlArm (n : Fin 64) (s : State) : Host.Outcome State Fault Refusal :=
  s.ends (s.hostWrite P.CMP_CTRL n.val 3)

/-- `CMP_CTRL_DISARM` (R106). -/
def execCmpCtrlDisarm (n : Fin 64) (s : State) : Host.Outcome State Fault Refusal :=
  s.ends (s.hostWrite P.CMP_CTRL n.val 4)

/-- `CMP_CTRL_RESUME` (R105). -/
def execCmpCtrlResume (n : Fin 64) (s : State) : Host.Outcome State Fault Refusal :=
  s.ends (s.hostWrite P.CMP_CTRL n.val 5)

/-- `CMP_CTRL_CLEAR_COUNTERS` (R117). -/
def execCmpCtrlClearCounters (n : Fin 64) (s : State) : Host.Outcome State Fault Refusal :=
  s.ends (s.hostWrite P.CMP_CTRL n.val 6)

/-- `DACCHK` (R115). -/
def execDacchk (n : Fin 64) (s : State) : Host.Outcome State Fault Refusal :=
  s.ends (s.liveEvent (fun s => s.dacCheck n.val))

/-- `SCLK` (R115). -/
def execSclk (n : Fin 64) (s : State) : Host.Outcome State Fault Refusal :=
  s.ends (s.liveEvent (fun s => s.sampleClockLost n.val))

/-- `CROSSING_AT_THE_TAP` (R102). -/
def execCrossingAtTheTap (n : Fin 64) (x : TapSample) (s : State) : Host.Outcome State Fault Refusal :=
  s.ends (s.liveEvent (fun s => s.setTap n.val x))

/-- `URGENT_REQUEST_DISPATCH` (R112). -/
def execUrgentRequestDispatch (n : Fin 64) (s : State) : Host.Outcome State Fault Refusal :=
  s.ends (s.urgentDispatch n.val)

end Sys2Proof.Machine
end

