-- ==== Sys2Proof/Machine/ExecPorts.lean ====
section
/-! DEFINITION. The meaning of each row of the table: port S1 and the personalities, ports S2, U and E, mailboxes and streams. -/

namespace Sys2Proof.Machine

/-- `GEN1_NOP` (R401). -/
def execGen1Nop (s : State) : Host.Outcome State Fault Refusal := s.ends s.gen1Nop

/-- `GEN1_FRAME_DISCARD` (R400). -/
def execGen1FrameDiscard (s : State) : Host.Outcome State Fault Refusal := s.ends s.gen1Discard

/-- `READ_ID` (R421). -/
def execReadId (c : PersCommand) (s : State) : Host.Outcome State Fault Refusal := s.ends (s.opReadId c)

/-- `READ_STATUS` (R421). -/
def execReadStatus (c : PersCommand) (s : State) : Host.Outcome State Fault Refusal := s.ends (s.opReadStatus c)

/-- `SOFT_RESET` (R421). -/
def execSoftReset (c : PersCommand) (s : State) : Host.Outcome State Fault Refusal := s.ends (s.opSoftReset c)

/-- `SET_GAIN` (R421). -/
def execSetGain (c : PersCommand) (s : State) : Host.Outcome State Fault Refusal := s.ends (s.opSetGain c)

/-- `GET_GAIN` (R421). -/
def execGetGain (c : PersCommand) (s : State) : Host.Outcome State Fault Refusal := s.ends (s.opGetGain c)

/-- `SET_FILTER` (R421). -/
def execSetFilter (c : PersCommand) (s : State) : Host.Outcome State Fault Refusal := s.ends (s.opSetFilter c)

/-- `SET_MODE` (R422). -/
def execSetMode (c : PersCommand) (s : State) : Host.Outcome State Fault Refusal := s.ends (s.opSetMode c)

/-- `START_SCAN` (R423). -/
def execStartScan (c : PersCommand) (s : State) : Host.Outcome State Fault Refusal := s.ends (s.opStartScan c)

/-- `STOP_SCAN` (R421). -/
def execStopScan (c : PersCommand) (s : State) : Host.Outcome State Fault Refusal := s.ends (s.opStopScan c)

/-- `READ_CH` (R421). -/
def execReadCh (c : PersCommand) (s : State) : Host.Outcome State Fault Refusal := s.ends (s.opReadCh c)

/-- `SET_RATE` (R421). -/
def execSetRate (c : PersCommand) (s : State) : Host.Outcome State Fault Refusal := s.ends (s.opSetRate c)

/-- `SET_THRH` (R421). -/
def execSetThrh (c : PersCommand) (s : State) : Host.Outcome State Fault Refusal := s.ends (s.opSetThrh c)

/-- `SET_THRL` (R421). -/
def execSetThrl (c : PersCommand) (s : State) : Host.Outcome State Fault Refusal := s.ends (s.opSetThrl c)

/-- `PERS_CMP_CTRL` (R421). -/
def execPersCmpCtrl (c : PersCommand) (s : State) : Host.Outcome State Fault Refusal := s.ends (s.opPersCmpCtrl c)

/-- `READ_CMP` (R421). -/
def execReadCmp (c : PersCommand) (s : State) : Host.Outcome State Fault Refusal := s.ends (s.opReadCmp c)

/-- `SET_OUT` (R421). -/
def execSetOut (c : PersCommand) (s : State) : Host.Outcome State Fault Refusal := s.ends (s.opSetOut c)

/-- `READ_BLOCK` (R424). -/
def execReadBlock (c : PersCommand) (s : State) : Host.Outcome State Fault Refusal := s.ends (s.opReadBlock c)

/-- `XSEL` (R421). -/
def execXsel (c : PersCommand) (s : State) : Host.Outcome State Fault Refusal := s.ends (s.opXsel c)

/-- `XRDLO` (R421). -/
def execXrdlo (c : PersCommand) (s : State) : Host.Outcome State Fault Refusal := s.ends (s.opXrdlo c)

/-- `XRDHI` (R421). -/
def execXrdhi (c : PersCommand) (s : State) : Host.Outcome State Fault Refusal := s.ends (s.opXrdhi c)

/-- `XWRLO` (R421). -/
def execXwrlo (c : PersCommand) (s : State) : Host.Outcome State Fault Refusal := s.ends (s.opXwrlo c)

/-- `XWRHI` (R421). -/
def execXwrhi (c : PersCommand) (s : State) : Host.Outcome State Fault Refusal := s.ends (s.opXwrhi c)

/-- `FAITHFUL_REPLY_RELEASE` (R425). -/
def execFaithfulReplyRelease (port : HostPort) (s : State) : Host.Outcome State Fault Refusal :=
  s.ends (s.faithfulRelease (portCode port))

/-- `S2_READ` (R405). -/
def execS2Read (whole : Bool) (s : State) : Host.Outcome State Fault Refusal := s.ends (s.s2Read whole)

/-- `S2_STATUS` (R403). -/
def execS2Status (s : State) : Host.Outcome State Fault Refusal := s.ends s.s2Status

/-- `S2_WRITE_ABORT` (R404). -/
def execS2WriteAbort (s : State) : Host.Outcome State Fault Refusal := s.ends s.s2WriteAbort

/-- `U_FRAME_GAP` (R407). -/
def execUFrameGap (complete : Bool) (s : State) : Host.Outcome State Fault Refusal := s.ends (s.uFrameGap complete)

/-- `U_TRANSMIT` (R408). -/
def execUTransmit (collision : Option Nat) (s : State) : Host.Outcome State Fault Refusal :=
  s.ends (s.uTransmit collision)

/-- `LINK_TIMEOUT` (R398). -/
def execLinkTimeout (port : HostPort) (s : State) : Host.Outcome State Fault Refusal :=
  s.ends (s.linkTimeout (portCode port))

/-- `PHY_POLL` (R398). -/
def execPhyPoll (r : PhyAnswer) (s : State) : Host.Outcome State Fault Refusal := s.ends (s.phyPoll r)

/-- `DHCP_MESSAGE` (R411). -/
def execDhcpMessage (m : DhcpMessage) (s : State) : Host.Outcome State Fault Refusal := s.ends (s.dhcpMessage m)

/-- `DHCP_RENEW` (R411). -/
def execDhcpRenew (s : State) : Host.Outcome State Fault Refusal := s.ends s.dhcpRenew

/-- `DHCP_REBIND` (R411). -/
def execDhcpRebind (s : State) : Host.Outcome State Fault Refusal := s.ends s.dhcpRebind

/-- `DHCP_LEASE_EXPIRY` (R411). -/
def execDhcpLeaseExpiry (s : State) : Host.Outcome State Fault Refusal := s.ends s.dhcpExpiry

/-- `ARP_REQUEST` (R410). -/
def execArpRequest (target sender : BitVec 32) (s : State) : Host.Outcome State Fault Refusal :=
  s.ends (s.arpRequest target.toNat sender.toNat)

/-- `ETH_FRAME_DISCARD` (R410). -/
def execEthFrameDiscard (cause : EthDrop) (s : State) : Host.Outcome State Fault Refusal := s.ends (s.ethDiscard cause)

/-- `PTP_ANNOUNCE` (R414). -/
def execPtpAnnounce (m : PtpAnnounce) (s : State) : Host.Outcome State Fault Refusal := s.ends (s.ptpAnnounce m)

/-- `PTP_SYNC` (R415). -/
def execPtpSync (m : PtpSync) (s : State) : Host.Outcome State Fault Refusal := s.ends (s.ptpSync m)

/-- `PTP_FOLLOW_UP` (R415). -/
def execPtpFollowUp (m : PtpFollowUp) (s : State) : Host.Outcome State Fault Refusal := s.ends (s.ptpFollowUp m)

/-- `PTP_DELAY_RESP` (R415). -/
def execPtpDelayResp (m : PtpDelayResp) (s : State) : Host.Outcome State Fault Refusal := s.ends (s.ptpDelayResp m)

/-- `PTP_DELAY_REQ_SEND` (R414). -/
def execPtpDelayReqSend (s : State) : Host.Outcome State Fault Refusal := s.ends s.ptpDelayReq

/-- `PTP_TIMEOUT` (R416). -/
def execPtpTimeout (s : State) : Host.Outcome State Fault Refusal := s.ends s.ptpTimeout

/-- `EVENT_HOLDOFF_EXPIRY` (R419). -/
def execEventHoldoffExpiry (s : State) : Host.Outcome State Fault Refusal := s.ends s.eventHoldoff

/-- `HP_PORTEN_WRITE` (R396). -/
def execHpPortenWrite (v : Word) (s : State) : Host.Outcome State Fault Refusal :=
  s.ends (s.hostWrite P.HP_PORTEN 0 v.toNat)

/-- `HP_PCTRL_CLEAR_COUNTERS` (R393). -/
def execHpPctrlClearCounters (s : State) : Host.Outcome State Fault Refusal := s.ends (s.hostWrite P.HP_PCTRL 0 1)

/-- `HP_TIMEL_READ` (R382). -/
def execHpTimelRead (s : State) : Host.Outcome State Fault Refusal := s.ends (s.hostRead P.HP_TIMEL 0)

/-- `HP_PTPOFSL_READ` (R382). -/
def execHpPtpofslRead (s : State) : Host.Outcome State Fault Refusal := s.ends (s.hostRead P.HP_PTPOFSL 0)

/-- `MB_RELAY` (R436). -/
def execMbRelay (k : Fin 8) (s : State) : Host.Outcome State Fault Refusal := s.ends (s.relay k.val)

/-- `MB_RELAY_TIMEOUT` (R436). -/
def execMbRelayTimeout (k : Fin 8) (s : State) : Host.Outcome State Fault Refusal := s.ends (s.relayTimeout k.val)

/-- `MB_CTRL_CLEAR` (R463). -/
def execMbCtrlClear (n : Fin 16) (s : State) : Host.Outcome State Fault Refusal :=
  s.ends (s.hostWrite P.MB_CTRL n.val 1)

/-- `MB_CTRL_CLEAR_COUNTERS` (R463). -/
def execMbCtrlClearCounters (n : Fin 16) (s : State) : Host.Outcome State Fault Refusal :=
  s.ends (s.hostWrite P.MB_CTRL n.val 2)

/-- `STREAM_DATAGRAM_SEND` (R453). -/
def execStreamDatagramSend (n : Fin 64) (poolBad : Bool) (s : State) : Host.Outcome State Fault Refusal :=
  s.ends (s.blockEvent (fun s => s.datagramSend n.val poolBad))

/-- `ST_CTRL_ENABLE` (R448). -/
def execStCtrlEnable (n : Fin 64) (s : State) : Host.Outcome State Fault Refusal :=
  s.ends (s.hostWrite P.ST_CTRL n.val 1)

/-- `ST_CTRL_DISABLE` (R456). -/
def execStCtrlDisable (n : Fin 64) (s : State) : Host.Outcome State Fault Refusal :=
  s.ends (s.hostWrite P.ST_CTRL n.val 2)

/-- `ST_CTRL_FLUSH` (R463). -/
def execStCtrlFlush (n : Fin 64) (s : State) : Host.Outcome State Fault Refusal :=
  s.ends (s.hostWrite P.ST_CTRL n.val 3)

/-- `ST_MARK` (R443). -/
def execStMark (n : Fin 64) (tag : BitVec 16) (s : State) : Host.Outcome State Fault Refusal :=
  s.ends (s.hostWrite P.ST_CTRL n.val (4 + 65536 * tag.toNat))

/-- `ST_CTRL_CLEAR_COUNTERS` (R463). -/
def execStCtrlClearCounters (n : Fin 64) (s : State) : Host.Outcome State Fault Refusal :=
  s.ends (s.hostWrite P.ST_CTRL n.val 5)

/-- `ST_POOLCTRL_RESUME` (R456). -/
def execStPoolctrlResume (s : State) : Host.Outcome State Fault Refusal := s.ends (s.hostWrite P.ST_POOLCTRL 0 1)

/-- `ST_POOLCTRL_CLEAR` (R463). -/
def execStPoolctrlClear (s : State) : Host.Outcome State Fault Refusal := s.ends (s.hostWrite P.ST_POOLCTRL 0 2)

/-- `FREELIST_CHECK` (R460). -/
def execFreelistCheck (bad : Bool) (s : State) : Host.Outcome State Fault Refusal :=
  s.ends (s.liveEvent (fun s => if bad then s.freelist else s))

/-- `GEN1_FRAME_REJECTED` (R400). -/
def execGen1FrameRejected (op : BitVec 6) (undefinedOp : Bool) (s : State) : Host.Outcome State Fault Refusal :=
  s.ends (s.gen1Rejected op.toNat undefinedOp)

/-- `U_FRAMING_ERROR` (R407). -/
def execUFramingError (s : State) : Host.Outcome State Fault Refusal := s.ends s.uFramingError

end Sys2Proof.Machine
end

