-- ==== Sys2Proof/Machine/ExecSessions.lean ====
section
/-! DEFINITION. The meaning of each row of the table: native command packets. -/

namespace Sys2Proof.Machine

/-- `NOP` (R362). -/
def execNop (p : Packet) (s : State) : Host.Outcome State Fault Refusal := s.ends (s.opNop p)

/-- `SESSION_OPEN` (R351). -/
def execSessionOpen (p : Packet) (s : State) : Host.Outcome State Fault Refusal := s.ends (s.opSessionOpen p)

/-- `SESSION_CLOSE` (R353). -/
def execSessionClose (p : Packet) (s : State) : Host.Outcome State Fault Refusal := s.ends (s.opSessionClose p)

/-- `IDENTIFY` (R362). -/
def execIdentify (p : Packet) (s : State) : Host.Outcome State Fault Refusal := s.ends (s.opIdentify p)

/-- `OWN_TAKE` (R357). -/
def execOwnTake (p : Packet) (s : State) : Host.Outcome State Fault Refusal := s.ends (s.opOwnTake p)

/-- `OWN_RELEASE` (R358). -/
def execOwnRelease (p : Packet) (s : State) : Host.Outcome State Fault Refusal := s.ends (s.opOwnRelease p)

/-- `OWN_QUERY` (R362). -/
def execOwnQuery (p : Packet) (s : State) : Host.Outcome State Fault Refusal := s.ends (s.opOwnQuery p)

/-- `ECHO` (R362). -/
def execEcho (p : Packet) (s : State) : Host.Outcome State Fault Refusal := s.ends (s.opEcho p)

/-- `GET_TIME` (R362). -/
def execGetTime (p : Packet) (s : State) : Host.Outcome State Fault Refusal := s.ends (s.opGetTime p)

/-- `GET_STATUS` (R362). -/
def execGetStatus (p : Packet) (s : State) : Host.Outcome State Fault Refusal := s.ends (s.opGetStatus p)

/-- `RESET_HOPPER_RESTART` (R354). -/
def execResetHopperRestart (p : Packet) (s : State) : Host.Outcome State Fault Refusal := s.ends (s.opReset p 1)

/-- `RESET_DEVICE` (R566). -/
def execResetDevice (p : Packet) (s : State) : Host.Outcome State Fault Refusal := s.ends (s.opReset p 2)

/-- `GET_PARAM` (R375). -/
def execGetParam (p : Packet) (s : State) : Host.Outcome State Fault Refusal := s.ends (s.opGetParam p)

/-- `SET_PARAM` (R375). -/
def execSetParam (p : Packet) (s : State) : Host.Outcome State Fault Refusal := s.ends (s.opSetParam p)

/-- `GET_MULTI` (R381). -/
def execGetMulti (p : Packet) (s : State) : Host.Outcome State Fault Refusal := s.ends (s.opGetMulti p)

/-- `SET_MULTI` (R363). -/
def execSetMulti (p : Packet) (s : State) : Host.Outcome State Fault Refusal := s.ends (s.opSetMulti p)

/-- `GET_RANGE` (R381). -/
def execGetRange (p : Packet) (s : State) : Host.Outcome State Fault Refusal := s.ends (s.opGetRange p)

/-- `SET_GROUP` (R383). -/
def execSetGroup (p : Packet) (s : State) : Host.Outcome State Fault Refusal := s.ends (s.opSetGroup p)

/-- `COMMIT` (R386). -/
def execCommit (p : Packet) (s : State) : Host.Outcome State Fault Refusal := s.ends (s.opCommit p)

/-- `GROUP_CANCEL` (R388). -/
def execGroupCancel (p : Packet) (s : State) : Host.Outcome State Fault Refusal := s.ends (s.opGroupCancel p)

/-- `GROUP_LAPSE` (R388). -/
def execGroupLapse (port : HostPort) (s : State) : Host.Outcome State Fault Refusal :=
  s.ends (s.groupLapse (portCode port))

/-- `PARAM_INFO` (R645). -/
def execParamInfo (p : Packet) (s : State) : Host.Outcome State Fault Refusal := s.ends (s.opParamInfo p)

/-- `SET_BITS` (R364). -/
def execSetBits (p : Packet) (s : State) : Host.Outcome State Fault Refusal := s.ends (s.opSetBits p)

/-- `POST_ACTION` (R42). -/
def execPostAction (p : Packet) (s : State) : Host.Outcome State Fault Refusal := s.ends (s.opPostAction p)

/-- `CANCEL_ACTION` (R44). -/
def execCancelAction (p : Packet) (s : State) : Host.Outcome State Fault Refusal := s.ends (s.opCancelAction p)

/-- `CLEAR_QUEUE` (R44). -/
def execClearQueue (p : Packet) (s : State) : Host.Outcome State Fault Refusal := s.ends (s.opClearQueue p)

/-- `POST_MULTI` (R366). -/
def execPostMulti (p : Packet) (s : State) : Host.Outcome State Fault Refusal := s.ends (s.opPostMulti p)

/-- `READ_QUEUE` (R362). -/
def execReadQueue (p : Packet) (ecc : List StoreError) (s : State) : Host.Outcome State Fault Refusal :=
  s.ends (s.opReadQueue p ecc)

/-- `READ_ACTION` (R362). -/
def execReadAction (p : Packet) (ecc : List StoreError) (s : State) : Host.Outcome State Fault Refusal :=
  s.ends (s.opReadAction p ecc)

/-- `GET_ANGLE` (R362). -/
def execGetAngle (p : Packet) (s : State) : Host.Outcome State Fault Refusal := s.ends (s.opGetAngle p)

/-- `WAIT_BIN` (R367). -/
def execWaitBin (p : Packet) (s : State) : Host.Outcome State Fault Refusal := s.ends (s.opWaitBin p)

/-- `READ_RESULT` (R362). -/
def execReadResult (p : Packet) (s : State) : Host.Outcome State Fault Refusal := s.ends (s.opReadResult p)

/-- `READ_LANE` (R362). -/
def execReadLane (p : Packet) (s : State) : Host.Outcome State Fault Refusal := s.ends (s.opReadLane p)

/-- `SCAN_LOAD` (R362). -/
def execScanLoad (p : Packet) (s : State) : Host.Outcome State Fault Refusal := s.ends (s.opScanLoad p)

/-- `COEF_LOAD` (R362). -/
def execCoefLoad (p : Packet) (s : State) : Host.Outcome State Fault Refusal := s.ends (s.opCoefLoad p)

/-- `COEF_READ` (R362). -/
def execCoefRead (p : Packet) (s : State) : Host.Outcome State Fault Refusal := s.ends (s.opCoefRead p)

/-- `SCAN_READ` (R362). -/
def execScanRead (p : Packet) (s : State) : Host.Outcome State Fault Refusal := s.ends (s.opScanRead p)

/-- `COEF_GET` (R303). -/
def execCoefGet (p : Packet) (s : State) : Host.Outcome State Fault Refusal := s.ends (s.opCoefGet p)

/-- `COEF_PUT` (R304). -/
def execCoefPut (p : Packet) (s : State) : Host.Outcome State Fault Refusal := s.ends (s.opCoefPut p)

/-- `COEF_DUMP` (R362). -/
def execCoefDump (p : Packet) (s : State) : Host.Outcome State Fault Refusal := s.ends (s.opCoefDump p)

/-- `STREAM_READ` (R452). -/
def execStreamRead (p : Packet) (poolBad : Bool) (s : State) : Host.Outcome State Fault Refusal :=
  s.ends (s.opStreamRead p poolBad)

/-- `STREAM_STATUS` (R362). -/
def execStreamStatus (p : Packet) (s : State) : Host.Outcome State Fault Refusal := s.ends (s.opStreamStatus p)

/-- `STREAM_FLUSH` (R457). -/
def execStreamFlush (p : Packet) (s : State) : Host.Outcome State Fault Refusal := s.ends (s.opStreamFlush p)

/-- `MB_READ` (R434). -/
def execMbRead (p : Packet) (s : State) : Host.Outcome State Fault Refusal := s.ends (s.opMbRead p)

/-- `MB_WRITE` (R433). -/
def execMbWrite (p : Packet) (s : State) : Host.Outcome State Fault Refusal := s.ends (s.opMbWrite p)

/-- `MB_STATUS` (R362). -/
def execMbStatus (p : Packet) (s : State) : Host.Outcome State Fault Refusal := s.ends (s.opMbStatus p)

/-- `FAULT_SUMMARY` (R362). -/
def execFaultSummary (p : Packet) (s : State) : Host.Outcome State Fault Refusal := s.ends (s.opFaultSummary p)

/-- `FAULT_READ` (R477). -/
def execFaultRead (p : Packet) (s : State) : Host.Outcome State Fault Refusal := s.ends (s.opFaultRead p)

/-- `FAULT_ACK` (R475). -/
def execFaultAck (c : AckCommand) (s : State) : Host.Outcome State Fault Refusal :=
  s.ends (match c with
    | .ctrl b k => s.hostWrite P.FLT_CTRL 0 (1 + 256 * b.toNat + 65536 * k.toNat)
    | .packet p => s.opFaultAck p)

/-- `LOG_READ` (R484). -/
def execLogRead (p : Packet) (bad : Option (BitVec 9)) (s : State) : Host.Outcome State Fault Refusal :=
  s.ends (s.opLogRead p (bad.map BitVec.toNat))

/-- `LOG_CLEAR` (R484). -/
def execLogClear (c : Option Packet) (s : State) : Host.Outcome State Fault Refusal :=
  s.ends (match c with
    | none => s.hostWrite P.FLT_CTRL 0 3
    | some p => s.opLogClear p)

/-- `KILN_REPORT` (R362). -/
def execKilnReport (p : Packet) (s : State) : Host.Outcome State Fault Refusal := s.ends (s.opKilnReport p)

/-- `KILN_JOBS` (R362). -/
def execKilnJobs (p : Packet) (s : State) : Host.Outcome State Fault Refusal := s.ends (s.opKilnJobs p)

/-- `SL_STATUS` (R362). -/
def execSlStatus (p : Packet) (s : State) : Host.Outcome State Fault Refusal := s.ends (s.opSlStatus p)

/-- `SL_ROLE` (R526). -/
def execSlRole (p : Packet) (s : State) : Host.Outcome State Fault Refusal := s.ends (s.opSlRole p)

/-- `SL_COPY` (R520). -/
def execSlCopy (p : Packet) (s : State) : Host.Outcome State Fault Refusal := s.ends (s.opSlCopy p)

/-- `SL_TAKEOVER` (R522). -/
def execSlTakeover (p : Packet) (s : State) : Host.Outcome State Fault Refusal := s.ends (s.opSlTakeover p)

/-- `TEST_ENTER` (R588). -/
def execTestEnter (p : Packet) (pinLow : Bool) (s : State) : Host.Outcome State Fault Refusal :=
  s.ends (s.opTestEnter p pinLow)

/-- `TEST_RESPONSE` (R588). -/
def execTestResponse (p : Packet) (s : State) : Host.Outcome State Fault Refusal := s.ends (s.opTestResponse p)

/-- `TEST_EXIT` (R589). -/
def execTestExit (p : Packet) (s : State) : Host.Outcome State Fault Refusal := s.ends (s.opTestExit p)

/-- `FAULT_INJECT` (R590). -/
def execFaultInject (p : Packet) (s : State) : Host.Outcome State Fault Refusal := s.ends (s.opInject p)

/-- `MEM_READ` (R591). -/
def execMemRead (p : Packet) (s : State) : Host.Outcome State Fault Refusal := s.ends (s.opMemRead p)

/-- `TRACE_READ` (R596). -/
def execTraceRead (p : Packet) (ecc : Option (BitVec 12 × Bool)) (s : State) : Host.Outcome State Fault Refusal :=
  s.ends (s.opTraceRead p (ecc.map (fun e => (e.1.toNat, e.2))))

/-- `TRACE_START` (R601). -/
def execTraceStart (c : Option Packet) (s : State) : Host.Outcome State Fault Refusal :=
  s.ends (match c with
    | none => s.hostWrite P.TST_CTRL 0 1
    | some p => s.opTraceCtrl p 1)

/-- `TRACE_STOP` (R601). -/
def execTraceStop (c : Option Packet) (s : State) : Host.Outcome State Fault Refusal :=
  s.ends (match c with
    | none => s.hostWrite P.TST_CTRL 0 2
    | some p => s.opTraceCtrl p 2)

/-- `TRACE_CLEAR` (R601). -/
def execTraceClear (c : Option Packet) (s : State) : Host.Outcome State Fault Refusal :=
  s.ends (match c with
    | none => s.hostWrite P.TST_CTRL 0 3
    | some p => s.opTraceCtrl p 3)

/-- `PENDING_TIMEOUT` (R360). -/
def execPendingTimeout (port : HostPort) (seq : BitVec 16) (s : State) : Host.Outcome State Fault Refusal :=
  s.ends (s.pendingTimeout (portCode port) seq.toNat)

/-- `COMMAND_PACKET_REJECTED` (R347). -/
def execCommandPacketRejected (p : Packet) (why : Reject) (s : State) : Host.Outcome State Fault Refusal :=
  s.ends (s.reject p why)

end Sys2Proof.Machine
end

