-- ==== Sys2Proof/Machine/ExecSystem.lean ====
section
/-! DEFINITION. The meaning of each row of the table: faults, the sync link, supplies and resets, start-up, boundary scan, test and trace. -/

namespace Sys2Proof.Machine

/-- `GRACE_EXPIRY` (R473). -/
def execGraceExpiry (b : BitVec 8) (s : State) : Host.Outcome State Fault Refusal :=
  s.ends (s.liveEvent (fun s => s.graceExpiry b.toNat))

/-- `MASK_WINDOW_CLOSE` (R490). -/
def execMaskWindowClose (b : BitVec 8) (s : State) : Host.Outcome State Fault Refusal :=
  s.ends (s.liveEvent (fun s => s.maskClose b.toNat))

/-- `FLT_CTRL_ACKALL` (R497). -/
def execFltCtrlAckall (s : State) : Host.Outcome State Fault Refusal := s.ends (s.hostWrite P.FLT_CTRL 0 2)

/-- `FLT_CTRL_CLEAR_COUNTERS` (R497). -/
def execFltCtrlClearCounters (s : State) : Host.Outcome State Fault Refusal := s.ends (s.hostWrite P.FLT_CTRL 0 4)

/-- `FLT_CAP0_READ` (R382). -/
def execFltCap0Read (s : State) : Host.Outcome State Fault Refusal := s.ends (s.hostRead P.FLT_CAP0 0)

/-- `HOPPER_WATCHDOG` (R494). -/
def execHopperWatchdog (s : State) : Host.Outcome State Fault Refusal := s.ends s.hopperWatchdog

/-- `HOPPER_MEMORY_ECC` (R494). -/
def execHopperMemoryEcc (uncorrectable : Bool) (s : State) : Host.Outcome State Fault Refusal :=
  s.ends (s.hopperEcc uncorrectable)

/-- `LOCKSTEP_MISMATCH` (R494). -/
def execLockstepMismatch (s : State) : Host.Outcome State Fault Refusal := s.ends s.lockstep

/-- `SYNC_FRAME` (R500). -/
def execSyncFrame (frame : List Byte) (s : State) : Host.Outcome State Fault Refusal :=
  s.ends (s.liveEvent (fun s => s.syncFrame frame))

/-- `SYNC_FRAME_ORIGINATE` (R498). -/
def execSyncFrameOriginate (s : State) : Host.Outcome State Fault Refusal :=
  s.ends (s.liveEvent (fun s => s.syncOriginate))

/-- `SL_LOSS_TIMEOUT` (R506). -/
def execSlLossTimeout (s : State) : Host.Outcome State Fault Refusal := s.ends (s.liveEvent (fun s => s.slLoss))

/-- `REFORM_END` (R503). -/
def execReformEnd (s : State) : Host.Outcome State Fault Refusal := s.ends (s.liveEvent (fun s => s.reformEnd))

/-- `UID_COMPARE` (R505). -/
def execUidCompare (s : State) : Host.Outcome State Fault Refusal := s.ends (s.liveEvent (fun s => s.uidCompare))

/-- `TIME_DIVERGENCE_TIMEOUT` (R509). -/
def execTimeDivergenceTimeout (s : State) : Host.Outcome State Fault Refusal :=
  s.ends (s.liveEvent (fun s => s.timeDiverged))

/-- `HASH_MISMATCH` (R513). -/
def execHashMismatch (s : State) : Host.Outcome State Fault Refusal := s.ends (s.liveEvent (fun s => s.hashMismatch))

/-- `SYNC_HOLD_EXIT` (R514). -/
def execSyncHoldExit (s : State) : Host.Outcome State Fault Refusal := s.ends (s.liveEvent (fun s => s.holdExit))

/-- `SL_ENABLE_WRITE` (R507). -/
def execSlEnableWrite (v : Word) (s : State) : Host.Outcome State Fault Refusal :=
  s.ends (s.hostWrite P.SL_ENABLE 0 v.toNat)

/-- `SL_CTRL_REFORM` (R503). -/
def execSlCtrlReform (s : State) : Host.Outcome State Fault Refusal := s.ends (s.hostWrite P.SL_CTRL 0 1)

/-- `SL_CTRL_RELEASE` (R521). -/
def execSlCtrlRelease (s : State) : Host.Outcome State Fault Refusal := s.ends (s.hostWrite P.SL_CTRL 0 2)

/-- `SL_CTRL_RESUME` (R515). -/
def execSlCtrlResume (s : State) : Host.Outcome State Fault Refusal := s.ends (s.hostWrite P.SL_CTRL 0 3)

/-- `SL_CTRL_CLEAR_COUNTERS` (R526). -/
def execSlCtrlClearCounters (s : State) : Host.Outcome State Fault Refusal := s.ends (s.hostWrite P.SL_CTRL 0 4)

/-- `POWER_ON` (R560). -/
def execPowerOn (s : State) : Host.Outcome State Fault Refusal := s.ends s.powerOn

/-- `SUPPLY_DROP` (R560). -/
def execSupplyDrop (rail : Fin 3) (s : State) : Host.Outcome State Fault Refusal :=
  .next { s.supplyDrop rail.val with pending := s.pending }

/-- `RESET_N` (R566). -/
def execResetN (s : State) : Host.Outcome State Fault Refusal := s.ends s.resetN

/-- `CLOCK_LOSS` (R564). -/
def execClockLoss (s : State) : Host.Outcome State Fault Refusal := s.ends s.clockLoss

/-- `PLL_LOSS_OF_LOCK` (R565). -/
def execPllLossOfLock (s : State) : Host.Outcome State Fault Refusal := s.ends s.pllLoss

/-- `CLOCK_QUALIFIED` (R564). -/
def execClockQualified (s : State) : Host.Outcome State Fault Refusal := s.ends (s.phaseStep .clock .pll)

/-- `PLL_LOCKED` (R565). -/
def execPllLocked (s : State) : Host.Outcome State Fault Refusal := s.ends (s.phaseStep .pll .otp)

/-- `END_OF_DEVICE_RESET` (R570). -/
def execEndOfDeviceReset (otp : List OtpError) (patchBad : Bool) (s : State) : Host.Outcome State Fault Refusal :=
  s.ends (s.resetEnd otp patchBad)

/-- `SELF_TEST_DONE` (R571). -/
def execSelfTestDone (fail : Option (Fin 8)) (s : State) : Host.Outcome State Fault Refusal :=
  s.ends (s.liveEvent (fun s => s.selfTestDone (fail.map Fin.val)))

/-- `FLASH_DIRECTORY_READ` (R332). -/
def execFlashDirectoryRead (s : State) : Host.Outcome State Fault Refusal := s.ends s.directoryRead

/-- `BOOT_IMAGE_LOADED` (R333). -/
def execBootImageLoaded (s : State) : Host.Outcome State Fault Refusal := s.ends s.bootImageLoaded

/-- `VREFIO_READY` (R573). -/
def execVrefioReady (s : State) : Host.Outcome State Fault Refusal := s.ends (s.liveEvent (fun s => s.vrefioReady))

/-- `ICAL_SETTLED` (R574). -/
def execIcalSettled (s : State) : Host.Outcome State Fault Refusal := s.ends (s.liveEvent (fun s => s.icalSettled))

/-- `HOPPER_RESTART_DONE` (R568). -/
def execHopperRestartDone (patchBad : Bool) (s : State) : Host.Outcome State Fault Refusal :=
  s.ends (s.hopperRestartDone patchBad)

/-- `BLOCK_RESET` (R592). -/
def execBlockReset (v : Word) (s : State) : Host.Outcome State Fault Refusal :=
  s.ends (s.hostWrite P.TST_BLKRST 0 v.toNat)

/-- `BLOCK_RESET_DONE` (R569). -/
def execBlockResetDone (b : BitVec 8) (s : State) : Host.Outcome State Fault Refusal :=
  s.ends (s.liveEvent (fun s => s.blockResetDone b.toNat))

/-- `VIOBLOW` (R581). -/
def execVioblow (s : State) : Host.Outcome State Fault Refusal := s.ends s.vioBLow

/-- `VIORANGE` (R581). -/
def execViorange (a b : Bool) (s : State) : Host.Outcome State Fault Refusal := s.ends (s.vioRange a b)

/-- `JTAG_TEST_LOGIC_RESET` (R582). -/
def execJtagTestLogicReset (s : State) : Host.Outcome State Fault Refusal := s.ends (s.tapInstr 0x02 false)

/-- `EXTEST` (R586). -/
def execExtest (s : State) : Host.Outcome State Fault Refusal := s.ends (s.tapLoad 0x00 true)

/-- `SAMPLE_PRELOAD` (R583). -/
def execSamplePreload (balls shifted : BitVec 341) (s : State) : Host.Outcome State Fault Refusal :=
  s.ends (s.samplePreload balls.toNat shifted.toNat)

/-- `IDCODE` (R583). -/
def execIdcode (s : State) : Host.Outcome State Fault Refusal := s.ends s.idcodeRead

/-- `JTAG_CLAMP` (R586). -/
def execJtagClamp (s : State) : Host.Outcome State Fault Refusal := s.ends (s.tapLoad 0x03 true)

/-- `HIGHZ` (R586). -/
def execHighz (s : State) : Host.Outcome State Fault Refusal := s.ends (s.tapLoad 0x04 true)

/-- `RECSEL` (R587). -/
def execRecsel (sel : BitVec 16) (s : State) : Host.Outcome State Fault Refusal := s.ends (s.recSelect sel.toNat)

/-- `RECDATA` (R587). -/
def execRecdata (s : State) : Host.Outcome State Fault Refusal := s.ends s.recRead

/-- `BYPASS` (R583). -/
def execBypass (s : State) : Host.Outcome State Fault Refusal := s.ends (s.tapLoad 0xFF false)

/-- `TESTMODE_N_HIGH` (R589). -/
def execTestmodeNHigh (s : State) : Host.Outcome State Fault Refusal := s.ends s.testPinHigh

/-- `TEST_MODE_IDLE_TIMEOUT` (R589). -/
def execTestModeIdleTimeout (s : State) : Host.Outcome State Fault Refusal := s.ends s.testIdle

/-- `TRACE_MARK` (R593). -/
def execTraceMark (v : Word) (s : State) : Host.Outcome State Fault Refusal := s.ends (s.hostWrite P.TST_MARK 0 v.toNat)

/-- `TST_CTRL_CLEAR_COUNTERS` (R601). -/
def execTstCtrlClearCounters (s : State) : Host.Outcome State Fault Refusal := s.ends (s.hostWrite P.TST_CTRL 0 4)

/-- `TRACE_FIFO_DRAIN` (R594). -/
def execTraceFifoDrain (s : State) : Host.Outcome State Fault Refusal := s.ends s.traceDrain

/-- `RAIL_PRESENCE_CHANGE` (R560). -/
def execRailPresenceChange (rail : Rail) (present : Bool) (s : State) : Host.Outcome State Fault Refusal :=
  s.ends (s.railPresence rail present)

/-- `DEVICE_RESET_CAUSE_END` (R570). -/
def execDeviceResetCauseEnd (s : State) : Host.Outcome State Fault Refusal := s.ends s.causeEnd

/-- `CAPTURE_PARITY_ERROR` (R494). -/
def execCaptureParityError (b : BitVec 8) (s : State) : Host.Outcome State Fault Refusal :=
  s.ends (s.liveEvent (fun s => s.capParity b.toNat))

/-- `EPISODE_END` (R466). -/
def execEpisodeEnd (b d : BitVec 8) (s : State) : Host.Outcome State Fault Refusal :=
  s.ends (s.liveEvent (fun s => s.episodeOver b.toNat d.toNat))

end Sys2Proof.Machine
end

