-- ==== Sys2Proof/Machine/Dispatch.lean ====
section
/-! DEFINITION. The meaning of every command, one arm per row of the opcode table. -/

namespace Sys2Proof.Machine

def exec (i : Instr) (s : State) : Host.Outcome State Fault Refusal :=
  match i with
  | .quadEdge k => Sys2Proof.Machine.execQuadEdge k s
  | .reverseLimit => Sys2Proof.Machine.execReverseLimit s
  | .zEdge => Sys2Proof.Machine.execZEdge s
  | .zmiss => Sys2Proof.Machine.execZmiss s
  | .ssiFrame data startHigh endLow => Sys2Proof.Machine.execSsiFrame data startHigh endLow s
  | .mainsZeroCrossing rising => Sys2Proof.Machine.execMainsZeroCrossing rising s
  | .mainsTimeout => Sys2Proof.Machine.execMainsTimeout s
  | .coastLimit => Sys2Proof.Machine.execCoastLimit s
  | .holdRelease => Sys2Proof.Machine.execHoldRelease s
  | .standstillTimeout => Sys2Proof.Machine.execStandstillTimeout s
  | .encfltPinChange pin level => Sys2Proof.Machine.execEncfltPinChange pin level s
  | .evaluationStep ecc => Sys2Proof.Machine.execEvaluationStep ecc s
  | .timeQueueDue q ecc => Sys2Proof.Machine.execTimeQueueDue q ecc s
  | .whCtrlRun => Sys2Proof.Machine.execWhCtrlRun s
  | .whCtrlStop => Sys2Proof.Machine.execWhCtrlStop s
  | .whCtrlReref => Sys2Proof.Machine.execWhCtrlReref s
  | .whCtrlClearCounters => Sys2Proof.Machine.execWhCtrlClearCounters s
  | .whTqctlEnable q => Sys2Proof.Machine.execWhTqctlEnable q s
  | .whTqctlDisable q => Sys2Proof.Machine.execWhTqctlDisable q s
  | .whTqctlClear q => Sys2Proof.Machine.execWhTqctlClear q s
  | .settlingEnd n => Sys2Proof.Machine.execSettlingEnd n s
  | .acOutWrite n v => Sys2Proof.Machine.execAcOutWrite n v s
  | .acCtrlResume n => Sys2Proof.Machine.execAcCtrlResume n s
  | .acCtrlClearCounters n => Sys2Proof.Machine.execAcCtrlClearCounters n s
  | .ovr n => Sys2Proof.Machine.execOvr n s
  | .inclamp n => Sys2Proof.Machine.execInclamp n s
  | .openin n => Sys2Proof.Machine.execOpenin n s
  | .excflt n => Sys2Proof.Machine.execExcflt n s
  | .outopen n => Sys2Proof.Machine.execOutopen n s
  | .outlim n logBad => Sys2Proof.Machine.execOutlim n logBad s
  | .hvrail n => Sys2Proof.Machine.execHvrail n s
  | .deliveredEdge n x => Sys2Proof.Machine.execDeliveredEdge n x s
  | .blankEnd n => Sys2Proof.Machine.execBlankEnd n s
  | .heldRelease n x => Sys2Proof.Machine.execHeldRelease n x s
  | .cmpThrWrite n v => Sys2Proof.Machine.execCmpThrWrite n v s
  | .cmpCtrlEnable n => Sys2Proof.Machine.execCmpCtrlEnable n s
  | .cmpCtrlDisable n => Sys2Proof.Machine.execCmpCtrlDisable n s
  | .cmpCtrlArm n => Sys2Proof.Machine.execCmpCtrlArm n s
  | .cmpCtrlDisarm n => Sys2Proof.Machine.execCmpCtrlDisarm n s
  | .cmpCtrlResume n => Sys2Proof.Machine.execCmpCtrlResume n s
  | .cmpCtrlClearCounters n => Sys2Proof.Machine.execCmpCtrlClearCounters n s
  | .dacchk n => Sys2Proof.Machine.execDacchk n s
  | .sclk n => Sys2Proof.Machine.execSclk n s
  | .slotBoundary g half => Sys2Proof.Machine.execSlotBoundary g half s
  | .conversionComplete g slice x parity => Sys2Proof.Machine.execConversionComplete g slice x parity s
  | .sliceTimeout g slice => Sys2Proof.Machine.execSliceTimeout g slice s
  | .sarCtrlStart g list => Sys2Proof.Machine.execSarCtrlStart g list s
  | .sarCtrlStop g => Sys2Proof.Machine.execSarCtrlStop g s
  | .sarCtrlResume g => Sys2Proof.Machine.execSarCtrlResume g s
  | .sarCtrlClearCounters g => Sys2Proof.Machine.execSarCtrlClearCounters g s
  | .syscalClear c => Sys2Proof.Machine.execSyscalClear c s
  | .syscalZero c => Sys2Proof.Machine.execSyscalZero c s
  | .syscalFull c => Sys2Proof.Machine.execSyscalFull c s
  | .syscalApply c => Sys2Proof.Machine.execSyscalApply c s
  | .syscalDone g => Sys2Proof.Machine.execSyscalDone g s
  | .syscalTimeout g => Sys2Proof.Machine.execSyscalTimeout g s
  | .refsetElapsed b => Sys2Proof.Machine.execRefsetElapsed b s
  | .refoot b => Sys2Proof.Machine.execRefoot b s
  | .sarclk g => Sys2Proof.Machine.execSarclk g s
  | .integrationEnd conv => Sys2Proof.Machine.execIntegrationEnd conv s
  | .overheadEnd conv x parity => Sys2Proof.Machine.execOverheadEnd conv x parity s
  | .cycleWindowTimeout conv => Sys2Proof.Machine.execCycleWindowTimeout conv s
  | .overheadTimeout conv => Sys2Proof.Machine.execOverheadTimeout conv s
  | .icCtrlStart conv slot => Sys2Proof.Machine.execIcCtrlStart conv slot s
  | .icCtrlStop conv => Sys2Proof.Machine.execIcCtrlStop conv s
  | .icCtrlResume conv => Sys2Proof.Machine.execIcCtrlResume conv s
  | .icCtrlClearCounters conv => Sys2Proof.Machine.execIcCtrlClearCounters conv s
  | .laneOutput n => Sys2Proof.Machine.execLaneOutput n s
  | .angleBlockTimeout n => Sys2Proof.Machine.execAngleBlockTimeout n s
  | .laneStall n => Sys2Proof.Machine.execLaneStall n s
  | .flCtrlResume n => Sys2Proof.Machine.execFlCtrlResume n s
  | .flCtrlRestart n => Sys2Proof.Machine.execFlCtrlRestart n s
  | .flCtrlClearCounters n => Sys2Proof.Machine.execFlCtrlClearCounters n s
  | .flDcmWrite n v => Sys2Proof.Machine.execFlDcmWrite n v s
  | .fabRamdatAccess r write => Sys2Proof.Machine.execFabRamdatAccess r write s
  | .fabricMbPost k payload => Sys2Proof.Machine.execFabricMbPost k payload s
  | .fabricMbTake k => Sys2Proof.Machine.execFabricMbTake k s
  | .timerCapture n => Sys2Proof.Machine.execTimerCapture n s
  | .timerCompare n => Sys2Proof.Machine.execTimerCompare n s
  | .timerTrigger n => Sys2Proof.Machine.execTimerTrigger n s
  | .tmCtrlStart n => Sys2Proof.Machine.execTmCtrlStart n s
  | .tmCtrlStop n => Sys2Proof.Machine.execTmCtrlStop n s
  | .tmCtrlResume n => Sys2Proof.Machine.execTmCtrlResume n s
  | .tmCtrlClearCounters n => Sys2Proof.Machine.execTmCtrlClearCounters n s
  | .tmCtrlTrig n => Sys2Proof.Machine.execTmCtrlTrig n s
  | .tmLastangRead n => Sys2Proof.Machine.execTmLastangRead n s
  | .configScrub bad => Sys2Proof.Machine.execConfigScrub bad s
  | .fclkLoss => Sys2Proof.Machine.execFclkLoss s
  | .fabCtrlResume => Sys2Proof.Machine.execFabCtrlResume s
  | .fabCtrlClearCounters => Sys2Proof.Machine.execFabCtrlClearCounters s
  | .fabCtrlReinit => Sys2Proof.Machine.execFabCtrlReinit s
  | .timedPlan => Sys2Proof.Machine.execTimedPlan s
  | .blockGated b => Sys2Proof.Machine.execBlockGated b s
  | .thermalSample temps currents => Sys2Proof.Machine.execThermalSample temps currents s
  | .klCtrlRun c => Sys2Proof.Machine.execKlCtrlRun c s
  | .klCtrlIdle c => Sys2Proof.Machine.execKlCtrlIdle c s
  | .klCtrlHibernate c => Sys2Proof.Machine.execKlCtrlHibernate c s
  | .klCtrlResume c => Sys2Proof.Machine.execKlCtrlResume c s
  | .klCtrlClearCounters => Sys2Proof.Machine.execKlCtrlClearCounters s
  | .wakeTimer => Sys2Proof.Machine.execWakeTimer s
  | .hibernateExit => Sys2Proof.Machine.execHibernateExit s
  | .spareCalStart g => Sys2Proof.Machine.execSpareCalStart g s
  | .spareCalDone g zero full vcr => Sys2Proof.Machine.execSpareCalDone g zero full vcr s
  | .spareCalTimeout g => Sys2Proof.Machine.execSpareCalTimeout g s
  | .calStepDone ic x => Sys2Proof.Machine.execCalStepDone ic x s
  | .injectionRecoveryEnd n => Sys2Proof.Machine.execInjectionRecoveryEnd n s
  | .calRunTimeout => Sys2Proof.Machine.execCalRunTimeout s
  | .outputBlendTick idx => Sys2Proof.Machine.execOutputBlendTick idx s
  | .calCtrlStart c => Sys2Proof.Machine.execCalCtrlStart c s
  | .calCtrlAbort c => Sys2Proof.Machine.execCalCtrlAbort c s
  | .calCtrlCommit c => Sys2Proof.Machine.execCalCtrlCommit c s
  | .calCtrlRetrig => Sys2Proof.Machine.execCalCtrlRetrig s
  | .calCtrlClearCounters => Sys2Proof.Machine.execCalCtrlClearCounters s
  | .calCoefWrite gain v => Sys2Proof.Machine.execCalCoefWrite gain v s
  | .gristOpen p => Sys2Proof.Machine.execGristOpen p s
  | .gristData p => Sys2Proof.Machine.execGristData p s
  | .gristClose p => Sys2Proof.Machine.execGristClose p s
  | .gristCheckDone => Sys2Proof.Machine.execGristCheckDone s
  | .gristLoadTimeout => Sys2Proof.Machine.execGristLoadTimeout s
  | .restoreDone => Sys2Proof.Machine.execRestoreDone s
  | .autocommit => Sys2Proof.Machine.execAutocommit s
  | .gristInfo p => Sys2Proof.Machine.execGristInfo p s
  | .keyProgram p => Sys2Proof.Machine.execKeyProgram p s
  | .bankRead p => Sys2Proof.Machine.execBankRead p s
  | .flashRead p => Sys2Proof.Machine.execFlashRead p s
  | .flashErase p => Sys2Proof.Machine.execFlashErase p s
  | .flashWrite p => Sys2Proof.Machine.execFlashWrite p s
  | .flashOpDone => Sys2Proof.Machine.execFlashOpDone s
  | .grCtrlArm => Sys2Proof.Machine.execGrCtrlArm s
  | .grCtrlAbort => Sys2Proof.Machine.execGrCtrlAbort s
  | .grCtrlCommit => Sys2Proof.Machine.execGrCtrlCommit s
  | .grCtrlRollback => Sys2Proof.Machine.execGrCtrlRollback s
  | .grCtrlImmediate => Sys2Proof.Machine.execGrCtrlImmediate s
  | .grCtrlFlash => Sys2Proof.Machine.execGrCtrlFlash s
  | .grCtrlKeyrevoke slot => Sys2Proof.Machine.execGrCtrlKeyrevoke slot s
  | .grCtrlClearCounters => Sys2Proof.Machine.execGrCtrlClearCounters s
  | .nop p => Sys2Proof.Machine.execNop p s
  | .sessionOpen p => Sys2Proof.Machine.execSessionOpen p s
  | .sessionClose p => Sys2Proof.Machine.execSessionClose p s
  | .identify p => Sys2Proof.Machine.execIdentify p s
  | .ownTake p => Sys2Proof.Machine.execOwnTake p s
  | .ownRelease p => Sys2Proof.Machine.execOwnRelease p s
  | .ownQuery p => Sys2Proof.Machine.execOwnQuery p s
  | .echo p => Sys2Proof.Machine.execEcho p s
  | .getTime p => Sys2Proof.Machine.execGetTime p s
  | .getStatus p => Sys2Proof.Machine.execGetStatus p s
  | .resetHopperRestart p => Sys2Proof.Machine.execResetHopperRestart p s
  | .resetDevice p => Sys2Proof.Machine.execResetDevice p s
  | .getParam p => Sys2Proof.Machine.execGetParam p s
  | .setParam p => Sys2Proof.Machine.execSetParam p s
  | .getMulti p => Sys2Proof.Machine.execGetMulti p s
  | .setMulti p => Sys2Proof.Machine.execSetMulti p s
  | .getRange p => Sys2Proof.Machine.execGetRange p s
  | .setGroup p => Sys2Proof.Machine.execSetGroup p s
  | .commit p => Sys2Proof.Machine.execCommit p s
  | .groupCancel p => Sys2Proof.Machine.execGroupCancel p s
  | .groupLapse port => Sys2Proof.Machine.execGroupLapse port s
  | .paramInfo p => Sys2Proof.Machine.execParamInfo p s
  | .setBits p => Sys2Proof.Machine.execSetBits p s
  | .postAction p => Sys2Proof.Machine.execPostAction p s
  | .cancelAction p => Sys2Proof.Machine.execCancelAction p s
  | .clearQueue p => Sys2Proof.Machine.execClearQueue p s
  | .postMulti p => Sys2Proof.Machine.execPostMulti p s
  | .readQueue p ecc => Sys2Proof.Machine.execReadQueue p ecc s
  | .readAction p ecc => Sys2Proof.Machine.execReadAction p ecc s
  | .getAngle p => Sys2Proof.Machine.execGetAngle p s
  | .waitBin p => Sys2Proof.Machine.execWaitBin p s
  | .readResult p => Sys2Proof.Machine.execReadResult p s
  | .readLane p => Sys2Proof.Machine.execReadLane p s
  | .scanLoad p => Sys2Proof.Machine.execScanLoad p s
  | .coefLoad p => Sys2Proof.Machine.execCoefLoad p s
  | .coefRead p => Sys2Proof.Machine.execCoefRead p s
  | .scanRead p => Sys2Proof.Machine.execScanRead p s
  | .coefGet p => Sys2Proof.Machine.execCoefGet p s
  | .coefPut p => Sys2Proof.Machine.execCoefPut p s
  | .coefDump p => Sys2Proof.Machine.execCoefDump p s
  | .streamRead p poolBad => Sys2Proof.Machine.execStreamRead p poolBad s
  | .streamStatus p => Sys2Proof.Machine.execStreamStatus p s
  | .streamFlush p => Sys2Proof.Machine.execStreamFlush p s
  | .mbRead p => Sys2Proof.Machine.execMbRead p s
  | .mbWrite p => Sys2Proof.Machine.execMbWrite p s
  | .mbStatus p => Sys2Proof.Machine.execMbStatus p s
  | .faultSummary p => Sys2Proof.Machine.execFaultSummary p s
  | .faultRead p => Sys2Proof.Machine.execFaultRead p s
  | .faultAck c => Sys2Proof.Machine.execFaultAck c s
  | .logRead p bad => Sys2Proof.Machine.execLogRead p bad s
  | .logClear c => Sys2Proof.Machine.execLogClear c s
  | .kilnReport p => Sys2Proof.Machine.execKilnReport p s
  | .kilnJobs p => Sys2Proof.Machine.execKilnJobs p s
  | .slStatus p => Sys2Proof.Machine.execSlStatus p s
  | .slRole p => Sys2Proof.Machine.execSlRole p s
  | .slCopy p => Sys2Proof.Machine.execSlCopy p s
  | .slTakeover p => Sys2Proof.Machine.execSlTakeover p s
  | .testEnter p pinLow => Sys2Proof.Machine.execTestEnter p pinLow s
  | .testResponse p => Sys2Proof.Machine.execTestResponse p s
  | .testExit p => Sys2Proof.Machine.execTestExit p s
  | .faultInject p => Sys2Proof.Machine.execFaultInject p s
  | .memRead p => Sys2Proof.Machine.execMemRead p s
  | .traceRead p ecc => Sys2Proof.Machine.execTraceRead p ecc s
  | .traceStart c => Sys2Proof.Machine.execTraceStart c s
  | .traceStop c => Sys2Proof.Machine.execTraceStop c s
  | .traceClear c => Sys2Proof.Machine.execTraceClear c s
  | .pendingTimeout port seq => Sys2Proof.Machine.execPendingTimeout port seq s
  | .gen1Nop => Sys2Proof.Machine.execGen1Nop s
  | .gen1FrameDiscard => Sys2Proof.Machine.execGen1FrameDiscard s
  | .readId c => Sys2Proof.Machine.execReadId c s
  | .readStatus c => Sys2Proof.Machine.execReadStatus c s
  | .softReset c => Sys2Proof.Machine.execSoftReset c s
  | .setGain c => Sys2Proof.Machine.execSetGain c s
  | .getGain c => Sys2Proof.Machine.execGetGain c s
  | .setFilter c => Sys2Proof.Machine.execSetFilter c s
  | .setMode c => Sys2Proof.Machine.execSetMode c s
  | .startScan c => Sys2Proof.Machine.execStartScan c s
  | .stopScan c => Sys2Proof.Machine.execStopScan c s
  | .readCh c => Sys2Proof.Machine.execReadCh c s
  | .setRate c => Sys2Proof.Machine.execSetRate c s
  | .setThrh c => Sys2Proof.Machine.execSetThrh c s
  | .setThrl c => Sys2Proof.Machine.execSetThrl c s
  | .persCmpCtrl c => Sys2Proof.Machine.execPersCmpCtrl c s
  | .readCmp c => Sys2Proof.Machine.execReadCmp c s
  | .setOut c => Sys2Proof.Machine.execSetOut c s
  | .readBlock c => Sys2Proof.Machine.execReadBlock c s
  | .xsel c => Sys2Proof.Machine.execXsel c s
  | .xrdlo c => Sys2Proof.Machine.execXrdlo c s
  | .xrdhi c => Sys2Proof.Machine.execXrdhi c s
  | .xwrlo c => Sys2Proof.Machine.execXwrlo c s
  | .xwrhi c => Sys2Proof.Machine.execXwrhi c s
  | .faithfulReplyRelease port => Sys2Proof.Machine.execFaithfulReplyRelease port s
  | .s2Read whole => Sys2Proof.Machine.execS2Read whole s
  | .s2Status => Sys2Proof.Machine.execS2Status s
  | .s2WriteAbort => Sys2Proof.Machine.execS2WriteAbort s
  | .uFrameGap complete => Sys2Proof.Machine.execUFrameGap complete s
  | .uTransmit collision => Sys2Proof.Machine.execUTransmit collision s
  | .linkTimeout port => Sys2Proof.Machine.execLinkTimeout port s
  | .phyPoll r => Sys2Proof.Machine.execPhyPoll r s
  | .dhcpMessage m => Sys2Proof.Machine.execDhcpMessage m s
  | .dhcpRenew => Sys2Proof.Machine.execDhcpRenew s
  | .dhcpRebind => Sys2Proof.Machine.execDhcpRebind s
  | .dhcpLeaseExpiry => Sys2Proof.Machine.execDhcpLeaseExpiry s
  | .arpRequest target sender => Sys2Proof.Machine.execArpRequest target sender s
  | .ethFrameDiscard cause => Sys2Proof.Machine.execEthFrameDiscard cause s
  | .ptpAnnounce m => Sys2Proof.Machine.execPtpAnnounce m s
  | .ptpSync m => Sys2Proof.Machine.execPtpSync m s
  | .ptpFollowUp m => Sys2Proof.Machine.execPtpFollowUp m s
  | .ptpDelayResp m => Sys2Proof.Machine.execPtpDelayResp m s
  | .ptpDelayReqSend => Sys2Proof.Machine.execPtpDelayReqSend s
  | .ptpTimeout => Sys2Proof.Machine.execPtpTimeout s
  | .eventHoldoffExpiry => Sys2Proof.Machine.execEventHoldoffExpiry s
  | .hpPortenWrite v => Sys2Proof.Machine.execHpPortenWrite v s
  | .hpPctrlClearCounters => Sys2Proof.Machine.execHpPctrlClearCounters s
  | .hpTimelRead => Sys2Proof.Machine.execHpTimelRead s
  | .hpPtpofslRead => Sys2Proof.Machine.execHpPtpofslRead s
  | .mbRelay k => Sys2Proof.Machine.execMbRelay k s
  | .mbRelayTimeout k => Sys2Proof.Machine.execMbRelayTimeout k s
  | .mbCtrlClear n => Sys2Proof.Machine.execMbCtrlClear n s
  | .mbCtrlClearCounters n => Sys2Proof.Machine.execMbCtrlClearCounters n s
  | .streamDatagramSend n poolBad => Sys2Proof.Machine.execStreamDatagramSend n poolBad s
  | .stCtrlEnable n => Sys2Proof.Machine.execStCtrlEnable n s
  | .stCtrlDisable n => Sys2Proof.Machine.execStCtrlDisable n s
  | .stCtrlFlush n => Sys2Proof.Machine.execStCtrlFlush n s
  | .stMark n tag => Sys2Proof.Machine.execStMark n tag s
  | .stCtrlClearCounters n => Sys2Proof.Machine.execStCtrlClearCounters n s
  | .stPoolctrlResume => Sys2Proof.Machine.execStPoolctrlResume s
  | .stPoolctrlClear => Sys2Proof.Machine.execStPoolctrlClear s
  | .freelistCheck bad => Sys2Proof.Machine.execFreelistCheck bad s
  | .graceExpiry b => Sys2Proof.Machine.execGraceExpiry b s
  | .maskWindowClose b => Sys2Proof.Machine.execMaskWindowClose b s
  | .fltCtrlAckall => Sys2Proof.Machine.execFltCtrlAckall s
  | .fltCtrlClearCounters => Sys2Proof.Machine.execFltCtrlClearCounters s
  | .fltCap0Read => Sys2Proof.Machine.execFltCap0Read s
  | .hopperWatchdog => Sys2Proof.Machine.execHopperWatchdog s
  | .hopperMemoryEcc uncorrectable => Sys2Proof.Machine.execHopperMemoryEcc uncorrectable s
  | .lockstepMismatch => Sys2Proof.Machine.execLockstepMismatch s
  | .syncFrame frame => Sys2Proof.Machine.execSyncFrame frame s
  | .syncFrameOriginate => Sys2Proof.Machine.execSyncFrameOriginate s
  | .slLossTimeout => Sys2Proof.Machine.execSlLossTimeout s
  | .reformEnd => Sys2Proof.Machine.execReformEnd s
  | .uidCompare => Sys2Proof.Machine.execUidCompare s
  | .timeDivergenceTimeout => Sys2Proof.Machine.execTimeDivergenceTimeout s
  | .hashMismatch => Sys2Proof.Machine.execHashMismatch s
  | .syncHoldExit => Sys2Proof.Machine.execSyncHoldExit s
  | .slEnableWrite v => Sys2Proof.Machine.execSlEnableWrite v s
  | .slCtrlReform => Sys2Proof.Machine.execSlCtrlReform s
  | .slCtrlRelease => Sys2Proof.Machine.execSlCtrlRelease s
  | .slCtrlResume => Sys2Proof.Machine.execSlCtrlResume s
  | .slCtrlClearCounters => Sys2Proof.Machine.execSlCtrlClearCounters s
  | .powerOn => Sys2Proof.Machine.execPowerOn s
  | .supplyDrop rail => Sys2Proof.Machine.execSupplyDrop rail s
  | .resetN => Sys2Proof.Machine.execResetN s
  | .clockLoss => Sys2Proof.Machine.execClockLoss s
  | .pllLossOfLock => Sys2Proof.Machine.execPllLossOfLock s
  | .clockQualified => Sys2Proof.Machine.execClockQualified s
  | .pllLocked => Sys2Proof.Machine.execPllLocked s
  | .endOfDeviceReset otp patchBad => Sys2Proof.Machine.execEndOfDeviceReset otp patchBad s
  | .selfTestDone fail => Sys2Proof.Machine.execSelfTestDone fail s
  | .flashDirectoryRead => Sys2Proof.Machine.execFlashDirectoryRead s
  | .bootImageLoaded => Sys2Proof.Machine.execBootImageLoaded s
  | .vrefioReady => Sys2Proof.Machine.execVrefioReady s
  | .icalSettled => Sys2Proof.Machine.execIcalSettled s
  | .hopperRestartDone patchBad => Sys2Proof.Machine.execHopperRestartDone patchBad s
  | .blockReset v => Sys2Proof.Machine.execBlockReset v s
  | .blockResetDone b => Sys2Proof.Machine.execBlockResetDone b s
  | .vioblow => Sys2Proof.Machine.execVioblow s
  | .viorange a b => Sys2Proof.Machine.execViorange a b s
  | .jtagTestLogicReset => Sys2Proof.Machine.execJtagTestLogicReset s
  | .extest => Sys2Proof.Machine.execExtest s
  | .samplePreload balls shifted => Sys2Proof.Machine.execSamplePreload balls shifted s
  | .idcode => Sys2Proof.Machine.execIdcode s
  | .jtagClamp => Sys2Proof.Machine.execJtagClamp s
  | .highz => Sys2Proof.Machine.execHighz s
  | .recsel sel => Sys2Proof.Machine.execRecsel sel s
  | .recdata => Sys2Proof.Machine.execRecdata s
  | .bypass => Sys2Proof.Machine.execBypass s
  | .testmodeNHigh => Sys2Proof.Machine.execTestmodeNHigh s
  | .testModeIdleTimeout => Sys2Proof.Machine.execTestModeIdleTimeout s
  | .traceMark v => Sys2Proof.Machine.execTraceMark v s
  | .tstCtrlClearCounters => Sys2Proof.Machine.execTstCtrlClearCounters s
  | .traceFifoDrain => Sys2Proof.Machine.execTraceFifoDrain s
  | .commandPacketRejected p why => Sys2Proof.Machine.execCommandPacketRejected p why s
  | .gen1FrameRejected op undefinedOp => Sys2Proof.Machine.execGen1FrameRejected op undefinedOp s
  | .uFramingError => Sys2Proof.Machine.execUFramingError s
  | .hostPortActivityWake port => Sys2Proof.Machine.execHostPortActivityWake port s
  | .crossingAtTheTap n x => Sys2Proof.Machine.execCrossingAtTheTap n x s
  | .urgentRequestDispatch n => Sys2Proof.Machine.execUrgentRequestDispatch n s
  | .fabricClockEdge e => Sys2Proof.Machine.execFabricClockEdge e s
  | .blockPowered b => Sys2Proof.Machine.execBlockPowered b s
  | .keyProgramComplete => Sys2Proof.Machine.execKeyProgramComplete s
  | .railPresenceChange rail present => Sys2Proof.Machine.execRailPresenceChange rail present s
  | .deviceResetCauseEnd => Sys2Proof.Machine.execDeviceResetCauseEnd s
  | .captureParityError b => Sys2Proof.Machine.execCaptureParityError b s
  | .episodeEnd b d => Sys2Proof.Machine.execEpisodeEnd b d s

end Sys2Proof.Machine
end

