-- ==== Sys2Proof/Machine/Balls.lean ====
section
/-! DEFINITION. The balls of the package (chapter Husk: balls, pins and function switching, R527–R532, R540): what each of the
484 carries, and how the core drives those of Table 18.3. -/

namespace Sys2Proof.Machine

/-- Signals of Table 18.3, the balls of rows A, B, AB and AC. -/
inductive Dedicated
  | s1CsN | s1Sck | s1Mosi | s1Miso | s2CsN | s2Sck | s2Io (n : Nat)
  | uRxd | uTxd | uDe | irqN | fCsN | fSck | fMosi | fMiso | resetN | faultN | testmodeN
  | rmiiRefclk | rmiiTxen | rmiiTxd (n : Nat) | rmiiCrsdv | rmiiRxd (n : Nat) | rmiiRxer | mdc | mdio
  | xtalIn | xtalOut | slRxp | slRxn | slTxp | slTxn | slBypN | encA | encB | encZ | ssiClk | ssiDat
deriving DecidableEq, Repr

/-- JTAG balls, column 20 (R531). -/
inductive Jtag
  | tck | tms | tdi | tdo | trstN
deriving DecidableEq, Repr

/-- What a ball carries (Table 18.2). -/
inductive BallNet
  | vcore | dvss | vioA | vioB | avdd | avpos | avneg | agnd
  | cellP (n : Nat) | cellN (n : Nat) | calresA | calresB | vrefio | mainsP | mainsN
  | gp (p : Nat) | jtag (j : Jtag) | dedicated (x : Dedicated)
deriving DecidableEq, Repr

/-- Table 18.3, row by row from column 11. -/
def rowA : List BallNet :=
  [.dedicated .s1CsN, .dedicated .s1Sck, .dedicated .s1Mosi, .dedicated .s1Miso, .dedicated .s2CsN, .dedicated .s2Sck,
   .dedicated (.s2Io 0), .dedicated (.s2Io 1), .dedicated (.s2Io 2), .dedicated (.s2Io 3), .vioA, .dvss]
def rowB : List BallNet :=
  [.dedicated .uRxd, .dedicated .uTxd, .dedicated .uDe, .dedicated .irqN, .dedicated .fCsN, .dedicated .fSck,
   .dedicated .fMosi, .dedicated .fMiso, .dedicated .resetN, .dedicated .faultN, .dedicated .testmodeN, .vioA]
def rowAB : List BallNet :=
  [.dvss, .dedicated .rmiiRefclk, .dedicated .rmiiTxen, .dedicated (.rmiiTxd 0), .dedicated (.rmiiTxd 1),
   .dedicated .rmiiCrsdv, .dedicated (.rmiiRxd 0), .dedicated (.rmiiRxd 1), .dedicated .rmiiRxer, .dedicated .mdc,
   .dedicated .mdio, .vioB]
def rowAC : List BallNet :=
  [.dedicated .xtalIn, .dedicated .xtalOut, .dedicated .slRxp, .dedicated .slRxn, .dedicated .slTxp, .dedicated .slTxn,
   .dedicated .slBypN, .dedicated .encA, .dedicated .encB, .dedicated .encZ, .dedicated .ssiClk, .dedicated .ssiDat]

/-- Column 9 (Table 18.2). -/
def supplyColumn (r : Nat) : BallNet :=
  if r ≤ 6 ∨ (18 ≤ r ∧ r ≤ 21) then .avdd
  else if 8 ≤ r ∧ r ≤ 11 then .avpos
  else if 13 ≤ r ∧ r ≤ 16 then .avneg
  else .agnd

/-- Column 20, rows C to AA. -/
def jtagColumn (r : Nat) : BallNet :=
  if r ≤ 14 then .gp (r + 33)
  else if r = 15 then .jtag .tck
  else if r = 16 then .jtag .tms
  else if r = 17 then .jtag .tdi
  else if r = 18 then .jtag .tdo
  else if r = 19 then .jtag .trstN
  else .dvss

/-- The ball in the row of index `r` and column `c`, 1–22 each (R528–R530). -/
def ballNet (r c : Nat) : BallNet :=
  if c = 3 ∨ c = 6 then .agnd
  else if c ≤ 8 then
    if r = 22 ∧ 4 ≤ c then nthD .agnd [.calresA, .calresB, .agnd, .vrefio, .agnd] (c - 4)
    else if c % 3 = 1 then .cellP (3 * (r - 1) + c / 3)
    else .cellN (3 * (r - 1) + c / 3)
  else if c = 9 then supplyColumn r
  else if c = 10 then (if r = 11 then .mainsP else if r = 12 then .mainsN else .agnd)
  else if r ≤ 2 ∨ 21 ≤ r then
    nthD .dvss (if r = 1 then rowA else if r = 2 then rowB else if r = 21 then rowAB else rowAC) (c - 11)
  else if c = 11 then (if r % 2 = 0 then .dvss else if r ≤ 11 then .vioA else .vioB)
  else if c ≤ 19 then (if (r + c) % 2 = 0 then .vcore else .dvss)
  else if c = 20 then jtagColumn r
  else if c = 21 then .gp (r + 15)
  else .gp (r - 3)

/-- Row index and column of the balls of cell `n` (R529). -/
def cellBallP (n : Nat) : Nat × Nat := (n / 3 + 1, 3 * (n % 3) + 1)
def cellBallN (n : Nat) : Nat × Nat := (n / 3 + 1, 3 * (n % 3) + 2)

/-- Row index and column of general pin `p`'s ball (R530). -/
def gpBall (p : Nat) : Nat × Nat :=
  if p ≤ 17 then (p + 3, 22) else if p ≤ 35 then (p - 15, 21) else (p - 33, 20)

/-- Every ball's net, row by row. -/
def allBalls : List BallNet :=
  (List.range 22).flatMap (fun r => (List.range 22).map (fun c => ballNet (r + 1) (c + 1)))

/-- A ball that carries no supply or ground. -/
def BallNet.isSignal (b : BallNet) : Bool :=
  !(b == .vcore || b == .dvss || b == .vioA || b == .vioB || b == .avdd || b == .avpos || b == .avneg || b == .agnd)

/-! ### What the core drives -/

/-- What the device does at a dedicated ball: it takes an input, drives nothing, drives a level, or its block runs it by its own
protocol. -/
inductive BallDrive
  | input
  | off
  | low
  | high
  | running
deriving DecidableEq, Repr

/-- A ball of bank VIO_A (Table 18.3). -/
def Dedicated.onVioA : Dedicated → Bool
  | .s1CsN | .s1Sck | .s1Mosi | .s1Miso | .s2CsN | .s2Sck | .s2Io _ | .uRxd | .uTxd | .uDe | .irqN | .fCsN | .fSck | .fMosi
  | .fMiso | .resetN | .faultN | .testmodeN => true
  | _ => false

/-- An input ball. -/
def Dedicated.isInput : Dedicated → Bool
  | .s1CsN | .s1Sck | .s1Mosi | .s2CsN | .s2Sck | .uRxd | .fMiso | .resetN | .testmodeN | .rmiiRefclk | .rmiiCrsdv | .rmiiRxd _
  | .rmiiRxer | .slRxp | .slRxn | .encA | .encB | .encZ | .ssiDat => true
  | _ => false

/-- A state during device reset (Table 18.3, R482): outputs off, SL_BYP_N low, FAULT_N low in Halt alone. -/
def Dedicated.inReset (halted : Bool) (x : Dedicated) : BallDrive :=
  if x.isInput then .input
  else match x with
    | .slBypN => .low
    | .faultN => if halted then .low else .off
    | .xtalIn | .xtalOut => .running
    | _ => .off

/-- A level as a drive. -/
def BallDrive.ofLevel (b : Bool) : BallDrive := if b then .high else .low

/-- A state from the end of device reset on (Table 18.3): the owning block's drive where it has one under way. Transfers of S1,
S2, Port E, MDIO and SSI each lie within one command, so that between commands their outputs are idle (DEDUCED, log entry
135). A port that is off drives nothing (R396). -/
def State.dedicatedRun (s : State) (x : Dedicated) : BallDrive :=
  if x.isInput then .input
  else match x with
    | .uTxd => if s.uDeHigh then .running else if s.portOn 3 then .high else .off
    | .uDe => .ofLevel s.uDeHigh
    | .irqN => if s.irqLow then .low else .off
    | .fCsN => if s.portFBusy || s.grist.flashOp.isSome then .running else .high
    | .fSck | .fMosi => if s.portFBusy || s.grist.flashOp.isSome then .running else .low
    | .faultN => if s.faultNLow then .low else .off
    | .rmiiTxen | .rmiiTxd _ | .mdc => .low
    | .slTxp | .slTxn => if s.par P.SL_ENABLE = 1 then .running else .off
    | .slBypN => .ofLevel s.slBypCore
    | .ssiClk => .high
    | .xtalIn | .xtalOut => .running
    | _ => .off

/-- The core's drive of a dedicated ball (R532); `none` where its bank has no valid supply. -/
def State.dedicatedDrive (s : State) (x : Dedicated) : Option BallDrive :=
  if (if x.onVioA then s.pwr.vioA else s.pwr.vioB) = false then none
  else if s.pwr.phase ≠ .running then some (x.inReset s.flt.halted)
  else some (s.dedicatedRun x)

/-- General pin `p` switches with fast slew: by its entry, or because a reflex track drives it (R540). -/
def State.pinFast (s : State) (p : Nat) : Bool :=
  let e := s.pinEntry p
  e.fast || (e.func == 1 && s.fab.live.loaded && (Config.reflexLines s.fab.live.bytes).getLsbD p)

end Sys2Proof.Machine
end

