-- ==== Sys2Proof/Safety.lean ====
section
/-! DEFINITION. What counts as a safe run, and the vocabulary of claims: runs of steps, states that need nothing more at an edge,
packets that pass the steps of acceptance, and the Halt latch. -/

namespace Sys2Proof.Machine

/-- `s` reaches `t` in exactly `n` steps, none of which stops. -/
def Reaches : Nat → State → State → Prop
  | 0, s, t => s = t
  | n + 1, s, t => ∃ u, step s = .next u ∧ Reaches n u t

/-- A safe run: the next `n` steps from `s` all answer a next state. -/
def SafeRun (n : Nat) (s : State) : Prop := ∃ t, Reaches n s t

/-- A command of the table takes the core supply away. -/
def isSupplyDrop : Instr → Bool
  | .supplyDrop _ => true
  | _ => false

/-- Halt is latched, and no waiting command takes the core supply away (R482). -/
def HaltLatched (s : State) : Prop := s.flt.halted = true ∧ s.pending.all (fun c => !isSupplyDrop c) = true

/-- Out of device reset no event of an edge still waits for its trace entry after that edge (R594). -/
def TraceTaken (s : State) : Prop := s.pwr.phase = .running → s.trcPend = []

/-- After a command that turned `s0` into `s` nothing more happens at the edge: no record, trace event, reply on Port E, reset or
personality reply waits, no watched state has changed, the pins are driven as before, and no attention bit has risen. -/
structure Settled (s0 s : State) : Prop where
  running : s.pwr.phase = .running
  queue : s.pending = s0.pending
  halt : s.flt.halted = s0.flt.halted
  records : s.todo = []
  events : s.trcPend = []
  noInjection : s.cal.injected = none
  noSpareWait : s.cal.spares = []
  noSpare : s.cal.spareOf = none
  noPersonality : s.hp.waits = []
  noReplyE : (s.session 4).ready = []
  noReset : s.pwr.resetDue = none
  engine : s.eng = s0.eng
  grist : s.grist = s0.grist
  swaps : ∀ c ∈ s.grist.waiting.map Prod.fst, tblGet 0 s.grist.waiting c ≠ 0
  kiln : s.kiln.state = s0.kiln.state
  owner : s.par P.HP_OWNER = s0.par P.HP_OWNER
  ring : s.sl.state = s0.sl.state
  accepts : s.hopperAccepts = s0.hopperAccepts
  pinWords : ∀ p, s.pinWord p = s0.pinWord p
  pinSafe : ∀ p, s.pinSafe p = s0.pinSafe p
  pinDrive : ∀ p, s.pinDrive p = s0.pinDrive p
  encoder : s.encfltPins = s.eng.encFault
  attention : s.eventBits = s.hp.eth.irqSeen

/-! ### Packets (Table 12.5) -/

/-- The command that packet `p` is, as one of native opcode `op`. -/
def nativeCmd (p : Packet) (op : Nat) : Cmd := packetCmd p (nativeByte p op)

/-- The state once packet `p` has arrived on its port, past step 4. -/
def State.arrival (s : State) (p : Packet) (op : Nat) : State := (s.addressed p).arrived (nativeCmd p op)

/-- Steps 1 to 7 pass for packet `p` with native opcode `op`: its port takes it, its session is open unless the opcode needs none
(`free`), its sequence number is the one expected, and a queue entry, a pending slot where it needs one (`pend`), and its packet
buffers are free. -/
structure State.Admits (s : State) (p : Packet) (op : Nat) (free pend : Bool) : Prop where
  form : nativeOk p op = true
  heard : s.hears (portCode p.port) = true
  session : free = true ∨ (((s.arrival p op).session (portCode p.port)).isOpen = true
    ∧ p.seq.toNat = ((s.arrival p op).session (portCode p.port)).expSeq)
  entry : ((s.arrival p op).hp.waits.filter (fun w => w.port == portCode p.port)).length < 4
  slot : pend = true → ((s.arrival p op).session (portCode p.port)).slots.length < 4
  buffers : packetBufs p.payload.length ≤ (s.arrival p op).sharedBufs

/-- The state in which an admitted packet's command executes: its arrival is noted, and steps 1 to 7 are passed. -/
def State.admitted (s : State) (p : Packet) (op : Nat) : State :=
  let s := s.arrival p op
  { s with pool := { s.pool with low := min s.pool.low (s.freeBufs - packetBufs p.payload.length) } }.passed (nativeCmd p op)

/-- The command of packet `p` has executed: accepted pending, it takes a slot with this completion limit, and it is answered. -/
def State.executed (s : State) (p : Packet) (op : Nat) (limit : Nat := 0) (arg : Nat := 0) : State :=
  (s.takeSlot (nativeCmd p op) { limit := limit, arg := arg }).reply (nativeCmd p op)

/-! ### Personality packets (R424) -/

/-- The state in which the command of a personality packet executes: its arrival is noted, and steps 1 to 7 are passed. -/
def State.persAdmitted (s : State) (p : Packet) (op : Nat) : State :=
  let s := (s.addressed p).arrived (packetCmd p op)
  { s with pool := { s.pool with low := min s.pool.low (s.freeBufs - packetBufs p.payload.length) } }.passed (packetCmd p op)

/-- Steps 1 to 7 pass for packet `p` of code 0x22 with a personality OP, and the port is not in faithful mode. -/
structure State.AdmitsPers (s : State) (p : Packet) (op : Nat) : Prop where
  form : packetOk p = true
  code : p.pers = true
  heard : s.hears (portCode p.port) = true
  session : (((s.addressed p).arrived (packetCmd p op)).session (portCode p.port)).isOpen = true
    ∧ p.seq.toNat = (((s.addressed p).arrived (packetCmd p op)).session (portCode p.port)).expSeq
  entry : (((s.addressed p).arrived (packetCmd p op)).hp.waits.filter (fun w => w.port == portCode p.port)).length < 4
  buffers : packetBufs p.payload.length ≤ ((s.addressed p).arrived (packetCmd p op)).sharedBufs
  quick : s.par P.HP_TFAITH (portCode p.port - 1) ≠ 1

/-- Such a packet's command, executed, is answered outside faithful mode: at once, or once its swaps are made. -/
def PersOut.replied (o : PersOut) (p : Packet) (op : Nat) : State :=
  let c := packetCmd p op
  ((if o.codes.isEmpty then o.s else o.s.persWait c 0 o.codes o.starts).takeSlot c {}).reply c

/-! ### Gen-1 frames (R400–R402) -/

/-- The state in which the command of a Gen-1 frame executes: the reply register shows BUSY, and the frame is counted. -/
def State.framed (s : State) (op : Nat) : State :=
  let s := (s.linkValid 1).s1Frame op
  let s := s.setSession 1 { s.session 1 with lastCmd := s.t }
  (s.bump P.HP_S1FRAMES).bump P.HP_CMDCNT 0

/-- A frame with OP `op` is taken on S1, outside faithful mode, and fewer than four commands of the port wait for swaps. -/
structure State.TakesFrame (s : State) (op : Nat) : Prop where
  heard : s.hears 1 = true
  entry : ((s.framed op).hp.waits.filter (fun w => w.port == 1 && !w.codes.isEmpty)).length < 4
  quick : (s.framed op).par P.HP_TFAITH 0 ≠ 1

/-- Such a frame with OP `op`, of frame count `n`, is answered outside faithful mode: at once, or once its swaps are made. -/
def PersOut.answered (o : PersOut) (op n : Nat) : State :=
  if o.codes.isEmpty then o.s.s1Reply op n
  else
    o.s.persWait { port := 1, code := 0, opcode := op, seq := 0, target := 0, payload := [], crc := 0, quiet := false
                   mute := false, src := none } n o.codes o.starts

end Sys2Proof.Machine
end

