-- ==== Sys2Proof/Certificates/Slice0/Obligations.lean ====
section
/-! DEFINITION. The statements for the provers, from the spec's rules. Most say that a command completes: `exec` answers the next
state that the end of the edge (`State.finish`) makes of the state with the command's own effect, which each statement writes
out; everything that effect does not name is as it was. -/

open Sys2Proof Sys2Proof.Machine

/-- R26, R27 (counting of encoder edges), R33 (Table 2.1, QUAD): an edge in UNREF or TRACK is a position event one increment from the last, in
the direction of `WH_QDIR`, and 65 edges within 3.2 µs are a loss; in COAST and HOLD edges move nothing, but their times count; a double
edge is a source error. R34: a position event at position `p` and instant `t` puts the angle at `p`, ends standstill, begins an
interpolation segment there, and adds its distance to the travel. It changes the engine, `WH_INTERR`, and what reverse rotation or a wake
bin brings, and nothing else: cells, comparators, converters, lanes, timers, the action store, sessions, rings and mailboxes stay. The
model's choices it rests on: log entry 102 (the order of effects at an edge) and 108. -/
def Obligations.PositionEventsMoveTheAngle : Prop :=
  (∀ (s : State) (k : QuadStep), s.pwr.phase = .running → s.resetting Fb.wheel = false → s.par P.WH_SRC = 0 →
      s.eng.state ≠ .stopped →
      (k = .both → exec (.quadEdge k) s = .next (s.finish s.sourceError)) ∧
      (k ≠ .both → ∀ (d : Int) (times : List Nat) (v u : State),
          d = (if (k = .forward) = (s.par P.WH_QDIR = 1) then -(s.quadInc : Int) else s.quadInc) →
          times = (s.t :: s.eng.edgeTimes).take 65 → v = s.setEng { s.eng with edgeTimes := times } →
          (s.eng.state = .unref ∨ s.eng.state = .track) ∧ u = v.positionEvent (posAdd s.eng.interp.pPrev d) s.t ∨
            (s.eng.state = .coast ∨ s.eng.state = .hold) ∧ u = v.setEng { v.eng with lastEvent := s.t } →
          exec (.quadEdge k) s =
            .next (s.finish (if times.length = 65 ∧ s.t - nthD s.t times 64 < 320 then u.engLoss else u)))) ∧
  (∀ (s u : State) (p : BitVec 64) (t : Nat), u = s.positionEvent p t →
      u.eng.pos = p ∧ u.eng.interp.pPrev = p ∧ u.eng.interp.tPrev = t ∧ u.eng.lastEvent = s.t ∧ u.eng.standstill = false ∧
      u.eng.travel = s.eng.travel + (posSub p s.eng.interp.pPrev).natAbs ∧ u.eng.state = s.eng.state ∧ u.eng.hwm = s.eng.hwm ∧
      u.wheel = s.wheel ∧ u.cells = s.cells ∧ u.cmps = s.cmps ∧ u.groups = s.groups ∧ u.ics = s.ics ∧ u.lanes = s.lanes ∧
      u.timers = s.timers ∧ u.rings = s.rings ∧ u.mboxes = s.mboxes ∧ u.sessions = s.sessions ∧ u.shadow = s.shadow ∧
      u.pend = s.pend ∧
      (∀ id inst : Nat, id < 1344 → inst < 256 → (id ≠ P.WH_INTERR ∨ inst ≠ 0) → (id ≠ P.KL_LASTWAKE ∨ inst ≠ 0) →
        u.par id inst = s.par id inst))

/-- R27: a transition in which A and B change together is a source error: in every state but STOPPED, with the quadrature source, the angle
stays, the position the next edge counts from stays, and `WH_SRCERR` gains 1 (up to its largest value). -/
def Obligations.DoubleEdgesAreSourceErrors : Prop :=
  ∀ s : State, s.pwr.phase = .running → s.resetting Fb.wheel = false → s.par P.WH_SRC = 0 → s.eng.state ≠ .stopped →
    exec (.quadEdge .both) s = .next (s.finish s.sourceError) ∧
    s.sourceError.eng.pos = s.eng.pos ∧ s.sourceError.eng.interp.pPrev = s.eng.interp.pPrev ∧
    s.sourceError.par P.WH_SRCERR = satAdd (s.par P.WH_SRCERR) 1

/-- R25, R28, R54: a Z edge (QUAD, or SINCOS with more than one period a cycle) is the reference event of UNREF and COAST, at `WH_ZOFS`; in
TRACK it moves an angle that stands more than `WH_ZTOL` edges away to `WH_ZOFS`, counted in `WH_ZSLIPCNT` and recorded as ZSLIP, and
otherwise changes the angle not at all. R25, R33, R54, R55: a reference event puts the engine in TRACK at the position it sets, whether or
not it is a position event too (`d`). From UNREF the high-water mark starts there; after a HOLD the gap is counted and recorded. A loss
condition that lasts through the reference is detected at once. The model's choices it rests on: log entries 102, 104 and 105. -/
def Obligations.ReferencesSetAndCorrectTheAngle : Prop :=
  (∀ s : State, s.pwr.phase = .running → s.resetting Fb.wheel = false → s.zSource = true →
      (s.eng.state = .unref ∨ s.eng.state = .coast → exec .zEdge s = .next (s.finish (s.reference s.zofsPos none))) ∧
      (s.eng.state = .track → ∀ d : Int, d = shiftTo s.eng.pos (s.par P.WH_ZOFS) →
        (d.natAbs ≤ s.par P.WH_ZTOL * s.quadInc →
          exec .zEdge s = .next (s.finish (s.setEng { s.eng with zMark := some s.eng.pos }))) ∧
        (s.par P.WH_ZTOL * s.quadInc < d.natAbs → ∀ u : State,
          u = ((s.bump P.WH_ZSLIPCNT).raise Fb.wheel 4 1).enginePut (posAdd s.eng.pos d) →
          exec .zEdge s = .next (s.finish (u.setEng { u.eng with zMark := some (posAdd s.eng.pos d) })))) ∧
      (s.eng.state = .stopped ∨ s.eng.state = .hold → exec .zEdge s = .next (s.finish s))) ∧
  (∀ (s u : State) (p : BitVec 64) (d : Option (Int × Nat)), s.eng.state = .unref ∨ s.eng.state = .coast →
      u = s.takeReference p d →
      s.reference p d = (if u.lossLevel = true then u.engLoss else u) ∧
      u.eng.state = .track ∧ u.eng.referenced = true ∧ u.eng.pos = p ∧ u.eng.zMark = some p ∧
      (s.eng.state = .unref → u.eng.hwm = binOf p ∧ u.eng.fromHold = false) ∧
      (s.eng.state = .coast → u.eng.hwm = s.eng.hwm) ∧
      (s.eng.state = .unref → s.eng.fromHold = true → s.par P.WH_GAPCNT < 2 ^ 32 - 1 →
        u.par P.WH_GAPCNT = s.par P.WH_GAPCNT + 1) ∧
      u.wheel = s.wheel ∧ u.cells = s.cells ∧ u.cmps = s.cmps ∧ u.groups = s.groups ∧ u.lanes = s.lanes)

/-- R28 (ZMISS), R33 (HOLD is left 1 ms after the last loss condition; standstill after `WH_STALLT`), R52 (REVERSE_LIMIT), R53 (COAST_LIMIT):
each limit of the angle engine, where it is reached, has its effect. The model's choices it rests on: log entry 4 (a time-driven row acts
where its condition holds), 23 and 24. -/
def Obligations.AngleLimitsTakeEffect : Prop :=
  ∀ s : State, s.pwr.phase = .running → s.resetting Fb.wheel = false →
    (s.zMissed = true → exec .zmiss s = .next (s.finish (s.raiseEpisode Fb.wheel 5 2))) ∧
    (s.par P.WH_REVLIM ≠ 0 → s.eng.state.tracking = true → (s.par P.WH_REVLIM : Int) < s.binsBehind →
      exec .reverseLimit s = .next (s.finish (s.raiseEpisode Fb.wheel 3 2))) ∧
    (s.eng.state = .coast → s.par P.WH_COASTMAX * binUnits ≤ (posSub s.eng.pos s.eng.interp.base).natAbs →
      exec .coastLimit s =
        .next (s.finish ((s.setEng { s.eng with state := .hold, firstCrossed := none }).raise Fb.wheel 8 2))) ∧
    (s.eng.state = .hold → s.lossOver = true →
      exec .holdRelease s = .next (s.finish
        (((s.setEng { s.eng with state := .unref, fromHold := true, referenced := false }).interpFresh).endEpisode
          Fb.wheel 7))) ∧
    (s.eng.state = .unref ∨ s.eng.state = .track → s.par P.WH_SRC ≠ 4 → usTicks (s.par P.WH_STALLT) ≤ s.t - s.eng.lastEvent →
      exec .standstillTimeout s = .next (s.finish (s.setEng { s.eng with standstill := true })))

/-- R29, R30: an SSI frame whose data line was high at its start and low after its last bit, and whose position lies within `WH_SSIJMP` of the
last frame's, references the angle in UNREF and COAST, and in TRACK is a position event at its displacement from the last valid frame; any
other frame is a source error, and the third in a row a loss. The model's choices it rests on: log entry 22 (from what a displacement is
taken). -/
def Obligations.SsiFramesAreCheckedAndApplied : Prop :=
  ∀ (s : State) (data : BitVec 32) (startHigh endLow : Bool) (p : Nat) (jump : Bool),
    s.pwr.phase = .running → s.resetting Fb.wheel = false → s.par P.WH_SRC = 1 → s.eng.state ≠ .stopped →
    p = s.ssiPosition data.toNat →
    jump = s.eng.ssiFrame.any (fun q =>
      decide (s.par P.WH_SSIJMP * 2 ^ 8 < (BitVec.ofNat 24 p - BitVec.ofNat 24 q).toInt.natAbs)) →
    ((startHigh && endLow && !jump) = false →
      exec (.ssiFrame data startHigh endLow) s = .next (s.finish
        (((s.setEng { s.eng with ssiFrame := some p, ssiBad := s.eng.ssiBad + 1 }).sourceError).lossUpdate))) ∧
    ((startHigh && endLow && !jump) = true → ∀ u : State,
      u = (s.setEng { s.eng with ssiFrame := some p, ssiBad := 0, ssiPos := some p }).lossUpdate →
      ∀ d : Int, (s.eng.ssiPos = none → d = 0) →
      (∀ q : Nat, s.eng.ssiPos = some q → d = (BitVec.ofNat 24 p - BitVec.ofNat 24 q).toInt * 2 ^ 16) →
      (s.eng.state = .unref ∨ s.eng.state = .coast →
        exec (.ssiFrame data startHigh endLow) s = .next (s.finish (u.reference u.zofsPos (some (d, s.t))))) ∧
      (s.eng.state = .track →
        exec (.ssiFrame data startHigh endLow) s = .next (s.finish (u.positionEvent (posAdd s.eng.interp.pPrev d) s.t))) ∧
      (s.eng.state = .hold → exec (.ssiFrame data startHigh endLow) s = .next (s.finish u)))

/-- R38, R43, R45, R47 (evaluation steps), R49 (time queues), R40 (ACTLATE): 60 ns after the last step, while the Wheel dispatches, a step
runs where bins lie ahead of the high-water mark, and where a time queue is due. It is the same pass in both: values waiting come into
force, ramps and windows count the bins, every action read is dispatched in order, and the step ends (R37, R39, R49, R326). R37, R41, R49:
the high-water mark after a step that fires bins is the bin the angle stood in, a step without bins leaves it, and the step's start is
noted. A queue that fires is due again by whole periods after the step, or, with `WH_TQPER` 0, is disabled. So an EVALUATION_STEP with
bins ahead, and a TIME_QUEUE_DUE of a due queue, completes, here with no action, ramp, converter or waiting command, and neither
GR_STARTBIN nor SL_SNAPBIN crossed; nothing else of the Wheel, the comparators and the converters changes. The model's choices it rests
on: log entry 4 (a time-driven row acts where its condition holds), 25 and 116. -/
def Obligations.EvaluationStepsRunAndAdvance : Prop :=
  (∀ (s : State) (ecc : List StoreError), s.stepFree = true → ∀ (u t : State) (n : Nat) (qs : List Nat) (run : StepRun),
      u = s.takeLive Fb.wheel → n = u.binsAhead → qs = u.dueQueues →
      run = (u.firings n qs).foldl (fun (x : StepRun) f => x.fire ecc f) { s := u.advanceBins n } →
      t = (if run.late = true ∧ run.s.eng.lateEpisode = false then run.s.raise Fb.wheel 1 1 else run.s) →
      (0 < s.binsAhead → exec (.evaluationStep ecc) s =
        .next (s.finish ((t.setEng { t.eng with lateEpisode := run.late }).stepEnd u n qs))) ∧
      (∀ q : Fin 16, (s.queue q.val).enabled = true → (s.queue q.val).due ≤ s.t → exec (.timeQueueDue q ecc) s =
        .next (s.finish ((t.setEng { t.eng with lateEpisode := run.late }).stepEnd u n qs)))) ∧
  (∀ s : State, s.stepFree = true → s.wheel.store = [] → s.pend = [] → s.cells = [] → s.ics = [] → s.sessions = [] →
      s.crossings s.binsAhead (s.par P.GR_STARTBIN) = [] → s.crossings s.binsAhead (s.par P.SL_SNAPBIN) = [] →
      (0 < s.binsAhead → ∃ t : State, exec (.evaluationStep []) s = .next (s.finish t) ∧
        t.eng.hwm = binOf s.eng.pos ∧ t.eng.firstCrossed = none ∧ t.eng.lastStep = some s.t ∧ t.eng.pos = s.eng.pos ∧
        t.eng.state = s.eng.state ∧ (s.dueQueues = [] → t.wheel = s.wheel) ∧ t.cmps = s.cmps ∧ t.groups = s.groups ∧
        t.lanes = s.lanes ∧ t.timers = s.timers) ∧
      (∀ q : Fin 16, (s.queue q.val).enabled = true → (s.queue q.val).due ≤ s.t →
        ∃ t : State, exec (.timeQueueDue q []) s = .next (s.finish t) ∧ t.eng.lastStep = some s.t ∧ t.eng.pos = s.eng.pos ∧
          (s.binsAhead = 0 → t.eng.hwm = s.eng.hwm ∧ t.eng.firstCrossed = s.eng.firstCrossed) ∧
          (s.par P.WH_TQPER q.val = 0 → t.queue q.val = { s.queue q.val with enabled := false }) ∧
          (0 < s.par P.WH_TQPER q.val → ∃ k : Nat, (t.queue q.val).enabled = true ∧
            (t.queue q.val).due = ((s.queue q.val).due + (k + 1) * s.par P.WH_TQPER q.val) % 2 ^ 64 ∧
            s.t < (s.queue q.val).due + (k + 1) * s.par P.WH_TQPER q.val) ∧
          t.wheel.store = [] ∧ t.cmps = s.cmps ∧ t.groups = s.groups ∧ t.lanes = s.lanes ∧ t.timers = s.timers))

/-- R60, R470, R648 (`WH_CTRL`): RUN starts a stopped engine afresh in UNREF, and the VIRTUAL source at once in TRACK; STOP stops it from any
state and holds the angle; REREF takes TRACK back to UNREF; 4 clears the Wheel's counters. Each answers OK. A command that its state does
not admit answers NOT_PERMITTED and changes nothing else. R51, R60 (`WH_TQCTL`), R422 (TQ15 is reserved while Port S1 is on or a
personality session is open): ENABLE and DISABLE set the queue's enable and leave its due time, CLEAR removes the actions posted to it and
no others; a write at the reserved TQ15 is refused. R112, R137, R171: between steps the dispatcher takes a comparator's urgent request as
an URGENT_CONV to the converter of `CMP_URGDST`; of a gated one it makes a gate hit, and a converter in SAFE or in reset skips it,
counted. The model's choices it rests on: log entry 5 (a row that writes or reads a parameter acts as an accepted host write by no
particular port), 28, 30 and 107. -/
def Obligations.WheelAndTimeQueueCommandsComplete : Prop :=
  (∀ s : State, s.hopperUp = true → s.resetting Fb.wheel = false →
      (s.pendingC Fb.wheel = false → s.eng.state = .stopped → ∀ u : State,
        u = ((s.setEng { s.eng with
          state := .unref, reverse := false, standstill := false, referenced := false, travel := 0, zMark := none,
          errTravel := [], edgeTimes := [], ssiFrame := none, ssiBad := 0, scBad := 0, mainsSilent := false,
          mainsRise := none, mainsBad := 0, fromHold := false, lossFree := some s.t }).interpFresh).lossUpdate →
        (s.par P.WH_SRC ≠ 4 → exec .whCtrlRun s = .next (s.finish u.done)) ∧
        (s.par P.WH_SRC = 4 → exec .whCtrlRun s = .next (s.finish (u.reference u.zofsPos none).done))) ∧
      (s.pendingC Fb.wheel = false → s.eng.state = .unref → s.par P.WH_SRC = 4 →
        exec .whCtrlRun s = .next (s.finish (s.reference s.zofsPos none).done)) ∧
      (s.pendingC Fb.wheel = true → exec .whCtrlRun s = .next (s.finish (s.answer Status.notPermitted))) ∧
      (s.eng.state ≠ .stopped → s.eng.state ≠ .unref →
        exec .whCtrlRun s = .next (s.finish (s.answer Status.notPermitted))) ∧
      exec .whCtrlStop s = .next (s.finish ((s.setEng { s.eng with
        state := .stopped, referenced := false, standstill := false, reverse := false, firstCrossed := none,
        fromHold := false }).done)) ∧
      (s.eng.state = .track → exec .whCtrlReref s = .next (s.finish ((s.setEng { s.eng with
        state := .unref, referenced := false, fromHold := false, firstCrossed := none }).done))) ∧
      (s.eng.state ≠ .track → exec .whCtrlReref s = .next (s.finish (s.answer Status.notPermitted))) ∧
      exec .whCtrlClearCounters s = .next (s.finish ((s.clearPars [(P.WH_LATECNT, 0), (P.WH_SKIPCNT, 0), (P.WH_DFRCNT, 0),
        (P.WH_SRCERR, 0), (P.WH_ZSLIPCNT, 0), (P.WH_GAPCNT, 0), (P.WH_ECCCNT, 0), (P.WH_ECCCNT, 1), (P.WH_STEPMAX, 0),
        (P.WH_INTERR, 0)]).done))) ∧
  (∀ (s : State) (q : Fin 16), s.hopperUp = true → s.resetting Fb.wheel = false →
      ((decide (q.val = 15) && s.tq15Reserved) = false →
        exec (.whTqctlEnable q) s = .next (s.finish ((s.setQueue q.val { s.queue q.val with enabled := true }).done)) ∧
        exec (.whTqctlDisable q) s = .next (s.finish ((s.setQueue q.val { s.queue q.val with enabled := false }).done)) ∧
        exec (.whTqctlClear q) s = .next (s.finish ({ s with wheel := { s.wheel with
          store := s.wheel.store.filter (fun e => !(e.2.place == 65536 + q.val)) } }.done))) ∧
      (q.val = 15 → s.tq15Reserved = true →
        exec (.whTqctlEnable q) s = .next (s.finish (s.answer Status.notPermitted)) ∧
        exec (.whTqctlDisable q) s = .next (s.finish (s.answer Status.notPermitted)) ∧
        exec (.whTqctlClear q) s = .next (s.finish (s.answer Status.notPermitted)))) ∧
  (∀ (s : State) (n : Fin 64) (u : State) (w : BitVec 64) (d : Nat), s.wheelActs = true → (s.cmp n.val).urgent = true →
      u = s.setCmp n.val { s.cmp n.val with urgent := false, urgLost := false } →
      w = actWord Act.urgentConv true 0 (s.par P.CMP_URGDST n.val) n.val → d = codeBlock (actOwner w) →
      (u.isGated d = true →
        exec (.urgentRequestDispatch n) s = .next (s.finish (u.gateHit d { master := 6, access := 3 }))) ∧
      (u.isGated d = false → u.actSkips w = true →
        exec (.urgentRequestDispatch n) s = .next (s.finish (u.bump P.WH_SKIPCNT))) ∧
      (u.isGated d = false → u.actSkips w = false → actTarget w < 4 →
        exec (.urgentRequestDispatch n) s = .next (s.finish (u.sarUrgent (actTarget w) n.val { master := 6, access := 3 }))) ∧
      (u.isGated d = false → u.actSkips w = false → 4 ≤ actTarget w →
        exec (.urgentRequestDispatch n) s = .next (s.finish (u.icUrgent (actTarget w - 0x10) n.val))))

/-- R161, R162 (Tables 6.2 and 6.3), Table 2.1 (MAINS): a zero crossing is noted by the lock and, where the source is the mains, moves the
angle; the lock's period counts only at rising crossings, an accepted one locks it once four agree, and a second rejected one in a row
unlocks it. After 15 ms without a crossing, the lock falls back and the engine takes the source for lost. R541: a pin of function ENCFLT
changes level, and ENC_FLT_N, and with it the engine's loss of source, follow it; a pin of another function does not reach the engine. The
model's choices it rests on: log entries 4 and 46. -/
def Obligations.MainsCrossingsAndEncoderFaultAct : Prop :=
  (∀ (s : State) (m : MainsLock), s.pwr.phase = .running → s.resetting Fb.wheel = false →
      m = { s.mains with lastAny := some s.t, state := if s.mains.state = .nolock then .acquire else s.mains.state } →
      (exec (.mainsZeroCrossing false) s = .next (s.finish ({ s with mains := m }.engMains false))) ∧
      (s.mains.lastRise = none → exec (.mainsZeroCrossing true) s =
        .next (s.finish ({ s with mains := { m with lastRise := some s.t } }.engMains true))) ∧
      (∀ t0 p : Nat, s.mains.lastRise = some t0 → p = s.t - t0 →
        (periodAccepted p = true → ∀ run : List Nat, run = (p :: s.mains.run).take 4 →
          exec (.mainsZeroCrossing true) s = .next (s.finish ({ s with mains := { m with
            lastRise := some s.t, periods := (p :: s.mains.periods).take 16, run := run, rejected := 0
            state := if (m.state = LockState.acquire ∨ m.state = LockState.held) ∧ periodsAgree run = true then LockState.locked else m.state } }.engMains
              true))) ∧
        (periodAccepted p = false → ∀ u : State,
          u = { s with mains := { m with lastRise := some s.t, run := [], rejected := s.mains.rejected + 1 } } →
          exec (.mainsZeroCrossing true) s = .next (s.finish
            ((if s.mains.state = .locked ∧ 1 ≤ s.mains.rejected then u.mainsHeld else u).engMains true)))) ∧
      (s.mainsQuiet = true →
        (s.mains.state = .acquire → exec .mainsTimeout s = .next (s.finish
          ({ s with mains := { s.mains with state := .nolock, run := [] } }.engMainsSilent))) ∧
        (s.mains.state = .locked → exec .mainsTimeout s = .next (s.finish s.mainsHeld.engMainsSilent)) ∧
        (s.mains.state = .nolock ∨ s.mains.state = .held → exec .mainsTimeout s = .next (s.finish s.engMainsSilent)))) ∧
  (∀ (s : State) (p : Fin 48) (level : Bool), s.pwr.phase = .running →
      ((s.pinEntry p.val).func = 3 → exec (.encfltPinChange p level) s =
        .next (s.finish ((s.setPin p.val { s.pin p.val with input := level }).encfltUpdate))) ∧
      ((s.pinEntry p.val).func ≠ 3 → exec (.encfltPinChange p level) s = .next (s.finish s)))

/-- R69, R70 (Table 3.4): at the end of its settling time a settling cell becomes ACTIVE, a cell whose readback settled stays so, and its next
sample carries SEQ. Table 3.6 (the detectors of a cell), R68, R466: each records, at the start of its episode and in its class, where the
cell's mode admits it: OVR, counted, class A, while the cell is neither OFF nor GATED; INCLAMP class A and, with `AC_BURNOUT`, OPENIN
class B in input modes with a burnout source; EXCFLT class B in excitation modes; OUTOPEN class B in OUT-I; OUTLIM class C in OUT-V;
HVRAIL class C in IN-HV and the output modes. OUTLIM's row also says whether the log's memory fails its read-back from now on. The model's
choices it rests on: log entries 4 and 14. -/
def Obligations.SettlingAndCellDetectorsAct : Prop :=
  (∀ (s : State) (n : Fin 64) (e : Nat), s.alive = true → (s.cell n.val).settleEnd = some e → e ≤ s.t →
      (s.cell n.val).state = .settling ∨ (s.cell n.val).state = .active →
      exec (.settlingEnd n) s =
        .next (s.finish (s.setCell n.val { s.cell n.val with state := .active, settleEnd := none, seqDue := true }))) ∧
  (∀ (s : State) (n : Fin 64), s.pwr.phase = .running → (s.cell n.val).state ≠ .off →
      ((s.cell n.val).state ≠ .gated → s.episodeOpen (Fb.cell n.val) 0 = false →
        exec (.ovr n) s = .next (s.finish ((s.bump P.AC_OVRCNT n.val).raiseEpisode (Fb.cell n.val) 0 1))) ∧
      (isInputMode (s.par P.AC_MODE n.val) = true →
        exec (.inclamp n) s = .next (s.finish (s.raiseEpisode (Fb.cell n.val) 1 1))) ∧
      (s.par P.AC_MODE n.val = 2 ∨ s.par P.AC_MODE n.val = 4 → s.par P.AC_BURNOUT n.val = 1 →
        exec (.openin n) s = .next (s.finish (s.raiseEpisode (Fb.cell n.val) 2 2))) ∧
      (isExciteMode (s.par P.AC_MODE n.val) = true →
        exec (.excflt n) s = .next (s.finish (s.raiseEpisode (Fb.cell n.val) 3 2))) ∧
      (s.par P.AC_MODE n.val = 6 → exec (.outopen n) s = .next (s.finish (s.raiseEpisode (Fb.cell n.val) 4 2))) ∧
      (s.par P.AC_MODE n.val = 5 → ∀ bad : Bool, exec (.outlim n bad) s =
        .next (s.finish ({ s with flt := { s.flt with logBad := bad } }.raiseEpisode (Fb.cell n.val) 5 3))) ∧
      (s.par P.AC_MODE n.val = 3 ∨ isOutputMode (s.par P.AC_MODE n.val) = true →
        exec (.hvrail n) s = .next (s.finish (s.raiseEpisode (Fb.cell n.val) 6 3))))

/-- R74, R374–R376 (`AC_OUT`): a host write of a 16-bit code to a cell in an output mode is accepted and waits for the cell's sample boundary;
in SAFE it is refused with FAULT_STATE, in another mode with NOT_PERMITTED, and above 16 bits with OUT_OF_RANGE. R73, R74, R75: a code set
at an output comes into force clamped to `AC_OUTMIN`–`AC_OUTMAX`, ends a ramp and turns the driver on; a clamped one is recorded as CLAMP.
No other cell, and nothing beside the cell and its record, changes. R61, R65, R68, R72, R87, R92, R98: what a cell drives, reads back and
shows its comparator. A driving OUT-V cell with code c and a driving OUT-I cell show their readback times the gain 2^`AC_GAIN` × (1 + 0.03
× `AC_TRIM` / 512): a quarter of −10 V + 20 V × c / 65,536, and 400 nA × c, 24 mA above code 60,000, across 100 Ω; in nV, and apart from
what the load adds (x). An OFF cell shows its comparator 0 V, which lies above no threshold. A sample beyond either end of the converter's
span has the code of that end. The burnout source is on exactly in IN-DIFF and IN-BRIDGE with `AC_BURNOUT` at 1. The model's choices it
rests on: log entries 5 and 35. -/
def Obligations.OutputWritesClampAndComeInForce : Prop :=
  (∀ (s : State) (n : Fin 64) (v : Word), s.hopperUp = true → s.resetting (Fb.cell n.val) = false →
      (v.toNat < 65536 → (s.cell n.val).state ≠ .safe → isOutputMode (s.par P.AC_MODE n.val) = true →
        exec (.acOutWrite n v) s = .next (s.finish (s.cellAccept n.val P.AC_OUT v.toNat).done)) ∧
      (v.toNat < 65536 → (s.cell n.val).state = .safe →
        exec (.acOutWrite n v) s = .next (s.finish (s.answer Status.faultState))) ∧
      (v.toNat < 65536 → (s.cell n.val).state ≠ .safe → isOutputMode (s.par P.AC_MODE n.val) = false →
        exec (.acOutWrite n v) s = .next (s.finish (s.answer Status.notPermitted))) ∧
      (65536 ≤ v.toNat → exec (.acOutWrite n v) s = .next (s.finish (s.answer Status.outOfRange)))) ∧
  (∀ (s : State) (n : Fin 64) (v : Nat), v < 65536 → s.par P.AC_OUTMAX n.val < 65536 →
      s.par P.AC_OUTMIN n.val ≤ s.par P.AC_OUTMAX n.val →
      ((s.outSet n.val v).cell n.val).code.toNat = max (s.par P.AC_OUTMIN n.val) (min v (s.par P.AC_OUTMAX n.val)) ∧
      ((s.outSet n.val v).cell n.val).ramp = none ∧ ((s.outSet n.val v).cell n.val).drive = .code ∧
      ((s.outSet n.val v).cell n.val).state = (s.cell n.val).state ∧
      (∀ m : Nat, m ≠ n.val → (s.outSet n.val v).cell m = s.cell m) ∧
      (s.par P.AC_OUTMIN n.val ≤ v → v ≤ s.par P.AC_OUTMAX n.val → (s.outSet n.val v).todo = s.todo) ∧
      (v < s.par P.AC_OUTMIN n.val ∨ s.par P.AC_OUTMAX n.val < v → s.episodeOpen (Fb.cell n.val) 7 = false →
        (s.outSet n.val v).todo = s.todo ++
          [{ blk := Fb.cell n.val, det := 7, cls := 1, addr := stateAddr (Fb.cell n.val) 0 }]) ∧
      (s.outSet n.val v).params = s.params ∧ (s.outSet n.val v).cmps = s.cmps ∧ (s.outSet n.val v).groups = s.groups ∧
      (s.outSet n.val v).wheel = s.wheel ∧ (s.outSet n.val v).eng = s.eng ∧ (s.outSet n.val v).result = s.result) ∧
  (∀ (s : State) (n : Fin 64),
      (∀ c : Nat, s.pwr.phase = .running → s.tst.isolated = false → s.isStandby = false → (s.cell n.val).state = .active →
        (s.cell n.val).drive = .code → (s.cell n.val).code.toNat = c →
        ∀ (x : Int) (g : Rat), g = 2 ^ s.par P.AC_GAIN n.val * (1 + 3 / 100 * (s.parI P.AC_TRIM n.val : Rat) / 512) →
          (s.par P.AC_MODE n.val = 5 → (((s.front n.val).out x).num : Rat) / ((s.front n.val).out x).den =
            ((-10 + 20 * (c : Rat) / 65536) * 10 ^ 9 + (x : Rat)) / 4 * g) ∧
          (s.par P.AC_MODE n.val = 6 → (((s.front n.val).out x).num : Rat) / ((s.front n.val).out x).den =
            ((if c ≤ 60000 then 400 * (c : Rat) else 24 * 10 ^ 6) + (x : Rat)) * 100 * g)) ∧
      (s.par P.AC_MODE n.val = 0 → ∀ (x : TapSample) (t : Nat), s.tapAbove n.val x t = false) ∧
      (∀ (signed : Bool) (v : Frac) (bits : Nat), 0 < v.den → 0 < bits →
        (spanPlace signed v = .above → adcCode bits signed v 0 = 2 ^ bits - 1) ∧
        (spanPlace signed v = .below → adcCode bits signed v 0 = 0)) ∧
      (s.burnoutOn n.val = true ↔ s.par P.AC_BURNOUT n.val = 1 ∧ (s.par P.AC_MODE n.val = 2 ∨ s.par P.AC_MODE n.val = 4)))

/-- R73, R82, R92, R95, R470 (`AC_CTRL`): RESUME takes a cell out of SAFE, once its class C fault is acknowledged, with the writes accepted
meanwhile: through a new SETTLING for an input, to its excitation for an excitation mode, leaving an output as the safe table has it until
it is set, and, after a swap to another mode, by the steps of R78 into that mode; otherwise it is refused. 2 clears `AC_OVRCNT`.
R105–R108, R116, R117, R470, R648 (`CMP_CTRL`): ENABLE starts a disabled comparator in DISARMED, held while its cell settles; DISABLE
stops it; ARM and DISARM change between DISARMED and ARMED and, in HELD, what HELD returns to; RESUME takes it out of SAFE to DISARMED; 6
clears its counters. A command its state does not admit is refused: FAULT_STATE in SAFE, else NOT_PERMITTED. The model's choices it rests
on: log entry 5 (a row that writes or reads a parameter acts as an accepted host write by no particular port), 38, 112, 114 and 115. -/
def Obligations.CellAndComparatorCommandsComplete : Prop :=
  (∀ (s : State) (n : Fin 64), s.hopperUp = true → s.resetting (Fb.cell n.val) = false →
      ((s.cell n.val).state = .safe → s.pendingC (Fb.cell n.val) = false → ∀ (u v : State) (m : Nat),
        u = (s.setCell n.val { s.cell n.val with state := .active }).cellTake n.val → m = u.par P.AC_MODE n.val →
        ((s.cell n.val).modeDue = true ∧ v = u.cellSetUp n.val ∨
          (s.cell n.val).modeDue = false ∧ isInputMode m = true ∧ v = u.startSettling n.val 10000 ∨
          (s.cell n.val).modeDue = false ∧ isExciteMode m = true ∧ v = u.setCell n.val { u.cell n.val with drive := .excite } ∨
          (s.cell n.val).modeDue = false ∧ isInputMode m = false ∧ isExciteMode m = false ∧ v = u) →
        exec (.acCtrlResume n) s = .next (s.finish (v.openWindow (Fb.cell n.val)).done)) ∧
      ((s.cell n.val).state ≠ .safe ∨ s.pendingC (Fb.cell n.val) = true →
        exec (.acCtrlResume n) s = .next (s.finish (s.answer Status.notPermitted))) ∧
      exec (.acCtrlClearCounters n) s = .next (s.finish ((s.setPar P.AC_OVRCNT n.val 0).done))) ∧
  (∀ (s : State) (n : Fin 64), s.hopperUp = true → s.resetting (Fb.cmp n.val) = false →
      ((s.cmp n.val).state = .disabled →
        exec (.cmpCtrlEnable n) s =
          .next (s.finish (((s.cmpRestart n.val).cmpDeliver n.val).cmpHoldIfSettling n.val).done) ∧
        exec (.cmpCtrlDisable n) s = .next (s.finish (s.answer Status.notPermitted)) ∧
        exec (.cmpCtrlArm n) s = .next (s.finish (s.answer Status.notPermitted)) ∧
        exec (.cmpCtrlDisarm n) s = .next (s.finish (s.answer Status.notPermitted))) ∧
      ((s.cmp n.val).state ≠ .disabled → exec (.cmpCtrlDisable n) s = .next (s.finish
        ((s.setCmp n.val { s.cmp n.val with state := .disabled }).cmpDeliver n.val).done)) ∧
      ((s.cmp n.val).state = .disarmed →
        exec (.cmpCtrlArm n) s = .next (s.finish (((s.cmpTakeCoefs n.val).setCmp n.val
          { (s.cmpTakeCoefs n.val).cmp n.val with state := .armed }).cmpDeliver n.val).done) ∧
        exec (.cmpCtrlDisarm n) s = .next (s.finish (s.answer Status.notPermitted))) ∧
      ((s.cmp n.val).state = .armed →
        exec (.cmpCtrlDisarm n) s =
          .next (s.finish ((s.setCmp n.val { s.cmp n.val with state := .disarmed }).cmpDeliver n.val).done) ∧
        exec (.cmpCtrlArm n) s = .next (s.finish (s.answer Status.notPermitted))) ∧
      ((s.cmp n.val).state = .held →
        exec (.cmpCtrlArm n) s = .next (s.finish ((s.cmpTakeCoefs n.val).setCmp n.val
          { (s.cmpTakeCoefs n.val).cmp n.val with heldArmed := true }).done) ∧
        exec (.cmpCtrlDisarm n) s = .next (s.finish (s.setCmp n.val { s.cmp n.val with heldArmed := false }).done)) ∧
      ((s.cmp n.val).state = .safe →
        exec (.cmpCtrlEnable n) s = .next (s.finish (s.answer Status.faultState)) ∧
        exec (.cmpCtrlArm n) s = .next (s.finish (s.answer Status.faultState)) ∧
        exec (.cmpCtrlDisarm n) s = .next (s.finish (s.answer Status.faultState)) ∧
        (s.pendingC (Fb.cmp n.val) = false → exec (.cmpCtrlResume n) s = .next (s.finish
          ((((s.cmpRestart n.val).cmpBoundary n.val).cmpHoldIfSettling n.val).openWindow (Fb.cmp n.val)).done)) ∧
        (s.pendingC (Fb.cmp n.val) = true →
          exec (.cmpCtrlResume n) s = .next (s.finish (s.answer Status.notPermitted)))) ∧
      exec (.cmpCtrlClearCounters n) s =
        .next (s.finish ((s.setPar P.CMP_EDGECNT n.val 0).setPar P.CMP_URGLOST n.val 0).done))

/-- R97, R99, R100 (`CMP_THR`): thresholds in order are accepted and load at the first sampling edge, together, with 100 ns of blanking; in
WINDOW and HYSTERESIS modes thresholds out of order are refused with OUT_OF_RANGE. R100–R102, R107–R111 (samples, blanking, HELD), Table
4.5 (DACCHK, SCLK): a crossing at the tap is seen there at once; at each edge of its sampling clock, after its sample boundary, a running
comparator's filters are fed, and a raw sample of the tap enters the synchroniser. With its cell settled, HELD is left for the state it
holds, with filters loaded from the first raw sample that has passed. Blanking ends; the checks of its DAC and its sampling clock record
in classes B and C. The model's choices it rests on: log entries 4, 5, 39 and 111 to 113. -/
def Obligations.ThresholdsLoadAndComparatorsSample : Prop :=
  (∀ (s : State) (n : Fin 64) (v : Word), s.hopperUp = true → s.resetting (Fb.cmp n.val) = false →
      valueOk P.CMP_THR n.val v.toNat = true →
      (thrOutOfOrder (s.par P.CMP_MODE n.val) v.toNat = false → exec (.cmpThrWrite n v) s =
        .next (s.finish ((s.acceptLive P.CMP_THR n.val v.toNat).cmpBoundary n.val).done)) ∧
      (thrOutOfOrder (s.par P.CMP_MODE n.val) v.toNat = true →
        exec (.cmpThrWrite n v) s = .next (s.finish (s.answer Status.outOfRange))) ∧
      (∀ w : Nat, w < 2 ^ 32 → ((s.cmpLoadThr n.val w).par P.CMP_THR n.val = w ∧
        ((s.cmpLoadThr n.val w).cmp n.val).blankEnd = some (s.t + 10) ∧
        ((s.cmpLoadThr n.val w).cmp n.val).state = (s.cmp n.val).state ∧
        ((s.cmpLoadThr n.val w).cmp n.val).delivered = (s.cmp n.val).delivered ∧
        (∀ m : Nat, m ≠ n.val → (s.cmpLoadThr n.val w).cmp m = s.cmp m)))) ∧
  (∀ (s : State) (n : Fin 64) (x : TapSample), s.alive = true →
      exec (.crossingAtTheTap n x) s = .next (s.finish (s.setCmp n.val { s.cmp n.val with tap := x })) ∧
      (s.cmpRuns n.val = true → (s.cmp n.val).phase + s.par P.CMP_DIV n.val ≤ s.t → ∀ u v w : State,
        u = (s.setCmp n.val { s.cmp n.val with tap := x }).cmpBoundary n.val →
        ((u.cmp n.val).state = .held ∧ u.cellSettling n.val = false ∧ (∃ a b : Bool, (u.cmp n.val).passed = some (a, b) ∧
            v = ((u.setCmp n.val { u.cmp n.val with
              state := if (u.cmp n.val).heldArmed = true then .armed else .disarmed, reload := true }).cmpPush n.val a b).cmpDeliver
                n.val) ∨
          ((u.cmp n.val).state ≠ .held ∨ u.cellSettling n.val = true ∨ (u.cmp n.val).passed = none) ∧
            ((u.cmp n.val).feed u.t = none ∧ v = u ∨
              ∃ a b : Bool, (u.cmp n.val).feed u.t = some (a, b) ∧ v = (u.cmpPush n.val a b).cmpDeliver n.val)) →
        w = v.setCmp n.val { v.cmp n.val with
          phase := v.t
          pipe := if (v.cmp n.val).state = .held ∧ v.cellSettling n.val = true then []
            else (v.cmpRaw n.val :: (v.cmp n.val).pipe).take 3 } →
        ((s.cmp n.val).state ≠ .held → exec (.deliveredEdge n x) s = .next (s.finish w)) ∧
        ((s.cmp n.val).state = .held → exec (.heldRelease n x) s = .next (s.finish w))) ∧
      (∀ e : Nat, (s.cmp n.val).blankEnd = some e → e ≤ s.t →
        exec (.blankEnd n) s = .next (s.finish (s.setCmp n.val { s.cmp n.val with blankEnd := none }))) ∧
      ((s.cmp n.val).state ≠ .disabled → exec (.dacchk n) s = .next (s.finish (s.raiseEpisode (Fb.cmp n.val) 3 2))) ∧
      (s.cmpRuns n.val = true → exec (.sclk n) s = .next (s.finish (s.raise (Fb.cmp n.val) 4 3))))

/-- R104 (Table 4.3, THRESHOLD, WINDOW, HYSTERESIS), R102, R105, R107, R109: a sample fed to an ARMED comparator enters both filters first,
or, where they reload, fills them; the majorities decide the mode's output, and the delivered output takes it; a change adds one to
`CMP_EDGECNT`. Other comparators stay as they are. The model's choices it rests on: log entries 39 and 110. -/
def Obligations.DeliveredOutputFollowsTheFilters : Prop :=
  ∀ (s x : State) (n : Fin 64) (u l : Bool) (c : Comparator) (hu hl : List Bool) (o : Bool),
    c = s.cmp n.val → c.state = .armed → x = (s.cmpPush n.val u l).cmpDeliver n.val →
    hu = (if c.reload = true then List.replicate (s.par P.CMP_MAJ n.val) u else (u :: c.histU).take (s.par P.CMP_MAJ n.val)) →
    hl = (if c.reload = true then List.replicate (s.par P.CMP_MAJ n.val) l else (l :: c.histL).take (s.par P.CMP_MAJ n.val)) →
    o = ((if s.par P.CMP_MODE n.val = 0 then majority hu
          else if s.par P.CMP_MODE n.val = 1 then majority hl && !majority hu
          else if c.reload = true then majority hu || majority hl && c.hyst
          else if majority hu != c.upper && majority hl != c.lower then majority hu
          else if majority hu != c.upper && majority hu then true
          else if majority hl != c.lower && !majority hl then false
          else c.hyst) != (s.par P.CMP_POL n.val == 1)) →
    (x.cmp n.val).delivered = o ∧ (x.cmp n.val).upper = majority hu ∧ (x.cmp n.val).lower = majority hl ∧
    (o = c.delivered → x.params = s.params) ∧
    (o ≠ c.delivered → s.par P.CMP_EDGECNT n.val < 2 ^ 32 - 1 →
      x.par P.CMP_EDGECNT n.val = s.par P.CMP_EDGECNT n.val + 1) ∧
    (∀ m : Nat, m ≠ n.val → x.cmp m = s.cmp m)

/-- R119, R121, R135, R150 (slots), R118 (a conversion lasts 500 ns), R152 (SLICE_TIMEOUT, 600 ns), Table 5.8 (SARCLK): a slot boundary at
least 125 ns after the last takes the group's accepted values, its REFBUF, a due bank swap and a list command, in this order, and then
starts what is due on a free slice, unless Kiln holds the group back; a conversion whose 500 ns have passed leaves its slice and gives its
result; a live slice that is late is withdrawn, recorded, and replaced by the spare, and what it converted starts again, whatever the
group's state. A lost clock is recorded in any state of the group. R119, R124, R129, R136, R141: a group starts a waiting urgent
conversion first, with no step of the pass. With nothing urgent and nothing to restart, a RUNNING group starts the entry that is due, at
its place in the active list, on the slice that a rotation has just brought into service, else on its first free one, and the pass moves
on; with no free slice the slot is counted in `SAR_SKIPSLOT`. An entry marked SIM starts with its successor on two slices, or, as the
list's last, alone. The model's choices it rests on: log entry 4 (a time-driven row acts where its condition holds), 14 and 117. -/
def Obligations.SarSlotsStartAndFinishConversions : Prop :=
  (∀ (s : State) (g : Fin 4), s.alive = true →
      (∀ (half : Bool) (now5 : Nat) (u v : State), (∀ w : Bool, (s.group g.val).state ≠ .gated w) →
        now5 = 2 * s.t + b2n half → (∀ l : Nat, (s.group g.val).lastSlot = some l → l + 25 ≤ now5) →
        u = ((s.setGroup g.val { s.group g.val with lastSlot := some now5, oldSys := [], oldPairs := [] }).takeLive
          (Fb.sar g.val)).sarRefUpdate g.val →
        v = (u.sarSwap g.val).sarListCmds g.val →
        ((v.group g.val).serves = true → v.sarHeldBack g.val = false → ∀ rot : Option (Nat × Nat),
          rot = v.sarRotates g.val now5 (s.group g.val).swapDue → exec (.slotBoundary g half) s =
            .next (s.finish ((v.sarRotate g.val now5 rot).serveSlot g.val now5 (rot.map Prod.fst)))) ∧
        ((v.group g.val).serves = false ∨ v.sarHeldBack g.val = true →
          exec (.slotBoundary g half) s = .next (s.finish v))) ∧
      (∀ (i : Fin 5) (x : Sampled) (parity : Bool) (u : State) (c : Conv), u = s.sarSampleSlice g.val i.val →
        ((u.group g.val).slice i.val).conv = some c → c.start + 100 ≤ 2 * u.t + 1 →
        exec (.conversionComplete g i x parity) s = .next (s.finish
          ((u.setGroup g.val ((u.group g.val).setSlice i.val { (u.group g.val).slice i.val with conv := none })).sarResult
            g.val c x parity))) ∧
      (∀ (i : Fin 5) (c : Conv) (w u : State) (x y : Group), ((s.group g.val).slice i.val).conv = some c →
        ((s.group g.val).slice i.val).state = .live → c.start + 120 ≤ 2 * s.t + 1 → w = s.sarGiveUp g.val i.val →
        x = (w.group g.val).setSlice i.val { (s.group g.val).slice i.val with
          state := .withdrawn, conv := none, ready := false, calNext := false } →
        y = (match c.kind with
          | .entry _ => { x with restart := x.restart ++ [c] }
          | .urgent => { x with urgent := scanSrc c.word :: x.urgent }
          | .syscal => { x with syscal := { x.syscal with started := x.syscal.started - 1 } }) →
        u = (w.setGroup g.val y).raise (Fb.sar g.val) 6 2 →
        (∀ sp : Nat, y.spare = some sp →
          exec (.sliceTimeout g i) s = .next (s.finish ((u.enterService g.val sp).noSlice g.val))) ∧
        (y.spare = none → exec (.sliceTimeout g i) s = .next (s.finish (u.noSlice g.val)))) ∧
      exec (.sarclk g) s = .next (s.finish (s.raise (Fb.sar g.val) 8 3))) ∧
  (∀ (s : State) (g : Fin 4) (now5 : Nat) (came : Option Nat),
      (∀ (i cell : Nat) (r q : List Nat), (s.group g.val).urgent = cell :: q → (s.group g.val).free = i :: r →
        s.serveSlot g.val now5 came = (s.setGroup g.val { s.group g.val with urgent := q }).startConv g.val i .urgent
          (urgentWord cell (s.par P.SAR_URGDST g.val)) now5) ∧
      ∀ k first : Nat, (s.group g.val).urgent = [] → (s.group g.val).restart = [] →
        s.listDue g.val now5 = some k → first = listFirst (s.listWord g.val) →
        (∀ (i : Nat) (r : List Nat), (s.group g.val).freeFor came = i :: r →
          scanSim (s.scanEntry g.val (first + k)) = false ∨ listLength (s.listWord g.val) ≤ k + 1 →
          s.serveSlot g.val now5 came =
            (s.startConv g.val i (.entry (first + k)) (s.scanEntry g.val (first + k)) now5).listStep g.val 1 now5) ∧
        (∀ (i j : Nat) (r : List Nat), (s.group g.val).freeFor came = i :: j :: r →
          scanSim (s.scanEntry g.val (first + k)) = true → k + 1 < listLength (s.listWord g.val) →
          s.serveSlot g.val now5 came = ((s.startConv g.val i (.entry (first + k)) (s.scanEntry g.val (first + k))
            now5).startConv g.val j (.entry (first + k + 1))
            ((s.startConv g.val i (.entry (first + k)) (s.scanEntry g.val (first + k)) now5).scanEntry g.val (first + k + 1))
            now5).listStep g.val 2 now5) ∧
        ((s.group g.val).freeFor came = [] → s.serveSlot g.val now5 came = s.bump P.SAR_SKIPSLOT g.val))

/-- R130, R155, R470, R648 (`SAR_CTRL`): START and STOP of a group wait, in their order, for its next slot boundary; Kiln powers a gated group
for a START (R380), and one that its budget does not hold is deferred (R264). STOP of a group that neither runs nor is about to is not
permitted; RESUME takes a group out of SAFE to STOPPED; 4 clears its counters. In SAFE, START and STOP are refused with FAULT_STATE. The
model's choices it rests on: log entry 5 (a row that writes or reads a parameter acts as an accepted host write by no particular port). -/
def Obligations.SarCommandsComplete : Prop :=
  ∀ (s : State) (g : Fin 4), s.hopperUp = true → s.resetting (Fb.sar g.val) = false →
    (∀ list : Fin 16, s.budgetOk (0x08 + g.val) (s.sarExtra g.val list.val) = true →
      (s.group g.val).state = .stopped ∨ (s.group g.val).state = .running →
      exec (.sarCtrlStart g list) s = .next (s.finish
        (s.setGroup g.val { s.group g.val with cmds := (s.group g.val).cmds ++ [.start list.val] }).done)) ∧
    (∀ (list : Fin 16) (was : Bool), s.budgetOk (0x08 + g.val) (s.sarExtra g.val list.val) = true →
      (s.group g.val).state = .gated was → exec (.sarCtrlStart g list) s = .next (s.finish
        ((s.setGroup g.val { s.group g.val with cmds := (s.group g.val).cmds ++ [.start list.val] }).powerUp
          (Fb.sar g.val)).done)) ∧
    (∀ list : Fin 16, s.budgetOk (0x08 + g.val) (s.sarExtra g.val list.val) = false →
      exec (.sarCtrlStart g list) s = .next (s.finish ((s.bump P.KL_BDREFUSE).answer Status.budgetDeferred))) ∧
    (∀ list : Fin 16, s.budgetOk (0x08 + g.val) (s.sarExtra g.val list.val) = true → (s.group g.val).state = .safe →
      exec (.sarCtrlStart g list) s = .next (s.finish (s.answer Status.faultState))) ∧
    ((s.group g.val).state = .running ∨ (s.group g.val).state = .gated true ∨
        (s.group g.val).state = .stopped ∧ (s.group g.val).cmds ≠ [] → exec (.sarCtrlStop g) s =
      .next (s.finish (s.setGroup g.val { s.group g.val with cmds := (s.group g.val).cmds ++ [.stop] }).done)) ∧
    ((s.group g.val).state = .gated false ∨ (s.group g.val).state = .stopped ∧ (s.group g.val).cmds = [] →
      exec (.sarCtrlStop g) s = .next (s.finish (s.answer Status.notPermitted))) ∧
    ((s.group g.val).state = .safe → exec (.sarCtrlStop g) s = .next (s.finish (s.answer Status.faultState))) ∧
    ((s.group g.val).state = .safe → s.pendingC (Fb.sar g.val) = false → exec (.sarCtrlResume g) s =
      .next (s.finish ((s.setGroup g.val { s.group g.val with state := .stopped }).openWindow (Fb.sar g.val)).done)) ∧
    ((s.group g.val).state ≠ .safe → exec (.sarCtrlResume g) s = .next (s.finish (s.answer Status.notPermitted))) ∧
    (g.val ≠ 0 → exec (.sarCtrlClearCounters g) s = .next (s.finish (s.clearPars [(P.SAR_URGCNT, g.val),
      (P.SAR_URGABT, g.val), (P.SAR_URGDROP, g.val), (P.SAR_RNRCNT, g.val), (P.SAR_SKIPSLOT, g.val)]).done)) ∧
    (g.val = 0 → exec (.sarCtrlClearCounters g) s = .next (s.finish ((List.range 16).foldl
      (fun s k => (s.setPar P.SAR_XCCNT k 0).setPar P.SAR_XCMISS k 0) (s.clearPars [(P.SAR_URGCNT, g.val),
        (P.SAR_URGABT, g.val), (P.SAR_URGDROP, g.val), (P.SAR_RNRCNT, g.val), (P.SAR_SKIPSLOT, g.val)])).done))

/-- R121, R144, R145, R147 (`SAR_SYSCAL`): CLEAR gives a cell unity coefficients, which the groups take at their next slot boundary; ZERO and
FULL start a step of 256 conversions and answer ACCEPTED_PENDING, and Kiln powers a gated group for it; APPLY with both means stored, a
span of at least 256 codes and a gain of 0.5 to 2 writes the cell's offset and gain; a step in progress makes each of them BUSY_LOCKED.
256 conversions complete a step, and one that carries STL or SAT fails it, as does the time limit. R135, R169 (t_REFSET, 2.0 ms), Tables
5.8 and 6.6 (REFOOT): a reference buffer enabled 2.0 ms ago is ready; once ready, a REFBUF out of tolerance is recorded, by the group
whose it is, and by every RUNNING integrating converter for the shared one. The model's choices it rests on: log entries 4, 5, 10 and 40. -/
def Obligations.SystemCalibrationAndReferencesComplete : Prop :=
  (∀ (s : State) (g : Fin 4) (cell : Fin 64), s.hopperUp = true → s.resetting (Fb.sar g.val) = false →
      ((s.group g.val).syscal.busy = false →
        exec (.syscalClear (.ctrl g cell)) s = .next (s.finish (((((((s.sysCell g.val cell.val).sarKeepSys cell.val).setPar
          P.SAR_SYSOFS cell.val 0).setPar P.SAR_SYSGAIN cell.val (2 ^ 30)).sarCalCell cell.val).setPar P.SAR_SYSST
            g.val 2).done)) ∧
        (∀ (full : Bool) (u : State), s.budgetOk (0x08 + g.val) s.sysExtra = true → (s.group g.val).state ≠ .safe →
          u = (if (s.group g.val).serves = true then s else s.powerUp (Fb.sar g.val)).sysCell g.val cell.val →
          exec (if full then .syscalFull (.ctrl g cell) else .syscalZero (.ctrl g cell)) s = .next (s.finish
            (((u.setGroup g.val { u.group g.val with syscal := { (u.group g.val).syscal with
                busy := true, full := full, started := 0, done := 0, sum := 0, failed := false, since := u.t } }).setPar
              P.SAR_SYSST g.val 1).answer Status.acceptedPending))) ∧
        (∀ (z f zt : Nat) (num : Int), (s.group g.val).syscal.zero = some z → (s.group g.val).syscal.fullMean = some f →
          (s.group g.val).syscal.cell = cell.val → zt = (if isSignedMode (s.par P.AC_MODE cell.val) then 2048 else 0) →
          z < f → num = 64 * ((s.par P.SAR_SYSFS cell.val : Int) - zt) * 2 ^ 30 → 16384 ≤ f - z →
          ((f - z) * 2 ^ 30 : Nat) ≤ 2 * num → num ≤ (2 * (f - z) * 2 ^ 30 : Nat) →
          exec (.syscalApply (.ctrl g cell)) s = .next (s.finish ((((((s.sarKeepSys cell.val).setParI P.SAR_SYSOFS cell.val
            ((z : Int) - 64 * zt)).setPar P.SAR_SYSGAIN cell.val
              (min (openDivI 8 num (f - z)) (2 ^ 31 - 1)).toNat).sarCalCell cell.val).setPar P.SAR_SYSST g.val 2).done)))) ∧
      ((s.group g.val).syscal.busy = true →
        exec (.syscalClear (.ctrl g cell)) s = .next (s.finish (s.answer Status.busyLocked)) ∧
        exec (.syscalZero (.ctrl g cell)) s = .next (s.finish (s.answer Status.busyLocked)) ∧
        exec (.syscalFull (.ctrl g cell)) s = .next (s.finish (s.answer Status.busyLocked)) ∧
        exec (.syscalApply (.ctrl g cell)) s = .next (s.finish (s.answer Status.busyLocked)) ∧
        ((s.group g.val).syscal.failed = true →
          exec (.syscalDone g) s = .next (s.finish (s.sysComplete g.val 5 Status.faultState))) ∧
        ((s.group g.val).syscal.failed = false → 256 ≤ (s.group g.val).syscal.done → (s.group g.val).syscal.full = false →
          exec (.syscalDone g) s = .next (s.finish ((s.setGroup g.val { s.group g.val with syscal :=
            { (s.group g.val).syscal with zero := some (openDiv 7 (s.group g.val).syscal.sum 4) } }).sysComplete
              g.val 2 Status.ok))) ∧
        ((s.group g.val).syscal.failed = false → 256 ≤ (s.group g.val).syscal.done → (s.group g.val).syscal.full = true →
          exec (.syscalDone g) s = .next (s.finish ((s.setGroup g.val { s.group g.val with syscal :=
            { (s.group g.val).syscal with fullMean := some (openDiv 7 (s.group g.val).syscal.sum 4) } }).sysComplete
              g.val 2 Status.ok))) ∧
        ((s.group g.val).syscal.done < 256 → (s.group g.val).syscal.since + msTicks (s.par P.CAL_TIMEOUT) ≤ s.t →
          exec (.syscalTimeout g) s =
            .next (s.finish ((s.sysComplete g.val 4 Status.timeout).raise (Fb.sar g.val) 3 1))))) ∧
  (∀ s : State, s.alive = true →
      (∀ (g : Fin 4) (t0 : Nat), (s.group g.val).refOn = some t0 → t0 + msTicks 2 ≤ s.t →
        exec (.refsetElapsed (.sar g)) s = .next (s.finish (s.setGroup g.val { s.group g.val with refReady := true }))) ∧
      (∀ t0 : Nat, s.mains.refOn = some t0 → t0 + msTicks 2 ≤ s.t →
        exec (.refsetElapsed .ic) s = .next (s.finish { s with mains := { s.mains with refReady := true } })) ∧
      (∀ g : Fin 4, (s.group g.val).refReady = true →
        exec (.refoot (.sar g)) s = .next (s.finish (s.raiseEpisode (Fb.sar g.val) 4 2))) ∧
      (s.mains.refReady = true → exec (.refoot .ic) s = .next (s.finish ((List.range 8).foldl
        (fun s i => if (s.ic i).state = .running then s.raiseEpisode (Fb.ic i) 4 2 else s)
        { s with mains := { s.mains with refOot := true } }))))

/-- R156–R160, R166, R176: an integration whose window is complete ends there, its stamp and its front end's mean are taken and its overhead
begins; a CYCLE window that has lasted `IC_CYCMAX` is given up, counted and recorded; an overhead of 1 ms gives the result, and one of 1.2
ms is recorded as a timeout. After a window given up the next integration starts, of the urgent cell again where it was urgent, and what
its result owed is owed again; a stop asked for meanwhile stops the converter. R61, R65, R92, R167–R169: a result delivered by an
integrating converter is the clamped and corrected code of what its cell's front end gave over the window, the span's nearest end where
that lies beyond the span, in `IC_RESULT`, unless its window was stale (then the slot's previous value, with STL) or its reference off
(then 0, with RNR); an input beyond the span, or the integrator's limit, sets SAT. It is the converter's last record, under the stamp of
its window's end. The converter stops where a stop is asked for, the run is ONCE or the integration was urgent. R164–R166, R179, R380,
R470, R648 (`IC_CTRL`): START of a slot begins an integration of a stopped converter at once, names the next slot of a running one and has
Kiln power a gated one; one beyond Kiln's budget is deferred; STOP lets the integration in progress complete; RESUME takes it out of SAFE
to STOPPED; 4 clears its counters, and instance 0's also `IC_MLOSSCNT`. The model's choices it rests on: log entries 4, 5, 14 and 119. -/
def Obligations.IntegrationsAndTheirCommandsComplete : Prop :=
  (∀ (s : State) (i : Fin 8), s.alive = true →
      (s.icWindowDone i.val = true → ∀ u : State, u = s.icWatch i.val →
        exec (.integrationEnd i) s = .next (s.finish ((u.setIc i.val { u.ic i.val with
          phase := .overhead, stop := u.t, angle := u.angleStamp, time := u.t, discard := false
          front := u.icFront i.val }).setPar P.IC_TLEN i.val (u.t - (u.ic i.val).start)))) ∧
      ((s.ic i.val).phase = .window → (s.ic i.val).mode = 1 → s.icWindowDone i.val = false →
        (s.ic i.val).start + msTicks (s.par P.IC_CYCMAX i.val) ≤ s.t → exec (.cycleWindowTimeout i) s =
          .next (s.finish (((s.icEndWindow i.val true).bump P.IC_CYCTO i.val).raise (Fb.ic i.val) 1 1))) ∧
      ((s.ic i.val).state = .running → (s.ic i.val).phase = .overhead → (s.ic i.val).stop + 120000 ≤ s.t →
        exec (.overheadTimeout i) s = .next (s.finish (s.raise (Fb.ic i.val) 5 3))) ∧
      (∀ (x : Integrated) (parity : Bool) (w : State), (s.ic i.val).state = .running → (s.ic i.val).phase = .overhead →
        (s.ic i.val).stop + msTicks 1 ≤ s.t → (s.ic i.val).discard = true → w = s.icGiveUp i.val →
        ((s.ic i.val).nextSlot = none → (s.ic i.val).stopDue = true →
          exec (.overheadEnd i x parity) s = .next (s.finish (((w.setIc i.val
            { w.ic i.val with state := .stopped, phase := .waiting, stopDue := false, urgent := false }).icSwap
              i.val).calOverheadOver i.val))) ∧
        ((s.ic i.val).nextSlot = none → (s.ic i.val).stopDue = false →
          exec (.overheadEnd i x parity) s = .next (s.finish (((w.setIc i.val { w.ic i.val with stopDue := false }).icBegin
            i.val (if (s.ic i.val).urgent = true then some (s.ic i.val).cell else none)).calOverheadOver i.val))) ∧
        ((s.ic i.val).nextSlot ≠ none →
          exec (.overheadEnd i x parity) s = .next (s.finish (((w.setIc i.val { w.ic i.val with stopDue := false }).icBegin
            i.val none).calOverheadOver i.val)))) ∧
      (∀ (x : Integrated) (parity : Bool),
        exec (.overheadEnd i x parity) s = .next (s.finish ((s.overheadEnd i.val x parity).calOverheadOver i.val)))) ∧
  (∀ (s : State) (i : Fin 8) (x : Integrated) (parity sign : Bool) (c : IntConv) (v : Frac) (value data : Int),
      c = s.ic i.val → c.state = .running → c.phase = .overhead → c.stop + msTicks 1 ≤ s.t → c.discard = false →
      bitOf c.xcsel 0 = false → c.nextSlot = none → c.stopDue = true ∨ c.once = true ∨ c.urgent = true →
      c.swapDue = false → dstLane c.dst = none → dstStream c.dst = none → s.kiln.dfrOwed = [] →
      sign = isSignedMode (s.par P.AC_MODE c.cell) → v = c.front.out x.signal →
      value = (icResult c sign (adcCode 18 sign v x.err)).1 →
      data = (if c.refOff = true then 0
        else if c.stale = true then signedOf 32 (tblGet 0 c.prev (if c.urgent = true then 4 else c.slot))
        else if sign = true then spanEnd min18 max18 value (spanPlace sign v)
        else spanEnd 0 262143 value (spanPlace sign v)) →
      (s.overheadEnd i.val x parity).par P.IC_RESULT i.val = wrapTo 32 data ∧
      ((s.overheadEnd i.val x parity).ic i.val).state = .stopped ∧
      (∃ f : Nat, ((s.overheadEnd i.val x parity).ic i.val).last =
        some ⟨sampleWord data (if c.urgent = true then 0x30 else 0x38 + i.val) f, c.angle, c.time⟩ ∧
        (c.stale = true → bitOf f 7 = true) ∧ (c.refOff = true → bitOf f 4 = true) ∧
        (x.overSpan = true ∨ x.limit = true ∨ spanPlace sign v ≠ .within → bitOf f 6 = true)) ∧
      (∀ j : Nat, j ≠ i.val → (s.overheadEnd i.val x parity).ic j = s.ic j) ∧
      (s.overheadEnd i.val x parity).groups = s.groups ∧
      (s.overheadEnd i.val x parity).cells = s.cells ∧
      (s.overheadEnd i.val x parity).rings = s.rings ∧
      (s.overheadEnd i.val x parity).lanes = s.lanes) ∧
  (∀ (s : State) (i : Fin 8), s.hopperUp = true → s.resetting (Fb.ic i.val) = false →
      (∀ slot : Fin 4, s.budgetOk (0x10 + i.val) (s.icExtra i.val) = true →
        ((s.ic i.val).state = .stopped → exec (.icCtrlStart i slot) s = .next (s.finish
          ((s.setIc i.val { s.ic i.val with nextSlot := some slot.val, stopDue := false, byAction := false }).icBegin
            i.val none).done)) ∧
        ((s.ic i.val).state = .running → exec (.icCtrlStart i slot) s = .next (s.finish
          (s.setIc i.val { s.ic i.val with nextSlot := some slot.val, stopDue := false, byAction := false }).done)) ∧
        ((s.ic i.val).state = .gated → exec (.icCtrlStart i slot) s = .next (s.finish
          ({ s with kiln := { s.kiln with
            icRestart := tblSet 0 s.kiln.icRestart i.val (slot.val + 1)
            powerDue := tblSet 0 s.kiln.powerDue (Fb.ic i.val) (s.t + 5000)
            gateDue := s.kiln.gateDue.filter (fun x => !(x == Fb.ic i.val)) } }).done)) ∧
        ((s.ic i.val).state = .safe → exec (.icCtrlStart i slot) s = .next (s.finish (s.answer Status.faultState)))) ∧
      (∀ slot : Fin 4, s.budgetOk (0x10 + i.val) (s.icExtra i.val) = false →
        exec (.icCtrlStart i slot) s = .next (s.finish ((s.bump P.KL_BDREFUSE).answer Status.budgetDeferred))) ∧
      ((s.ic i.val).state = .running → (s.ic i.val).phase ≠ .waiting → exec (.icCtrlStop i) s =
        .next (s.finish (s.setIc i.val { s.ic i.val with stopDue := true, nextSlot := none }).done)) ∧
      ((s.ic i.val).state = .running → (s.ic i.val).phase = .waiting → exec (.icCtrlStop i) s =
        .next (s.finish (s.setIc i.val
          { s.ic i.val with state := .stopped, stopDue := false, nextSlot := none, urgent := false }).done)) ∧
      ((s.ic i.val).state = .stopped → exec (.icCtrlStop i) s = .next (s.finish (s.answer Status.notPermitted))) ∧
      ((s.ic i.val).state = .safe → exec (.icCtrlStop i) s = .next (s.finish (s.answer Status.faultState))) ∧
      ((s.ic i.val).state = .safe → s.pendingC (Fb.ic i.val) = false → exec (.icCtrlResume i) s = .next (s.finish
        ((s.setIc i.val { s.ic i.val with state := .stopped, phase := .waiting }).openWindow (Fb.ic i.val)).done)) ∧
      (i.val ≠ 0 → exec (.icCtrlClearCounters i) s = .next (s.finish (s.clearPars [(P.IC_XCCNT, i.val),
        (P.IC_XCMISS, i.val), (P.IC_URGCNT, i.val), (P.IC_URGDROP, i.val), (P.IC_CYCTO, i.val)]).done)) ∧
      (i.val = 0 → exec (.icCtrlClearCounters i) s = .next (s.finish ((s.clearPars [(P.IC_XCCNT, i.val),
        (P.IC_XCMISS, i.val), (P.IC_URGCNT, i.val), (P.IC_URGDROP, i.val), (P.IC_CYCTO, i.val)]).setPar P.IC_MLOSSCNT
          0 0).done)))

/-- R204, R205: the oldest queued output of a lane leaves it, shifted and saturated unless it is a resolver's word, with the flags it was
formed with (SEQ among them) and those of the inputs since the last output; it is the lane's last record, it counts in `FL_OUTCNT`, and
enters the stream of `FL_DST`. R201 (ANGLE_BLOCK_TIMEOUT), R213 (LANE_STALL), R216, R470, R648 (`FL_CTRL`), R185 (`FL_DCM`): the block
that the angle left 2 µs ago is closed in a RUN lane; a stall of a lane that takes inputs records in class C; RESUME and RESTART prime the
lane anew, or are refused as its state says; 3 clears its counters; a value for `FL_DCM` waits for the lane's boundary. The model's
choices it rests on: log entries 4, 5, 42, 44 and 124. -/
def Obligations.LaneOutputsAndCommandsComplete : Prop :=
  (∀ (s : State) (n : Fin 32) (o : LaneOut) (rest : List LaneOut) (r : Int × Bool) (w : Word) (u : State),
      s.alive = true → (s.lane n.val).outs = o :: rest → s.kiln.dfrOwed = [] →
      r = (if o.direct = true then (o.value, false) else laneFormat (s.parI P.FL_OSHIFT n.val) o.value) →
      w = sampleWord r.1 n.val (o.flags ||| (s.lane n.val).inFlags ||| flagIf r.2 Flag.sat ||| 0) →
      u = (s.setLane n.val { s.lane n.val with
        outs := rest, inFlags := 0, last := some ⟨w, o.angle, o.time⟩ }).bump P.FL_OUTCNT n.val →
      (bitOf (s.par P.FL_DST n.val) 6 = false → exec (.laneOutput n) s = .next (s.finish u)) ∧
      (bitOf (s.par P.FL_DST n.val) 6 = true → exec (.laneOutput n) s = .next (s.finish
        (u.sampleRecord (bitsOf (s.par P.FL_DST n.val) 0 6) w o.angle o.time (0x20 + n.val))))) ∧
  (∀ (s : State) (n : Fin 32),
      (∀ t0 : Nat, s.alive = true → (s.lane n.val).left = some t0 → (s.lane n.val).state = .run →
        max t0 (s.lane n.val).lastIn + usTicks 2 ≤ s.t →
        exec (.angleBlockTimeout n) s = .next (s.finish (s.laneCloseBlock n.val))) ∧
      (s.pwr.phase = .running → (s.lane n.val).state = .run ∨ (s.lane n.val).state = .priming →
        exec (.laneStall n) s = .next (s.finish (s.raise (Fb.lane n.val) 6 3))) ∧
      (s.hopperUp = true → s.resetting (Fb.lane n.val) = false →
        ((s.lane n.val).state = .safe → s.pendingC (Fb.lane n.val) = false →
          exec (.flCtrlResume n) s = .next (s.finish ((s.lanePrime n.val).openWindow (Fb.lane n.val)).done)) ∧
        ((s.lane n.val).state ≠ .safe ∨ s.pendingC (Fb.lane n.val) = true →
          exec (.flCtrlResume n) s = .next (s.finish (s.answer Status.notPermitted))) ∧
        ((s.lane n.val).state = .run ∨ (s.lane n.val).state = .priming →
          exec (.flCtrlRestart n) s = .next (s.finish (s.lanePrime n.val).done)) ∧
        ((s.lane n.val).state = .safe → exec (.flCtrlRestart n) s = .next (s.finish (s.answer Status.faultState))) ∧
        ((s.lane n.val).state = .off ∨ (s.lane n.val).state = .gated →
          exec (.flCtrlRestart n) s = .next (s.finish (s.answer Status.notPermitted))) ∧
        exec (.flCtrlClearCounters n) s = .next (s.finish (s.clearPars [(P.FL_OUTCNT, n.val), (P.FL_GOVCNT, n.val),
          (P.FL_GAPCNT, n.val), (P.FL_RSTCNT, n.val), (P.FL_ASKIP, n.val), (P.FL_OVRCNT, n.val), (P.FL_SCPAIR, n.val),
          (P.FL_S1DROP, n.val)]).done) ∧
        (∀ v : Word, exec (.flDcmWrite n v) s = .next (s.finish (s.acceptLive P.FL_DCM n.val v.toNat).done))))

/-- R109, R229, R230, R232, R241 (captures), Table 8.2 (compares and triggers of ONESHOT): an edge of the capture input that `TM_EDGE` selects
in CAPTURE is noted with the count and its dual stamp; at the record, it becomes the last capture, and, where `TM_DST` enables it, a
record in the timer's FIFO, or a counted loss recorded as CAPLOST where the FIFO holds four; captures are recorded before compares; a
trigger of a ONESHOT timer in RUN starts the count from 0, and a compare value of 0 is reached at once. R229, R233, R245, R470, R648
(`TM_CTRL`, `TM_LASTANG`): START and STOP move a timer between STOPPED and RUN, RESUME takes it out of SAFE, TRIG starts a ONESHOT run, 4
clears its counters, and what a state does not admit is refused; a read of `TM_LASTANG` answers the angle of the last capture and latches
the rest of its stamp. The model's choices it rests on: log entries 4, 5, 54 and 120. -/
def Obligations.TimersCaptureRunAndObey : Prop :=
  (∀ (s : State) (n : Fin 64), s.alive = true →
      (∀ level : Bool, (s.timer n.val).state = .run → s.timersStop = false → s.par P.TM_MODE n.val = 1 →
        s.par P.TM_CAPSRC n.val = 0 →
        (s.par P.TM_EDGE n.val = 2 ∨ s.par P.TM_EDGE n.val = (if level = true then 0 else 1) → s.cmpWire n.val level =
          (s.setCmp n.val { s.cmp n.val with delivered := level }).setTimer n.val { s.timer n.val with due :=
            (s.timer n.val).due ++ [⟨if level = true then 0 else 1, 0, (s.timer n.val).cnt, s.angleStamp, s.t⟩] }) ∧
        (s.par P.TM_EDGE n.val = (if level = true then 1 else 0) →
          s.cmpWire n.val level = s.setCmp n.val { s.cmp n.val with delivered := level })) ∧
      (∀ r : CapRec,
        (bitOf (s.par P.TM_DST n.val) 6 = false →
          s.tmRecord n.val r = s.setTimer n.val { s.timer n.val with last := (r.angle, r.time) }) ∧
        (bitOf (s.par P.TM_DST n.val) 6 = true → (s.timer n.val).fifo.length < 4 → s.tmRecord n.val r =
          (s.bump P.TM_CAPCNT n.val).setTimer n.val { s.timer n.val with
            last := (r.angle, r.time), evt := 1, seq := ((s.timer n.val).seq + 1) % 256
            fifo := (s.timer n.val).fifo ++ [{ r with seq := (((s.timer n.val).seq + 1) % 256 + 255) % 256 }] }) ∧
        (bitOf (s.par P.TM_DST n.val) 6 = true → 4 ≤ (s.timer n.val).fifo.length → s.tmRecord n.val r =
          (((s.bump P.TM_CAPCNT n.val).setTimer n.val { s.timer n.val with
            last := (r.angle, r.time), evt := 1, seq := ((s.timer n.val).seq + 1) % 256 }).bump P.TM_CAPLOST
              n.val).raiseEpisode (Fb.timer n.val) 0 1)) ∧
      (∀ caps cmps : List CapRec, caps = (s.timer n.val).due.filter (fun r => decide (r.kind < 2)) →
        cmps = (s.timer n.val).due.filter (fun r => decide (2 ≤ r.kind)) →
        exec (.timerCapture n) s = .next (s.finish
          (caps.foldl (fun u r => u.tmRecord n.val r) (s.setTimer n.val { s.timer n.val with due := cmps }))) ∧
        exec (.timerCompare n) s = .next (s.finish
          ((caps ++ cmps).foldl (fun u r => u.tmRecord n.val r) (s.setTimer n.val { s.timer n.val with due := [] })))) ∧
      ((s.timer n.val).trigDue = true →
        ((s.timer n.val).state = .run → s.par P.TM_MODE n.val = 3 → s.timersStop = false → ∀ u : State,
          u = s.setTimer n.val { s.timer n.val with trigDue := false, cnt := 0, phase := 0, active := true } →
          (s.par P.TM_CMPA n.val ≠ 0 → s.par P.TM_CMPB n.val ≠ 0 → exec (.timerTrigger n) s = .next (s.finish u)) ∧
          (s.par P.TM_CMPA n.val = 0 → s.par P.TM_CMPB n.val ≠ 0 →
            exec (.timerTrigger n) s = .next (s.finish (u.setTimer n.val { u.timer n.val with
              due := (s.timer n.val).due ++ [⟨2, 0, 0, s.angleStamp, s.t⟩] }))) ∧
          (s.par P.TM_CMPA n.val ≠ 0 → s.par P.TM_CMPB n.val = 0 →
            exec (.timerTrigger n) s = .next (s.finish (u.setTimer n.val { u.timer n.val with
              active := false, due := (s.timer n.val).due ++ [⟨3, 0, 0, s.angleStamp, s.t⟩] })))) ∧
        ((s.timer n.val).state ≠ .run ∨ s.par P.TM_MODE n.val ≠ 3 ∨ s.timersStop = true → exec (.timerTrigger n) s =
          .next (s.finish (s.setTimer n.val { s.timer n.val with trigDue := false }))))) ∧
  (∀ (s : State) (n : Fin 64), s.hopperUp = true → s.resetting (Fb.timer n.val) = false →
      ((s.timer n.val).state = .stopped → exec (.tmCtrlStart n) s =
        .next (s.finish (s.setTimer n.val { s.timer n.val with state := .run, phase := 0 }).done)) ∧
      ((s.timer n.val).state = .run → exec (.tmCtrlStart n) s = .next (s.finish (s.answer Status.notPermitted))) ∧
      ((s.timer n.val).state = .safe → exec (.tmCtrlStart n) s = .next (s.finish (s.answer Status.faultState))) ∧
      ((s.timer n.val).state = .run → exec (.tmCtrlStop n) s =
        .next (s.finish (s.setTimer n.val { s.timer n.val with state := .stopped, active := false }).done)) ∧
      ((s.timer n.val).state = .stopped → exec (.tmCtrlStop n) s = .next (s.finish (s.answer Status.notPermitted))) ∧
      ((s.timer n.val).state = .safe → exec (.tmCtrlStop n) s = .next (s.finish (s.answer Status.faultState))) ∧
      ((s.timer n.val).state = .safe → s.pendingC (Fb.timer n.val) = false → s.pendingC Fb.fabric = false →
        exec (.tmCtrlResume n) s = .next (s.finish ((s.setTimer n.val
          { s.timer n.val with state := .run, phase := 0 }).openWindow (Fb.timer n.val)).done)) ∧
      ((s.timer n.val).state ≠ .safe → exec (.tmCtrlResume n) s = .next (s.finish (s.answer Status.notPermitted))) ∧
      exec (.tmCtrlClearCounters n) s =
        .next (s.finish (s.clearPars [(P.TM_CAPCNT, n.val), (P.TM_CAPLOST, n.val)]).done) ∧
      ((s.timer n.val).state = .run → s.par P.TM_MODE n.val = 3 → s.timersStop = false →
        exec (.tmCtrlTrig n) s = .next (s.finish (s.tmTrigger n.val).done)) ∧
      ((s.timer n.val).state = .run → s.par P.TM_MODE n.val ≠ 3 →
        exec (.tmCtrlTrig n) s = .next (s.finish (s.answer Status.notPermitted))) ∧
      exec (.tmLastangRead n) s = .next (s.finish ((s.setTimer n.val { s.timer n.val with
        latch := some (s.timer n.val).last }).done (leBytes 4 ((s.timer n.val).last.1 % 2 ^ 24)))))

/-- R217, R218, R221, R234, R235, R240 (an FCLK edge takes accepted values, then a due swap, then clocks the user logic under the plane now in
force), R242 (SWAPCRC, CONFIG_SCRUB), Table 8.6 (FCLK_LOSS, after 100 ns): what the fabric's clock and its watchers bring. No edge comes
while the clock is stopped, or beyond the selected rate; a corrupt shadow plane is not swapped, and the host's swap waits again. R219–R221
(host access of a block RAM: the address moves on; a word read with a wrong ninth bit is recorded; a word written waits for the next FCLK
edge, or is written at once while the clock is stopped), R238, R245 (`FAB_CTRL`), R227 (the fabric's mailbox ports): each completes. The
model's choices it rests on: log entries 5, 13, 47, 48, 54 and 121 to 123. -/
def Obligations.FabricClocksAndObeysCommands : Prop :=
  (∀ s : State, s.alive = true →
      (∀ e : FabEdge, s.fclkComes = false → exec (.fabricClockEdge e) s = .next (s.finish s)) ∧
      (∀ (e : FabEdge) (u v : State), s.fclkComes = true → u = s.firstDrive true → u.fclkComes = true →
        v = ((({ u with fab := { u.fab with edges := u.fab.edges + 1, quiet := 0 } } : State).ramUpsets
          e.upsets).takeLive Fb.fabric).fabPulseStep →
        (u.fab.swapDue = false → v.fab.swapDue = false →
          (v.fab.state = .run → exec (.fabricClockEdge e) s = .next (s.finish (v.fabClock e false))) ∧
          (v.fab.state ≠ .run → exec (.fabricClockEdge e) s = .next (s.finish (v.fabRamWrites [])))) ∧
        (u.fab.swapDue = true → v.fab.swapDue = true → e.shadowBad = false → v.fabSwap.fab.state = .run →
          exec (.fabricClockEdge e) s = .next (s.finish (v.fabSwap.fabClock e true))) ∧
        (u.fab.swapDue = true → v.fab.swapDue = true → e.shadowBad = true → v.fab.state = .run → ∀ w : State,
          w = (({ v with fab := { v.fab with swapDue := false } } : State).raise Fb.fabric 3 2).fabClock e false →
          tblGet 0 w.grist.waiting 0xC0 = 2 → exec (.fabricClockEdge e) s = .next (s.finish ((w.setGrist { w.grist with
            waiting := tblErase w.grist.waiting 0xC0, pend := w.grist.pend ++ [0xC0]
            swapped := w.grist.swapped.filter (fun c => !(c == 0xC0)) }).toggleLive 0xC0)))) ∧
      (∀ bad : Bool, s.fab.state = .run ∨ s.fab.state = .safe → s.kiln.state ≠ .hibernate →
        s.fab.scrubAt + msTicks 1 ≤ s.t → ∀ u : State,
        u = ({ s with fab := { s.fab with scrubAt := s.t, scrubOk := !bad } }).bump P.FAB_SCRUB →
        exec (.configScrub bad) s = .next (s.finish (if bad = true
          then u.askEpisode { blk := Fb.fabric, det := 4, cls := 3, access := 1, form := 1, addr := 7 * 2 ^ 28 }
          else u.endEpisode Fb.fabric 4))) ∧
      (s.fab.state = .run → s.kiln.state ≠ .hibernate → 10 ≤ s.fab.quiet → exec .fclkLoss s = .next (s.finish (s.raise Fb.fabric 5 3)))) ∧
  (∀ s : State, s.hopperUp = true → s.resetting Fb.fabric = false →
      (∀ (r : Fin 24) (a : Nat) (u : State), s.fab.live.loaded = true → Config.planeHostRam s.fab.live.bytes r.val = true →
        a = s.par P.FAB_RAMADR r.val → u = s.setPar P.FAB_RAMADR r.val ((a + 1) % 512) →
        ((s.ramCell r.val a).2 = 0 → exec (.fabRamdatAccess r none) s = .next (s.finish
          (({ u with fab := { u.fab with
            ramperr := u.fab.ramperr &&& ~~~ BitVec.ofNat 24 (2 ^ r.val) } } : State).done
              (leBytes 4 (s.ramWord r.val a).toNat)))) ∧
        ((s.ramCell r.val a).2 ≠ 0 → exec (.fabRamdatAccess r none) s = .next (s.finish
          ((({ u with fab := { u.fab with
            ramperr := u.fab.ramperr ||| BitVec.ofNat 24 (2 ^ r.val) } } : State).ramParity 0 r.val a).done
              (leBytes 4 (s.ramWord r.val a).toNat)))) ∧
        (∀ w : Word, s.fabClocked = false → exec (.fabRamdatAccess r (some w)) s =
          .next (s.finish ((u.fabRamWrites []).setRamWord r.val a w).done)) ∧
        (∀ w : Word, s.fabClocked = true → exec (.fabRamdatAccess r (some w)) s = .next (s.finish
          ({ u with fab := { u.fab with
            hostWrites := tblInsert (tblErase u.fab.hostWrites (512 * r.val + a)) (512 * r.val + a) w } } : State).done))) ∧
      (∀ r : Fin 24, s.fab.live.loaded = false →
        exec (.fabRamdatAccess r none) s = .next (s.finish (s.answer Status.notPermitted))) ∧
      (s.fab.state = .safe → s.pendingC Fb.fabric = false → exec .fabCtrlResume s = .next (s.finish
        ((({ s with fab := { s.fab with state := .run, quiet := 0, ffs := Config.planeInit s.fab.live.bytes } } : State).mbParties
          [.fabric]).openWindow Fb.fabric).done)) ∧
      (s.fab.state ≠ .safe → exec .fabCtrlResume s = .next (s.finish (s.answer Status.notPermitted))) ∧
      exec .fabCtrlClearCounters s = .next (s.finish s.fabClear) ∧
      (s.fab.state = .run → exec .fabCtrlReinit s = .next (s.finish
        (({ s with fab := { s.fab with reinitDue := true } } : State).mbParties [.fabric]).done)) ∧
      (s.fab.state = .safe → exec .fabCtrlReinit s = .next (s.finish (s.answer Status.faultState))) ∧
      (∀ (k : Fin 4) (payload : List Byte), s.alive = true → s.fab.state = .run →
        s.isSender (8 + k.val) Sender.fabric = true → (s.mbox (8 + k.val)).msg = none →
        exec (.fabricMbPost k payload) s =
          .next (s.finish (s.mbFill (8 + k.val) (s.newMessage Sender.fabric payload)))) ∧
      (∀ (k : Fin 4) (m : Message), s.alive = true → s.fab.state = .run → (s.mbox (12 + k.val)).msg = some m →
        exec (.fabricMbTake k) s = .next (s.finish (((s.setMbox (12 + k.val)
          { s.mbox (12 + k.val) with msg := none }).setPar P.MB_DSTAT (12 + k.val) 2).mbEmptied (12 + k.val)))))

/-- R252, R275 (a timed plan is made where none has been made since the reset of Kiln, or for `KL_PLANMAX`, and not in HIBERNATE), R20, R83,
R149, R259, R260 (a block is gated once it is idle and if it may still be gated, and powered again 50 µs after it is wanted), R254, R255
(the 1 ms sample), R268 (wake timer and port activity), R269 (the exit from HIBERNATE): each completes. R268, Table 9.6: a wake request in
HIBERNATE whose source is enabled starts the exit, is the last wake, and is traced with the high-water mark; a source that is not enabled,
or a request in another state, does nothing. The model's choices it rests on: log entries 4, 10, 49, 50, 52, 126 and 127. -/
def Obligations.KilnEventsAndWakesComplete : Prop :=
  (∀ s : State, s.alive = true →
      (s.kiln.state ≠ .hibernate → s.kiln.planned = false ∨ s.kiln.planTime + msTicks (s.par P.KL_PLANMAX) ≤ s.t →
        exec .timedPlan s = .next (s.finish (s.plan .timed))) ∧
      (s.kiln.state = .hibernate → exec .timedPlan s = .next (s.finish s)) ∧
      (∀ b : BitVec 8, s.kiln.gateDue.contains b.toNat = true →
        (s.mayGate b.toNat = true → s.gateIdle b.toNat = true →
          exec (.blockGated b) s = .next (s.finish ((s.gateBlock b.toNat).ungateDue b.toNat))) ∧
        (s.mayGate b.toNat = false → exec (.blockGated b) s = .next (s.finish (s.ungateDue b.toNat))) ∧
        (s.mayGate b.toNat = true → s.gateIdle b.toNat = false → exec (.blockGated b) s = .next (s.finish s))) ∧
      (∀ (b : BitVec 8) (u : State), tblGet 0 s.kiln.powerDue b.toNat ≠ 0 →
        u = { s with kiln := { s.kiln with powerDue := tblErase s.kiln.powerDue b.toNat } } →
        (u.isGated b.toNat = true → exec (.blockPowered b) s = .next (s.finish (u.ungateBlock b.toNat))) ∧
        (u.isGated b.toNat = false → exec (.blockPowered b) s = .next (s.finish u))) ∧
      (∀ (temps : List Int) (cur : List Nat) (u v : State), u = (List.range 5).foldl (fun s i => s.sensorRead temps i) s →
        v = { u with kiln := { u.kiln with
          pf := ((u.kiln.pf : Int) + openDivI 18 ((u.measuredPower cur * 2 ^ 32 : Nat) - (u.kiln.pf * 1000000 : Nat))
            (u.par P.KL_TAU * 1000000)).toNat
          measured := u.kiln.measured + u.measuredPower cur } } →
        exec (.thermalSample temps cur) s = .next (s.finish ((v.tempLimits.railLimits cur).spareReadyCheck))) ∧
      (s.kiln.state = .hibernate → s.kiln.hibernateAt + msTicks (s.par P.KL_WAKET) ≤ s.t →
        exec .wakeTimer s = .next (s.finish (s.requestWake 3))) ∧
      (∀ p : HostPort, s.portOn (portCode p) = true →
        exec (.hostPortActivityWake p) s = .next (s.finish (s.requestWake 4))) ∧
      (∀ (w : Nat) (u v : State), s.kiln.state = .hibernate → s.kiln.wake = some w →
        u = ((s.setEng { s.eng with hwm := binOf s.eng.pos, firstCrossed := none, lastStep := none }).bump P.WH_GAPCNT).raise
          Fb.wheel 9 1 →
        v = { u with kiln := { u.kiln with state := if u.par P.KL_WAKEST = 1 then .run else .idle, wake := none } } →
        exec .hibernateExit s = .next (s.finish (v.fabWake.plan .immediate)))) ∧
  (∀ (s : State) (src : Nat), src < 8 →
      (s.kiln.state = .hibernate → bitOf (s.par P.KL_WAKESRC) src = true → s.kiln.wake = none →
        (s.requestWake src).kiln.wake = some src ∧ (s.requestWake src).kiln.wakeAt = s.t ∧
        (s.requestWake src).par P.KL_LASTWAKE = src ∧ (s.requestWake src).kiln.state = .hibernate) ∧
      (s.kiln.state ≠ .hibernate ∨ bitOf (s.par P.KL_WAKESRC) src = false → s.requestWake src = s) ∧
      (∀ w : Nat, s.kiln.state = .hibernate → bitOf (s.par P.KL_WAKESRC) src = true → s.kiln.wake = some w →
        s.kiln.wakeAt ≠ s.t ∨ w ≤ src → s.requestWake src = s))

/-- R265–R267, R276, R470, R648 (`KL_CTRL`): RUN and IDLE move Kiln between its states with a plan, HIBERNATE gates what it may and stops the
fabric, RESUME ends the hold after a class C fault, 5 clears the counters; what a state does not admit is refused. On a ring member,
HIBERNATE and IDLE that R514 forbids are refused and recorded. The model's choices it rests on: log entry 5 (a row that writes or reads a
parameter acts as an accepted host write by no particular port) and 87. -/
def Obligations.PowerCommandsComplete : Prop :=
  ∀ s : State, s.hopperUp = true → s.resetting Fb.kiln = false →
    (s.klRefused 1 = false → s.kiln.heldC = false → s.kiln.state = .idle → exec (.klCtrlRun none) s = .next (s.finish
      (((({ s with kiln := { s.kiln with state := .run } }) : State).plan .immediate).done))) ∧
    (s.klRefused 1 = false → s.kiln.heldC = true →
      exec (.klCtrlRun none) s = .next (s.finish (s.answer Status.faultState))) ∧
    (s.klRefused 1 = false → s.kiln.heldC = false → s.kiln.state ≠ .idle →
      exec (.klCtrlRun none) s = .next (s.finish (s.answer Status.notPermitted))) ∧
    (s.klRefused 2 = false → s.kiln.state = .run ∨ s.kiln.state = .trim → exec (.klCtrlIdle none) s = .next (s.finish
      (((({ s with kiln := { s.kiln with state := .idle } }) : State).plan .immediate).done))) ∧
    (s.klRefused 2 = false → s.kiln.state = .idle ∨ s.kiln.state = .hibernate →
      exec (.klCtrlIdle none) s = .next (s.finish (s.answer Status.notPermitted))) ∧
    (s.klRefused 2 = true →
      exec (.klCtrlIdle none) s = .next (s.finish ((s.raise Fb.sync 4 1).answer Status.notPermitted))) ∧
    (∀ u : State, s.klRefused 3 = false → s.mayHibernate = true → u = s.hibernateGate.fabSleep →
      exec (.klCtrlHibernate none) s = .next (s.finish (((({ u with kiln := { u.kiln with
        state := .hibernate, hibernateAt := u.t, wake := none, gateDue := [], powerDue := [] } }) : State).trace 0x01 0).done))) ∧
    (s.klRefused 3 = false → s.mayHibernate = false →
      exec (.klCtrlHibernate none) s = .next (s.finish (s.answer Status.notPermitted))) ∧
    (s.klRefused 4 = false → s.kiln.heldC = true → s.pendingC Fb.kiln = false → exec (.klCtrlResume none) s = .next (s.finish
      ((((({ s with kiln := { s.kiln with state := .run, heldC := false } }) : State).plan .immediate).openWindow
        Fb.kiln).done))) ∧
    (s.klRefused 4 = false → s.kiln.heldC = false →
      exec (.klCtrlResume none) s = .next (s.finish (s.answer Status.notPermitted))) ∧
    (s.klRefused 5 = false → exec .klCtrlClearCounters s = .next (s.finish ((s.clearPars [(P.KL_PLANCNT, 0), (P.KL_DEFCNT, 0),
      (P.KL_TIMEDCNT, 0), (P.KL_RPTLOST, 0), (P.KL_GATEHIT, 0), (P.KL_GATEDROP, 0), (P.KL_BDREFUSE, 0)]).done)))

/-- R281, R286, R287, R301, Table 10.5: a spare's procedure takes the free bus where no run step can have it and no lower group waits;
measured inside its limits it writes the slice's pair from the 128-conversion sums and makes the spare READY, counted; outside them it
rejects the slice; and 2 ms after its start it is recorded and begins again. R281, R283, R288, R289–R296, R305, Table 10.3: an item of a
run that has been on the bus for its time is measured and ends: the CDAC step goes on where V_CR lies within 2 V ± 2 % and the 16 levels
are linear, and fails otherwise; a cell's pair is formed from its two levels' means and staged, as are a comparator's and an output's
measured pair. A converter's reference is staged from 250 µs into an overhead, an injected cell recovers, the time limit fails the run,
and a blend moves by `CAL_SLEW` each millisecond and ends at its new pair. The model's choices it rests on: log entries 4, 10, 53 and 128
to 130. -/
def Obligations.CalibrationRunsAndSparesComplete : Prop :=
  (∀ (s : State) (g : Fin 4), s.alive = true →
      (s.spareDue g.val = true → s.calBusy = false → s.cal.state ≠ .running → (∀ h : Nat, h < g.val → s.spareDue h = false) →
        exec (.spareCalStart g) s = .next (s.finish { s with cal := { s.cal with
          spares := tblSet {} s.cal.spares g.val { start := some (s.spareWait g.val) } } })) ∧
      (∀ (zero full : BitVec 19) (vcr : BitVec 32) (t0 i : Nat) (u : State), (tblGet {} s.cal.spares g.val).start = some t0 →
        t0 ≤ s.t → (s.group g.val).spare = some i →
        u = { (s.spareEnd g.val).setPar P.CAL_VCR 0 vcr.toNat with cal := { (s.spareEnd g.val).cal with
          vcrValid := decide (1960000 ≤ vcr.toNat) && decide (vcr.toNat ≤ 2040000) } } →
        (vcr.toNat < 1960000 ∨ 2040000 < vcr.toNat →
          exec (.spareCalDone g zero full vcr) s = .next (s.finish u.resLost)) ∧
        (1960000 ≤ vcr.toNat → vcr.toNat ≤ 2040000 → 2048 < zero.toNat →
          exec (.spareCalDone g zero full vcr) s = .next (s.finish (u.sliceReject g.val i))) ∧
        (∀ (span : Nat) (p : CoefPair) (v : State), 1960000 ≤ vcr.toNat → vcr.toNat ≤ 2040000 → zero.toNat ≤ 2048 →
          full.toNat = zero.toNat + span → 0 < span → 50 * ((256000 : Int) - span).natAbs ≤ span →
          p = ⟨openDiv 9 (256000 * 2 ^ 30) span, openDiv 10 zero.toNat 2, u.tNow⟩ →
          v = { u with coefs := tblInsert (tblErase u.coefs (coefKey 0 (5 * g.val + i))) (coefKey 0 (5 * g.val + i)) p } →
          exec (.spareCalDone g zero full vcr) s = .next (s.finish ((v.setGroup g.val ((v.group g.val).setSlice i
            { (v.group g.val).slice i with ready := true })).bump P.CAL_SPARECNT)))) ∧
      (∀ t0 : Nat, (tblGet {} s.cal.spares g.val).start = some t0 → t0 + msTicks 2 ≤ s.t →
        exec (.spareCalTimeout g) s = .next (s.finish (({ s with cal := { s.cal with
          spares := tblSet {} s.cal.spares g.val { start := some s.t } } } : State).askCal 3 1 0
            (5 * g.val + (s.group g.val).spare.getD 0))))) ∧
  (∀ s : State, s.alive = true →
      (∀ (n : Nat) (u : State), s.cal.state = .running → s.cal.item = some n → s.cal.itemStart + s.cal.step.ticks ≤ s.t →
        u = { s.calEndItem with cal := { s.calEndItem.cal with
          items := s.calEndItem.cal.items.filter (fun k => !(k == n)) } } →
        (∀ (vcr : BitVec 32) (linear : Bool) (v : State), s.cal.step = .cdac →
          v = { u.setPar P.CAL_VCR 0 vcr.toNat with cal := { u.cal with
            vcrValid := decide (1960000 ≤ vcr.toNat) && decide (vcr.toNat ≤ 2040000) } } →
          (1960000 ≤ vcr.toNat → vcr.toNat ≤ 2040000 → linear = true →
            exec (.calStepDone none (.line vcr linear)) s = .next (s.finish v.calKick)) ∧
          (1960000 ≤ vcr.toNat → vcr.toNat ≤ 2040000 → linear = false → ∀ w : State, w = v.calFail Status.faultState →
            exec (.calStepDone none (.line vcr linear)) s = .next (s.finish
              (({ w with cal := { w.cal with trigOff := true } } : State).raise Fb.cal 5 2))) ∧
          (vcr.toNat < 1960000 ∨ 2040000 < vcr.toNat → exec (.calStepDone none (.line vcr linear)) s =
            .next (s.finish (v.calFail Status.faultState).resLost))) ∧
        (∀ (lo hi : BitVec 18) (g i : Nat) (p : Nat × Int), s.cal.step = .cell → u.cal.spareOf = some (g, i) →
          p = cellPairOf (u.coef 0 (5 * g + i)) (isSignedMode (u.par P.AC_MODE n)) lo.toNat hi.toNat →
          exec (.calStepDone none (.levels lo hi)) s =
            .next (s.finish (u.stagePair 2 (8 * n + u.par P.AC_GAIN n) p.1 p.2).calKick)) ∧
        (∀ (gain : BitVec 32) (ofs : Int), s.cal.step = .thr → u.cal.step = .thr → exec (.calStepDone none (.pair gain ofs)) s =
          .next (s.finish (u.stagePair 4 n gain.toNat ofs).calKick)) ∧
        (∀ (gain : BitVec 32) (ofs : Int), s.cal.step = .out → u.cal.step = .out → exec (.calStepDone none (.pair gain ofs)) s =
          .next (s.finish (u.stagePair 3 (u.outIndex n) gain.toNat ofs).calKick))) ∧
      (∀ (i : Fin 8) (gain : BitVec 32) (ofs : Int) (u : State), s.cal.state = .running →
        (s.ic i.val).phase = .overhead → s.cal.icItems.contains i.val = true → s.cal.icMeasured.contains i.val = false →
        (s.ic i.val).stop + 25000 ≤ s.t → u = s.stagePair 1 i.val gain.toNat ofs →
        exec (.calStepDone (some i) (.pair gain ofs)) s =
          .next (s.finish { u with cal := { u.cal with icMeasured := u.cal.icMeasured ++ [i.val] } })) ∧
      (∀ n : Fin 64, tblGet 0 s.cal.recovering n.val ≤ s.t → exec (.injectionRecoveryEnd n) s =
        .next (s.finish { s with cal := { s.cal with recovering := tblErase s.cal.recovering n.val } })) ∧
      (s.cal.state = .running → msTicks (s.par P.CAL_TIMEOUT) ≤ s.cal.counted + (s.t - s.cal.since) →
        exec .calRunTimeout s = .next (s.finish ((((({ s.calEndRun with cal :=
          { s.calEndRun.cal with lastFailed := true } }) : State).bump P.CAL_FAILCNT).calAnswer Status.timeout 0).raise
            Fb.cal 0 1))) ∧
      (∀ (k : Fin 128) (b c : Blend), tblGet none s.cal.blends k.val = some b → b.since + msTicks 1 ≤ s.t →
        c = { b with num := b.num + s.par P.CAL_SLEW, since := s.t } →
        (b.delta ≤ b.num + s.par P.CAL_SLEW → exec (.outputBlendTick k) s =
          .next (s.finish { s with cal := { s.cal with blends := tblErase s.cal.blends k.val } })) ∧
        (b.num + s.par P.CAL_SLEW < b.delta → exec (.outputBlendTick k) s =
          .next (s.finish { s with cal := { s.cal with blends := tblSet none s.cal.blends k.val (some c) } }))))

/-- R264, R285, R304, R306, R309 (`CAL_CTRL`, `CAL_CGAIN`, `CAL_COFS`): START requests a run within Kiln's budget, or finds one under way;
ABORT ends any run; COMMIT brings the staged pairs into force outside a run; RETRIG takes triggering up again once the class B fault is
acknowledged; 5 clears the counters; and a coefficient written outside a run is staged for the item of `CAL_CSEL`. The model's choices it
rests on: log entry 5 (a row that writes or reads a parameter acts as an accepted host write by no particular port) and 54. -/
def Obligations.CalibrationCommandsComplete : Prop :=
  ∀ s : State, s.hopperUp = true → s.resetting Fb.cal = false →
    (s.cal.state = .idle → s.budgetOk 0x18 s.calExtra = true → exec (.calCtrlStart none) s = .next (s.finish
      (({ s with cal := { s.cal with state := .pending, admitted := false, stopped := false } } : State).done))) ∧
    (s.cal.state ≠ .idle → exec (.calCtrlStart none) s = .next (s.finish (s.answer Status.busyLocked))) ∧
    (s.cal.state = .idle → s.budgetOk 0x18 s.calExtra = false → exec (.calCtrlStart none) s =
      .next (s.finish ((s.bump P.KL_BDREFUSE).answer Status.budgetDeferred))) ∧
    exec (.calCtrlAbort none) s = .next (s.finish ((s.calEndRun.calAnswer Status.notPermitted 1).done)) ∧
    (s.cal.state = .idle →
      exec (.calCtrlCommit none) s = .next (s.finish ((s.commitStaging.setParI P.CAL_TREF 0 s.tNow).done))) ∧
    (s.cal.state ≠ .idle → exec (.calCtrlCommit none) s = .next (s.finish (s.answer Status.busyLocked))) ∧
    (s.cal.trigOff = true → (s.fb Fb.cal).pendB = false → exec .calCtrlRetrig s =
      .next (s.finish (({ s with cal := { s.cal with trigOff := false, resLost := false } } : State).done))) ∧
    (s.cal.trigOff = false → exec .calCtrlRetrig s = .next (s.finish (s.answer Status.notPermitted))) ∧
    exec .calCtrlClearCounters s = .next (s.finish ((s.clearPars [(P.CAL_RUNCNT, 0), (P.CAL_FAILCNT, 0), (P.CAL_REJCNT, 0),
      (P.CAL_SKIPCNT, 0), (P.CAL_SPARECNT, 0)]).done)) ∧
    (∀ (v : Word) (key : Nat) (old : CoefPair) (put : CoefPair → State),
      key = coefKey (s.par P.CAL_CSEL / 4096) (s.par P.CAL_CSEL % 4096) →
      s.cal.state = .idle → s.cal.staging.find? (fun e => e.1 == key) = none →
      old = s.coef (s.par P.CAL_CSEL / 4096) (s.par P.CAL_CSEL % 4096) →
      put = (fun p => { s with cal := { s.cal with staging := tblInsert (tblErase s.cal.staging key) key p } }) →
      (valueOk P.CAL_CGAIN 0 v.toNat = true →
        exec (.calCoefWrite true v) s = .next (s.finish (put ⟨v.toNat, old.o, s.tNow⟩).done)) ∧
      (valueOk P.CAL_COFS 0 v.toNat = true →
        exec (.calCoefWrite false v) s = .next (s.finish (put ⟨old.g, signedOf 32 v.toNat, s.tNow⟩).done)))

/-- R320–R322, Table 11.5 (checks), R321 (time-out of a load), R329 (AUTOCOMMIT), R336 (restore), R323 (key slots), R365 (flash): what the
grist block's own events do. A load whose checks fail is given up under the failure's code and position; an erase leaves the sector's
bytes 0xFF, and a write clears bits only; the command that waits completes. R365: a programmed byte is the AND of what it was and what is
written, the others stay, and the flash keeps its canonical form. The model's choices it rests on: log entries 4, 19 and 55. -/
def Obligations.GristEventsAndProgrammingComplete : Prop :=
  (∀ s : State, s.alive = true →
      (s.grist.state = .loading → s.grist.checking.isSome = true →
        exec .gristCheckDone s = .next (s.finish s.runChecks) ∧
        (∀ f : LoadFailure, firstSome [check1 s.grist.image s.grist.length, check2 s.grist.image, s.check3 s.grist.image,
            check4 s.grist.image, s.check5 s.grist.image] = some f → exec .gristCheckDone s = .next (s.finish
          (((((s.setPar P.GR_ERRCODE 0 f.code).setPar P.GR_ERRPOS 0 f.pos).bump P.GR_FAILCNT).raise Fb.grist f.det
            1).startRestore.closeAnswer f.status f.code f.pos)))) ∧
      (s.grist.state = .loading → s.grist.checking = none → s.grist.port ≠ 0 →
        s.grist.lastData + msTicks (s.par P.GR_LOADTO) ≤ s.t →
        exec .gristLoadTimeout s = .next (s.finish (s.loadFail ⟨10, s.grist.image.length, Status.timeout, 3⟩))) ∧
      (∀ u : State, s.grist.state = .restoring → u = blockCodes.foldl State.restoreShadow s → exec .restoreDone s =
        .next (s.finish (u.setGrist { u.grist with state := .idle, pend := [], hostWritten := false }))) ∧
      (s.grist.state = .swapped → s.par P.GR_AUTOCOMMIT ≠ 0 →
        ((s.par P.GR_AUTOCOMMIT * 65536 : Nat) : Int) ≤ binSub s.eng.hwm s.grist.swappedAt →
        exec .autocommit s = .next (s.finish s.grCommitNow)) ∧
      (∀ (k : Nat) (key : BitVec 128) (rest : List (Nat × BitVec 128)), s.pwr.keyDue = (k, key) :: rest →
        exec .keyProgramComplete s = .next (s.finish ((({ s with pwr := { s.pwr with keyDue := rest } } : State).keyProgrammed
          k key).completeAll Op.keyProgram k Status.ok))) ∧
      (∀ op : FlashOp, s.grist.flashOp = some op →
        (op.data = none → exec .flashOpDone s = .next (s.finish ((s.setGrist { s.grist with
          flash := s.grist.flash.filter (fun e => !(e.1 / 4096 == op.addr / 4096)), flashOp := none }).complete op.port op.seq
            Status.ok))) ∧
        (∀ d : List Byte, op.data = some d → exec .flashOpDone s = .next (s.finish ((s.setGrist { s.grist with
          flash := programBytes s.grist.flash op.addr d, flashOp := none }).complete op.port op.seq Status.ok))))) ∧
  (∀ (m : Mem) (a : Nat) (d : List Byte), memWf 0xFF m = true →
      memWf 0xFF (programBytes m a d) = true ∧
      (∀ (k : Nat) (h : k < d.length), memRead 0xFF (programBytes m a d) (a + k) = memRead 0xFF m (a + k) &&& d[k]) ∧
      (∀ c : Nat, c < a ∨ a + d.length ≤ c → memRead 0xFF (programBytes m a d) c = memRead 0xFF m c))

/-- R323, R325, R329–R331, R333, R336, R337, R341, R648 (`GR_CTRL`): in its state each command acts, and elsewhere it is refused. The model's
choices it rests on: log entry 5 (a row that writes or reads a parameter acts as an accepted host write by no particular port), 57 and 71. -/
def Obligations.GristCommandsComplete : Prop :=
  ∀ s : State, s.hopperUp = true → s.resetting Fb.grist = false →
    (∀ u : State, s.grist.state = .verified → s.engineRuns = true → s.par P.GR_ACTNEED ≤ s.freeEntries →
      u = s.postImage State.shadowTag → exec .grCtrlArm s = .next (s.finish (((u.setGrist { u.grist with
        state := .armed, reserved := u.grist.listed.length, swapped := [], failed := [], due := [] }).plan .immediate).done))) ∧
    (s.grist.state = .verified → s.engineRuns = true → s.freeEntries < s.par P.GR_ACTNEED →
      exec .grCtrlArm s = .next (s.finish (s.answer Status.noBuffer))) ∧
    (s.grist.state ≠ .verified ∨ s.engineRuns = false →
      exec .grCtrlArm s = .next (s.finish (s.answer Status.notPermitted))) ∧
    (s.grist.state = .verified → exec .grCtrlAbort s = .next (s.finish s.startRestore.done)) ∧
    (s.grist.state = .loading →
      exec .grCtrlAbort s = .next (s.finish ((s.closeAnswer Status.notPermitted 0 0).startRestore.done))) ∧
    (s.grist.state = .armed → exec .grCtrlAbort s =
      .next (s.finish (((s.unpostAll (fun a => a.tag != .none && !s.tagOk a)).startRestore).done))) ∧
    (s.grist.state = .swapping → exec .grCtrlAbort s = .next (s.finish s.enterRollback.done)) ∧
    (s.grist.state = .idle ∨ s.grist.state = .restoring ∨ s.grist.state = .swapped ∨ s.grist.state = .rollback →
      exec .grCtrlAbort s = .next (s.finish (s.answer Status.notPermitted))) ∧
    (s.grist.state = .swapped → exec .grCtrlCommit s = .next (s.finish s.grCommitNow.done)) ∧
    (s.grist.state = .swapped → exec .grCtrlRollback s = .next (s.finish s.enterRollback.done)) ∧
    (s.grist.state ≠ .swapped → exec .grCtrlCommit s = .next (s.finish (s.answer Status.notPermitted)) ∧
      exec .grCtrlRollback s = .next (s.finish (s.answer Status.notPermitted))) ∧
    (s.grist.state = .verified → s.engineRuns = false → (actionRecs s.grist.image).length ≤ s.freeEntries →
      exec .grCtrlImmediate s = .next (s.finish s.immediateSeq.done)) ∧
    (s.grist.state ≠ .verified ∨ s.engineRuns = true →
      exec .grCtrlImmediate s = .next (s.finish (s.answer Status.notPermitted))) ∧
    (s.grist.state = .idle → s.grist.flashOp = none →
      exec .grCtrlFlash s = .next (s.finish (s.flashLoad (s.par P.GR_FSLOT)).done)) ∧
    (s.grist.state ≠ .idle → exec .grCtrlFlash s = .next (s.finish (s.answer Status.busyLocked))) ∧
    (∀ k : BitVec 8, k.toNat < 4 → s.keySlot k.toNat = 1 →
      2 ≤ ((List.range 4).filter (fun j => s.keySlot j == 1)).length → exec (.grCtrlKeyrevoke k) s = .next (s.finish
        (({ s with pwr := { s.pwr with keyState := tblSet 0 s.pwr.keyState k.toNat 2 } } : State).done))) ∧
    (∀ k : BitVec 8, 3 < k.toNat → exec (.grCtrlKeyrevoke k) s = .next (s.finish (s.answer Status.outOfRange))) ∧
    exec .grCtrlClearCounters s = .next (s.finish ((s.clearPars [(P.GR_SWAPCNT, 0), (P.GR_RBCNT, 0), (P.GR_SWAPSKIP, 0),
      (P.GR_FAILCNT, 0)]).done))

/-- Table 12.7 (NOP to RESET), R351, R353, R357, R358, R362: an admitted packet of each opcode, with the length, target and payload its row
asks for, executes, and is answered with the data its row gives. SESSION_OPEN opens the port's session under contract 4 with the next
sequence number. The model's choices it rests on: log entries 7, 61 and 63. -/
def Obligations.SessionPacketsAreAnswered : Prop :=
  ∀ (s : State) (p : Packet) (f : Nat → Nat → Nat) (q : Nat), f = fieldAt p.payload → q = portCode p.port →
    (∀ a : State, a = s.admitted p 0x00 → s.Admits p 0x00 true false → p.payload = [] → p.target = 0 →
      exec (.nop p) s = .next (s.finish ((a.done).executed p 0x00))) ∧
    (∀ a : State, a = s.admitted p 0x03 → s.Admits p 0x03 true false → p.payload = [] → p.target = 0 →
      exec (.identify p) s = .next (s.finish ((a.done (leBytes 4 (a.par P.HP_IDCODE) ++ leBytes 2 (a.par P.HP_PARTNO) ++
      leBytes 1 (a.par P.HP_STEPPING) ++ leBytes 1 0 ++ leBytes 2 (a.par P.HP_ROMVER) ++ leBytes 1 (a.par P.HP_CONTRACTS %
      256) ++ leBytes 1 a.grist.patchSt ++ leBytes 4 a.grist.patchRev ++ leBytes 8 Config.otpUid.toNat)).executed p 0x03))) ∧
    (∀ a : State, a = s.admitted p 0x07 → s.Admits p 0x07 true false → p.payload.length ≤ 1020 → p.target = 0 →
      exec (.echo p) s = .next (s.finish ((a.done p.payload).executed p 0x07))) ∧
    (∀ a : State, a = s.admitted p 0x01 → s.Admits p 0x01 true false → p.payload.length = 4 → p.target = 0 → f 3 1 = 0 →
      f 2 1 ≤ 1 → f 0 1 ≤ 4 → 4 ≤ f 1 1 → a.sl.state = .off →
      exec (.sessionOpen p) s = .next (s.finish ((a.runSessionOpen p).executed p 0x01)) ∧
      ((a.runSessionOpen p).session q).isOpen = true ∧ ((a.runSessionOpen p).session q).contract = 4 ∧ ((a.runSessionOpen
      p).session q).expSeq = (p.seq.toNat + 1) % 65536 ∧ (a.runSessionOpen p).result.status = Status.ok) ∧
    (∀ a : State, a = s.admitted p 0x01 → s.Admits p 0x01 true false → p.payload.length = 4 → p.target = 0 → f 3 1 = 0 →
      f 2 1 ≤ 1 → 4 < f 0 1 ∨ f 1 1 < 4 →
      exec (.sessionOpen p) s = .next (s.finish ((a.answer Status.contractMismatch 4).executed p 0x01))) ∧
    (∀ a : State, a = s.admitted p 0x02 → s.Admits p 0x02 false false → p.payload = [] → p.target = 0 →
      exec (.sessionClose p) s = .next (s.finish (((a.closeSession q).done).executed p 0x02))) ∧
    (∀ a : State, a = s.admitted p 0x04 → s.Admits p 0x04 false false → p.payload.length = 4 → p.target = 0 → f 1 3 = 0 →
      f 0 1 ≤ 1 → a.par P.HP_OWNER = 0 ∨ a.par P.HP_OWNER = q →
      exec (.ownTake p) s = .next (s.finish ((((if a.par P.HP_OWNER = q then a else a.endOwnership (a.par
      P.HP_OWNER)).setPar P.HP_OWNER 0 q).done (leBytes 1 q)).executed p 0x04))) ∧
    (∀ a : State, a = s.admitted p 0x04 → s.Admits p 0x04 false false → p.payload.length = 4 → p.target = 0 → f 0 4 = 0 →
      a.par P.HP_OWNER ≠ 0 → a.par P.HP_OWNER ≠ q →
      exec (.ownTake p) s = .next (s.finish ((a.answer Status.notOwner (a.par P.HP_OWNER)).executed p 0x04))) ∧
    (∀ a : State, a = s.admitted p 0x05 → s.Admits p 0x05 false false → a.owns q = true → p.payload = [] → p.target = 0 →
      exec (.ownRelease p) s = .next (s.finish (((a.endOwnership q).done).executed p 0x05))) ∧
    (∀ a : State, a = s.admitted p 0x06 → s.Admits p 0x06 false false → p.payload = [] → p.target = 0 → a.par
      P.HP_OWNER ≠ 0 →
      exec (.ownQuery p) s = .next (s.finish ((a.done (leBytes 1 (a.par P.HP_OWNER) ++ leBytes 3 0 ++ leBytes 4 (openDiv 32
      (a.t - (a.session (a.par P.HP_OWNER)).lastCmd) 100000))).executed p 0x06))) ∧
    (∀ a : State, a = s.admitted p 0x08 → s.Admits p 0x08 false false → p.payload = [] → p.target = 0 →
      exec (.getTime p) s = .next (s.finish ((a.done (leBytes 6 a.angleStamp ++ leBytes 8 a.t ++ leBytes 1 a.eng.state.code
      ++ leBytes 1 0)).executed p 0x08))) ∧
    (∀ a : State, a = s.admitted p 0x09 → s.Admits p 0x09 false false → p.payload = [] → p.target = 0 →
      exec (.getStatus p) s = .next (s.finish ((a.done (leBytes 1 a.grist.state.code ++ leBytes 1 a.kiln.state.code ++
      leBytes 1 a.eng.state.code ++ leBytes 1 a.highestFault ++ leBytes 4 a.faulty.length)).executed p 0x09))) ∧
    (∀ a : State, a = s.admitted p 0x0A → s.Admits p 0x0A false false → a.owns q = true → p.payload.length = 4 →
      p.target = 0 → f 3 1 = 0 → f 0 1 = 1 → f 1 2 = 0xA55A →
      exec (.resetHopperRestart p) s = .next (s.finish
      ((({ a with pwr := { a.pwr with resetDue := some (1, q, p.seq.toNat) } } : State).done).executed p 0x0A))) ∧
    (∀ a : State, a = s.admitted p 0x0A → s.Admits p 0x0A false false → a.owns q = true → p.payload.length = 4 →
      p.target = 0 → f 3 1 = 0 → f 0 1 = 2 → f 1 2 = 0xA55A →
      exec (.resetDevice p) s = .next (s.finish ((({ a with pwr := { a.pwr with resetDue := some (2, q, p.seq.toNat) } } :
      State).done).executed p 0x0A)))

/-- Tables 12.8 and 12.9 (BANK_READ), R362–R364, R381, R383, R386, R388, R645: an admitted packet of each opcode that names existing
parameters, with the length its row asks for, executes: reads, writes, and the port's group. The model's choices it rests on: log entries
61, 66 and 68. -/
def Obligations.ParameterPacketsAreAnswered : Prop :=
  ∀ (s : State) (p : Packet) (f : Nat → Nat → Nat) (q : Nat), f = fieldAt p.payload → q = portCode p.port →
    (∀ a : State, a = s.admitted p 0x10 → s.Admits p 0x10 false false → p.payload.length = 2 → paramExists (f 0 2)
      p.target.toNat = true →
      exec (.getParam p) s = .next (s.finish ((a.readParam q (f 0 2) p.target.toNat).executed p 0x10))) ∧
    (∀ a : State, a = s.admitted p 0x11 → s.Admits p 0x11 false true → a.owns q = true → p.payload.length = 8 →
      paramExists (f 0 2) p.target.toNat = true → f 2 2 = 0 →
      exec (.setParam p) s = .next (s.finish ((a.writeWith State.grImmediate q ⟨f 0 2, p.target.toNat, f 4 4⟩).executed p
      0x11 (msTicks 600000) (f 0 2 + 4096 * p.target.toNat)))) ∧
    (∀ a : State, a = s.admitted p 0x12 → s.Admits p 0x12 false false → p.payload.length = 4 + 4 * f 0 2 → p.target = 0 →
      f 2 2 = 0 → 1 ≤ f 0 2 → f 0 2 ≤ 128 →
      exec (.getMulti p) s = .next (s.finish ((a.readMany q ((List.range (f 0 2)).map (fun k => (fieldAt p.payload (4 + 4 *
      k) 2, fieldAt p.payload (6 + 4 * k) 2)))).executed p 0x12))) ∧
    (∀ a : State, a = s.admitted p 0x14 → s.Admits p 0x14 false false → p.payload.length = 4 → paramExists (f 0 2)
      p.target.toNat = true → 1 ≤ f 2 2 → f 2 2 ≤ 64 →
      exec (.getRange p) s = .next (s.finish ((a.readMany q ((List.range (f 2 2)).map (fun k => (f 0 2, p.target.toNat +
      k)))).executed p 0x14))) ∧
    (∀ a : State, a = s.admitted p 0x13 → s.Admits p 0x13 false false → a.owns q = true → p.payload.length = 4 + 8 * f 0 2
      → p.target = 0 → f 2 2 = 0 → 1 ≤ f 0 2 → f 0 2 ≤ 127 →
      exec (.setMulti p) s = .next (s.finish ((a.writeList q 0 (setRecords p.payload)).executed p 0x13))) ∧
    (∀ a : State, a = s.admitted p 0x15 → ∀ x : Session, s.Admits p 0x15 false false → a.owns q = true →
      p.payload.length = 4 + 8 * f 0 2 → p.target = 0 → f 2 2 = 0 → 1 ≤ f 0 2 → f 0 2 ≤ 127 → (a.session q).group.length +
      f 0 2 ≤ a.par P.HP_GRPMAX → (∀ w ∈ setRecords p.payload, groupRecStatus w = (Status.ok, 0)) → x = { a.session q with
      group := (a.session q).group ++ (setRecords p.payload).map (fun w => ⟨w.1.id, w.1.inst, w.1.value⟩), groupSet := a.t,
      groupLapsed := false } →
      exec (.setGroup p) s = .next (s.finish (((a.setSession q x).done).executed p 0x15))) ∧
    (∀ a : State, a = s.admitted p 0x16 → s.Admits p 0x16 false false → a.owns q = true → p.payload = [] → p.target = 0 →
      exec (.commit p) s = .next (s.finish ((a.commitGroup State.grImmediate q).executed p 0x16))) ∧
    (∀ a : State, a = s.admitted p 0x17 → s.Admits p 0x17 false false → a.owns q = true → p.payload = [] → p.target = 0 →
      exec (.groupCancel p) s = .next (s.finish (((a.setSession q { a.session q with group := [] }).done).executed p 0x17))) ∧
    (∀ a : State, a = s.admitted p 0x18 → ∀ d : ParamDef, s.Admits p 0x18 false false → p.payload.length = 2 → paramExists
      (f 0 2) p.target.toNat = true → paramDef? (f 0 2) = some d → a.resetting (ownerOf (f 0 2) p.target.toNat) = false →
      exec (.paramInfo p) s = .next (s.finish ((a.done (leBytes 1 (Attr.code d.attr) ++ leBytes 1 (d.count - 1) ++ leBytes 2
      0 ++ leBytes 4 (a.resetValue q (f 0 2) p.target.toNat) ++ leBytes 4 d.range.lowest ++ leBytes 4 (d.range.highest
      p.target.toNat))).executed p 0x18))) ∧
    (∀ a : State, a = s.admitted p 0x19 → s.Admits p 0x19 false false → a.owns q = true → p.payload.length = 12 →
      paramExists (f 0 2) p.target.toNat = true → f 2 2 = 0 →
      exec (.setBits p) s = .next (s.finish ((a.runSetBits p).executed p 0x19))) ∧
    (∀ a : State, a = s.admitted p 0x25 → s.Admits p 0x25 false false → p.payload.length = 2 → paramExists (f 0 2)
      p.target.toNat = true → attrOf (f 0 2) = .rwShadow → a.resetting (ownerOf (f 0 2) p.target.toNat) = false →
      exec (.bankRead p) s = .next (s.finish ((a.done (leBytes 4 (a.shadowPar (f 0 2) p.target.toNat))).executed p 0x25)))

/-- Tables 12.10 and 12.11, R42–R44, R46 (the entries read are checked), R362, R366, R367: an admitted packet of each opcode, with the length
and target its row asks for, executes: actions are posted, cancelled and read back, WAIT_BIN waits, last records are returned, and scan
lists and coefficients are loaded and read. The model's choices it rests on: log entries 7, 11, 29 and 61. -/
def Obligations.WheelAndConverterPacketsAreAnswered : Prop :=
  ∀ (s : State) (p : Packet) (f : Nat → Nat → Nat) (q : Nat), f = fieldAt p.payload → q = portCode p.port →
    (∀ a : State, a = s.admitted p 0x30 → ∀ (k : Nat) (w : BitVec 64) (r : Nat × State), s.Admits p 0x30 false false →
      a.owns q = true → p.payload.length = 12 → p.target = 0 → placeAt p.payload 0 = some k → a.placeBarred k = false →
      w = BitVec.ofNat 64 (f 4 8) → actStatus w = Status.ok → a.freeEntries ≠ 0 → r = a.post w k .none false →
      exec (.postAction p) s = .next (s.finish ((r.2.done (leBytes 4 r.1 ++ r.2.stampBytes)).executed p 0x30))) ∧
    (∀ a : State, a = s.admitted p 0x30 → ∀ (k : Nat), s.Admits p 0x30 false false → a.owns q = true →
      p.payload.length = 12 → p.target = 0 → placeAt p.payload 0 = some k → a.placeBarred k = false → actStatus
      (BitVec.ofNat 64 (f 4 8)) = Status.ok → a.freeEntries = 0 →
      exec (.postAction p) s = .next (s.finish (((a.raise Fb.wheel 12 1).answer Status.noBuffer 2).executed p 0x30))) ∧
    (∀ a : State, a = s.admitted p 0x33 → s.Admits p 0x33 false false → a.owns q = true → p.payload.length = 4 + 12 *
      f 0 2 → p.target = 0 → f 2 2 = 0 →
      exec (.postMulti p) s = .next (s.finish ((a.runPostMulti p).executed p 0x33))) ∧
    (∀ a : State, a = s.admitted p 0x31 → ∀ x : Action, s.Admits p 0x31 false false → a.owns q = true →
      p.payload.length = 4 → p.target = 0 → a.actionAt (f 0 4) = some x →
      exec (.cancelAction p) s = .next (s.finish (((a.unpost (f 0 4)).done).executed p 0x31))) ∧
    (∀ a : State, a = s.admitted p 0x31 → s.Admits p 0x31 false false → a.owns q = true → p.payload.length = 4 →
      p.target = 0 → a.actionAt (f 0 4) = none →
      exec (.cancelAction p) s = .next (s.finish ((a.answer Status.badTarget).executed p 0x31))) ∧
    (∀ a : State, a = s.admitted p 0x32 → ∀ k : Nat, s.Admits p 0x32 false false → a.owns q = true → p.payload.length = 4
      → p.target = 0 → placeAt p.payload 0 = some k → a.placeBarred k = false →
      exec (.clearQueue p) s = .next (s.finish (((a.unpostAll (fun x => x.place == k)).done (leBytes 4 (a.wheel.store.filter
      (fun e => e.2.place == k)).length)).executed p 0x32))) ∧
    (∀ a : State, a = s.admitted p 0x34 → ∀ ecc : List StoreError, s.Admits p 0x34 false false → p.payload.length = 8 →
      p.target = 0 → f 6 2 = 0 →
      exec (.readQueue p ecc) s = .next (s.finish ((a.runReadQueue p ecc).executed p 0x34))) ∧
    (∀ a : State, a = s.admitted p 0x34 → ∀ (ecc : List StoreError) (k : Nat) (read out : List (Nat × Action)) (u : State),
      s.Admits p 0x34 false false → p.payload.length = 8 → p.target = 0 → f 6 2 = 0 → placeAt p.payload 0 = some k →
      read = ((a.queueEntries k).drop (f 4 2)).take 84 → u = read.foldl (fun v e => v.storeCheck ecc e.1) a →
      out = read.filter (fun e => (u.actionAt e.1).isSome) →
      exec (.readQueue p ecc) s = .next (s.finish ((u.done (leBytes 2 (min (u.queueEntries k).length 65535) ++ leBytes 2
      out.length ++ out.flatMap (fun e => leBytes 4 (e.1 + 2 ^ 31 * b2n (isGristAct e.2) + 2 ^ 30 * b2n (isBankB e.2)) ++
      leBytes 8 e.2.word.toNat))).executed p 0x34))) ∧
    (∀ a : State, a = s.admitted p 0x35 → ∀ (ecc : List StoreError) (u : State), s.Admits p 0x35 false false →
      p.payload.length = 4 → p.target = 0 → u = a.storeCheck ecc (f 0 4) →
      (∀ x : Action, u.actionAt (f 0 4) = some x → exec (.readAction p ecc) s = .next (s.finish ((u.done (placeBytes x.place
      ++ leBytes 8 x.word.toNat ++ leBytes 4 (b2n (isGristAct x) + 2 * b2n (isBankB x)))).executed p 0x35))) ∧
      (u.actionAt (f 0 4) = none →
      exec (.readAction p ecc) s = .next (s.finish ((u.answer Status.badTarget).executed p 0x35)))) ∧
    (∀ a : State, a = s.admitted p 0x36 → s.Admits p 0x36 false false → p.payload = [] → p.target = 0 →
      exec (.getAngle p) s = .next (s.finish ((a.done (a.stampBytes ++ leBytes 4 (wrapTo 32 a.speed) ++ leBytes 1
      a.eng.state.code ++ leBytes 1 0 ++ leBytes 5 a.eng.hwm.toNat ++ leBytes 3 0)).executed p 0x36))) ∧
    (∀ a : State, a = s.admitted p 0x37 → s.Admits p 0x37 false true → p.payload.length = 8 → p.target = 0 → f 2 2 = 0 →
      1 ≤ f 4 4 → f 4 4 ≤ 60000 →
      exec (.waitBin p) s = .next (s.finish ((a.answer Status.acceptedPending).executed p 0x37 (msTicks (f 4 4)) (f 0 2)))) ∧
    (∀ a : State, a = s.admitted p 0x40 → ∀ x : LastRecord, s.Admits p 0x40 false false → p.payload.length = 0 →
      p.target.toNat < 192 → tblGet none (a.group (p.target.toNat / 48)).last (p.target.toNat % 48) = some x →
      exec (.readResult p) s = .next (s.finish ((a.done (leBytes 4 x.word.toNat ++ leBytes 6 x.angle ++ leBytes 8
      x.time)).executed p 0x40))) ∧
    (∀ a : State, a = s.admitted p 0x40 → ∀ x : LastRecord, s.Admits p 0x40 false false → p.payload.length = 0 →
      0x100 ≤ p.target.toNat → p.target.toNat ≤ 0x107 → (a.ic (p.target.toNat - 0x100)).last = some x →
      exec (.readResult p) s = .next (s.finish ((a.done (leBytes 4 x.word.toNat ++ leBytes 6 x.angle ++ leBytes 8
      x.time)).executed p 0x40))) ∧
    (∀ a : State, a = s.admitted p 0x41 → ∀ x : LastRecord, s.Admits p 0x41 false false → p.payload.length = 0 →
      p.target.toNat < 32 → (a.lane p.target.toNat).last = some x →
      exec (.readLane p) s = .next (s.finish ((a.done (leBytes 4 x.word.toNat ++ leBytes 6 x.angle ++ leBytes 8
      x.time)).executed p 0x41))) ∧
    (∀ a : State, a = s.admitted p 0x42 → s.Admits p 0x42 false false → a.owns q = true → p.payload.length = 4 + 4 * f 1 1
      → p.target.toNat < 4 → f 2 2 = 0 → 1 ≤ f 1 1 → f 0 1 + f 1 1 ≤ 48 →
      exec (.scanLoad p) s = .next (s.finish ((a.loadWords p (P.SAR_G0SCAN + p.target.toNat) (f 0 1) (f 1 1) 4).executed p
      0x42))) ∧
    (∀ a : State, a = s.admitted p 0x45 → s.Admits p 0x45 false false → p.payload.length = 4 → p.target.toNat < 4 →
      f 2 2 = 0 → 1 ≤ f 1 1 → f 0 1 + f 1 1 ≤ 48 →
      exec (.scanRead p) s = .next (s.finish ((a.readMany q ((List.range (f 1 1)).map (fun k => (P.SAR_G0SCAN +
      p.target.toNat, f 0 1 + k)))).executed p 0x45))) ∧
    (∀ a : State, a = s.admitted p 0x43 → s.Admits p 0x43 false false → a.owns q = true → p.payload.length = 128 →
      p.target.toNat < 4 →
      exec (.coefLoad p) s = .next (s.finish ((a.loadWords p (P.FL_CU0 + p.target.toNat) 0 32 0).executed p 0x43))) ∧
    (∀ a : State, a = s.admitted p 0x44 → s.Admits p 0x44 false false → p.payload.length = 0 → p.target.toNat < 4 →
      exec (.coefRead p) s = .next (s.finish ((a.readMany q ((List.range 32).map (fun k => (P.FL_CU0 + p.target.toNat,
      k)))).executed p 0x44)))

/-- Tables 12.9 and 12.12, R304, R318–R320, R323, R362, R365: an admitted packet of each opcode, with the length and target its row asks for,
executes: an image is loaded, a key slot and the flash are written, coefficient pairs are read and staged, and system calibration and
calibration runs are commanded as by their control parameters. The model's choices it rests on: log entries 7, 51 and 61. -/
def Obligations.ImageAndCalibrationPacketsAreAnswered : Prop :=
  ∀ (s : State) (p : Packet) (f : Nat → Nat → Nat) (q : Nat), f = fieldAt p.payload → q = portCode p.port →
    (∀ a : State, a = s.admitted p 0x20 → s.Admits p 0x20 false false → a.owns q = true → p.payload.length = 4 →
      p.target = 0 → a.grist.state = .idle → 96 ≤ f 0 4 → f 0 4 ≤ 0x100000 →
      exec (.gristOpen p) s = .next (s.finish (((a.openLoad q (f 0 4)).done).executed p 0x20))) ∧
    (∀ a : State, a = s.admitted p 0x20 → s.Admits p 0x20 false false → a.owns q = true → p.payload.length = 4 →
      p.target = 0 → a.grist.state ≠ .idle →
      exec (.gristOpen p) s = .next (s.finish ((a.answer Status.busyLocked).executed p 0x20))) ∧
    (∀ a : State, a = s.admitted p 0x21 → ∀ (img : List Byte) (u : State), s.Admits p 0x21 false false → a.owns q = true →
      5 ≤ p.payload.length → p.payload.length ≤ 1024 → p.target = 0 → a.grist.state = .loading → a.grist.checking = none →
      a.grist.port = q → f 0 4 = a.grist.image.length → img = a.grist.image ++ p.payload.drop 4 →
      img.length ≤ a.grist.length → u = a.setGrist { a.grist with image := img, lastData := a.t } →
      exec (.gristData p) s = .next (s.finish (((if (magicOk img && !isPatch img) = true then u.applyShadow img
      a.grist.image.length img.length else u).done (leBytes 4 img.length)).executed p 0x21))) ∧
    (∀ a : State, a = s.admitted p 0x22 → s.Admits p 0x22 false true → a.owns q = true → p.payload = [] → p.target = 0 →
      a.grist.state = .loading → a.grist.checking = none → a.grist.port = q →
      exec (.gristClose p) s = .next (s.finish (((a.setGrist { a.grist with checking := some a.t }).answer
      Status.acceptedPending).executed p 0x22 (msTicks 200)))) ∧
    (∀ a : State, a = s.admitted p 0x23 → s.Admits p 0x23 false false → p.payload.length = 0 → p.target.toNat ≤ 1 →
      exec (.gristInfo p) s = .next (s.finish ((a.done (slice (if p.target.toNat = 0 then a.grist.liveHeader else
      a.grist.shHeader) 0 64)).executed p 0x23))) ∧
    (∀ a : State, a = s.admitted p 0x24 → s.Admits p 0x24 false true → a.owns q = true → p.payload.length = 16 →
      p.target.toNat ≤ 3 → a.keySlot p.target.toNat = 0 → a.pwr.keyDue.any (fun d => d.1 == p.target.toNat) = false →
      exec (.keyProgram p) s = .next (s.finish ((({ a.answer Status.acceptedPending with pwr :=
      { a.pwr with keyDue := a.pwr.keyDue ++ [(p.target.toNat, BitVec.ofNat 128 (beNat p.payload))] } } : State)).executed p
      0x24 (msTicks 50)))) ∧
    (∀ a : State, a = s.admitted p 0x24 → s.Admits p 0x24 false true → a.owns q = true → p.payload.length = 16 →
      p.target.toNat ≤ 3 → a.keySlot p.target.toNat ≠ 0 →
      exec (.keyProgram p) s = .next (s.finish ((a.answer Status.notPermitted).executed p 0x24 (msTicks 50)))) ∧
    (∀ a : State, a = s.admitted p 0x26 → s.Admits p 0x26 false false → p.payload.length = 6 → p.target = 0 →
      a.portFBusy = false → 1 ≤ f 4 2 → f 4 2 ≤ 1020 → f 0 4 + f 4 2 ≤ 2 ^ 24 →
      exec (.flashRead p) s = .next (s.finish ((a.done (a.flashBytes (f 0 4) (f 4 2))).executed p 0x26))) ∧
    (∀ a : State, a = s.admitted p 0x27 → s.Admits p 0x27 false true → a.owns q = true → p.payload.length = 4 →
      p.target = 0 → a.portFBusy = false → a.grist.flashOp = none → f 0 4 % 4096 = 0 → f 0 4 < 2 ^ 24 →
      exec (.flashErase p) s = .next (s.finish (((a.setGrist
      { a.grist with flashOp := some ⟨q, p.seq.toNat, f 0 4, none⟩ }).answer Status.acceptedPending).executed p 0x27
      (msTicks 500)))) ∧
    (∀ a : State, a = s.admitted p 0x28 → s.Admits p 0x28 false true → a.owns q = true → 5 ≤ p.payload.length →
      p.payload.length ≤ 260 → p.target = 0 → a.portFBusy = false → a.grist.flashOp = none → f 0 4 < 2 ^ 24 → f 0 4 % 256 +
      (p.payload.drop 4).length ≤ 256 →
      exec (.flashWrite p) s = .next (s.finish (((a.setGrist
      { a.grist with flashOp := some ⟨q, p.seq.toNat, f 0 4, some (p.payload.drop 4)⟩ }).answer
      Status.acceptedPending).executed p 0x28 (msTicks 10)))) ∧
    (∀ a : State, a = s.admitted p 0x52 → s.Admits p 0x52 false false → p.payload.length = 0 → itemOk
      p.target.toNat = true →
      exec (.coefGet p) s = .next (s.finish ((a.done (a.coef (p.target.toNat / 4096) (p.target.toNat %
      4096)).bytes).executed p 0x52))) ∧
    (∀ a : State, a = s.admitted p 0x53 → s.Admits p 0x53 false false → a.owns q = true → p.payload.length = 8 → itemOk
      p.target.toNat = true → valueOk P.CAL_CGAIN 0 (f 0 4) = true → valueOk P.CAL_COFS 0 (f 4 4) = true →
      exec (.coefPut p) s = .next (s.finish ((a.coefWrite (p.target.toNat / 4096) (p.target.toNat % 4096) (some (f 0 4))
      (some (signedOf 32 (f 4 4)))).executed p 0x53))) ∧
    (∀ a : State, a = s.admitted p 0x55 → s.Admits p 0x55 false false → p.payload.length = 4 → f 1 3 = 0 → itemOk
      p.target.toNat = true → 1 ≤ f 0 1 → f 0 1 ≤ 84 → p.target.toNat % 4096 + f 0 1 ≤ coefCount (p.target.toNat / 4096) →
      exec (.coefDump p) s = .next (s.finish ((a.done ((List.range (f 0 1)).flatMap (fun k => (a.coef (p.target.toNat /
      4096) (p.target.toNat % 4096 + k)).bytes))).executed p 0x55))) ∧
    (∀ a : State, a = s.admitted p 0x56 → s.Admits p 0x56 false true → a.owns q = true → p.payload.length = 4 → f 1 3 = 0
      → p.target.toNat = sysCellOf p + 256 * sysGroup p → f 0 1 = 0 → a.resetting (Fb.sar (sysGroup p)) = false →
      exec (.syscalClear (.packet p)) s = .next (s.finish ((a.sysCalWrite (sysGroup p) (sysCellOf p + 256 * 0)).executed p
      0x56 (msTicks (s.par P.CAL_TIMEOUT))))) ∧
    (∀ a : State, a = s.admitted p 0x56 → s.Admits p 0x56 false true → a.owns q = true → p.payload.length = 4 → f 1 3 = 0
      → p.target.toNat = sysCellOf p + 256 * sysGroup p → f 0 1 = 1 → a.resetting (Fb.sar (sysGroup p)) = false →
      exec (.syscalZero (.packet p)) s = .next (s.finish ((a.sysCalWrite (sysGroup p) (sysCellOf p + 256 * 1)).executed p
      0x56 (msTicks (s.par P.CAL_TIMEOUT))))) ∧
    (∀ a : State, a = s.admitted p 0x56 → s.Admits p 0x56 false true → a.owns q = true → p.payload.length = 4 → f 1 3 = 0
      → p.target.toNat = sysCellOf p + 256 * sysGroup p → f 0 1 = 2 → a.resetting (Fb.sar (sysGroup p)) = false →
      exec (.syscalFull (.packet p)) s = .next (s.finish ((a.sysCalWrite (sysGroup p) (sysCellOf p + 256 * 2)).executed p
      0x56 (msTicks (s.par P.CAL_TIMEOUT))))) ∧
    (∀ a : State, a = s.admitted p 0x56 → s.Admits p 0x56 false true → a.owns q = true → p.payload.length = 4 → f 1 3 = 0
      → p.target.toNat = sysCellOf p + 256 * sysGroup p → f 0 1 = 3 → a.resetting (Fb.sar (sysGroup p)) = false →
      exec (.syscalApply (.packet p)) s = .next (s.finish ((a.sysCalWrite (sysGroup p) (sysCellOf p + 256 * 3)).executed p
      0x56 (msTicks (s.par P.CAL_TIMEOUT))))) ∧
    (∀ a : State, a = s.admitted p 0x50 → s.Admits p 0x50 false true → a.owns q = true → p.payload = [] → p.target = 0 →
      a.cal.state = .idle → a.budgetOk 0x18 a.calExtra = true →
      exec (.calCtrlStart (some p)) s = .next (s.finish ((a.calStart.answer Status.acceptedPending).executed p 0x50 (msTicks
      (s.par P.HP_PENDMAX))))) ∧
    (∀ a : State, a = s.admitted p 0x51 → s.Admits p 0x51 false false → a.owns q = true → p.payload = [] → p.target = 0 →
      exec (.calCtrlAbort (some p)) s = .next (s.finish ((a.calAbort).executed p 0x51))) ∧
    (∀ a : State, a = s.admitted p 0x54 → s.Admits p 0x54 false false → a.owns q = true → p.payload = [] → p.target = 0 →
      exec (.calCtrlCommit (some p)) s = .next (s.finish ((a.calCommit).executed p 0x54)))

/-- Tables 12.13 and 12.14, R362, R431–R434, R439, R452, R457, R475, R477, R484: an admitted packet of each opcode, with the length and target
its row asks for, executes: whole records leave a ring, a mailbox is read, written or waited for, and captures and logs are read,
acknowledged and cleared. The model's choices it rests on: log entries 7, 61, 64 and 82. -/
def Obligations.StreamMailboxAndFaultPacketsAreAnswered : Prop :=
  ∀ (s : State) (p : Packet) (f : Nat → Nat → Nat) (q : Nat), f = fieldAt p.payload → q = portCode p.port →
    (∀ a : State, a = s.admitted p 0x60 → ∀ k : Nat, s.Admits p 0x60 false false → p.payload.length = 4 →
      p.target.toNat < 64 → f 2 2 = 0 → a.ringPort p.target.toNat = q → a.ringPush p.target.toNat = false → 1 ≤ f 0 2 →
      f 0 2 ≤ 254 → k = wholeRecords (f 0 2) (a.ring p.target.toNat).words.length (a.ring p.target.toNat).words →
      exec (.streamRead p false) s = .next (s.finish (((a.setRing p.target.toNat ((a.ring p.target.toNat).drop k)).done
      (leBytes 2 k ++ leBytes 2 (min 0xFFFF ((a.ring p.target.toNat).words.length - k)) ++ ((a.ring
      p.target.toNat).words.take k).flatMap (fun w => leBytes 4 w.w.toNat))).executed p 0x60))) ∧
    (∀ a : State, a = s.admitted p 0x61 → s.Admits p 0x61 false false → p.payload.length = 0 → p.target.toNat < 64 →
      a.ringPort p.target.toNat = q →
      exec (.streamStatus p) s = .next (s.finish ((a.done (leBytes 4 (a.ring p.target.toNat).words.length ++ leBytes 4
      (a.par P.ST_LOST p.target.toNat))).executed p 0x61))) ∧
    (∀ a : State, a = s.admitted p 0x62 → s.Admits p 0x62 false false → p.payload.length = 0 → p.target.toNat < 64 →
      a.ringPort p.target.toNat = q →
      exec (.streamFlush p) s = .next (s.finish (((a.ringFlush p.target.toNat).done (leBytes 4 (a.ring
      p.target.toNat).words.length)).executed p 0x62))) ∧
    (∀ a : State, a = s.admitted p 0x62 → s.Admits p 0x62 false false → p.payload.length = 0 → p.target.toNat < 64 →
      a.ringPort p.target.toNat ≠ q →
      exec (.streamFlush p) s = .next (s.finish ((a.answer Status.notOwner (a.ringPort p.target.toNat)).executed p 0x62))) ∧
    (∀ a : State, a = s.admitted p 0x63 → ∀ m : Message, s.Admits p 0x63 false false → p.payload.length = 0 →
      p.target.toNat < 8 → a.fromHost p.target.toNat = false → a.par P.MB_PORT p.target.toNat = 0 ∨ a.par P.MB_PORT
      p.target.toNat = q → (a.mbox p.target.toNat).msg = some m →
      exec (.mbRead p) s = .next (s.finish (((a.mbTake p.target.toNat).done (leBytes 2 m.status ++ leBytes 2
      m.payload.length ++ slice m.payload 0 64)).executed p 0x63))) ∧
    (∀ a : State, a = s.admitted p 0x64 → s.Admits p 0x64 false true → p.payload.length = 4 + f 0 2 → p.target.toNat < 8 →
      f 2 2 = 0 → a.toHost p.target.toNat = false → (List.range 4).any (fun k => a.par P.MB_ROUTE (4 + k) == p.target.toNat)
      = true → a.par P.MB_PORT p.target.toNat = 0 ∨ a.par P.MB_PORT p.target.toNat = q → 1 ≤ f 0 2 → f 0 2 ≤ 64 → (a.mbox
      p.target.toNat).msg = none →
      exec (.mbWrite p) s = .next (s.finish (((a.mbFill p.target.toNat (a.newMessage q (p.payload.drop 4))).done).executed p
      0x64 (usTicks (s.par P.MB_TIMEOUT p.target.toNat))))) ∧
    (∀ a : State, a = s.admitted p 0x64 → ∀ x : Mailbox, s.Admits p 0x64 false true → p.payload.length = 4 + f 0 2 →
      p.target.toNat < 8 → f 2 2 = 0 → a.toHost p.target.toNat = false → (List.range 4).any (fun k => a.par P.MB_ROUTE (4 +
      k) == p.target.toNat) = true → a.par P.MB_PORT p.target.toNat = 0 ∨ a.par P.MB_PORT p.target.toNat = q → 1 ≤ f 0 2 →
      f 0 2 ≤ 64 → (a.mbox p.target.toNat).msg.isSome = true → x = a.mbox p.target.toNat →
      exec (.mbWrite p) s = .next (s.finish (((a.setMbox p.target.toNat
      { x with pendWrites := x.pendWrites ++ [⟨q, p.seq.toNat, p.payload.drop 4⟩] }).answer Status.acceptedPending).executed
      p 0x64 (usTicks (s.par P.MB_TIMEOUT p.target.toNat))))) ∧
    (∀ a : State, a = s.admitted p 0x65 → s.Admits p 0x65 false false → p.payload = [] → p.target = 0 →
      exec (.mbStatus p) s = .next (s.finish ((a.done (leBytes 2 a.mbFull ++ leBytes 2 0)).executed p 0x65))) ∧
    (∀ a : State, a = s.admitted p 0x70 → s.Admits p 0x70 false false → p.payload = [] → p.target = 0 →
      exec (.faultSummary p) s = .next (s.finish ((a.done a.faultNibbles).executed p 0x70))) ∧
    (∀ a : State, a = s.admitted p 0x71 → s.Admits p 0x71 false false → p.payload.length = 0 → p.target.toNat < 0xF8 →
      exec (.faultRead p) s = .next (s.finish ((a.done (a.captureBytes p.target.toNat)).executed p 0x71))) ∧
    (∀ a : State, a = s.admitted p 0x72 → s.Admits p 0x72 false false → a.owns q = true → p.payload.length = 4 → f 1 3 = 0
      → p.target.toNat < 0xF8 →
      exec (.faultAck (.packet p)) s = .next (s.finish ((a.faultAck p.target.toNat (f 0 1)).executed p 0x72))) ∧
    (∀ a : State, a = s.admitted p 0x73 → ∀ es : List FaultRec, s.Admits p 0x73 false false → p.payload.length = 4 →
      f 1 3 = 0 → 1 ≤ f 0 1 → f 0 1 ≤ 31 → a.logEntries p.target.toNat (f 0 1) = some es →
      exec (.logRead p none) s = .next (s.finish ((a.done (es.flatMap FaultRec.bytes)).executed p 0x73))) ∧
    (∀ a : State, a = s.admitted p 0x74 → s.Admits p 0x74 false false → a.owns q = true → p.payload = [] → p.target = 0 →
      exec (.logClear (some p)) s = .next (s.finish
      ((({ a with flt := { a.flt with log := [], overflow := [], ovfLost := false } } : State).done).executed p 0x74)))

/-- Tables 12.15 to 12.17, R265, R362, R520–R522, R526, R588–R591, R596, R601: an admitted packet of each opcode, with the length and target
its row asks for, executes, or is refused as its state says. The model's choices it rests on: log entries 7, 51, 61, 91, 96 and 98. -/
def Obligations.KilnSyncAndTestPacketsAreAnswered : Prop :=
  ∀ (s : State) (p : Packet) (f : Nat → Nat → Nat) (q : Nat), f = fieldAt p.payload → q = portCode p.port →
    (∀ a : State, a = s.admitted p 0x80 → s.Admits p 0x80 false false → p.payload = [] → p.target = 0 →
      exec (.kilnReport p) s = .next (s.finish ((a.done (slice a.kiln.report 0 64)).executed p 0x80))) ∧
    (∀ a : State, a = s.admitted p 0x81 → s.Admits p 0x81 false false → p.payload.length = 4 → f 1 3 = 0 →
      p.target.toNat < 256 → 1 ≤ f 0 1 → f 0 1 ≤ 127 → p.target.toNat + f 0 1 ≤ 256 →
      exec (.kilnJobs p) s = .next (s.finish ((a.done ((List.range (f 0 1)).flatMap (fun k => a.jobBytes (p.target.toNat +
      k)))).executed p 0x81))) ∧
    (∀ a : State, a = s.admitted p 0x82 → ∀ u : State, s.Admits p 0x82 false false → a.owns q = true →
      p.payload.length = 4 → p.target = 0 → f 1 3 = 0 → f 0 1 = 1 → a.resetting Fb.kiln = false → u = a.klHostCtrl 1 →
      exec (.klCtrlRun (some p)) s = .next (s.finish ((if u.result.status = Status.ok then u.done (leBytes 1
      u.kiln.state.code) else u).executed p 0x82))) ∧
    (∀ a : State, a = s.admitted p 0x82 → ∀ u : State, s.Admits p 0x82 false false → a.owns q = true →
      p.payload.length = 4 → p.target = 0 → f 1 3 = 0 → f 0 1 = 2 → a.resetting Fb.kiln = false → u = a.klHostCtrl 2 →
      exec (.klCtrlIdle (some p)) s = .next (s.finish ((if u.result.status = Status.ok then u.done (leBytes 1
      u.kiln.state.code) else u).executed p 0x82))) ∧
    (∀ a : State, a = s.admitted p 0x82 → ∀ u : State, s.Admits p 0x82 false false → a.owns q = true →
      p.payload.length = 4 → p.target = 0 → f 1 3 = 0 → f 0 1 = 3 → a.resetting Fb.kiln = false → u = a.klHostCtrl 3 →
      exec (.klCtrlHibernate (some p)) s = .next (s.finish ((if u.result.status = Status.ok then u.done (leBytes 1
      u.kiln.state.code) else u).executed p 0x82))) ∧
    (∀ a : State, a = s.admitted p 0x82 → ∀ u : State, s.Admits p 0x82 false false → a.owns q = true →
      p.payload.length = 4 → p.target = 0 → f 1 3 = 0 → f 0 1 = 4 → a.resetting Fb.kiln = false → u = a.klHostCtrl 4 →
      exec (.klCtrlResume (some p)) s = .next (s.finish ((if u.result.status = Status.ok then u.done (leBytes 1
      u.kiln.state.code) else u).executed p 0x82))) ∧
    (∀ a : State, a = s.admitted p 0x90 → s.Admits p 0x90 false false → p.payload = [] → p.target = 0 →
      exec (.slStatus p) s = .next (s.finish ((a.runSlStatus).executed p 0x90))) ∧
    (∀ a : State, a = s.admitted p 0x91 → s.Admits p 0x91 false true → a.owns q = true → p.payload.length = 4 →
      p.target = 0 → f 1 3 = 0 → 2 ≤ f 0 1 → f 0 1 ≤ 3 → a.isPair = true → a.sl.state ≠ .off → a.role = Role.active →
      exec (.slRole p) s = .next (s.finish (((a.setSl
      { a.sl with releaseDue := true, roleWait := a.sl.roleWait ++ [(q, p.seq.toNat)] }).answer
      Status.acceptedPending).executed p 0x91 (msTicks 100)))) ∧
    (∀ a : State, a = s.admitted p 0x91 → s.Admits p 0x91 false true → a.owns q = true → p.payload.length = 4 →
      p.target = 0 → f 1 3 = 0 → f 0 1 < 2 →
      exec (.slRole p) s = .next (s.finish ((a.answer Status.notPermitted).executed p 0x91 (msTicks 100)))) ∧
    (∀ a : State, a = s.admitted p 0x92 → s.Admits p 0x92 false true → a.owns q = true → p.payload = [] → p.target = 0 →
      a.isPair = true → a.role = Role.active → a.sl.state = .synced → a.partnerRec.valid = true → a.partnerRec.hold = false
      →
      exec (.slCopy p) s = .next (s.finish (((a.setSl { a.sl with copyDue := a.sl.copyDue ++ [(q, p.seq.toNat)] }).answer
      Status.acceptedPending).executed p 0x92 (msTicks (s.par P.HP_PENDMAX))))) ∧
    (∀ a : State, a = s.admitted p 0x93 → s.Admits p 0x93 false true → a.owns q = true → p.payload = [] → p.target = 0 →
      a.mayTakeOver = true →
      exec (.slTakeover p) s = .next (s.finish (((a.setSl
      { a.sl with takeDue := true, takeWait := a.sl.takeWait ++ [(q, p.seq.toNat)] }).answer
      Status.acceptedPending).executed p 0x93 (msTicks 100)))) ∧
    (∀ a : State, a = s.admitted p 0x93 → s.Admits p 0x93 false true → a.owns q = true → p.payload = [] → p.target = 0 →
      a.mayTakeOver = false →
      exec (.slTakeover p) s = .next (s.finish ((a.answer Status.notPermitted).executed p 0x93 (msTicks 100)))) ∧
    (∀ a : State, a = s.admitted p 0xA2 → ∀ (u : State) (c : Nat), s.Admits p 0xA2 false false → a.owns q = true →
      p.payload = [] → p.target = 0 → a.par P.TST_AUTHFAIL < 3 → a.tst.testLock = false →
      u = { a with tst := { a.tst with testPinN := false } } → c = (Config.challenge u.fresh).toNat →
      exec (.testEnter p true) s = .next (s.finish
      ((({ u.nextFresh with tst := { u.tst with challenge := some c, challengeTime := u.t } } : State).done (leBytes 8
      c)).executed p 0xA2))) ∧
    (∀ a : State, a = s.admitted p 0xA2 → s.Admits p 0xA2 false false → a.owns q = true → p.payload = [] → p.target = 0 →
      exec (.testEnter p false) s = .next (s.finish (((({ a with tst := { a.tst with testPinN := true } } : State).trace
      0x0C 2).answer Status.notPermitted).executed p 0xA2))) ∧
    (∀ a : State, a = s.admitted p 0xA3 → ∀ (c : Nat) (u : State), s.Admits p 0xA3 false false → a.owns q = true →
      p.payload.length = 16 → p.target = 0 → a.tst.challenge = some c → a.t ≤ a.tst.challengeTime + msTicks 1000 →
      p.payload = testAnswer c → u =
      { a with tst := { a.tst with challenge := none, testMode := true, testPort := q, testLast := a.t } } →
      exec (.testResponse p) s = .next (s.finish ((((((u.bump P.TST_TESTCNT).raise Fb.test 4 1).trace 0x0C
      1)).done).executed p 0xA3))) ∧
    (∀ a : State, a = s.admitted p 0xA3 → s.Admits p 0xA3 false false → a.owns q = true → p.payload.length = 16 →
      p.target = 0 → a.tst.challenge = none →
      exec (.testResponse p) s = .next (s.finish ((a.testFails).executed p 0xA3))) ∧
    (∀ a : State, a = s.admitted p 0xA4 → s.Admits p 0xA4 false false → a.owns q = true → p.payload = [] → p.target = 0 →
      a.tst.testMode = true →
      exec (.testExit p) s = .next (s.finish ((a.testEnd.done).executed p 0xA4))) ∧
    (∀ a : State, a = s.admitted p 0xA4 → s.Admits p 0xA4 false false → a.owns q = true → p.payload = [] → p.target = 0 →
      a.tst.testMode = false →
      exec (.testExit p) s = .next (s.finish ((a.answer Status.notPermitted).executed p 0xA4))) ∧
    (∀ a : State, a = s.admitted p 0xA5 → ∀ (k b j : Nat) (r : Raise), s.Admits p 0xA5 false false → a.owns q = true →
      p.payload.length = 4 → f 1 3 = 0 → p.target.toNat < 0xF8 → a.tst.testMode = true → detClass p.target.toNat
      (f 0 1) = some k → b = p.target.toNat → r =
      { blk := b, det := f 0 1, cls := k, master := 5, addr := stateAddr b 0, injected := true, inst := j } → j = (if
      b = Fb.faults then 1 else 0) →
      exec (.faultInject p) s = .next (s.finish ((((a.setPar P.TST_INJLAST 0 (b + 256 * f 0 1)).ask r).done).executed p
      0xA5))) ∧
    (∀ a : State, a = s.admitted p 0xA6 → s.Admits p 0xA6 false false → p.payload.length = 6 → p.target = 0 →
      a.tst.testMode = true → 1 ≤ f 4 2 → f 4 2 ≤ 1020 → f 0 4 % 2 ^ 28 + f 4 2 ≤ memSize (f 0 4 / 2 ^ 28) →
      exec (.memRead p) s = .next (s.finish ((a.nextFresh.done ((List.range (f 4 2)).map (fun i => a.memByte a.fresh (f 0 4
      / 2 ^ 28) (f 0 4 % 2 ^ 28 + i)))).executed p 0xA6))) ∧
    (∀ a : State, a = s.admitted p 0xA6 → s.Admits p 0xA6 false false → p.payload.length = 6 → p.target = 0 →
      a.tst.testMode = false →
      exec (.memRead p) s = .next (s.finish ((a.answer Status.notPermitted).executed p 0xA6))) ∧
    (∀ a : State, a = s.admitted p 0xA1 → s.Admits p 0xA1 false false → p.payload.length = 4 → f 1 3 = 0 → 1 ≤ f 0 1 →
      f 0 1 ≤ 63 → p.target.toNat + f 0 1 ≤ a.tst.buffer.length →
      exec (.traceRead p none) s = .next (s.finish ((a.done (((a.tst.buffer.drop p.target.toNat).take (f 0 1)).flatMap
      TraceEntry.bytes)).executed p 0xA1))) ∧
    (∀ a : State, a = s.admitted p 0xA0 → s.Admits p 0xA0 false false → a.owns q = true → p.payload.length = 8 →
      p.target = 0 → f 1 3 = 0 → f 0 1 = 1 →
      exec (.traceStart (some p)) s = .next (s.finish (((a.setPar P.TST_TRCMASK 0 (f 4 4)).tstCtrl 1).executed p 0xA0))) ∧
    (∀ a : State, a = s.admitted p 0xA0 → s.Admits p 0xA0 false false → a.owns q = true → p.payload.length = 8 →
      p.target = 0 → f 1 3 = 0 → f 0 1 = 2 →
      exec (.traceStop (some p)) s = .next (s.finish (((a.setPar P.TST_TRCMASK 0 (f 4 4)).tstCtrl 2).executed p 0xA0))) ∧
    (∀ a : State, a = s.admitted p 0xA0 → s.Admits p 0xA0 false false → a.owns q = true → p.payload.length = 8 →
      p.target = 0 → f 1 3 = 0 → f 0 1 = 3 →
      exec (.traceClear (some p)) s = .next (s.finish (((a.setPar P.TST_TRCMASK 0 (f 4 4)).tstCtrl 3).executed p 0xA0)))

/-- R400–R402, R420–R423, Table 14.7: a Gen-1 frame that S1 takes, outside faithful mode, shows BUSY, counts, executes its OP, and is answered
in the reply register: at once, or once the swaps of its shadow writes are made. OP 0x00 reads the register; a frame of another length,
with a failed check or with an OP that the part lacks is counted or refused. R421, R422, R424, Table 14.7 (the packets of code 0x22): a
personality packet on S2 or U that passes the acceptance steps, outside faithful mode, executes its OP with its target as ARG and its
payload as DATA, and its reply carries Q1 as data: at once, or once the swaps of its shadow writes are made; READ_BLOCK reads up to 32
channels. The model's choices it rests on: log entries 73 to 76. -/
def Obligations.GenOneFramesAreAnswered : Prop :=
  (∀ (s : State) (arg : BitVec 8) (data : BitVec 16) (x : PersArg), x = ⟨1, s.par P.HP_PERS == 2, arg.toNat, data.toNat⟩ →
      (∀ b : State, b = s.framed 0x01 → s.TakesFrame 0x01 →
        exec (.readId (.frame arg data)) s = .next (s.finish ((b.doneQ (if x.big = true then 0x3212 else 0x1608)).s1Reply 0x01
        b.hp.s1.count))) ∧
      (∀ b : State, b = s.framed 0x02 → s.TakesFrame 0x02 →
        exec (.readStatus (.frame arg data)) s = .next (s.finish ((b.doneQ b.persStatus).s1Reply 0x02 b.hp.s1.count))) ∧
      (∀ b c : State, b = s.framed 0x03 → c = b.s1Auto → s.TakesFrame 0x03 → c.owns 1 = true →
        exec (.softReset (.frame arg data)) s = .next (s.finish ((State.runSoftReset x c).answered 0x03 b.hp.s1.count))) ∧
      (∀ b c : State, b = s.framed 0x08 → c = b.s1Auto → s.TakesFrame 0x08 → x.arg < persChannels x.big → c.owns 1 = true →
        exec (.setGain (.frame arg data)) s = .next (s.finish ((c.write 1 ⟨P.AC_GAIN, c.persCell x.arg, x.data⟩).s1Reply 0x08
        b.hp.s1.count))) ∧
      (∀ b u : State, b = s.framed 0x09 → s.TakesFrame 0x09 → x.arg < persChannels x.big → u = b.readParam 1 P.AC_GAIN
        (b.persCell x.arg) →
        exec (.getGain (.frame arg data)) s = .next (s.finish ((if u.result.status = Status.ok then u.doneQ (fieldAt
        u.result.data 0 2) else u).s1Reply 0x09 b.hp.s1.count))) ∧
      (∀ b c : State, b = s.framed 0x0A → c = b.s1Auto → s.TakesFrame 0x0A → x.arg < persChannels x.big → c.owns 1 = true →
        exec (.setFilter (.frame arg data)) s = .next (s.finish ((c.write 1 ⟨P.AC_AAF, c.persCell x.arg, x.data⟩).s1Reply 0x0A
        b.hp.s1.count))) ∧
      (∀ b c : State, b = s.framed 0x0B → c = b.s1Auto → s.TakesFrame 0x0B → x.arg < persChannels x.big → c.owns 1 = true →
        x.data ≤ 2 ∨ (x.data = 3 ∧ x.big = true) →
        exec (.setMode (.frame arg data)) s = .next (s.finish ((c.persWrites 1 [⟨P.AC_MODE, c.persCell x.arg, x.data⟩]
        []).answered 0x0B b.hp.s1.count))) ∧
      (∀ b c : State, b = s.framed 0x10 → c = b.s1Auto → s.TakesFrame 0x10 → x.arg < 2 → c.owns 1 = true →
        exec (.startScan (.frame arg data)) s = .next (s.finish ((State.runStartScan x c).answered 0x10 b.hp.s1.count))) ∧
      (∀ b c : State, b = s.framed 0x11 → c = b.s1Auto → s.TakesFrame 0x11 → c.owns 1 = true →
        exec (.stopScan (.frame arg data)) s = .next (s.finish (((c.stopLists 1).done).s1Reply 0x11 b.hp.s1.count))) ∧
      (∀ b : State, b = s.framed 0x12 → s.TakesFrame 0x12 → x.arg < persChannels x.big →
        exec (.readCh (.frame arg data)) s = .next (s.finish ((b.doneQ (b.chWord x.arg)).s1Reply 0x12 b.hp.s1.count))) ∧
      (∀ b c : State, b = s.framed 0x13 → c = b.s1Auto → s.TakesFrame 0x13 → c.owns 1 = true → 10 ≤ x.data →
        exec (.setRate (.frame arg data)) s = .next (s.finish ((c.persWrites 1 ((List.range 4).map (fun g => ⟨P.SAR_PACE, 16 *
        g + 15, 100 * x.data⟩)) []).answered 0x13 b.hp.s1.count))) ∧
      (∀ b c : State, b = s.framed 0x18 → c = b.s1Auto → s.TakesFrame 0x18 → x.big = true → x.arg < persChannels x.big →
        c.owns 1 = true →
        exec (.setThrh (.frame arg data)) s = .next (s.finish ((setThr 16 x c).s1Reply 0x18 b.hp.s1.count))) ∧
      (∀ b c : State, b = s.framed 0x19 → c = b.s1Auto → s.TakesFrame 0x19 → x.big = true → x.arg < persChannels x.big →
        c.owns 1 = true →
        exec (.setThrl (.frame arg data)) s = .next (s.finish ((setThr 0 x c).s1Reply 0x19 b.hp.s1.count))) ∧
      (∀ b c : State, b = s.framed 0x1A → c = b.s1Auto → s.TakesFrame 0x1A → x.big = true → x.arg < persChannels x.big →
        c.owns 1 = true →
        exec (.persCmpCtrl (.frame arg data)) s = .next (s.finish ((State.runPersCmp x c).s1Reply 0x1A b.hp.s1.count))) ∧
      (∀ b : State, b = s.framed 0x1B → s.TakesFrame 0x1B → x.big = true → x.arg < persChannels x.big → b.readStatus
        P.CMP_STATUS (b.persCell x.arg) = Status.ok →
        exec (.readCmp (.frame arg data)) s = .next (s.finish (((b.setPar P.CMP_EVENT (b.persCell x.arg) 0).doneQ (b2n (b.cmp
        (b.persCell x.arg)).delivered + 2 * b.par P.CMP_EVENT (b.persCell x.arg))).s1Reply 0x1B b.hp.s1.count))) ∧
      (∀ b c : State, b = s.framed 0x20 → c = b.s1Auto → s.TakesFrame 0x20 → x.big = true → x.arg < persChannels x.big →
        c.owns 1 = true →
        exec (.setOut (.frame arg data)) s = .next (s.finish ((c.write 1 ⟨P.AC_OUT, c.persCell x.arg, x.data⟩).s1Reply 0x20
        b.hp.s1.count))) ∧
      (∀ b : State, b = s.framed 0x38 → s.TakesFrame 0x38 → x.arg < 256 →
        exec (.xsel (.frame arg data)) s = .next (s.finish (((b.setSel 1
        { b.sel 1 with id := x.data, inst := x.arg }).done).s1Reply 0x38 b.hp.s1.count))) ∧
      (∀ b : State, b = s.framed 0x39 → s.TakesFrame 0x39 →
        exec (.xrdlo (.frame arg data)) s = .next (s.finish ((State.runXrdlo x b).s1Reply 0x39 b.hp.s1.count))) ∧
      (∀ b : State, b = s.framed 0x3A → s.TakesFrame 0x3A →
        exec (.xrdhi (.frame arg data)) s = .next (s.finish ((b.doneQ (b.sel 1).latch).s1Reply 0x3A b.hp.s1.count))) ∧
      (∀ b : State, b = s.framed 0x3B → s.TakesFrame 0x3B →
        exec (.xwrlo (.frame arg data)) s = .next (s.finish (((b.setSel 1 { b.sel 1 with staged := x.data }).done).s1Reply
        0x3B b.hp.s1.count))) ∧
      (∀ b c : State, b = s.framed 0x3C → c = b.s1Auto → s.TakesFrame 0x3C → c.owns 1 = true →
        exec (.xwrhi (.frame arg data)) s = .next (s.finish ((State.runXwrhi x c).s1Reply 0x3C b.hp.s1.count))) ∧
      (s.hears 1 = true →
        exec .gen1Nop s = .next (s.finish (s.linkValid 1).s1Read) ∧ exec .gen1FrameDiscard s = .next (s.finish (s.bump
        P.HP_S1SHORT)) ∧
        (∀ u : State, u = (s.linkValid 1).s1Frame 0x30 → exec (.readBlock (.frame arg data)) s = .next (s.finish ((u.answer
        Status.badOpcode).s1Reply 0x30 u.hp.s1.count))) ∧
        (∀ (op : BitVec 6) (u : State), op ≠ 0 → u = (s.bump P.HP_CRCERR 0).s1Frame op.toNat → exec (.gen1FrameRejected op
        false) s = .next (s.finish ((u.answer Status.badCheck).s1Reply op.toNat u.hp.s1.count))) ∧
        (∀ (op : BitVec 6) (u : State), s.gen1Has op.toNat = false → u = (s.linkValid 1).s1Frame op.toNat → exec
        (.gen1FrameRejected op true) s = .next (s.finish ((u.answer Status.badOpcode).s1Reply op.toNat u.hp.s1.count))))) ∧
  (∀ (s : State) (p : Packet) (x : PersArg) (q : Nat), x = ⟨portCode p.port, true, p.target.toNat, fieldAt p.payload 0 2⟩ →
      q = portCode p.port →
      (∀ a : State, a = s.persAdmitted p 0x01 → s.AdmitsPers p 0x01 → p.payload.length = 0 →
        exec (.readId (.packet p)) s = .next (s.finish ((⟨(a.doneQ 0x3212), [], []⟩ : PersOut).replied p 0x01))) ∧
      (∀ a : State, a = s.persAdmitted p 0x02 → s.AdmitsPers p 0x02 → p.payload.length = 0 →
        exec (.readStatus (.packet p)) s = .next (s.finish ((⟨(a.doneQ a.persStatus), [], []⟩ : PersOut).replied p 0x02))) ∧
      (∀ a : State, a = s.persAdmitted p 0x03 → s.AdmitsPers p 0x03 → p.payload.length = 2 → a.owns q = true →
        exec (.softReset (.packet p)) s = .next (s.finish ((State.runSoftReset x a).replied p 0x03))) ∧
      (∀ a : State, a = s.persAdmitted p 0x08 → s.AdmitsPers p 0x08 → p.payload.length = 2 → x.arg < 32 → a.owns q = true →
        exec (.setGain (.packet p)) s = .next (s.finish ((⟨(a.write q ⟨P.AC_GAIN, a.persCell x.arg, x.data⟩), [], []⟩ :
        PersOut).replied p 0x08))) ∧
      (∀ a u : State, a = s.persAdmitted p 0x09 → s.AdmitsPers p 0x09 → p.payload.length = 0 → x.arg < 32 → u = a.readParam
        q P.AC_GAIN (a.persCell x.arg) →
        exec (.getGain (.packet p)) s = .next (s.finish ((⟨(if u.result.status = Status.ok then u.doneQ (fieldAt u.result.data
        0 2) else u), [], []⟩ : PersOut).replied p 0x09))) ∧
      (∀ a : State, a = s.persAdmitted p 0x0A → s.AdmitsPers p 0x0A → p.payload.length = 2 → x.arg < 32 → a.owns q = true →
        exec (.setFilter (.packet p)) s = .next (s.finish ((⟨(a.write q ⟨P.AC_AAF, a.persCell x.arg, x.data⟩), [], []⟩ :
        PersOut).replied p 0x0A))) ∧
      (∀ a : State, a = s.persAdmitted p 0x0B → s.AdmitsPers p 0x0B → p.payload.length = 2 → x.arg < 32 → a.owns q = true →
        x.data ≤ 3 →
        exec (.setMode (.packet p)) s = .next (s.finish ((a.persWrites q [⟨P.AC_MODE, a.persCell x.arg, x.data⟩] []).replied p
        0x0B))) ∧
      (∀ a : State, a = s.persAdmitted p 0x10 → s.AdmitsPers p 0x10 → p.payload.length = 2 → x.arg < 2 → a.owns q = true →
        exec (.startScan (.packet p)) s = .next (s.finish ((State.runStartScan x a).replied p 0x10))) ∧
      (∀ a : State, a = s.persAdmitted p 0x11 → s.AdmitsPers p 0x11 → p.payload.length = 0 → a.owns q = true →
        exec (.stopScan (.packet p)) s = .next (s.finish ((⟨(a.stopLists q).done, [], []⟩ : PersOut).replied p 0x11))) ∧
      (∀ a : State, a = s.persAdmitted p 0x12 → s.AdmitsPers p 0x12 → p.payload.length = 0 → x.arg < 32 →
        exec (.readCh (.packet p)) s = .next (s.finish ((⟨(a.doneQ (a.chWord x.arg)), [], []⟩ : PersOut).replied p 0x12))) ∧
      (∀ a : State, a = s.persAdmitted p 0x13 → s.AdmitsPers p 0x13 → p.payload.length = 2 → a.owns q = true → 10 ≤ x.data →
        exec (.setRate (.packet p)) s = .next (s.finish ((a.persWrites q ((List.range 4).map (fun g => ⟨P.SAR_PACE, 16 * g +
        15, 100 * x.data⟩)) []).replied p 0x13))) ∧
      (∀ a : State, a = s.persAdmitted p 0x18 → s.AdmitsPers p 0x18 → p.payload.length = 2 → x.arg < 32 → a.owns q = true →
        exec (.setThrh (.packet p)) s = .next (s.finish ((⟨(setThr 16 x a), [], []⟩ : PersOut).replied p 0x18))) ∧
      (∀ a : State, a = s.persAdmitted p 0x19 → s.AdmitsPers p 0x19 → p.payload.length = 2 → x.arg < 32 → a.owns q = true →
        exec (.setThrl (.packet p)) s = .next (s.finish ((⟨(setThr 0 x a), [], []⟩ : PersOut).replied p 0x19))) ∧
      (∀ a : State, a = s.persAdmitted p 0x1A → s.AdmitsPers p 0x1A → p.payload.length = 2 → x.arg < 32 → a.owns q = true →
        exec (.persCmpCtrl (.packet p)) s = .next (s.finish ((⟨(State.runPersCmp x a), [], []⟩ : PersOut).replied p 0x1A))) ∧
      (∀ a : State, a = s.persAdmitted p 0x1B → s.AdmitsPers p 0x1B → p.payload.length = 0 → x.arg < 32 → a.readStatus
        P.CMP_STATUS (a.persCell x.arg) = Status.ok →
        exec (.readCmp (.packet p)) s = .next (s.finish ((⟨((a.setPar P.CMP_EVENT (a.persCell x.arg) 0).doneQ (b2n (a.cmp
        (a.persCell x.arg)).delivered + 2 * a.par P.CMP_EVENT (a.persCell x.arg))), [], []⟩ : PersOut).replied p 0x1B))) ∧
      (∀ a : State, a = s.persAdmitted p 0x20 → s.AdmitsPers p 0x20 → p.payload.length = 2 → x.arg < 32 → a.owns q = true →
        exec (.setOut (.packet p)) s = .next (s.finish ((⟨(a.write q ⟨P.AC_OUT, a.persCell x.arg, x.data⟩), [], []⟩ :
        PersOut).replied p 0x20))) ∧
      (∀ (a : State) (first n : Nat), a = s.persAdmitted p 0x30 → s.AdmitsPers p 0x30 → p.payload.length = 2 → x.arg < 1 →
        first = fieldAt p.payload 0 1 → n = fieldAt p.payload 1 1 →
        exec (.readBlock (.packet p)) s = .next (s.finish ((⟨(if n < 1 ∨ 32 < n ∨ 32 < first + n then a.answer
        Status.outOfRange else a.done ((List.range n).flatMap (fun k => leBytes 2 (a.chWord (first + k))))), [], []⟩ :
        PersOut).replied p 0x30))) ∧
      (∀ a : State, a = s.persAdmitted p 0x38 → s.AdmitsPers p 0x38 → p.payload.length = 2 → x.arg < 256 →
        exec (.xsel (.packet p)) s = .next (s.finish ((⟨(a.setSel q { a.sel q with id := x.data, inst := x.arg }).done, [],
        []⟩ : PersOut).replied p 0x38))) ∧
      (∀ a : State, a = s.persAdmitted p 0x39 → s.AdmitsPers p 0x39 → p.payload.length = 0 →
        exec (.xrdlo (.packet p)) s = .next (s.finish ((⟨(State.runXrdlo x a), [], []⟩ : PersOut).replied p 0x39))) ∧
      (∀ a : State, a = s.persAdmitted p 0x3A → s.AdmitsPers p 0x3A → p.payload.length = 0 →
        exec (.xrdhi (.packet p)) s = .next (s.finish ((⟨(a.doneQ (a.sel q).latch), [], []⟩ : PersOut).replied p 0x3A))) ∧
      (∀ a : State, a = s.persAdmitted p 0x3B → s.AdmitsPers p 0x3B → p.payload.length = 2 →
        exec (.xwrlo (.packet p)) s = .next (s.finish ((⟨(a.setSel q { a.sel q with staged := x.data }).done, [], []⟩ :
        PersOut).replied p 0x3B))) ∧
      (∀ a : State, a = s.persAdmitted p 0x3C → s.AdmitsPers p 0x3C → p.payload.length = 2 → a.owns q = true →
        exec (.xwrhi (.packet p)) s = .next (s.finish ((⟨(State.runXwrhi x a), [], []⟩ : PersOut).replied p 0x3C))))

/-- R347–R350, Table 12.5 (steps 5 to 9): what a packet with a native opcode meets where a step fails. A port that does not take it leaves the
state as it was; without a session, with a number that is not the one expected, without a free entry, slot or packet buffers, with a wrong
length, target, owner or reserved byte, it is refused with the status and detail of the step; a retransmission is answered from the cache,
and one of a command that still waits is ignored. Table 12.5 (steps 1 to 4, COMMAND_PACKET_REJECTED), R360 (PENDING_TIMEOUT), R388
(GROUP_LAPSE), R425 (FAITHFUL_REPLY_RELEASE): a packet that fails its header check is counted only, one that fails its length, trailer or
opcode is refused with a reply; a pending command past its limit completes with TIMEOUT, and its wait for a mailbox ends; a group set
`HP_GRPTO` ago is discarded; and a reply whose latency has passed is given. The model's choices it rests on: log entries 4, 61, 62, 65 and
68. -/
def Obligations.PacketsAreAcceptedOrRefused : Prop :=
  (∀ (s : State) (p : Packet) (op q : Nat) (r : Rule) (run : State → State) (a : State) (c : Cmd), q = portCode p.port →
      a = s.arrival p op → c = nativeCmd p op →
      (nativeOk p op = false ∨ s.hears q = false → s.native p op r run = s) ∧
      (nativeOk p op = true → s.hears q = true →
        (r.free = false → (a.session q).isOpen = false → s.native p op r run = a.refuse c Status.notPermitted 1) ∧
        (r.free = false → (a.session q).isOpen = true → p.seq.toNat ≠ (a.session q).expSeq → a.awaits c = true →
          s.native p op r run = a) ∧
        (∀ x : Answered, r.free = false → (a.session q).isOpen = true → p.seq.toNat ≠ (a.session q).expSeq →
          a.awaits c = false → a.cached c = some x → s.native p op r run = a.resend c x) ∧
        (r.free = false → (a.session q).isOpen = true → p.seq.toNat ≠ (a.session q).expSeq → a.awaits c = false →
          a.cached c = none → s.native p op r run =
            (a.bump P.HP_GAPCNT (q - 1)).refuse c Status.sequenceGap (a.session q).expSeq) ∧
        (r.free = true ∨ (a.session q).isOpen = true ∧ p.seq.toNat = (a.session q).expSeq →
          (4 ≤ (a.hp.waits.filter (fun w => w.port == q)).length → s.native p op r run = a.refuse c Status.noBuffer 1) ∧
          ((a.hp.waits.filter (fun w => w.port == q)).length < 4 → r.pend = true → 4 ≤ (a.session q).slots.length →
            s.native p op r run = a.refuse c Status.noBuffer 5) ∧
          ((a.hp.waits.filter (fun w => w.port == q)).length < 4 → (r.pend = true → (a.session q).slots.length < 4) →
            a.sharedBufs < packetBufs p.payload.length →
            s.native p op r run = (a.bump P.ST_NOBUF 3).refuse c Status.noBuffer 3))) ∧
      (∀ d : State, s.Admits p op r.free r.pend → d = s.admitted p op →
        (r.lenOk = false → s.native p op r run = (d.answer Status.badLength 8).reply c) ∧
        (r.lenOk = true → r.targetOk = false → s.native p op r run = (d.answer Status.badTarget).reply c) ∧
        (r.lenOk = true → r.targetOk = true → r.owner = true → d.owns q = false →
          s.native p op r run = (d.answer Status.notOwner (d.par P.HP_OWNER)).reply c) ∧
        (r.lenOk = true → r.targetOk = true → r.owner = false ∨ d.owns q = true → r.zeroOk = false →
          s.native p op r run = (d.answer Status.outOfRange).reply c))) ∧
  (∀ s : State,
      (∀ (p : Packet) (q : Nat) (u : State), q = portCode p.port → u = s.addressed p → packetOk p = true → s.hears q = true →
        exec (.commandPacketRejected p .header) s = .next (s.finish (u.bump P.HP_HDRERR (q - 1))) ∧
        (∀ op : BitVec 8,
          exec (.commandPacketRejected p (.length op)) s =
            .next (s.finish (u.refuse (packetCmd p op.toNat) Status.badLength 2)) ∧
          exec (.commandPacketRejected p (.trailer op)) s =
            .next (s.finish ((u.bump P.HP_CRCERR (q - 1)).refuse (packetCmd p op.toNat) Status.badCheck 0)) ∧
          exec (.commandPacketRejected p (.opcode op)) s = .next (s.finish ((u.arrived (packetCmd p op.toNat)).refuse
            (packetCmd p op.toNat) Status.badOpcode 0)))) ∧
      (∀ (port : HostPort) (seq : BitVec 16) (x : PendSlot), s.hopperUp = true →
        (s.session (portCode port)).slots.find? (fun x => x.seq % 65536 == seq.toNat && decide (x.limit ≤ s.t)) = some x →
        (x.opcode ≠ Op.mbWrite → s.mboxes = [] →
          exec (.pendingTimeout port seq) s = .next (s.finish (s.complete (portCode port) x.seq Status.timeout))) ∧
        (∀ (n : Nat) (m : Mailbox) (ws : List PendWrite), x.opcode = Op.mbWrite → s.mboxes = [(n, m)] →
          ws = m.pendWrites.filter (fun w => !(w.port == portCode port && w.seq == x.seq)) → { m with pendWrites := ws } ≠ {} →
          exec (.pendingTimeout port seq) s = .next (s.finish (({ s with mboxes := [(n, { m with pendWrites := ws })] } :
            State).complete (portCode port) x.seq Status.timeout)))) ∧
      (∀ (port : HostPort) (q : Nat), q = portCode port → s.hopperUp = true → s.par P.HP_GRPTO ≠ 0 → (s.session q).group ≠ [] →
        (s.session q).groupSet + msTicks (s.par P.HP_GRPTO) ≤ s.t → exec (.groupLapse port) s =
          .next (s.finish (s.setSession q { s.session q with group := [], groupLapsed := true }))) ∧
      (∀ (port : HostPort) (w : PersWait) (r : Nat) (rest : List PersWait), s.hopperUp = true → s.hp.waits = w :: rest →
        w.port = portCode port → w.codes = [] → w.release = some r → r ≤ s.t →
        exec (.faithfulReplyRelease port) s = .next (s.finish (s.persGive w))))

/-- R346, R349, R355, R361, Table 12.3 (NOREPLY): an executed command with no wait of its own is answered at once: its reply carries its
status, its detail and, where it is OK, its data, joins the replies of its port unless it is a broadcast's or NOREPLY keeps it back, and
is the newest that the port keeps for retransmissions; accepted pending, the command first takes a pending slot, whose limit is its own or
`HP_PENDMAX`. The model's choices it rests on: log entry 62. -/
def Obligations.ExecutedCommandsAreAnswered : Prop :=
  ∀ (s : State) (p : Packet) (op limit arg q : Nat) (c : Cmd) (r : Reply), q = portCode p.port → c = nativeCmd p op →
    s.hp.waits = [] → (s.session q).isOpen = true →
    r = { code := packetCode p, opcode := nativeByte p op, flags := 0x01, seq := p.seq.toNat, target := p.target.toNat,
          dest := if p.port = .e then some p.src else none,
          payload := leBytes 1 s.result.status ++ leBytes 1 0 ++ leBytes 2 s.result.detail
            ++ (if s.result.status = Status.ok then s.result.data else []) } →
    (s.result.status ≠ Status.acceptedPending → s.executed p op limit arg = s.replyNow c) ∧
    ((s.replyNow c).session q).cache =
      (({ seq := p.seq.toNat, opcode := nativeByte p op, crc := c.crc, reply := r } : Answered) :: (s.session q).cache).take 4 ∧
    (p.broadcast = false → bitOf p.flags.toNat 1 = false → ((s.replyNow c).session q).ready = (s.session q).ready ++ [r]) ∧
    (p.broadcast = true ∨ bitOf p.flags.toNat 1 = true ∧ s.result.status = Status.ok →
      ((s.replyNow c).session q).ready = (s.session q).ready) ∧
    (s.result.status = Status.acceptedPending → ∃ x : PendSlot, x.opcode = nativeByte p op ∧ x.seq = p.seq.toNat ∧
      x.start = s.t ∧ x.limit = s.t + min limit (msTicks (s.par P.HP_PENDMAX)) ∧
      ((s.executed p op limit arg).session q).slots = (s.session q).slots ++ [x])

/-- R403–R405 (port S2), R406–R409 (port U), R267 (HIBERNATE), R398 (LINK_TIMEOUT): a READ clocked out whole gives the head reply with its
length and removes it, one cut short leaves it, and STATUS answers Table 14.4's byte; a cut-short WRITE and a discarded U frame are
counted; once the turnaround has passed after a frame addressed to it, U sends every ready reply, with U_DE high while it does, up to a
collision; in HIBERNATE both ports are silent; a port silent for `HP_LINKTO` loses its link and ownership. The model's choices it rests
on: log entries 4, 70 and 77. -/
def Obligations.SerialPortsComplete : Prop :=
  ∀ s : State,
    (s.kiln.state = .hibernate → (∀ whole : Bool, exec (.s2Read whole) s = .next (s.finish s)) ∧
      exec .s2Status s = .next (s.finish s) ∧ (∀ c : Option Nat, exec (.uTransmit c) s = .next (s.finish s))) ∧
    (s.alive = true → s.portOn 2 = true → s.kiln.state ≠ .hibernate → exec (.s2Read false) s = .next (s.finish s) ∧
      ((s.session 2).ready = [] → exec (.s2Read true) s = .next (s.finish (s.done (leBytes 2 0)))) ∧
      (∀ (r : Reply) (rest : List Reply), (s.session 2).ready = r :: rest → exec (.s2Read true) s = .next (s.finish
        ((s.setSession 2 { s.session 2 with ready := rest }).done (leBytes 2 r.bytes.length ++ r.bytes))))) ∧
    (s.alive = true → s.pwr.step = .ready → s.portOn 2 = true → s.kiln.state ≠ .hibernate →
      exec .s2Status s = .next (s.finish (s.done (leBytes 1
        (b2n (!(s.session 2).ready.isEmpty) + 2 * b2n (decide ((s.hp.waits.filter (fun w => w.port == 2)).length < 4))
          + 4 * b2n s.irqLow + 8 * b2n (s.owns 2)))))) ∧
    (s.hears 2 = true → exec .s2WriteAbort s = .next (s.finish (s.bump P.HP_HDRERR 1))) ∧
    (s.hears 3 = true →
      exec (.uFrameGap true) s = .next (s.finish { s with hp := { s.hp with
        uAddressed := true, uIdle := s.t - 2000000000 / s.uBaud } }) ∧
      exec (.uFrameGap false) s = .next (s.finish
        (({ s with hp := { s.hp with uIdle := s.t - 2000000000 / s.uBaud } } : State).bump P.HP_UFRERR)) ∧
      exec .uFramingError s = .next (s.finish (({ s with hp := { s.hp with uIdle := s.t } } : State).bump P.HP_UFRERR))) ∧
    (s.alive = true → s.portOn 3 = true → s.kiln.state ≠ .hibernate →
      (s.hp.uAddressed = false ∨ (s.t - s.hp.uIdle) * s.uBaud < s.par P.HP_UTURN * 100000000 →
        ∀ c : Option Nat, exec (.uTransmit c) s = .next (s.finish s)) ∧
      (s.hp.uAddressed = true → s.par P.HP_UTURN * 100000000 ≤ (s.t - s.hp.uIdle) * s.uBaud →
        ∀ (l : List Reply) (u : Nat → State), l = (s.session 3).ready →
        (∀ k, u k = s.setSession 3 { s.session 3 with ready := l.drop k }) →
        exec (.uTransmit none) s = .next (s.finish { u l.length with hp := { (u l.length).hp with
          uAddressed := false, uSent := l, uDe := (if l = [] then none else
            some (s.t, 1 + 10 * (l.map (fun r => 1 + r.bytes.length)).sum + s.par P.HP_UDEHOLD)) } }) ∧
        (∀ k, k < l.length → exec (.uTransmit (some k)) s = .next (s.finish ((({ u k with
          hp := { (u k).hp with uAddressed := false, uSent := l.take k, uDe := none } } : State).bump P.HP_UCOLL).raise
            Fb.ports 1 1 (inst := 2)))))) ∧
    (∀ port : HostPort, s.hopperUp = true → s.par P.HP_LINKTO (portCode port - 1) ≠ 0 →
      tblGet 0 s.hp.lastValid (portCode port) + msTicks (s.par P.HP_LINKTO (portCode port - 1)) ≤ s.t →
      (s.hp.links.contains (portCode port) = false → port ≠ .e → exec (.linkTimeout port) s = .next (s.finish s)) ∧
      (s.hp.links.contains (portCode port) = true → port ≠ .e → exec (.linkTimeout port) s = .next (s.finish
        (((({ s with hp := { s.hp with links := s.hp.links.filter (fun p => !(p == portCode port)) } } : State)).endOwnership
          (portCode port)).raise Fb.ports 0 1 (inst := portCode port - 1)))) ∧
      (s.hp.links.contains 4 = true → port = .e → exec (.linkTimeout port) s = .next (s.finish
        ((((({ s with hp := { s.hp with links := s.hp.links.filter (fun p => !(p == 4)) } } : State)).endOwnership 4).raise
          Fb.ports 0 1 (inst := 3)).ptpLink))))

/-- R398, Table 14.8 (PHYFLT), R410, Table 14.5 (ARP, discarded frames, RXOVF), R411 (DHCP), R413, R427 (DHCPLOST): a poll of the PHY gives or
takes Port E's link; a DHCP reply moves the client, and the lease is renewed, rebound and released; an ARP request for the address in
force is answered, and every other frame is counted as dropped. The model's choices it rests on: log entries 4, 70 and 78. -/
def Obligations.EthernetLinkAndAddressComplete : Prop :=
  ∀ s : State, s.hopperUp = true → s.portOn 4 = true → ∀ e : Ether, e = s.hp.eth →
    (∀ u : State, u = ({ s with hp := { s.hp with eth := { e with phyMiss := 0, phyUp := true } } } : State).endEpisode Fb.ports 7 →
      (e.phyUp = true → exec (.phyPoll .up) s = .next (s.finish u)) ∧
      (e.phyUp = false → s.par P.HP_EIPMODE = 0 → s.par P.HP_EIP = 0 → u.par P.HP_EIPMODE = 0 → u.par P.HP_EIP = 0 →
        exec (.phyPoll .up) s = .next (s.finish u.ptpLink)) ∧
      (e.phyUp = false → u.par P.HP_EIPMODE = 0 → u.par P.HP_EIP ≠ 0 →
        exec (.phyPoll .up) s = .next (s.finish (u.ethSend (.arpGratuitous (u.par P.HP_EIP))).ptpLink))) ∧
    exec (.phyPoll .down) s = .next (s.finish ((({ s with hp := { s.hp with eth := { e with phyMiss := 0, phyUp := false } } } :
      State).endEpisode Fb.ports 7).linkLost 4)) ∧
    (∀ u : State, u = { s with hp := { s.hp with eth := { e with phyMiss := min 3 (e.phyMiss + 1) } } } →
      (e.phyMiss < 2 → exec (.phyPoll .silent) s = .next (s.finish u)) ∧
      (2 ≤ e.phyMiss → exec (.phyPoll .silent) s = .next (s.finish ((({ u with hp := { u.hp with
        eth := { u.hp.eth with phyUp := false } } } : State).raiseEpisode Fb.ports 7 2 (inst := 3)).linkLost 4)))) ∧
    (∀ m : DhcpMessage, s.par P.HP_EIPMODE ≠ 0 →
      (m.kind = .offer → e.dhcp = .selecting → exec (.dhcpMessage m) s = .next (s.finish (({ s with hp := { s.hp with
        eth := { e with dhcp := .requesting } } } : State).ethSend (.dhcp 3)))) ∧
      (m.kind = .ack → e.dhcp = .requesting ∨ e.dhcp = .renewing ∨ e.dhcp = .rebinding → s.address.1 = m.ip.toNat →
        ∀ l : Lease, l.ip = m.ip.toNat → l.mask = m.mask.toNat → l.gw = m.gw.toNat → l.t1 = s.t + m.t1.toNat * 100000000 →
        l.t2 = s.t + m.t2.toNat * 100000000 → l.expiry = s.t + m.lease.toNat * 100000000 →
        exec (.dhcpMessage m) s = .next (s.finish ((({ s with hp := { s.hp with
          eth := { e with dhcp := .bound, lease := some l } } } : State).endEpisode Fb.ports 6).ptpLink))) ∧
      (m.kind = .nak → e.dhcp = .requesting ∨ e.dhcp = .renewing ∨ e.dhcp = .rebinding → exec (.dhcpMessage m) s =
        .next (s.finish ((({ s with hp := { s.hp with eth := { e with dhcp := .idle, lease := none } } } : State).linkLost
          4).dhcpStart)))) ∧
    (∀ l : Lease, e.lease = some l →
      (e.dhcp = .bound → l.t1 ≤ s.t → exec .dhcpRenew s = .next (s.finish (({ s with hp := { s.hp with
        eth := { e with dhcp := .renewing } } } : State).ethSend (.dhcp 3)))) ∧
      (e.dhcp = .renewing → l.t2 ≤ s.t → exec .dhcpRebind s = .next (s.finish (({ s with hp := { s.hp with
        eth := { e with dhcp := .rebinding } } } : State).ethSend (.dhcp 3)))) ∧
      (l.expiry ≤ s.t → exec .dhcpLeaseExpiry s = .next (s.finish (((({ s with hp := { s.hp with
        eth := { e with dhcp := .idle, lease := none } } } : State).raiseEpisode Fb.ports 6 2 (inst := 3)).linkLost
          4).dhcpStart)))) ∧
    (∀ target sender : BitVec 32, exec (.arpRequest target sender) s = .next (s.finish
      (if s.address.1 ≠ 0 ∧ target.toNat = s.address.1 then s.ethSend (.arpReply sender.toNat) else s.bump P.HP_ERXDROP 1))) ∧
    (∀ k : Fin 4, exec (.ethFrameDiscard (.cause k)) s = .next (s.finish (s.bump P.HP_ERXDROP k.val))) ∧
    exec (.ethFrameDiscard .noBuffer) s = .next (s.finish (s.raise Fb.ports 4 1 (inst := 3)))

/-- R414–R417, Table 14.6: the messages of the PTP slave. A message of another domain is dropped and counted. An Announce enters its sender
among at most four foreign masters, of which those silent for three of their announce intervals are gone, and the best of them becomes the
master, which is UNCALIBRATED. A two-step Sync waits for its Follow_Up, and either forms the offset; Delay_Req leaves with the stamps of
the last Sync, and Delay_Resp ends it with the mean of the last eight delays. A silent master is dropped, and the port is LISTENING.
R415–R417: what a Sync of known origin does in UNCALIBRATED or SLAVE. The offset is whole for the first Sync and moves an eighth of the
way after; eight successive Syncs within 1 µs of it bring SLAVE, and in SLAVE the rate over sixteen Syncs disciplines the counter by at
most 100 ppm. The model's choices it rests on: log entries 10 and 79. -/
def Obligations.PtpMessagesAndOffsetsComplete : Prop :=
  (∀ (s : State) (p : Ptp), s.hopperUp = true → s.portOn 4 = true → p = s.hp.ptp →
      (∀ (a : PtpAnnounce) (y : PtpSync) (u : PtpFollowUp) (d : PtpDelayResp),
        (a.domain.toNat ≠ s.par P.HP_PTPCTRL / 256 → exec (.ptpAnnounce a) s = .next (s.finish (s.bump P.HP_ERXDROP 1))) ∧
        (y.domain.toNat ≠ s.par P.HP_PTPCTRL / 256 → exec (.ptpSync y) s = .next (s.finish (s.bump P.HP_ERXDROP 1))) ∧
        (u.domain.toNat ≠ s.par P.HP_PTPCTRL / 256 → exec (.ptpFollowUp u) s = .next (s.finish (s.bump P.HP_ERXDROP 1))) ∧
        (d.domain.toNat ≠ s.par P.HP_PTPCTRL / 256 → exec (.ptpDelayResp d) s = .next (s.finish (s.bump P.HP_ERXDROP 1)))) ∧
      (∀ m : PtpAnnounce, m.domain.toNat = s.par P.HP_PTPCTRL / 256 → p.state ≠ .disabled → p.state ≠ .faulty →
        ∀ (f g : Foreign) (heard others fs : List Foreign) (u : State),
          heard = p.foreign.filter (fun x => p.master == some x.port || decide (s.t < x.last + 3 * logTicks x.interval)) →
          f = { port := m.port.toNat, rank := m.rank, interval := m.interval, last := s.t } →
          others = heard.filter (fun x => !(x.port == f.port)) →
          fs = (if others.length < heard.length ∨ heard.length < 4 then others ++ [f] else heard) →
          bestForeign fs = some g →
          u = (if g.port = f.port
            then (s.setPar P.HP_PTPGM 0 (m.gm.toNat % 2 ^ 32)).setPar P.HP_PTPGM 1 (m.gm.toNat / 2 ^ 32) else s) →
          (p.master = some g.port → exec (.ptpAnnounce m) s =
            .next (s.finish { u with hp := { u.hp with ptp := { p with foreign := fs } } })) ∧
          (p.master ≠ some g.port → p.state = .listening ∨ p.state = .uncalibrated → exec (.ptpAnnounce m) s =
            .next (s.finish { u with hp := { u.hp with ptp := { p with
              foreign := fs, state := .uncalibrated, changed := true, master := some g.port, lastSync := s.t, whole := true
              good := 0, sync := none, syncs := [], req := none, delays := [], sinceCorr := 0 } } })) ∧
          (p.master ≠ some g.port → p.state = .slave → ∀ v : State,
            v = ({ u with hp := { u.hp with ptp := { p with foreign := fs, ofsExit := some p.ofs } } } : State).raise Fb.ports 2 1
              (inst := 3) → exec (.ptpAnnounce m) s = .next (s.finish { v with hp := { v.hp with ptp := { v.hp.ptp with
                state := .uncalibrated, changed := true, master := some g.port, lastSync := s.t, whole := true
                good := 0, sync := none, syncs := [], req := none, delays := [], sinceCorr := 0 } } }))) ∧
      (∀ m : PtpSync, m.domain.toNat = s.par P.HP_PTPCTRL / 256 →
        (p.state = .listening ∨ (p.state = .uncalibrated ∨ p.state = .slave) ∧ p.master ≠ some m.port.toNat →
          exec (.ptpSync m) s = .next (s.finish s)) ∧
        (p.state = .uncalibrated ∨ p.state = .slave → p.master = some m.port.toNat →
          (m.twoStep = true → exec (.ptpSync m) s = .next (s.finish { s with hp := { s.hp with ptp := { p with
            lastSync := s.t, syncInterval := m.interval, sync := some (m.seq.toNat, (s.t * 10 : Nat), m.correction) } } })) ∧
          (m.twoStep = false → exec (.ptpSync m) s = .next (s.finish (({ s with hp := { s.hp with ptp := { p with
            lastSync := s.t, syncInterval := m.interval, sync := none } } } : State).ptpOffset (m.origin + m.correction)
              (s.t * 10 : Nat)))))) ∧
      (∀ m : PtpFollowUp, m.domain.toNat = s.par P.HP_PTPCTRL / 256 → p.state ≠ .disabled → p.state ≠ .faulty →
        (p.master ≠ some m.port.toNat ∨ p.sync.all (fun x => x.1 != m.seq.toNat) = true →
          exec (.ptpFollowUp m) s = .next (s.finish s)) ∧
        (∀ t2 c : Int, p.master = some m.port.toNat → p.sync = some (m.seq.toNat, t2, c) → exec (.ptpFollowUp m) s = .next (s.finish
          (({ s with hp := { s.hp with ptp := { p with sync := none } } } : State).ptpOffset (m.origin + c + m.correction) t2)))) ∧
      (p.syncs = [] ∨ (p.state ≠ .uncalibrated ∧ p.state ≠ .slave) → exec .ptpDelayReqSend s = .next (s.finish s)) ∧
      (∀ (t1 t2 : Int) (rest : List (Int × Int)), p.state = .uncalibrated ∨ p.state = .slave → p.syncs = (t1, t2) :: rest →
        exec .ptpDelayReqSend s = .next (s.finish (({ s with hp := { s.hp with ptp := { p with
          req := some (p.reqSeq, (s.t * 10 : Nat), t1, t2), reqSeq := (p.reqSeq + 1) % 65536,
          nextReq := s.t + logTicks p.reqInterval } } } : State).ethSend (.delayReq p.reqSeq)))) ∧
      (∀ m : PtpDelayResp, m.domain.toNat = s.par P.HP_PTPCTRL / 256 → p.state ≠ .disabled → p.state ≠ .faulty →
        (p.master ≠ some m.port.toNat ∨ p.req.all (fun x => x.1 != m.seq.toNat) = true →
          exec (.ptpDelayResp m) s = .next (s.finish s)) ∧
        (∀ (t3 t1 t2 : Int) (ds : List Int), p.master = some m.port.toNat → p.req = some (m.seq.toNat, t3, t1, t2) →
          ds = (((t2 - t1) + (m.receive - m.correction - t3)) :: p.delays).take 8 →
          exec (.ptpDelayResp m) s = .next (s.finish { s with hp := { s.hp with ptp := { p with
            req := none, reqInterval := m.interval, delays := ds,
            delay := openDivI 31 (ds.foldl (· + ·) 0) (2 * ds.length) } } }))) ∧
      (p.master = none → exec .ptpTimeout s = .next (s.finish s)) ∧
      (∀ (m : Nat) (late : Bool), p.master = some m →
        late = (p.foreign.any (fun f => f.port == m && decide (f.last + 3 * logTicks f.interval ≤ s.t)) ||
          decide (p.lastSync + 3 * logTicks p.syncInterval ≤ s.t)) →
        (late = false → exec .ptpTimeout s = .next (s.finish s)) ∧
        (late = true → p.state = .listening → exec .ptpTimeout s = .next (s.finish
          { s with hp := { s.hp with ptp := { p with foreign := p.foreign.filter (fun f => !(f.port == m)) } } })) ∧
        (late = true → p.state = .uncalibrated → exec .ptpTimeout s = .next (s.finish { s with hp := { s.hp with ptp := { p with
          foreign := p.foreign.filter (fun f => !(f.port == m)), state := .listening, changed := true, master := none
          sync := none } } })) ∧
        (late = true → p.state = .slave → ∀ v : State, v = ({ s with hp := { s.hp with ptp := { p with
          foreign := p.foreign.filter (fun f => !(f.port == m)), ofsExit := some p.ofs } } } : State).raise Fb.ports 2 1
            (inst := 3) → exec .ptpTimeout s = .next (s.finish { v with hp := { v.hp with ptp := { v.hp.ptp with
              state := .listening, changed := true, master := none, sync := none } } })))) ∧
  (∀ (s : State) (t1 t2 o : Int) (p : Ptp), p = s.hp.ptp → o = t1 + p.delay - t2 → ∀ n : State, n = s.ptpOffset t1 t2 →
      (p.whole = true → n.hp.ptp.ofs = o) ∧
      (p.whole = false → n.hp.ptp.ofs = p.ofs + openDivI 29 (o - p.ofs) 8) ∧
      (p.state = .uncalibrated → p.whole = true → (n.hp.ptp.state = .slave ↔ 7 ≤ p.good) ∧
        (p.good < 7 → n.hp.ptp.state = .uncalibrated)) ∧
      (p.state = .slave → n.hp.ptp.state = .slave) ∧
      n.hp.ptp.syncs = ((t1, t2) :: p.syncs).take 17 ∧
      (∀ a b : Int, p.state = .slave → (p.syncs.drop 15).head? = some (a, b) → b < t2 → 16 ≤ p.syncs.length →
        p.sinceCorr % 16 = 0 → bitOf (s.par P.HP_PTPCTRL) 1 = true → s.isDegraded Fb.ports 5 = false → s.isFollower = false →
        n.slew = clampInt (-100000000) 100000000
          (s.slew + openDivI 30 (((t1 - a) - (t2 - b)) * 1000000000000) (t2 - b).toNat)) ∧
      (-100000000 ≤ s.slew → s.slew ≤ 100000000 → -100000000 ≤ n.slew ∧ n.slew ≤ 100000000) ∧
      (bitOf (s.par P.HP_PTPCTRL) 1 = false → n.slew = s.slew))

/-- R393 (`HP_PCTRL`), R396 (`HP_PORTEN`), R382 (`HP_TIMEL` and `HP_PTPOFSL` latch their upper words), R419 (the holdoff of event datagrams),
R373, R577: each completes, and is refused while the host ports are being reset or where its value is not of the table. The model's
choices it rests on: log entry 5 (a row that writes or reads a parameter acts as an accepted host write by no particular port). -/
def Obligations.PortParametersComplete : Prop :=
  ∀ s : State, s.hopperUp = true →
    (s.resetting Fb.ports = true → (∀ v : Word, v.toNat < 16 →
      exec (.hpPortenWrite v) s = .next (s.finish (s.answer Status.busyLocked))) ∧
      exec .hpPctrlClearCounters s = .next (s.finish (s.answer Status.busyLocked)) ∧
      exec .hpTimelRead s = .next (s.finish (s.answer Status.busyLocked)) ∧
      exec .hpPtpofslRead s = .next (s.finish (s.answer Status.busyLocked))) ∧
    (∀ v : Word, 16 ≤ v.toNat → exec (.hpPortenWrite v) s = .next (s.finish (s.answer Status.outOfRange))) ∧
    (s.resetting Fb.ports = false → exec .hpPctrlClearCounters s = .next (s.finish (s.clearPars
      ((List.range 4).flatMap (fun i => [(P.HP_CMTCNT, i), (P.HP_CMTREF, i), (P.HP_WRCNT, i)]))).done)) ∧
    (∀ v : Word, s.resetting Fb.ports = false → v.toNat < 16 → exec (.hpPortenWrite v) s =
        .next (s.finish (([1, 2, 3, 4].foldl (fun (u : State) k =>
          if bitOf (s.par P.HP_PORTEN) (k - 1) = true ∧ bitOf v.toNat (k - 1) = false then u.portOff k else u)
            (s.setPar P.HP_PORTEN 0 v.toNat)).ptpLink).done)) ∧
    (s.resetting Fb.ports = false → exec .hpTimelRead s = .next (s.finish
      (({ s with hp := { s.hp with timeLatch := s.t / 2 ^ 32 } } : State).done (leBytes 4 (s.t % 2 ^ 32)))) ∧
      exec .hpPtpofslRead s = .next (s.finish (({ s with hp := { s.hp with ofsLatch := wrapTo 64 s.hp.ptp.ofs / 2 ^ 32 } } :
        State).done (leBytes 4 (wrapTo 64 s.hp.ptp.ofs % 2 ^ 32))))) ∧
    (s.hp.eth.eventHeld = false ∨ s.hp.eth.eventAt.all (fun t => decide (s.t < t + msTicks (s.par P.HP_EEVTMIN))) = true →
      exec .eventHoldoffExpiry s = .next (s.finish s)) ∧
    (∀ t : Nat, s.hp.eth.eventHeld = true → s.hp.eth.eventAt = some t → t + msTicks (s.par P.HP_EEVTMIN) ≤ s.t →
      ∀ u : State, u = { s with hp := { s.hp with eth := { s.hp.eth with eventHeld := false } } } →
      exec .eventHoldoffExpiry s = .next (s.finish (if s.hp.eth.peer.isSome = true ∧ s.ethReady = true
        then ({ u with hp := { u.hp with eth := { u.hp.eth with eventAt := some s.t } } } : State).ethSend
          (.event s.irqStat s.angleStamp s.t) else u)))

/-- R436 (MB_RELAY, MB_RELAY_TIMEOUT), R439, R463 (`MB_CTRL`): a relay moves a message, with its payload, sender and generation, from a full
source to an empty destination, whose sender Hopper may be; a message that has waited `MB_TIMEOUT` for a full destination is discarded
with code 4; CLEAR discards what a mailbox holds, and 2 clears its counters. R433, R436: what filling and taking a mailbox do. A filled
mailbox holds the message with its arrival time, counted, and `MB_DSTAT` shows 1; after a relay whose source has no MB_WRITE waiting, the
source is empty with `MB_DSTAT` 2, and every other mailbox holds what it held. The model's choices it rests on: log entries 4 and 5. -/
def Obligations.MailboxesRelayAndClear : Prop :=
  (∀ s : State,
      (∀ (k : Fin 8) (a b : Nat) (m : Message) (x y : Raise), s.hopperUp = true → s.relayPair k.val = (a, b) →
        k.val < 4 ∨ s.fromHost a = true → (s.mbox a).msg = some m →
        x = { blk := Fb.streams, det := 0, cls := 1, master := 5, access := 2, addr := P.MB_STATE + b * 4096, inst := b } →
        y = { blk := Fb.streams, det := 2, cls := 1, master := 5, access := 2, addr := P.MB_STATE + a * 4096, inst := a } →
        ((s.mbox b).msg = none → s.isSender b Sender.hopper = true → exec (.mbRelay k) s =
          .next (s.finish ((s.mbFill b { m with relayed := true }).mbTake a))) ∧
        ((s.mbox b).msg = none → s.isSender b Sender.hopper = false → 
          exec (.mbRelay k) s = .next (s.finish ((s.bump P.MB_REFUSE b).ask x))) ∧
        (∀ d : Message, (s.mbox b).msg = some d → exec (.mbRelay k) s = .next (s.finish s) ∧
          (max m.arrival d.arrival + usTicks (s.par P.MB_TIMEOUT a) ≤ s.t → exec (.mbRelayTimeout k) s = .next (s.finish
            (((((s.setMbox a { s.mbox a with msg := none }).setPar P.MB_DSTAT a 4).bump P.MB_TOCNT a).ask y).mbEmptied a))))) ∧
      (∀ n : Fin 16, s.hopperUp = true → s.resetting Fb.streams = false →
        ((s.mbox n.val).msg = none → exec (.mbCtrlClear n) s = .next (s.finish s.done)) ∧
        (∀ m : Message, (s.mbox n.val).msg = some m → exec (.mbCtrlClear n) s = .next (s.finish
          ((((s.setMbox n.val { s.mbox n.val with msg := none }).setPar P.MB_DSTAT n.val 3).bump P.MB_DISCNT n.val).mbEmptied
            n.val).done)) ∧
        exec (.mbCtrlClearCounters n) s = .next (s.finish (s.clearPars [(P.MB_MSGCNT, n.val), (P.MB_DISCNT, n.val),
          (P.MB_ORPHCNT, n.val), (P.MB_TOCNT, n.val), (P.MB_REFUSE, n.val)]).done))) ∧
  (∀ (s : State) (a b : Nat) (m : Message), a ≠ b → (s.mbox a).msg = some m → (s.mbox a).pendWrites = [] →
      ∀ t : State, t = (s.mbFill b { m with relayed := true }).mbTake a →
      (t.mbox b).msg = some { m with relayed := true, arrival := s.t } ∧ (t.mbox a).msg = none ∧
      t.par P.MB_DSTAT a = 2 ∧ (∀ c, c ≠ a → c ≠ b → t.mbox c = s.mbox c))

/-- R443, R445, R448, R456, R463, R470, R648 (`ST_CTRL`, `ST_POOLCTRL`), R453, R454 (datagrams), R460 (the free-list check): rings are
enabled, where their reserve is free, disabled, flushed and marked; SAFE rings resume once their class C fault is acknowledged; a due
datagram takes whole records of up to 254 words, with its own sequence number; an inconsistency flushes every ring. The model's choices it
rests on: log entries 4, 5, 71 and 131. -/
def Obligations.StreamCommandsComplete : Prop :=
  ∀ s : State,
    (∀ (n : Fin 64) (r : Ring), s.hopperUp = true → s.resetting Fb.streams = false → r = s.ring n.val →
      (r.state = .disabled → s.par P.ST_RESV n.val ≤ s.sharedBufs → 
        ∀ q : Ring, q = { r with state := .enabled, anchorDue := true, sinceAnchor := 0, lostSince := 0, refused := false } →
        exec (.stCtrlEnable n) s = .next (s.finish (s.setRing n.val q).done)) ∧
      (r.state = .disabled → s.sharedBufs < s.par P.ST_RESV n.val →
        exec (.stCtrlEnable n) s = .next (s.finish (s.answer Status.noBuffer 3))) ∧
      (r.state = .enabled ∨ r.state = .losing → exec (.stCtrlEnable n) s = .next (s.finish (s.answer Status.notPermitted))) ∧
      (r.state = .safe → exec (.stCtrlEnable n) s = .next (s.finish (s.answer Status.faultState)) ∧
        exec (.stCtrlDisable n) s = .next (s.finish (s.answer Status.faultState))) ∧
      (r.state = .disabled → exec (.stCtrlDisable n) s = .next (s.finish (s.answer Status.notPermitted))) ∧
      (r.state = .enabled ∨ r.state = .losing → exec (.stCtrlDisable n) s = .next (s.finish
        ((s.ringFlush n.val).setRing n.val { (s.ringFlush n.val).ring n.val with state := .disabled }).done)) ∧
      exec (.stCtrlFlush n) s = .next (s.finish
        (s.setRing n.val { r with words := [], off := 0, headRetired := false, anchorDue := true }).done) ∧
      (∀ (tag : BitVec 16) (m : List Word), m = headWord 0x31 0 :: BitVec.ofNat 32 tag.toNat :: stampWords s.angleStamp s.t →
        ∀ v : State, v = s.ringsEnter (s.entriesOf 0 ++ s.entriesOf 1 ++ s.entriesOf 2) →
        ((v.ring n.val).accepts = false ∨ v.ringRoom n.val (v.ringRecord n.val false m 0 0).length ≠ .poolEmpty →
          exec (.stMark n tag) s = .next (s.finish ({ s with pool := { s.pool with
            entries := s.pool.entries ++ [⟨n.val, 2, false, m, s.angleStamp, s.t, 5⟩] } } : State).done)) ∧
        ((v.ring n.val).accepts = true → v.ringRoom n.val (v.ringRecord n.val false m 0 0).length = .poolEmpty →
          exec (.stMark n tag) s = .next (s.finish ((s.poolRefuse n.val 2 (s.poolOrigin n.val 5)).answer Status.noBuffer 3)))) ∧
      exec (.stCtrlClearCounters n) s = .next (s.finish
        (s.clearPars [(P.ST_RECCNT, n.val), (P.ST_LOST, n.val), (P.ST_DGCNT, n.val)]).done)) ∧
    (s.hopperUp = true → s.resetting Fb.streams = false →
      (s.pendingC Fb.streams = true ∨ s.rings.all (fun e => !(e.2.state == .safe)) = true →
        exec .stPoolctrlResume s = .next (s.finish (s.answer Status.notPermitted))) ∧
      (s.pendingC Fb.streams = false → s.rings.all (fun e => !(e.2.state == .safe)) = false →
        exec .stPoolctrlResume s = .next (s.finish ((((s.rings.map Prod.fst).foldl (fun u n => if (u.ring n).state = .safe
          then u.setRing n { u.ring n with state := .enabled, anchorDue := true } else u) s).openWindow Fb.streams).done))) ∧
      (∀ u : State, u = s.clearPars [(P.ST_NOBUF, 0), (P.ST_NOBUF, 1), (P.ST_NOBUF, 2), (P.ST_NOBUF, 3)] →
        exec .stPoolctrlClear s = .next (s.finish ({ u with pool := { u.pool with low := u.freeBufs } } : State).done))) ∧
    (∀ n : Fin 64, s.alive = true →
      (s.ringDue n.val = false ∨ s.kiln.state = .hibernate → exec (.streamDatagramSend n false) s = .next (s.finish s)) ∧
      (s.ringDue n.val = true → (List.range n.val).any s.ringDue = false → s.ethReady = true → s.streamMac.isSome = true →
        s.kiln.state ≠ .hibernate → ∀ (k : Nat) (u : State), k = wholeRecords 254 (s.ring n.val).words.length (s.ring n.val).words →
        u = s.setRing n.val ((s.ring n.val).drop k) → exec (.streamDatagramSend n false) s = .next (s.finish
          ((u.ethSend (.stream n.val (s.par P.ST_DGSEQ n.val) (preamble Status.ok 0 ++ (leBytes 2 k ++
            leBytes 2 (min 0xFFFF ((s.ring n.val).words.length - k)) ++
              ((s.ring n.val).words.take k).flatMap (fun w => leBytes 4 w.w.toNat))))).setPar P.ST_DGSEQ n.val
                ((s.par P.ST_DGSEQ n.val + 1) % 65536))))) ∧
    (s.pwr.phase = .running → exec (.freelistCheck false) s = .next (s.finish s) ∧
      ∀ (flush : State → Nat → State) (lost : State → Nat → Nat), (∀ u n, lost u n = (u.ring n).words.length) →
        (∀ u n, flush u n = (u.bump P.ST_LOST n (lost u n)).ringFlush n) → exec (.freelistCheck true) s = .next (s.finish
          (((s.rings.map Prod.fst).foldl (fun u n => (flush u n).setRing n { (flush u n).ring n with
            lostSince := satAdd ((flush u n).ring n).lostSince (lost u n) }) s).raise Fb.streams 11 3)))

/-- R444 (also R446, R450, R451, Table 15.6): a record enters its ring whole or is lost whole. In a ring that is DISABLED or SAFE it is
counted lost and the ring's words stay; in one that accepts it, without DROP_OLD, either the ring's words grow by the record, with the
loss record and anchor that are due before it, or they stay as they were and the loss is counted. In every case, DROP_OLD and every length
of record (and so every number of buffer boundaries) among them, the ring afterwards holds what is left of it once some of its oldest
words are gone, alone or with the whole record, in order, after it. And a ring never holds part of a record: one whose oldest word begins
a record begins with the head of a record when a record has entered or was lost, and when its whole records up to any number of words have
been taken out. Of the records of one edge, those of a port enter as they were made, but those of the lane port, whose requests are
granted by ring, by source index; a lone one enters as the edge ends. -/
def Obligations.RecordsEnterWholeOrNotAtAll : Prop :=
  (∀ (s : State) (n port : Nat) (sample : Bool) (words : List Word) (angle time master : Nat) (t : State),
    n < 64 → t = s.ringEnter n port sample words angle time master →
    ((s.ring n).accepts = false → (t.ring n).words = (s.ring n).words ∧
      t.par P.ST_LOST n = satAdd (s.par P.ST_LOST n) words.length) ∧
    ((s.ring n).accepts = true → bitOf (s.par P.ST_CFG n) 6 = false →
      (t.ring n).words = (s.ring n).words ++ ringWords s.t (s.ringRecord n sample words angle time) ∨
      (t.ring n).words = (s.ring n).words ∧ (t.ring n).state = .losing ∧
        (t.ring n).lostSince = satAdd (s.ring n).lostSince words.length) ∧
    (∃ k : Nat, (t.ring n).words = (s.ring n).words.drop k ∨
      ∃ before : List Word, (t.ring n).words = (s.ring n).words.drop k ++ ringWords s.t (before ++ words)) ∧
    ((∀ w, (s.ring n).words.head? = some w → w.head = true) → ∀ w, (t.ring n).words.head? = some w → w.head = true)) ∧
  (∀ (r : Ring) (most fuel : Nat), (∀ w, r.words.head? = some w → w.head = true) →
    ∀ w, (r.drop (wholeRecords most fuel r.words)).words.head? = some w → w.head = true) ∧
  (∀ (s : State) (port : Nat) (made : List RingEntry), made = s.pool.entries.filter (fun e => e.port == port) →
    (s.entriesOf port).Perm made ∧ (port ≠ 1 → s.entriesOf port = made) ∧
    (port = 1 → (s.entriesOf port).Pairwise (fun a b => a.ring * 64 + bitsOf (a.words.headD 0).toNat 8 6
      ≤ b.ring * 64 + bitsOf (b.words.headD 0).toNat 8 6))) ∧
  (∀ (s u : State) (e : RingEntry), s.pool.entries = [e] → e.port < 3 → s.timers = [] →
    u = { s with pool := { s.pool with entries := [] } } →
    s.recordsEnter = u.ringEnter e.ring e.port e.sample e.words e.angle e.time e.master)

/-- R471, R472, R477, R481 (what a record does): an unmasked record of class A, B or C sets its block's pending bit of its class, and of the
next class instead where that bit is set already, which the record notes and `FLT_ESCCNT` counts; the first record fills an empty capture;
a class D record halts the device; a masked one only counts as consequential, and a block that is being reset makes none. The model's
choices it rests on: log entry 84. -/
def Obligations.RecordsPendEscalateAndHalt : Prop :=
  ∀ (s : State) (a : Raise) (t : State), t = s.record a → a.blk < 256 → a.inst < 256 →
    (s.resetting a.blk = true → t = s) ∧
    (s.resetting a.blk = false → a.cls = 1 → s.masked a.blk = false →
      s.par (fltPar P.FLT_AACK0 a.blk).1 (fltPar P.FLT_AACK0 a.blk).2 ≠ 1 →
      ((s.fb a.blk).pendA = false → (t.fb a.blk).pendA = true ∧ (t.fb a.blk).pendB = (s.fb a.blk).pendB) ∧
      ((s.fb a.blk).pendA = true → (t.fb a.blk).pendB = true) ∧
      ((s.fb a.blk).capture = none → (s.fb a.blk).pendA = false → ∃ r : FaultRec,
        (t.fb a.blk).capture = some r ∧ r.blk = a.blk ∧ r.det = a.det ∧ r.cls = 1 ∧ r.time = s.t ∧ r.addr = a.addr)) ∧
    (s.resetting a.blk = false → a.cls = 4 → t.flt.halted = true) ∧
    (s.resetting a.blk = false → a.cls < 4 → s.masked a.blk = true → t.flt.halted = s.flt.halted ∧
      (t.fb a.blk).pendA = (s.fb a.blk).pendA ∧ (t.fb a.blk).pendB = (s.fb a.blk).pendB ∧
      (t.fb a.blk).pendC = (s.fb a.blk).pendC)

/-- R473 (GRACE_EXPIRY), R488, R490 (MASK_WINDOW_CLOSE), R466 (EPISODE_END), R494 (Hopper's detectors), Table 16.8 (CAPTURE_PARITY_ERROR): a
grace timer that has run out makes a record of the next class; a closing window closes and lets what persists record again; an episode
whose condition is absent ends; and each detector of Hopper records in its class. R382 (`FLT_CAP0`), R475, R484, R497 (`FLT_CTRL`): ACK
takes the named pending class of the named block away, and is refused where it is not pending; ACKALL takes every class of every block
with one; LOG_CLEAR empties the RAM log and the overflow log; 4 clears the counters of R497; a read of `FLT_CAP0` latches the capture that
`FLT_SEL` names. The model's choices it rests on: log entries 4, 5 and 84. -/
def Obligations.FaultEventsAndCommandsComplete : Prop :=
  (∀ s : State, s.pwr.phase = .running →
      (∀ (b : BitVec 8) (due : Nat) (f : FaultBlock), f = s.fb b.toNat → f.grace = .running due → due ≤ s.t →
        s.hopperAccepts = true → ∀ u : State, u = (s.setFb b.toNat { f with grace := .off }).bump P.FLT_GRCCNT → ∀ r : FaultRec,
        r = { blk := b.toNat, det := 0xFE, cls := f.served + 1, escalated := true, graceMark := true, detCls := f.served,
              addr := stateAddr b.toNat 0, angle := s.angleStamp, time := s.t } →
        exec (.graceExpiry b) s = .next (s.finish (u.applyRec r))) ∧
      (∀ (b : BitVec 8) (due : Nat) (l : List Nat), (s.fb b.toNat).window = .closing due l → due ≤ s.t →
        exec (.maskWindowClose b) s = .next (s.finish
          (((s.flt.blocks.map Prod.fst).filter (s.dependant b.toNat)).foldl State.askAgain
            (s.setFb b.toNat { s.fb b.toNat with window := .closed })))) ∧
      (∀ b d : BitVec 8, (s.episodeOpen b.toNat d.toNat = false ∨ s.conditionHolds b.toNat d.toNat = true →
          exec (.episodeEnd b d) s = .next (s.finish s)) ∧
        (s.episodeOpen b.toNat d.toNat = true → s.conditionHolds b.toNat d.toNat = false →
          ¬ (0xE4 ≤ b.toNat ∧ b.toNat < 0xEC ∧ d.toNat = 4) →
          exec (.episodeEnd b d) s = .next (s.finish (s.endEpisode b.toNat d.toNat)))) ∧
      (∀ (b : BitVec 8) (r : Raise),
        r = { blk := Fb.faults, det := 3, cls := 4, addr := stateAddr Fb.faults 0, inst := 1, value := b.toNat } →
        exec (.captureParityError b) s = .next (s.finish (s.ask r))) ∧
      (s.hopperUp = true → (s.flt.served + msTicks (s.par P.FLT_HPWDT) ≤ s.t →
          exec .hopperWatchdog s = .next (s.finish (s.raise Fb.hopper 2 3))) ∧
        exec (.hopperMemoryEcc false) s = .next (s.finish ((s.bump P.FLT_HPECC).raise Fb.hopper 0 1)) ∧
        exec (.hopperMemoryEcc true) s = .next (s.finish (s.raise Fb.hopper 3 3)) ∧
        exec .lockstepMismatch s = .next (s.finish (s.raise Fb.hopper 4 4)))) ∧
  (∀ s : State, s.hopperUp = true → s.resetting Fb.faults = false →
      (∀ (b : BitVec 8) (k : BitVec 4), b.toNat < 0xF8 → k.toNat = 1 ∨ k.toNat = 2 ∨ k.toNat = 3 →
        ((s.fb b.toNat).isPending k.toNat = true →
          exec (.faultAck (.ctrl b k)) s = .next (s.finish (s.ackClass b.toNat k.toNat).done)) ∧
        ((s.fb b.toNat).isPending k.toNat = false →
          exec (.faultAck (.ctrl b k)) s = .next (s.finish (s.answer Status.notPermitted)))) ∧
      exec .fltCtrlAckall s = .next (s.finish
        ((s.faulty.foldl (fun u b => ((u.ackClass b 1).ackClass b 2).ackClass b 3) s).done)) ∧
      (∀ b k : Nat, ((s.ackClass b k).fb b).isPending k = false) ∧
      exec (.logClear none) s = .next (s.finish
        ({ s with flt := { s.flt with log := [], overflow := [], ovfLost := false } } : State).done) ∧
      exec .fltCtrlClearCounters s = .next (s.finish (s.clearPars ((List.range 0xF8).map (fltPar P.FLT_FCNT0) ++
        [(P.FLT_LOGOVR, 0), (P.FLT_CONSCNT, 0), (P.FLT_ESCCNT, 0), (P.FLT_GRCCNT, 0), (P.FLT_ACKCNT, 0), (P.FLT_CLASSCNT, 0),
         (P.FLT_CLASSCNT, 1), (P.FLT_CLASSCNT, 2), (P.FLT_CLASSCNT, 3), (P.FLT_HPECC, 0), (P.FLT_HPRSTF, 0),
         (P.FLT_INJCNT, 0)])).done) ∧
      (∀ w : State, w = { s with flt := { s.flt with capLatch := s.captureBytes (s.lastPar P.FLT_SEL) } } →
        exec .fltCap0Read s = .next (s.finish (w.done (leBytes 4 (fieldAt (s.captureBytes (s.lastPar P.FLT_SEL)) 0 4))))))

/-- R498–R503, R506 (SYNC_FRAME, SYNC_FRAME_ORIGINATE): a frame whose check fails is counted and, by a device that repeats, sent on with BAD
and a right check; a BAD frame is sent on as it came; the originator counts a frame of another's as a rival and takes its own back; a good
frame is sent on with its position raised and is followed. The originator's frame carries the next sequence number and its time. The
model's choices it rests on: log entries 88, 89 and 133. -/
def Obligations.SyncFramesComplete : Prop :=
  ∀ (s : State) (f : List Byte), s.slUp = true → s.pwr.phase = .running →
    (frGood f = false → ∀ u : State, u = (s.bump P.SL_FRMERR).raiseEpisode Fb.sync 0 1 →
      (u.sl.originates = true → exec (.syncFrame f) s = .next (s.finish u)) ∧
      (u.sl.originates = false → exec (.syncFrame f) s = .next (s.finish { u with sl := { u.sl with
        sent := frSeal (frPut (slice f 0 49) 1 (leBytes 1 (frByte (slice f 0 49) 1 ||| 0x80))), sentAt := u.t + 48 } }))) ∧
    (frGood f = true → ∀ u : State, u = s.endEpisode Fb.sync 0 →
      (bitOf (frByte f 1) 7 = true → u.sl.originates = false →
        exec (.syncFrame f) s = .next (s.finish { u with sl := { u.sl with sent := frSeal f, sentAt := u.t + 48 } })) ∧
      (bitOf (frByte f 1) 7 = true → u.sl.originates = true → exec (.syncFrame f) s = .next (s.finish u)) ∧
      (bitOf (frByte f 1) 7 = false → u.sl.originates = true →
        (tblGet none u.sl.flying (frField f 2 2) ≠ some (frField f 14 8) → exec (.syncFrame f) s = .next (s.finish { u with
          sl := { u.sl with rivals := u.sl.rivals + 1, rivalUid := frByte f 29 } })) ∧
        (tblGet none u.sl.flying (frField f 2 2) = some (frField f 14 8) →
          exec (.syncFrame f) s = .next (s.finish (u.frameReturned f (frField f 14 8))))) ∧
      (bitOf (frByte f 1) 7 = false → u.sl.originates = false → ∀ v w x : State, v = (u.repeatFrame f).takeRing f →
        (v.sl.state = .search → w = ({ v with sl := { v.sl with state := .locking } } : State).frameBoundary) →
        (v.sl.state ≠ .search → w = v.frameBoundary) →
        ((w.sl.state = .locking ∨ w.sl.state = .synced ∨ w.sl.state = .hold) ∧ w.isFollower = true → x = w.timeFollow f) →
        (¬ ((w.sl.state = .locking ∨ w.sl.state = .synced ∨ w.sl.state = .hold) ∧ w.isFollower = true) → x = w) →
        exec (.syncFrame f) s = .next (s.finish (((x.angleFollow f).takeRecord f).agreement.ringHalt.followRun)))) ∧
    (s.sl.originates = false ∨ s.t < s.sl.nextFrame → exec .syncFrameOriginate s = .next (s.finish s)) ∧
    (s.sl.originates = true → s.sl.nextFrame ≤ s.t → s.sl.takeDue = false → s.sl.releaseDue = false → ∃ u : State,
      exec .syncFrameOriginate s = .next (s.finish u) ∧ frGood u.sl.sent = true ∧ frField u.sl.sent 2 2 = s.sl.seq % 65536 ∧
      frField u.sl.sent 14 8 = s.t % 2 ^ 64 ∧ frByte u.sl.sent 4 = 0 ∧ u.sl.seq = (s.sl.seq + 1) % 65536 ∧
      u.sl.sentAt = s.t ∧ u.sl.nextFrame = s.t + 200)

/-- R500: what a device sends on for a good frame of 49 bytes has a right check, its position raised by 1 and its sequence number unchanged,
and carries the device's own record in the device's slot. The model's choices it rests on: log entry 88. -/
def Obligations.RepeatedFramesAreSealed : Prop :=
  ∀ (s : State) (f : List Byte) (g : List Byte), f.length = 49 → g = (s.repeatFrame f).sl.sent →
    g.length = 49 ∧ frGood g = true ∧ frByte g 4 = (frByte f 4 + 1) % 256 ∧ frField g 2 2 = frField f 2 2 ∧
    frField g 14 8 = frField f 14 8 ∧
    (frByte f 7 = s.slPos → slice g 29 8 = s.ownRecord.bytes) ∧
    (frByte f 7 ≠ s.slPos → slice g 29 8 = slice f 29 8)

/-- R503–R506, R509, R513, R514, R516 (the sync link's timed events), each in every state of its conditions: after `SL_LOSSTO` without a valid
frame the staging buffer is emptied, and after twice that the device is in SEARCH; re-formation ends once every frame is back, with
positions and roles latched; a lower UID byte of a rival ends origination; divergence and hash mismatch raise their faults and HOLD, which
ends once every hold cause has been absent for a machine cycle. Where its condition is not met an event changes nothing. R470, R503, R506,
R507, R515, R521, R526, R577 (`SL_ENABLE`, `SL_CTRL`): enabling enters SEARCH, HALTED in Halt, with the role of `SL_ROLECFG`, and a
leader's or active's origination; disabling turns the link off; REFORM is the originator's, RELEASE an active's, and RESUME takes an
acknowledged HALTED device back; 4 clears the counters. All are refused while the block is being reset. The model's choices it rests on:
log entries 4, 5, 87, 90 and 132. -/
def Obligations.SyncTimersAndCommandsComplete : Prop :=
  (∀ s : State, s.slUp = true → s.pwr.phase = .running →
      (s.t - s.sl.lastValid < usTicks (s.par P.SL_LOSSTO) → exec .slLossTimeout s = .next (s.finish s)) ∧
      (usTicks (s.par P.SL_LOSSTO) ≤ s.t - s.sl.lastValid → ∀ (lead : Prop) (u : State),
        (lead ↔ s.sl.state = .synced ∧ s.role = Role.standby ∧ s.slPos ≤ 1 ∧ s.isPair = true) →
        (lead → u = s.takeOver.dropStaging) → (¬ lead → u = s.dropStaging) →
        (s.t - s.sl.lastValid < 2 * usTicks (s.par P.SL_LOSSTO) ∨
          ¬ (u.sl.state = .locking ∨ u.sl.state = .synced ∨ u.sl.state = .hold) → exec .slLossTimeout s = .next (s.finish u)) ∧
        (2 * usTicks (s.par P.SL_LOSSTO) ≤ s.t - s.sl.lastValid → ∀ v : State, v = ({ u with sl := { u.sl with
          state := .search, framed := false, loaded := false, within := 0, closed := false
          staging := none, nextChunk := 0, staged := [] } } : State).engRingLost →
          (u.sl.state = .locking → exec .slLossTimeout s = .next (s.finish v)) ∧
          (u.sl.state = .synced ∨ u.sl.state = .hold → exec .slLossTimeout s = .next (s.finish (v.raiseEpisode Fb.sync 5 2))))) ∧
      (s.sl.originates = true → ¬ (s.sl.reform = true ∧ s.sl.reformLeft = 0 ∧ s.sl.closed = true) →
        exec .reformEnd s = .next (s.finish s)) ∧
      (s.sl.originates = true → s.sl.reform = true → s.sl.reformLeft = 0 → s.sl.closed = true →
        (8 ≤ s.sl.hops → exec .reformEnd s = .next (s.finish (s.raiseEpisode Fb.sync 9 2))) ∧
        (s.sl.hops < 8 → ∀ u : State, u = (s.setPar P.SL_NDEV 0 (s.sl.hops + 1)).setPar P.SL_POS 0 0 →
          ∀ (x : SyncLink) (v : State), x = { u.sl with reform := false, partnerSeen := false, partnerLost := 0, haltSeen := u.anyHalt } →
          v = ({ u with sl := x } : State).endEpisode Fb.sync 9 →
          exec .reformEnd s = .next (s.finish v.formPair) ∧
          (v.par P.SL_ROLECFG < 2 → exec .reformEnd s = .next (s.finish (v.setPar P.SL_ROLE 0 (v.par P.SL_ROLECFG)))))) ∧
      (s.sl.originates = false → ¬ (s.sl.forming = true ∧ s.sl.reform = false ∧ s.sl.framed = true) →
        exec .reformEnd s = .next (s.finish s)) ∧
      (s.sl.originates = false → s.sl.forming = true → s.sl.reform = false → s.sl.framed = true →
        ∀ v : State, v = { s with sl := { s.sl with forming := false, partnerSeen := false, partnerLost := 0 } } →
        exec .reformEnd s = .next (s.finish v.formPair) ∧
        (v.par P.SL_ROLECFG < 2 → exec .reformEnd s = .next (s.finish (v.setPar P.SL_ROLE 0 (v.par P.SL_ROLECFG)))) ∧
        (2 ≤ v.par P.SL_ROLECFG → v.par P.SL_NDEV ≤ v.partner → exec .reformEnd s = .next (s.finish
          (((v.setPar P.SL_ROLE 0 (if v.slPos = 0 then Role.leader else Role.follower)).dropStaging).raiseEpisode Fb.sync 11 2)))) ∧
      (s.sl.originates = false ∨ s.sl.rivals < 64 → exec .uidCompare s = .next (s.finish s)) ∧
      (s.sl.originates = true → 64 ≤ s.sl.rivals →
        (s.sl.rivalUid < s.uidByte → ∀ x : SyncLink,
          x = { s.sl with originates := false, reformLeft := 0, rivals := 0, state := .locking, loaded := false,
                          within := 0, flying := [] } →
          (s.isPair = true → exec .uidCompare s = .next (s.finish (({ s with sl := x } : State).raiseEpisode Fb.sync 10 2))) ∧
          (s.isPair = false → exec .uidCompare s = .next (s.finish
            ((({ s with sl := x } : State).setPar P.SL_ROLE 0 Role.follower).raiseEpisode Fb.sync 10 2)))) ∧
        (s.sl.rivalUid = s.uidByte → exec .uidCompare s = .next (s.finish
          { s with sl := { s.sl with rivals := 0, uidByte := min 7 (s.sl.uidByte + 1) } })) ∧
        (s.uidByte < s.sl.rivalUid → exec .uidCompare s = .next (s.finish { s with sl := { s.sl with rivals := 0 } }))) ∧
      (s.sl.diverged = false ∨ s.sl.timeDiv = true ∨ s.t < s.sl.divergedAt + msTicks (s.par P.SL_CONVT) →
        exec .timeDivergenceTimeout s = .next (s.finish s)) ∧
      (s.sl.diverged = true → s.sl.timeDiv = false → s.sl.divergedAt + msTicks (s.par P.SL_CONVT) ≤ s.t →
        exec .timeDivergenceTimeout s = .next (s.finish
          (({ s with sl := { s.sl with timeDiv := true } } : State).raiseEpisode Fb.sync 6 2))) ∧
      (s.isFollower = false ∨ (s.sl.state ≠ .synced ∧ s.sl.state ≠ .hold) → exec .hashMismatch s = .next (s.finish s)) ∧
      (s.isFollower = true → s.sl.state = .synced ∨ s.sl.state = .hold → ∀ lasts : Prop,
        (lasts ↔ ∃ a, s.sl.pairAt = some a ∧ s.par P.SL_HASHCYC * 2 ^ 24 ≤ stampSub s.angleStamp a) →
        ∀ quiet : Prop, (quiet ↔ s.grist.state = .idle ∧ bitOf (tblGet {} s.sl.peers 0).b4 6 = false) →
        (¬ lasts → ¬ quiet → exec .hashMismatch s = .next (s.finish s)) ∧
        (∀ v : State,
          (lasts → v = { s with sl := { s.sl with holdPair := true, state := .hold, clearAt := some s.angleStamp } }) →
          (¬ lasts → v = { s with sl := { s.sl with holdHash := true, state := .hold, clearAt := some s.angleStamp } }) →
          lasts ∨ quiet →
          (v.kiln.state = .run ∨ v.kiln.state = .trim → exec .hashMismatch s = .next (s.finish (v.klIdle.raiseEpisode Fb.sync 7 2))) ∧
          (¬ (v.kiln.state = .run ∨ v.kiln.state = .trim) →
            exec .hashMismatch s = .next (s.finish (v.raiseEpisode Fb.sync 7 2))))) ∧
      (s.sl.state ≠ .hold ∨ s.sl.holdContract = true ∨ s.sl.holdPair = true ∨
          s.sl.clearAt.all (fun a => decide (stampSub s.angleStamp a < 2 ^ 24)) = true →
        exec .syncHoldExit s = .next (s.finish s)) ∧
      (∀ a : Nat, s.sl.state = .hold → s.sl.clearAt = some a → 2 ^ 24 ≤ stampSub s.angleStamp a → s.sl.holdContract = false →
        s.sl.holdPair = false → exec .syncHoldExit s = .next (s.finish
          (({ s with sl := { s.sl with state := .synced, holdHash := false, holdPair := false } } : State).endEpisode Fb.sync
            7).followRun))) ∧
  (∀ s : State, s.hopperUp = true →
      (s.resetting Fb.sync = true → (∀ v : Word, v.toNat ≤ 1 →
          exec (.slEnableWrite v) s = .next (s.finish (s.answer Status.busyLocked))) ∧
        exec .slCtrlReform s = .next (s.finish (s.answer Status.busyLocked)) ∧
        exec .slCtrlRelease s = .next (s.finish (s.answer Status.busyLocked)) ∧
        exec .slCtrlResume s = .next (s.finish (s.answer Status.busyLocked)) ∧
        exec .slCtrlClearCounters s = .next (s.finish (s.answer Status.busyLocked))) ∧
      (∀ v : Word, 2 ≤ v.toNat → exec (.slEnableWrite v) s = .next (s.finish (s.answer Status.outOfRange))) ∧
      (s.resetting Fb.sync = false → ∀ (u w : State), u = s.setPar P.SL_ENABLE 0 1 → w = s.setPar P.SL_ENABLE 0 0 →
        (s.sl.state ≠ .off → exec (.slEnableWrite 1) s = .next (s.finish u.done)) ∧
        (s.sl.state = .off → ∀ (c : Nat) (lead : Bool), c = s.par P.SL_ROLECFG → lead = (c == 0 || c == 2) →
          exec (.slEnableWrite 1) s = .next (s.finish ({ ((u.setPar P.SL_ROLE 0 c).setPar P.SL_POS 0 0).setPar P.SL_NDEV 0 0 with
            sl := { s.sl with
              state := (if s.flt.halted = true then .halted else .search), originates := lead
              reformLeft := (if lead = true then 64 else 0), reform := lead, hops := 0, uidByte := 0, rivals := 0
              lastValid := s.t, framed := false, closed := false, forming := false, loaded := false, within := 0
              diverged := false, timeDiv := false, peers := [], flying := [], trips := [], returned := none
              partnerLost := 0, partnerSeen := false, haltSeen := false, nextFrame := s.t, holdHash := false
              holdContract := false, holdPair := false, clearAt := none, pairAt := none } } : State).done)) ∧
        (s.sl.state = .off → exec (.slEnableWrite 0) s = .next (s.finish w.done)) ∧
        (s.sl.state ≠ .off → ∀ x : State, x = (w.transferEnd false).dropStaging → exec (.slEnableWrite 0) s = .next (s.finish
          ({ x with slew := 0, sl := { x.sl with
            state := .off, originates := false, reformLeft := 0, reform := false, framed := false, closed := false
            forming := false, held := false, heldPins := none, takeDue := false, releaseDue := false } } : State).engRingLost.done))) ∧
      (s.resetting Fb.sync = false →
        (s.sl.originates = true → exec .slCtrlReform s = .next (s.finish
          ({ s with sl := { s.sl with reformLeft := 64, reform := true, hops := 0, uidByte := 0 } } : State).done)) ∧
        (s.sl.originates = false → exec .slCtrlReform s = .next (s.finish (s.answer Status.notPermitted))) ∧
        (s.sl.state ≠ .off ∧ s.isPair = true ∧ s.role = Role.active →
          exec .slCtrlRelease s = .next (s.finish ({ s with sl := { s.sl with releaseDue := true } } : State).done)) ∧
        (¬ (s.sl.state ≠ .off ∧ s.isPair = true ∧ s.role = Role.active) →
          exec .slCtrlRelease s = .next (s.finish (s.answer Status.notPermitted))) ∧
        (s.sl.state = .halted → s.pendingC Fb.sync = false → s.sl.haltSeen = false → ∀ st : SlState,
          st = (if s.sl.originates = true then (if s.sl.closed = true then .synced else .search)
            else if s.sl.framed = true then .locking else .search) → exec .slCtrlResume s = .next (s.finish
              (({ s with sl := { s.sl with state := st, within := 0 } } : State).openWindow Fb.sync).done)) ∧
        (s.sl.state ≠ .halted ∨ s.pendingC Fb.sync = true ∨ s.sl.haltSeen = true →
          exec .slCtrlResume s = .next (s.finish (s.answer Status.notPermitted))) ∧
        exec .slCtrlClearCounters s =
          .next (s.finish (s.clearPars [(P.SL_TOCNT, 0), (P.SL_COPYCNT, 0), (P.SL_FRMERR, 0)]).done)))

/-- R560, R564–R566, R570, R481, R482, Tables 19.4 and 19.6: a core supply that falls begins the power-on reset, in Halt as well, which no
other source ends; RESET_N, the loss of the clock and of the PLL's lock begin a device reset outside Halt; the phases follow in order. A
device reset clears Halt, time, sessions and registers, and keeps the queue, the flash without a write under way, the trace, and but for
power-on the patch. The model's choices it rests on: log entries 16, 21, 86 and 95. -/
def Obligations.ResetSourcesAndPhasesComplete : Prop :=
  ∀ s : State,
    (∀ (rail : Fin 3) (u : State), s.pwr.phase ≠ .cause → exec (.supplyDrop rail) s = .next u → u.pwr.phase = .cause ∧
      u.pwr.cause = 1 ∧ u.flt.halted = false ∧ u.t = 0 ∧ u.pending = s.pending ∧
      (u.pwr.vcore = false ↔ rail = 0 ∨ s.pwr.vcore = false)) ∧
    (∃ u : State, exec (.supplyDrop 0) s = .next u ∧ u.pwr.vcore = false ∧ u.pending = s.pending) ∧
    (∀ u : State, u = { s with pwr := { s.pwr with vcore := true, vioA := true, avdd := true } } →
      exec .powerOn s = .next (s.finish u)) ∧
    (s.flt.halted = false → s.pwr.phase ≠ .cause →
      exec .resetN s = .next (s.finish (s.resetBegin 2 .cause)) ∧
      (s.pwr.phase ≠ .clock → exec .clockLoss s = .next (s.finish (s.resetBegin 4 .clock))) ∧
      (s.pwr.phase ≠ .clock → s.pwr.phase ≠ .pll → exec .pllLossOfLock s = .next (s.finish (s.resetBegin 5 .clock)))) ∧
    (s.flt.halted = true → exec .resetN s = .next (s.finish s) ∧ exec .clockLoss s = .next (s.finish s) ∧
      exec .pllLossOfLock s = .next (s.finish s)) ∧
    (s.pwr.phase = .cause → s.pwr.vcore = true → s.pwr.vioA = true → s.pwr.avdd = true →
      exec .deviceResetCauseEnd s = .next (s.finish { s with pwr := { s.pwr with phase := .clock } })) ∧
    (s.pwr.phase = .clock → exec .clockQualified s = .next (s.finish { s with pwr := { s.pwr with phase := .pll } })) ∧
    (s.pwr.phase = .pll → exec .pllLocked s = .next (s.finish { s with pwr := { s.pwr with phase := .otp } })) ∧
    (∀ (cause : Nat) (phase : ResetPhase) (u : State), u = s.resetBegin cause phase → u.pwr.phase = phase ∧
      u.pwr.cause = cause ∧ u.flt = {} ∧ u.t = 0 ∧ u.sessions = [] ∧ u.eng = {} ∧ u.cells = [] ∧ u.todo = [] ∧
      u.pending = s.pending ∧ (s.grist.flashOp = none → u.grist.flash = s.grist.flash) ∧
      (cause ≠ 1 → u.grist.patch = s.grist.patch ∧ u.tst.buffer = s.tst.buffer) ∧
      (cause = 1 → u.grist.patch = [] ∧ u.tst.buffer = []))

/-- R332, R333, R570, R571, R573, R574 (start-up): the end of a device reset starts the time origin and records RESET; a self-test that fails
records SELFTEST, one that passes leads to the flash directory, and that to the boot image, after which the device is READY; VREF_IO and
I_CAL become ready. The model's choices it rests on: log entries 4, 16, 19 and 58. -/
def Obligations.StartUpStepsComplete : Prop :=
  ∀ s : State,
    (∀ (otp : List OtpError) (patchBad : Bool) (u v w x : State), s.pwr.phase = .otp →
      u = { s with pwr := { s.pwr with
        phase := .running, originDue := false, supplyAtReset := b2n s.pwr.avpos + 2 * b2n s.pwr.avneg } } →
      v = otp.foldl State.otpError (u.raise Fb.supply 0 1 s.pwr.cause) →
      w = { v with pwr := { v.pwr with keyReset := v.pwr.keyState } } →
      (w.pwr.cause = 1 → x = w) → (w.pwr.cause ≠ 1 → x = w.patchInForce patchBad) →
      exec (.endOfDeviceReset otp patchBad) s = .next (s.finish ((((if x.par P.TST_TRCAUTO = 1 then x.traceStart
        else x).setPar P.TST_LASTRST 0 x.pwr.cause).trace 0x03 x.pwr.cause).timedPlan))) ∧
    (s.pwr.phase ≠ .otp → s.pwr.originDue = false → ∀ (otp : List OtpError) (patchBad : Bool),
      exec (.endOfDeviceReset otp patchBad) s = .next (s.finish s)) ∧
    (∀ (bad : Bool) (u : State), u = s.patchInForce bad → (s.grist.patchSt = 1 → bad = false →
        u.grist.patch = s.grist.staged ∧ u.grist.patchRev = s.grist.stagedRev ∧ u.grist.patchSt = 2) ∧
      (s.grist.patchSt = 1 ∨ s.grist.patchSt = 2 → bad = true → u.grist.patch = [] ∧ u.grist.patchRev = 0 ∧ u.grist.patchSt = 0 ∧
        ∃ r ∈ u.todo, r.blk = Fb.hopper ∧ r.det = 1)) ∧
    (s.pwr.phase = .running → s.hopperUp = true → s.pwr.originDue = false →
      (s.pwr.step = .selfTest →
        exec (.selfTestDone none) s = .next (s.finish { s with pwr := { s.pwr with step := .directory } }) ∧
        (∀ k : Fin 8, exec (.selfTestDone (some k)) s = .next (s.finish (s.raise Fb.supply 5 4 k.val)))) ∧
      (s.pwr.step = .directory → ∀ u : State, u = (List.range 16).foldl State.readDir s →
        exec .flashDirectoryRead s = .next (s.finish { u with pwr := { u.pwr with step := .boot } })) ∧
      (s.pwr.step = .boot → ∀ u : State, u = (s.bootPatch (List.range 16)).bootGrist (List.range 16) →
        exec .bootImageLoaded s = .next (s.finish { u.ready with result := s.result }) ∧ u.ready.pwr.step = .ready ∧
        u.ready.pwr.icalOn = true)) ∧
    (s.pwr.phase = .running → s.pwr.vrefReady = false → ∀ u : State, u = { s with pwr := { s.pwr with vrefReady := true } } →
      exec .vrefioReady s = .next (s.finish ((List.range 4).foldl State.sarRefUpdate u).icRefUpdate)) ∧
    (s.pwr.phase = .running → s.pwr.icalOn = true → s.pwr.icalSettled = false → s.pwr.readyAt + msTicks 1 ≤ s.t →
      exec .icalSettled s = .next (s.finish { s with pwr := { s.pwr with icalSettled := true } }))

/-- R354, R568 (Hopper restart), R569, R577, R592 (block reset), R560, R581 (supply detectors): a restart ends and the patch that fails its
check is dropped; a write of `TST_BLKRST` resets the block it names where its key, the block and the mode admit it, and the block works
again once t_BRST has passed; VIOBLOW and VIORANGE record in their episodes. The model's choices it rests on: log entries 4, 5, 92 and 93. -/
def Obligations.RestartsAndSupplyDetectorsComplete : Prop :=
  ∀ s : State,
    (∀ (t0 : Nat) (bad : Bool), s.pwr.hopperDown = some t0 → s.alive = true → s.pwr.step = .ready → ∀ u v : State,
      u = { s with pwr := { s.pwr with hopperDown := none }, flt := { s.flt with served := s.t } } →
      v = u.patchInForce bad → exec (.hopperRestartDone bad) s = .next (s.finish (v.resumeGrace.openWindow Fb.hopper))) ∧
    (∀ bad : Bool, s.pwr.hopperDown = none → exec (.hopperRestartDone bad) s = .next (s.finish s)) ∧
    (∀ v : Word, s.hopperUp = true → s.resetting Fb.test = false → valueOk P.TST_BLKRST 0 v.toNat = true →
      ∀ b : Nat, b = v.toNat % 256 →
      (bitsOf v.toNat 16 16 ≠ 0x5AA5 → exec (.blockReset v) s = .next (s.finish (s.answer Status.outOfRange))) ∧
      (bitsOf v.toNat 16 16 = 0x5AA5 → bitsOf v.toNat 8 8 = 0 →
        (s.tst.testMode = true ∨ Fb.kiln < b → exec (.blockReset v) s = .next (s.finish (s.answer Status.notPermitted))) ∧
        (s.tst.testMode = false → b ≤ Fb.kiln →
          (s.resetting b = true → exec (.blockReset v) s = .next (s.finish (s.answer Status.busyLocked))) ∧
          (s.resetting b = false → exec (.blockReset v) s = .next (s.finish (s.resetBlock b).done))))) ∧
    (∀ b : Nat, b ≤ Fb.kiln → b ≠ Fb.fabric →
      tblGet 0 (s.resetBlock b).pwr.blockReset b = s.t + resetTicks b ∧ (s.resetBlock b).par P.TST_LASTRST = 7 + 256 * b) ∧
    (∀ (b : BitVec 8) (due : Nat), s.pwr.phase = .running → b.toNat ≠ Fb.fabric → due = tblGet 0 s.pwr.blockReset b.toNat →
      due ≠ 0 → due ≤ s.t → exec (.blockResetDone b) s = .next (s.finish (({ s with pwr := { s.pwr with
        blockReset := tblErase s.pwr.blockReset b.toNat } } : State).openWindow b.toNat))) ∧
    (∀ u : State, u = { s with pwr := { s.pwr with vioB := false } } → s.pwr.phase = .running →
      exec .vioblow s = .next (s.finish (u.raiseEpisode Fb.supply 1 2))) ∧
    (∀ a b : Bool, s.pwr.phase = .running → a = true ∨ b = true →
      exec (.viorange a b) s = .next (s.finish (s.raiseEpisode Fb.supply 2 2 (b2n a + 2 * b2n b)))) ∧
    (∀ present : Bool,
      exec (.railPresenceChange .avpos present) s = .next (s.finish { s with pwr := { s.pwr with avpos := present } }) ∧
      exec (.railPresenceChange .avneg present) s = .next (s.finish { s with pwr := { s.pwr with avneg := present } })) ∧
    exec (.railPresenceChange .vioB false) s = .next (s.finish { s with pwr := { s.pwr with vioB := false } }) ∧
    exec (.railPresenceChange .vioB true) s =
      .next (s.finish (({ s with pwr := { s.pwr with vioB := true } } : State).endEpisode Fb.supply 1))

/-- R582–R587, Table 20.1: every JTAG row makes its instruction current while the TAP has its supplies, and has no effect without them;
Capture-IR loads Halt, factory test mode and 0b01; IDCODE captures 0x2B6A_41D3; EXTEST, CLAMP and HIGHZ isolate the device, which every
other instruction ends; RECSEL sets the selector of the fault records and trace entries, RECDATA captures the selected bytes and moves the
selector on; SAMPLE captures the boundary register. R586: while boundary scan isolates the device, HIGHZ turns every general pin's driver
off, and the other instructions drive each pin from the boundary register's cells 3p + 1 and 3p + 2; the drivers of the cells are off.
R528–R530 (Table 18.2): the package has 484 balls, with as many of each supply and ground as the table gives and 229 signals, and the
balls of the cells and of the general pins lie where R529 and R530 place them. R507, R532 (Table 18.3): the core drives no ball of a bank
without supply. In every reset SL_BYP_N is low, FAULT_N is low in Halt alone and IRQ_N, UART, RMII and ring outputs are off; while the
device runs, SL_BYP_N is high exactly with `SL_ENABLE` at 1, IRQ_N and FAULT_N are low exactly as their sources say, and the ring outputs
run with the link. Outside boundary scan's isolation the ball SL_BYP_N is high exactly while the device is powered, runs and has
`SL_ENABLE` at 1. The model's choices it rests on: log entries 18 and 135. -/
def Obligations.JtagIsolatesAndSelects : Prop :=
  (∀ s : State,
      (s.pwr.vcore = true → s.pwr.vioB = true → ∀ (c u : State) (set : State → Nat → State),
        c = { s with tst := { s.tst with
          irCapture := 128 * b2n (s.flt.halted && s.pwr.phase == .running) + 64 * b2n s.tst.testMode + 1 } } →
        u = c.tapLeave →
        (∀ v k, set v k = { v with tst := { v.tst with ir := k, bypass := false } }) →
        exec .jtagTestLogicReset s = .next (s.finish (set s.tapLeave 0x02)) ∧
        (∀ v : State, v = set u 0x02 →
          exec .idcode s = .next (s.finish { v with tst := { v.tst with idcode := 0x2B6A41D3 } })) ∧
        exec .bypass s = .next (s.finish (set u 0xFF)) ∧
        (∀ sel : BitVec 16, ∀ v : State, v = set u 0x10 →
          exec (.recsel sel) s = .next (s.finish { v with tst := { v.tst with recsel := sel.toNat } })) ∧
        (∀ v : State, v = set u 0x11 → exec .recdata s = .next (s.finish { v with tst := { v.tst with
          recdata := v.recBytes v.tst.recsel, recsel := nextSel v.tst.recsel } })) ∧
        (∀ balls shifted : BitVec 341, ∀ v : State, v = set u 0x01 → exec (.samplePreload balls shifted) s =
          .next (s.finish { v with tst := { v.tst with bscan := s.boundaryCapture balls.toNat, boundary := shifted.toNat } })) ∧
        (∀ i : State, i = (if s.tst.isolated = true then c else (({ c with tst := { c.tst with isolated := true } } : State).bump
            P.TST_JTAGCNT).raise Fb.test 5 1) →
          exec .extest s = .next (s.finish (set i 0x00)) ∧ exec .jtagClamp s = .next (s.finish (set i 0x03)) ∧
          exec .highz s = .next (s.finish (set i 0x04))) ∧
        u.tst.isolated = false) ∧
      (s.pwr.vcore = false ∨ s.pwr.vioB = false → exec .jtagTestLogicReset s = .next (s.finish s) ∧
        exec .idcode s = .next (s.finish s) ∧ exec .bypass s = .next (s.finish s) ∧ exec .extest s = .next (s.finish s) ∧
        exec .jtagClamp s = .next (s.finish s) ∧ exec .highz s = .next (s.finish s) ∧ exec .recdata s = .next (s.finish s) ∧
        (∀ sel : BitVec 16, exec (.recsel sel) s = .next (s.finish s)))) ∧
  (∀ (s : State) (p : Nat), s.pwr.phase = .running → s.tst.isolated = true →
      (s.tst.ir = 0x04 → s.pinDrive p = (false, false)) ∧
      (s.tst.ir ≠ 0x04 → s.pinDrive p = (bitOf s.tst.boundary (3 * p + 1), bitOf s.tst.boundary (3 * p + 2))) ∧
      (∀ n : Nat, s.cellDrive n = .off)) ∧
  (allBalls.length = 484 ∧ allBalls.count .vcore = 72 ∧ allBalls.count .dvss = 84 ∧ allBalls.count .vioA = 7 ∧
    allBalls.count .vioB = 5 ∧ allBalls.count .avdd = 10 ∧ allBalls.count .avpos = 4 ∧ allBalls.count .avneg = 4 ∧
    allBalls.count .agnd = 69 ∧ (allBalls.filter BallNet.isSignal).length = 229 ∧
    (∀ n : Nat, n < 64 → ballNet (n / 3 + 1) (3 * (n % 3) + 1) = .cellP n ∧ ballNet (n / 3 + 1) (3 * (n % 3) + 2) = .cellN n) ∧
    (∀ p : Nat, p < 18 → ballNet (p + 3) 22 = .gp p) ∧
    (∀ p : Nat, 18 ≤ p → p < 36 → ballNet (p - 15) 21 = .gp p) ∧
    (∀ p : Nat, 36 ≤ p → p < 48 → ballNet (p - 33) 20 = .gp p)) ∧
  (∀ s : State,
      (∀ x : Dedicated, (if x.onVioA then s.pwr.vioA else s.pwr.vioB) = false → s.dedicatedDrive x = none) ∧
      (s.pwr.vioA = true → s.pwr.vioB = true →
        (∀ x : Dedicated, x.isInput = true → s.dedicatedDrive x = some .input) ∧
        (s.pwr.phase ≠ .running → s.dedicatedDrive .slBypN = some .low ∧
          s.dedicatedDrive .faultN = some (if s.flt.halted then .low else .off) ∧
          s.dedicatedDrive .irqN = some .off ∧ s.dedicatedDrive .uTxd = some .off ∧ s.dedicatedDrive .uDe = some .off ∧
          s.dedicatedDrive .rmiiTxen = some .off ∧ s.dedicatedDrive .slTxp = some .off ∧ s.dedicatedDrive .slTxn = some .off) ∧
        (s.pwr.phase = .running →
          s.dedicatedDrive .slBypN = some (if s.par P.SL_ENABLE = 1 then .high else .low) ∧
          s.dedicatedDrive .irqN = some (if s.irqLow then .low else .off) ∧
          s.dedicatedDrive .faultN = some (if s.faultNLow then .low else .off) ∧
          s.dedicatedDrive .slTxp = some (if s.par P.SL_ENABLE = 1 then .running else .off))) ∧
      (s.tst.isolated = false →
        (s.slBypN = true ↔ s.pwr.phase = .running ∧ s.pwr.vioB = true ∧ s.par P.SL_ENABLE = 1)) ∧
      (s.pwr.phase ≠ .running → s.slBypN = false))

/-- R588, R589 (factory test mode ends), R593–R596, R601 (trace): the release of TESTMODE_N, and silence for `TST_TESTTO`, end factory test
mode; START, STOP and CLEAR act on the recording, a mark makes its entry, and the buffer takes one entry of its FIFO at a time, with the
oldest overwritten where it is full. The model's choices it rests on: log entries 4, 5, 96 and 97. -/
def Obligations.TestAndTraceComplete : Prop :=
  ∀ s : State,
    (∀ u : State, u = { s with tst := { s.tst with testPinN := true } } →
      (s.tst.testMode = false → exec .testmodeNHigh s = .next (s.finish u)) ∧
      (s.tst.testMode = true → exec .testmodeNHigh s = .next (s.finish (({ u with tst := { u.tst with
        testMode := false, testPort := 0, challenge := none } } : State).trace 0x0C 0)))) ∧
    (s.tst.testMode = true → s.tst.testLast + msTicks (s.par P.TST_TESTTO) ≤ s.t →
      exec .testModeIdleTimeout s = .next (s.finish (({ s with tst := { s.tst with
        testMode := false, testPort := 0, challenge := none } } : State).trace 0x0C 0))) ∧
    (s.hopperUp = true → s.resetting Fb.test = false →
      (∀ v : Word, exec (.traceMark v) s = .next (s.finish
        (s.trace 0x0B 0 (some (leBytes 4 v.toNat ++ List.replicate 10 0))).done)) ∧
      (s.tst.running = false → exec (.traceStart none) s = .next (s.finish
        ((({ s with tst := { s.tst with running := true, trigLeft := none } } : State).setPar P.TST_TRCSTART 0
          (s.t % 2 ^ 32)).setPar P.TST_TRCSTART 1 (s.t / 2 ^ 32)).done)) ∧
      (s.tst.running = true → exec (.traceStart none) s = .next (s.finish s.done)) ∧
      exec (.traceStop none) s = .next (s.finish ({ s with tst := { s.tst with running := false, trigLeft := none } } :
        State).done) ∧
      exec (.traceClear none) s = .next (s.finish ({ s with tst := { s.tst with buffer := [], fifo := [], lostSince := 0 } } :
        State).done) ∧
      exec .tstCtrlClearCounters s = .next (s.finish (s.clearPars [(P.TST_TRCLOST, 0), (P.TST_TRCECC, 0), (P.TST_TRCECC, 1),
        (P.TST_SLEEPCNT, 0), (P.TST_BRSTCNT, 0), (P.TST_TESTCNT, 0), (P.TST_JTAGCNT, 0)]).done)) ∧
    (s.pwr.phase = .running →
      (s.tst.fifo = [] → exec .traceFifoDrain s = .next (s.finish s)) ∧
      (∀ (e : TraceEntry) (rest : List TraceEntry), s.tst.fifo = e :: rest →
        (s.tst.buffer.length < s.traceDepth → exec .traceFifoDrain s = .next (s.finish
          { s with tst := { s.tst with fifo := rest, buffer := s.tst.buffer ++ [e] } })) ∧
        (s.traceDepth ≤ s.tst.buffer.length → s.tst.buffer ≠ [] → s.par P.TST_TRCMODE ≠ 1 →
          exec .traceFifoDrain s = .next (s.finish
            { s with tst := { s.tst with fifo := rest, buffer := dropOldest s.tst.buffer ++ [e] } }))))

/-- A step takes the command at the front of the queue and runs it with the rest of the queue waiting; with an empty queue it is one TCLK
edge, which a device reset keeps from having an effect (the model's choice for an empty queue: log entry 3). -/
def Obligations.StepTakesTheFrontCommand : Prop :=
  (∀ (c : Instr) (rest : List Instr) (s : State), step { s with pending := c :: rest } = exec c { s with pending := rest }) ∧
  (∀ s : State, s.pending = [] → step s = .next s.tick ∧ (s.pwr.phase ≠ .running → step s = .next s) ∧
    s.tick.pending = [])

/-- Every command answers a next state, in every state and with every operand, and leaves the commands that wait as they are; so a queue of
any length is taken, first in, first out, by as many steps, none of which stops. The model's choices it rests on: log entry 1 (one queue
of commands). -/
def Obligations.QueueDrainsWithoutAStop : Prop :=
  (∀ (c : Instr) (s : State), ∃ t, exec c s = .next t ∧ t.pending = s.pending) ∧
  (∀ s : State, ∃ t, Reaches s.pending.length s t ∧ t.pending = []) ∧
  (∀ (n : Nat) (s : State), SafeRun n s)

/-- R482: Halt stays latched through every command but a fall of a core supply, and through idle edges, so every run over a queue that holds
none stays in Halt; the fall, which is a power-on reset, leaves it. A RESET_N pulse has no effect in Halt, and neither has the RESET
command, whatever its packet. The TAP keeps working: RECSEL sets its selector, and RECDATA captures the record or the trace entries
selected, which the captures, the log and the trace supply. -/
def Obligations.HaltStaysLatched : Prop :=
  (∀ s t : State, HaltLatched s → step s = .next t → HaltLatched t) ∧
  (∀ (n : Nat) (s t : State), HaltLatched s → Reaches n s t → t.flt.halted = true) ∧
  (∀ s : State, s.flt.halted = true →
    (s.pwr.phase = .running → ∀ rail : Fin 3, ∃ t, exec (.supplyDrop rail) s = .next t ∧ t.flt.halted = false) ∧
    exec .resetN s = .next (s.finish s) ∧
    (∀ p : Packet, exec (.resetDevice p) s = .next (s.finish s)) ∧
    (s.pwr.vcore = true → s.pwr.vioB = true →
      (∀ sel : BitVec 16, ∃ u : State, u.tst.recsel = sel.toNat ∧ u.flt = s.flt ∧
        exec (.recsel sel) s = .next (s.finish u)) ∧
      (∃ u : State, u.tst.recdata = s.recBytes s.tst.recsel ∧ u.tst.recsel = nextSel s.tst.recsel ∧
        exec .recdata s = .next (s.finish u))))

/-- R594, an invariant that every step keeps: out of device reset no event of an edge still waits for its trace entry when the edge is over;
it stands in the FIFO by then, was masked, or was counted as lost. Whatever the command, and on an idle edge. The model's choices it rests
on: log entries 101 (when the events of an edge enter) and 3 (an idle step is one TCLK edge). -/
def Obligations.NoTraceEventOutlivesItsEdge : Prop :=
  (∀ s t : State, TraceTaken s → step s = .next t → TraceTaken t) ∧
  (∀ (n : Nat) (s t : State), TraceTaken s → Reaches n s t → TraceTaken t)

/-- What the end of an edge does where nothing waits for it: a state that is settled stays as it is, so that what a command's own effect does
not name is unchanged (the frame of every statement here that ends in `finish`). The model's choices it rests on: log entries 101 and 102. -/
def Obligations.SettledStatesEndTheirEdgeUnchanged : Prop :=
  (∀ s0 s : State, Settled s0 s → s0.finish s = s) ∧
  (∀ s0 s : State, s.pwr.phase ≠ .running → s.pending = s0.pending → s0.flt.halted = false → s0.finish s = s)

/-- R566, R567, R428, R481 (what is deaf): while Hopper is not up (a device reset, Halt, a restart, HIBERNATE) no write and no read of a
parameter acts, no packet of a native opcode does, and no Gen-1 frame does; in a device reset and in Halt the events of the blocks have no
effect, and in a device reset those of the fault logic and the sync link have none. The model's choices it rests on: log entry 8. -/
def Obligations.StoppedDevicesIgnoreHostsAndBlocks : Prop :=
  ∀ s : State,
    (s.pwr.phase ≠ .running ∨ s.flt.halted = true → s.hopperUp = false ∧ s.alive = false) ∧
    (s.hopperUp = false → (∀ id inst v : Nat, s.hostWrite id inst v = s ∧ s.hostRead id inst = s) ∧
      (∀ q : Nat, s.hears q = false) ∧
      (∀ (p : Packet) (op : Nat) (r : Rule) (run : State → State), s.native p op r run = s) ∧
      (∀ (p : Packet) (why : Reject), exec (.commandPacketRejected p why) s = .next (s.finish s)) ∧
      exec .gen1Nop s = .next (s.finish s)) ∧
    (s.alive = false → ∀ f : State → State, s.blockEvent f = s) ∧
    (s.pwr.phase ≠ .running → (∀ f : State → State, s.liveEvent f = s) ∧ (∀ f : State → State, s.sourceEvent f = s) ∧
      s.finish s = s)

/-- R570 and the reset columns of the parameter tables: at the end of a device reset time is 0, no fault is pending, no command and no trace
event waits (TraceTaken holds), no session is open and no port owns the device, the angle engine is STOPPED, every timer is STOPPED and
every ring DISABLED, and the parameters named hold the reset values of their tables. The model's choices it rests on: log entry 16
(State.reset is the end of a power-on reset). -/
def Obligations.ResetLeavesTheTablesValues : Prop :=
  TraceTaken State.reset ∧ State.reset.t = 0 ∧ State.reset.pending = [] ∧ State.reset.flt.halted = false ∧ State.reset.faulty = [] ∧
  State.reset.eng.state = .stopped ∧ (∀ n, (State.reset.session n).isOpen = false) ∧ (∀ n, State.reset.owns n = true → n = 0) ∧
  (∀ n, (State.reset.timer n).state = .stopped) ∧ (∀ n, (State.reset.ring n).state = .disabled) ∧
  (∀ n, (State.reset.mbox n).msg = none) ∧ State.reset.freeBufs = 2048 ∧
  State.reset.par P.WH_SRC = 4 ∧ State.reset.par P.WH_QLINES = 1024 ∧ State.reset.par P.AC_OUT 63 = 0x8000 ∧
  State.reset.par P.CMP_THR 0 = 0x0FFF0000 ∧ State.reset.par P.SAR_SYSGAIN 7 = 0x40000000 ∧ State.reset.par P.IC_TINT 3 = 20000 ∧
  State.reset.par P.FL_RATIO 31 = 0x08000000 ∧ State.reset.par P.HP_UADDR = 1 ∧ State.reset.par P.ST_CFG 5 = 0x0C ∧
  State.reset.par P.MB_ROUTE 6 = 6 ∧ State.reset.par P.FLT_GRACE0 9 = 10000 ∧ State.reset.par P.SL_ROLECFG = 1 ∧
  State.reset.par P.TST_TRCMASK = 0x7FFE

/-- R417, R508: an idle TCLK edge adds 1 to the time counter, or, at an edge that the rate correction takes, 2 or 0; it adds nothing else. The
model's choices it rests on: log entry 3 (an idle step is one TCLK edge). -/
def Obligations.TimeCountsByTheSlew : Prop :=
  ∀ s : State, ((s.countTime).now = s.now + 1 ∨ (s.countTime).now = s.now + 2 ∨ (s.countTime).now = s.now) ∧
    (s.slew = 0 → s.slewPart < 1000000000000 → s.countTime = { s with now := s.now + 1 }) ∧
    (s.slewPart + s.slew.natAbs < 1000000000000 → s.countTime =
      { s with now := s.now + 1, slewPart := s.slewPart + s.slew.natAbs }) ∧
    (s.countTime).slew = s.slew ∧
    (s.slewPart < 1000000000000 → s.slew.natAbs ≤ 1000000000000 → (s.countTime).slewPart < 1000000000000)
end

