-- ==== Sys2Proof/Laws/Bytes.lean ====
section
/-! SUPPORT. Lists of bytes: their little-endian numbers, their slices, and the frames of the sync link made of them. -/

namespace Sys2Proof.Machine

/-! ### Numbers and slices -/

@[simp] theorem leBytes_length (n x : Nat) : (leBytes n x).length = n := by
  induction n generalizing x with
  | zero => rfl
  | succ n ih => simp [leBytes, ih]

/-- The number of little-endian bytes made from `x` is `x` in that width. -/
theorem leNat_leBytes (n x : Nat) : leNat (leBytes n x) = x % 256 ^ n := by
  induction n generalizing x with
  | zero => simp [leBytes, leNat, Nat.mod_one]
  | succ n ih =>
    show (BitVec.ofNat 8 x).toNat + 256 * leNat (leBytes n (x / 256)) = _
    have h : (BitVec.ofNat 8 x).toNat = x % 256 := by simp
    have hp : 256 ^ (n + 1) = 256 * 256 ^ n := Nat.pow_succ'
    rw [ih, h, hp, Nat.mod_mul]

theorem slice_eq {bs : List Byte} {off n : Nat} (h : off + n ≤ bs.length) : slice bs off n = (bs.drop off).take n := by
  have : n - ((bs.drop off).take n).length = 0 := by simp; omega
  simp only [slice, this, List.replicate_zero, List.append_nil]

/-- A slice of what stands between two lists of bytes. -/
theorem slice_mid {a b c : List Byte} {off n : Nat} (ha : a.length = off) (hb : b.length = n) : slice (a ++ b ++ c) off n = b := by
  subst ha hb
  rw [slice_eq (by simp)]; simp

/-- A slice that ends before the end of a list does not reach what follows the list. -/
theorem slice_append {a b : List Byte} {off n : Nat} (h : off + n ≤ a.length) : slice (a ++ b) off n = slice a off n := by
  rw [slice_eq (by simp; omega), slice_eq h, List.drop_append_of_le_length (by omega), List.take_append_of_le_length (by simp; omega)]

theorem slice_take {a : List Byte} {off n m : Nat} (h : off + n ≤ m) (hm : m ≤ a.length) : slice (a.take m) off n = slice a off n := by
  rw [slice_eq (by simp; omega), slice_eq (by omega), List.drop_take, List.take_take]
  congr 1; omega

theorem crc16_lt (bs : List Byte) : crc16 bs < 65536 := (bs.foldl crc16Byte 0xFFFF).isLt

/-! ### Sync-link frames -/

variable {f : List Byte}

theorem frPut_length {k : Nat} {bs : List Byte} (h : k - 1 + bs.length ≤ f.length) : (frPut f k bs).length = f.length := by
  simp [frPut]; omega

/-- What was put into a frame stands there. -/
theorem slice_frPut {k : Nat} {bs : List Byte} (h : k - 1 + bs.length ≤ f.length) : slice (frPut f k bs) (k - 1) bs.length = bs :=
  slice_mid (by simp; omega) rfl

/-- Other bytes of a frame stay. -/
theorem slice_frPut_ne {k off n : Nat} {bs : List Byte} (h : k - 1 + bs.length ≤ f.length) (hn : off + n ≤ f.length)
    (hd : off + n ≤ k - 1 ∨ k - 1 + bs.length ≤ off) : slice (frPut f k bs) off n = slice f off n := by
  rw [slice_eq (by rw [frPut_length h]; exact hn), slice_eq hn]
  rcases hd with hd | hd
  · rw [frPut, List.append_assoc, List.drop_append_of_le_length (by simp; omega),
      List.take_append_of_le_length (by simp; omega), List.drop_take, List.take_take]
    congr 1; omega
  · have : (frPut f k bs).drop off = f.drop off := by
      have hl : (f.take (k - 1) ++ bs).length = k - 1 + bs.length := by simp; omega
      rw [frPut, List.drop_append, List.drop_eq_nil_of_le (by rw [hl]; exact hd), List.nil_append, List.drop_drop, hl]
      congr 1; omega
    rw [this]

theorem frSeal_length (h : 47 ≤ f.length) : (frSeal f).length = 49 := by simp [frSeal]; omega

/-- A sealed frame has a right check. -/
theorem frSeal_good (h : 47 ≤ f.length) : frGood (frSeal f) = true := by
  have hl := frSeal_length h
  have ht : (frSeal f).take 47 = f.take 47 := by
    rw [frSeal, List.take_append_of_le_length (by simp; omega), List.take_take]; simp
  have hs : slice (frSeal f) 47 2 = leBytes 2 (crc16 (f.take 47)) := by
    have := slice_mid (a := f.take 47) (b := leBytes 2 (crc16 (f.take 47))) (c := []) (off := 47) (n := 2) (by simp; omega) (by simp)
    simpa [frSeal] using this
  have := crc16_lt (f.take 47)
  simp only [frGood, hl, ht, frField, fieldAt, hs, leNat_leBytes]
  simp; omega

/-- Sealing a frame leaves its bytes 1–47. -/
theorem slice_frSeal {off n : Nat} (h : 47 ≤ f.length) (hn : off + n ≤ 47) : slice (frSeal f) off n = slice f off n := by
  rw [frSeal, slice_append (by simp; omega), slice_take hn h]

/-- The copy channel takes bytes 38–47. -/
theorem frSetChannel_length {c : Option CopyItem} (h : f.length = 47 ∨ f.length = 49) : (frSetChannel f c).length = f.length := by
  cases c <;> simp only [frSetChannel] <;> apply frPut_length <;> simp [slice] <;> omega

theorem slice_frSetChannel {c : Option CopyItem} {off n : Nat} (h : 47 ≤ f.length) (hn : off + n ≤ 37) :
    slice (frSetChannel f c) off n = slice f off n := by
  cases c <;> simp only [frSetChannel] <;> refine slice_frPut_ne ?_ (by omega) (.inl (by omega)) <;>
    simp [slice] <;> omega

end Sys2Proof.Machine
end

