-- ==== Sys2Proof/Laws/Table.lean ====
section
/-! SUPPORT. Laws of sparse tables and byte memories: a read after a write, other places left alone, and the canonical form
kept by every operation. -/

namespace Sys2Proof

variable {α : Type}

/-- Every key of the table is above `k`. -/
def tblAbove (k : Nat) (t : Tbl α) : Prop := ∀ e ∈ t, k < e.1

theorem tblRising_cons {k : Nat} {v : α} {t : Tbl α} :
    tblRising ((k, v) :: t) = true ↔ tblRising t = true ∧ (∀ e ∈ t.head?, k < e.1) := by
  cases t with
  | nil => simp [tblRising]
  | cons e t => obtain ⟨j, w⟩ := e; simp [tblRising, and_comm]

theorem tblAbove_of_rising {k : Nat} {v : α} {t : Tbl α} (h : tblRising ((k, v) :: t) = true) : tblAbove k t := by
  induction t generalizing k v with
  | nil => intro e he; cases he
  | cons e t ih =>
    obtain ⟨j, w⟩ := e
    have h1 := tblRising_cons.mp h
    have hk : k < j := h1.2 (j, w) (by simp)
    intro e he
    rcases List.mem_cons.mp he with rfl | he
    · exact hk
    · exact Nat.lt_trans hk (ih h1.1 e he)

theorem tblRising_of_above {k : Nat} {v : α} {t : Tbl α} (h : tblRising t = true) (ha : tblAbove k t) :
    tblRising ((k, v) :: t) = true :=
  tblRising_cons.mpr ⟨h, fun e he => ha e (List.mem_of_mem_head? he)⟩

theorem tblRising_tail {e : Nat × α} {t : Tbl α} (h : tblRising (e :: t) = true) : tblRising t = true := by
  obtain ⟨k, v⟩ := e; exact (tblRising_cons.mp h).1

/-- An erased key reads as the default. -/
@[simp] theorem tblGet_tblErase_same (d : α) (t : Tbl α) (k : Nat) : tblGet d (tblErase t k) k = d := by
  induction t with
  | nil => rfl
  | cons e t ih =>
    obtain ⟨j, v⟩ := e
    by_cases h : j = k <;> simp [tblErase, tblGet, h, ih]

/-- Erasing one key leaves the others. -/
theorem tblGet_tblErase_ne (d : α) (t : Tbl α) {k j : Nat} (h : j ≠ k) : tblGet d (tblErase t k) j = tblGet d t j := by
  induction t with
  | nil => rfl
  | cons e t ih =>
    obtain ⟨i, v⟩ := e
    by_cases h1 : i = k
    · simp [tblErase, tblGet, h1, ih, h.symm]
    · simp only [tblErase, h1, if_false, tblGet, ih]

theorem tblGet_tblInsert_same (d : α) (t : Tbl α) (k : Nat) (v : α) (h : ∀ e ∈ t, e.1 ≠ k) :
    tblGet d (tblInsert t k v) k = v := by
  induction t with
  | nil => simp [tblInsert, tblGet]
  | cons e t ih =>
    obtain ⟨j, w⟩ := e
    have hj : j ≠ k := h (j, w) (by simp)
    by_cases h1 : k < j
    · simp [tblInsert, tblGet, h1]
    · simp [tblInsert, tblGet, h1, hj, ih (fun e he => h e (by simp [he]))]

theorem tblGet_tblInsert_ne (d : α) (t : Tbl α) {k j : Nat} (v : α) (h : j ≠ k) :
    tblGet d (tblInsert t k v) j = tblGet d t j := by
  induction t with
  | nil => simp [tblInsert, tblGet, h.symm]
  | cons e t ih =>
    obtain ⟨i, w⟩ := e
    by_cases h1 : k < i
    · simp [tblInsert, tblGet, h1, h.symm]
    · simp only [tblInsert, h1, if_false, tblGet, ih]

theorem mem_tblErase {t : Tbl α} {k : Nat} {e : Nat × α} (h : e ∈ tblErase t k) : e ∈ t ∧ e.1 ≠ k := by
  induction t with
  | nil => cases h
  | cons f t ih =>
    obtain ⟨j, v⟩ := f
    by_cases h1 : j = k
    · simp only [tblErase, h1, if_true] at h
      exact ⟨List.mem_cons_of_mem _ (ih h).1, (ih h).2⟩
    · simp only [tblErase, h1, if_false, List.mem_cons] at h
      rcases h with rfl | h
      · exact ⟨by simp, h1⟩
      · exact ⟨List.mem_cons_of_mem _ (ih h).1, (ih h).2⟩

theorem mem_tblInsert {t : Tbl α} {k : Nat} {v : α} {e : Nat × α} (h : e ∈ tblInsert t k v) : e = (k, v) ∨ e ∈ t := by
  induction t with
  | nil => simpa [tblInsert] using h
  | cons f t ih =>
    obtain ⟨j, w⟩ := f
    by_cases h1 : k < j
    · simpa [tblInsert, h1] using h
    · simp only [tblInsert, h1, if_false, List.mem_cons] at h
      rcases h with rfl | h
      · simp
      · rcases ih h with h | h
        · exact .inl h
        · exact .inr (by simp [h])

/-- A key that has been set reads as what it was set to. -/
@[simp] theorem tblGet_tblSet_same [DecidableEq α] (d : α) (t : Tbl α) (k : Nat) (v : α) :
    tblGet d (tblSet d t k v) k = v := by
  by_cases h : v = d
  · simp [tblSet, h]
  · simp only [tblSet, h, if_false]
    exact tblGet_tblInsert_same d _ k v (fun e he => (mem_tblErase he).2)

theorem tblErase_tblErase (t : Tbl α) (k : Nat) : tblErase (tblErase t k) k = tblErase t k := by
  induction t with
  | nil => rfl
  | cons e t ih =>
    obtain ⟨j, w⟩ := e
    by_cases h : j = k <;> simp [tblErase, h, ih]

theorem tblErase_tblInsert_same (t : Tbl α) (k : Nat) (v : α) : tblErase (tblInsert t k v) k = tblErase t k := by
  induction t with
  | nil => simp [tblInsert, tblErase]
  | cons e t ih =>
    obtain ⟨j, w⟩ := e
    by_cases h : k < j
    · simp [tblInsert, tblErase, h]
    · by_cases h2 : j = k <;> simp [tblInsert, tblErase, h, h2, ih]

/-- Of two settings of one key the later one stands. -/
@[simp] theorem tblSet_tblSet_same [DecidableEq α] (d : α) (t : Tbl α) (k : Nat) (v w : α) :
    tblSet d (tblSet d t k v) k w = tblSet d t k w := by
  by_cases hv : v = d <;> simp [tblSet, hv, tblErase_tblErase, tblErase_tblInsert_same]

/-- Setting one key leaves the others, whichever default they are read with. -/
theorem tblGet_tblSet_ne [DecidableEq α] (d d' : α) (t : Tbl α) {k j : Nat} (v : α) (h : j ≠ k) :
    tblGet d' (tblSet d t k v) j = tblGet d' t j := by
  by_cases hv : v = d
  · simp [tblSet, hv, tblGet_tblErase_ne d' t h]
  · simp [tblSet, hv, tblGet_tblInsert_ne d' _ v h, tblGet_tblErase_ne d' t h]

theorem tblRising_tblErase {t : Tbl α} (k : Nat) (h : tblRising t = true) : tblRising (tblErase t k) = true := by
  induction t with
  | nil => rfl
  | cons e t ih =>
    obtain ⟨j, v⟩ := e
    have ht := ih (tblRising_tail h)
    by_cases h1 : j = k
    · simpa [tblErase, h1] using ht
    · simp only [tblErase, h1, if_false]
      exact tblRising_of_above ht (fun e he => tblAbove_of_rising h e (mem_tblErase he).1)

theorem tblRising_tblInsert {t : Tbl α} {k : Nat} (v : α) (h : tblRising t = true) (hk : ∀ e ∈ t, e.1 ≠ k) :
    tblRising (tblInsert t k v) = true := by
  induction t with
  | nil => rfl
  | cons e t ih =>
    obtain ⟨j, w⟩ := e
    by_cases h1 : k < j
    · simp only [tblInsert, h1, if_true]
      refine tblRising_of_above h (fun e he => ?_)
      rcases List.mem_cons.mp he with rfl | he
      · exact h1
      · exact Nat.lt_trans h1 (tblAbove_of_rising h e he)
    · simp only [tblInsert, h1, if_false]
      refine tblRising_of_above (ih (tblRising_tail h) (fun e he => hk e (by simp [he]))) (fun e he => ?_)
      rcases mem_tblInsert he with rfl | he
      · have := hk (j, w) (by simp); omega
      · exact tblAbove_of_rising h e he

/-- Setting a key keeps a table in canonical form. -/
theorem tblWf_tblSet [DecidableEq α] (d : α) {t : Tbl α} (k : Nat) (v : α) (h : tblWf d t = true) :
    tblWf d (tblSet d t k v) = true := by
  simp only [tblWf, Bool.and_eq_true, List.all_eq_true, decide_eq_true_eq] at h ⊢
  by_cases hv : v = d
  · simp only [tblSet, hv, if_true]
    exact ⟨tblRising_tblErase k h.1, fun e he => h.2 e (mem_tblErase he).1⟩
  · simp only [tblSet, hv, if_false]
    refine ⟨tblRising_tblInsert v (tblRising_tblErase k h.1) (fun e he => (mem_tblErase he).2), fun e he => ?_⟩
    rcases mem_tblInsert he with rfl | he
    · exact hv
    · exact h.2 e (mem_tblErase he).1

/-- The byte written is the byte read. -/
@[simp] theorem memRead_memWrite_same (d : Byte) (m : Mem) (a : Nat) (b : Byte) : memRead d (memWrite d m a b) a = b :=
  tblGet_tblSet_same d m a b

/-- A write leaves every other byte. -/
theorem memRead_memWrite_ne (d : Byte) (m : Mem) {a c : Nat} (b : Byte) (h : c ≠ a) :
    memRead d (memWrite d m a b) c = memRead d m c := tblGet_tblSet_ne d d m b h

/-- A write keeps the canonical form. -/
theorem memWf_memWrite (d : Byte) {m : Mem} (a : Nat) (b : Byte) (h : memWf d m = true) : memWf d (memWrite d m a b) = true :=
  tblWf_tblSet d a b h

/-- Writing bytes keeps the canonical form. -/
theorem memWf_memWriteAll (d : Byte) (bs : List Byte) {m : Mem} (a : Nat) (h : memWf d m = true) :
    memWf d (memWriteAll d m a bs) = true := by
  induction bs generalizing m a with
  | nil => exact h
  | cons b bs ih => exact ih (a + 1) (memWf_memWrite d a b h)

/-- A byte outside the bytes written reads as before. -/
theorem memRead_memWriteAll_out (d : Byte) (bs : List Byte) (m : Mem) {a c : Nat} (h : c < a ∨ a + bs.length ≤ c) :
    memRead d (memWriteAll d m a bs) c = memRead d m c := by
  induction bs generalizing m a with
  | nil => rfl
  | cons b bs ih =>
    simp only [List.length_cons] at h
    rw [memWriteAll, ih _ (by omega), memRead_memWrite_ne d m b (by omega)]

end Sys2Proof
end

