-- ==== Sys2Proof/Laws/State.lean ====
section
/-! SUPPORT. What every update of one part of the state leaves of each field, true by definition, and reads after updates. -/

namespace Sys2Proof.Machine

variable (s : State)


/-! ### `setPar` -/

@[simp] theorem State.setPar_now (id inst v : Nat) : (s.setPar id inst v).now = s.now := rfl
@[simp] theorem State.setPar_params (id inst v : Nat) : (s.setPar id inst v).params = bankSet s.params id inst v := rfl
@[simp] theorem State.setPar_pend (id inst v : Nat) : (s.setPar id inst v).pend = s.pend := rfl
@[simp] theorem State.setPar_shadow (id inst v : Nat) : (s.setPar id inst v).shadow = s.shadow := rfl
@[simp] theorem State.setPar_todo (id inst v : Nat) : (s.setPar id inst v).todo = s.todo := rfl
@[simp] theorem State.setPar_trcPend (id inst v : Nat) : (s.setPar id inst v).trcPend = s.trcPend := rfl
@[simp] theorem State.setPar_fresh (id inst v : Nat) : (s.setPar id inst v).fresh = s.fresh := rfl
@[simp] theorem State.setPar_result (id inst v : Nat) : (s.setPar id inst v).result = s.result := rfl
@[simp] theorem State.setPar_flt (id inst v : Nat) : (s.setPar id inst v).flt = s.flt := rfl
@[simp] theorem State.setPar_tst (id inst v : Nat) : (s.setPar id inst v).tst = s.tst := rfl
@[simp] theorem State.setPar_eng (id inst v : Nat) : (s.setPar id inst v).eng = s.eng := rfl
@[simp] theorem State.setPar_wheel (id inst v : Nat) : (s.setPar id inst v).wheel = s.wheel := rfl
@[simp] theorem State.setPar_cells (id inst v : Nat) : (s.setPar id inst v).cells = s.cells := rfl
@[simp] theorem State.setPar_cmps (id inst v : Nat) : (s.setPar id inst v).cmps = s.cmps := rfl
@[simp] theorem State.setPar_groups (id inst v : Nat) : (s.setPar id inst v).groups = s.groups := rfl
@[simp] theorem State.setPar_ics (id inst v : Nat) : (s.setPar id inst v).ics = s.ics := rfl
@[simp] theorem State.setPar_mains (id inst v : Nat) : (s.setPar id inst v).mains = s.mains := rfl
@[simp] theorem State.setPar_lanes (id inst v : Nat) : (s.setPar id inst v).lanes = s.lanes := rfl
@[simp] theorem State.setPar_fab (id inst v : Nat) : (s.setPar id inst v).fab = s.fab := rfl
@[simp] theorem State.setPar_timers (id inst v : Nat) : (s.setPar id inst v).timers = s.timers := rfl
@[simp] theorem State.setPar_cal (id inst v : Nat) : (s.setPar id inst v).cal = s.cal := rfl
@[simp] theorem State.setPar_coefs (id inst v : Nat) : (s.setPar id inst v).coefs = s.coefs := rfl
@[simp] theorem State.setPar_kiln (id inst v : Nat) : (s.setPar id inst v).kiln = s.kiln := rfl
@[simp] theorem State.setPar_grist (id inst v : Nat) : (s.setPar id inst v).grist = s.grist := rfl
@[simp] theorem State.setPar_sessions (id inst v : Nat) : (s.setPar id inst v).sessions = s.sessions := rfl
@[simp] theorem State.setPar_mboxes (id inst v : Nat) : (s.setPar id inst v).mboxes = s.mboxes := rfl
@[simp] theorem State.setPar_rings (id inst v : Nat) : (s.setPar id inst v).rings = s.rings := rfl
@[simp] theorem State.setPar_pool (id inst v : Nat) : (s.setPar id inst v).pool = s.pool := rfl
@[simp] theorem State.setPar_pwr (id inst v : Nat) : (s.setPar id inst v).pwr = s.pwr := rfl
@[simp] theorem State.setPar_hp (id inst v : Nat) : (s.setPar id inst v).hp = s.hp := rfl
@[simp] theorem State.setPar_sl (id inst v : Nat) : (s.setPar id inst v).sl = s.sl := rfl
@[simp] theorem State.setPar_pins (id inst v : Nat) : (s.setPar id inst v).pins = s.pins := rfl
@[simp] theorem State.setPar_slew (id inst v : Nat) : (s.setPar id inst v).slew = s.slew := rfl
@[simp] theorem State.setPar_slewPart (id inst v : Nat) : (s.setPar id inst v).slewPart = s.slewPart := rfl
@[simp] theorem State.setPar_pending (id inst v : Nat) : (s.setPar id inst v).pending = s.pending := rfl

/-! ### `setShadow` -/

@[simp] theorem State.setShadow_now (id inst v : Nat) : (s.setShadow id inst v).now = s.now := rfl
@[simp] theorem State.setShadow_params (id inst v : Nat) : (s.setShadow id inst v).params = s.params := rfl
@[simp] theorem State.setShadow_pend (id inst v : Nat) : (s.setShadow id inst v).pend = s.pend := rfl
@[simp] theorem State.setShadow_shadow (id inst v : Nat) : (s.setShadow id inst v).shadow = bankSet s.shadow id inst v := rfl
@[simp] theorem State.setShadow_todo (id inst v : Nat) : (s.setShadow id inst v).todo = s.todo := rfl
@[simp] theorem State.setShadow_trcPend (id inst v : Nat) : (s.setShadow id inst v).trcPend = s.trcPend := rfl
@[simp] theorem State.setShadow_fresh (id inst v : Nat) : (s.setShadow id inst v).fresh = s.fresh := rfl
@[simp] theorem State.setShadow_result (id inst v : Nat) : (s.setShadow id inst v).result = s.result := rfl
@[simp] theorem State.setShadow_flt (id inst v : Nat) : (s.setShadow id inst v).flt = s.flt := rfl
@[simp] theorem State.setShadow_tst (id inst v : Nat) : (s.setShadow id inst v).tst = s.tst := rfl
@[simp] theorem State.setShadow_eng (id inst v : Nat) : (s.setShadow id inst v).eng = s.eng := rfl
@[simp] theorem State.setShadow_wheel (id inst v : Nat) : (s.setShadow id inst v).wheel = s.wheel := rfl
@[simp] theorem State.setShadow_cells (id inst v : Nat) : (s.setShadow id inst v).cells = s.cells := rfl
@[simp] theorem State.setShadow_cmps (id inst v : Nat) : (s.setShadow id inst v).cmps = s.cmps := rfl
@[simp] theorem State.setShadow_groups (id inst v : Nat) : (s.setShadow id inst v).groups = s.groups := rfl
@[simp] theorem State.setShadow_ics (id inst v : Nat) : (s.setShadow id inst v).ics = s.ics := rfl
@[simp] theorem State.setShadow_mains (id inst v : Nat) : (s.setShadow id inst v).mains = s.mains := rfl
@[simp] theorem State.setShadow_lanes (id inst v : Nat) : (s.setShadow id inst v).lanes = s.lanes := rfl
@[simp] theorem State.setShadow_fab (id inst v : Nat) : (s.setShadow id inst v).fab = s.fab := rfl
@[simp] theorem State.setShadow_timers (id inst v : Nat) : (s.setShadow id inst v).timers = s.timers := rfl
@[simp] theorem State.setShadow_cal (id inst v : Nat) : (s.setShadow id inst v).cal = s.cal := rfl
@[simp] theorem State.setShadow_coefs (id inst v : Nat) : (s.setShadow id inst v).coefs = s.coefs := rfl
@[simp] theorem State.setShadow_kiln (id inst v : Nat) : (s.setShadow id inst v).kiln = s.kiln := rfl
@[simp] theorem State.setShadow_grist (id inst v : Nat) : (s.setShadow id inst v).grist = s.grist := rfl
@[simp] theorem State.setShadow_sessions (id inst v : Nat) : (s.setShadow id inst v).sessions = s.sessions := rfl
@[simp] theorem State.setShadow_mboxes (id inst v : Nat) : (s.setShadow id inst v).mboxes = s.mboxes := rfl
@[simp] theorem State.setShadow_rings (id inst v : Nat) : (s.setShadow id inst v).rings = s.rings := rfl
@[simp] theorem State.setShadow_pool (id inst v : Nat) : (s.setShadow id inst v).pool = s.pool := rfl
@[simp] theorem State.setShadow_pwr (id inst v : Nat) : (s.setShadow id inst v).pwr = s.pwr := rfl
@[simp] theorem State.setShadow_hp (id inst v : Nat) : (s.setShadow id inst v).hp = s.hp := rfl
@[simp] theorem State.setShadow_sl (id inst v : Nat) : (s.setShadow id inst v).sl = s.sl := rfl
@[simp] theorem State.setShadow_pins (id inst v : Nat) : (s.setShadow id inst v).pins = s.pins := rfl
@[simp] theorem State.setShadow_slew (id inst v : Nat) : (s.setShadow id inst v).slew = s.slew := rfl
@[simp] theorem State.setShadow_slewPart (id inst v : Nat) : (s.setShadow id inst v).slewPart = s.slewPart := rfl
@[simp] theorem State.setShadow_pending (id inst v : Nat) : (s.setShadow id inst v).pending = s.pending := rfl

/-! ### `acceptLive` -/

@[simp] theorem State.acceptLive_now (id inst v : Nat) : (s.acceptLive id inst v).now = s.now := rfl
@[simp] theorem State.acceptLive_params (id inst v : Nat) : (s.acceptLive id inst v).params = s.params := rfl
@[simp] theorem State.acceptLive_pend (id inst v : Nat) : (s.acceptLive id inst v).pend = tblInsert (tblErase s.pend (paramKey id inst)) (paramKey id inst) (BitVec.ofNat 32 v) := rfl
@[simp] theorem State.acceptLive_shadow (id inst v : Nat) : (s.acceptLive id inst v).shadow = s.shadow := rfl
@[simp] theorem State.acceptLive_todo (id inst v : Nat) : (s.acceptLive id inst v).todo = s.todo := rfl
@[simp] theorem State.acceptLive_trcPend (id inst v : Nat) : (s.acceptLive id inst v).trcPend = s.trcPend := rfl
@[simp] theorem State.acceptLive_fresh (id inst v : Nat) : (s.acceptLive id inst v).fresh = s.fresh := rfl
@[simp] theorem State.acceptLive_result (id inst v : Nat) : (s.acceptLive id inst v).result = s.result := rfl
@[simp] theorem State.acceptLive_flt (id inst v : Nat) : (s.acceptLive id inst v).flt = s.flt := rfl
@[simp] theorem State.acceptLive_tst (id inst v : Nat) : (s.acceptLive id inst v).tst = s.tst := rfl
@[simp] theorem State.acceptLive_eng (id inst v : Nat) : (s.acceptLive id inst v).eng = s.eng := rfl
@[simp] theorem State.acceptLive_wheel (id inst v : Nat) : (s.acceptLive id inst v).wheel = s.wheel := rfl
@[simp] theorem State.acceptLive_cells (id inst v : Nat) : (s.acceptLive id inst v).cells = s.cells := rfl
@[simp] theorem State.acceptLive_cmps (id inst v : Nat) : (s.acceptLive id inst v).cmps = s.cmps := rfl
@[simp] theorem State.acceptLive_groups (id inst v : Nat) : (s.acceptLive id inst v).groups = s.groups := rfl
@[simp] theorem State.acceptLive_ics (id inst v : Nat) : (s.acceptLive id inst v).ics = s.ics := rfl
@[simp] theorem State.acceptLive_mains (id inst v : Nat) : (s.acceptLive id inst v).mains = s.mains := rfl
@[simp] theorem State.acceptLive_lanes (id inst v : Nat) : (s.acceptLive id inst v).lanes = s.lanes := rfl
@[simp] theorem State.acceptLive_fab (id inst v : Nat) : (s.acceptLive id inst v).fab = s.fab := rfl
@[simp] theorem State.acceptLive_timers (id inst v : Nat) : (s.acceptLive id inst v).timers = s.timers := rfl
@[simp] theorem State.acceptLive_cal (id inst v : Nat) : (s.acceptLive id inst v).cal = s.cal := rfl
@[simp] theorem State.acceptLive_coefs (id inst v : Nat) : (s.acceptLive id inst v).coefs = s.coefs := rfl
@[simp] theorem State.acceptLive_kiln (id inst v : Nat) : (s.acceptLive id inst v).kiln = s.kiln := rfl
@[simp] theorem State.acceptLive_grist (id inst v : Nat) : (s.acceptLive id inst v).grist = s.grist := rfl
@[simp] theorem State.acceptLive_sessions (id inst v : Nat) : (s.acceptLive id inst v).sessions = s.sessions := rfl
@[simp] theorem State.acceptLive_mboxes (id inst v : Nat) : (s.acceptLive id inst v).mboxes = s.mboxes := rfl
@[simp] theorem State.acceptLive_rings (id inst v : Nat) : (s.acceptLive id inst v).rings = s.rings := rfl
@[simp] theorem State.acceptLive_pool (id inst v : Nat) : (s.acceptLive id inst v).pool = s.pool := rfl
@[simp] theorem State.acceptLive_pwr (id inst v : Nat) : (s.acceptLive id inst v).pwr = s.pwr := rfl
@[simp] theorem State.acceptLive_hp (id inst v : Nat) : (s.acceptLive id inst v).hp = s.hp := rfl
@[simp] theorem State.acceptLive_sl (id inst v : Nat) : (s.acceptLive id inst v).sl = s.sl := rfl
@[simp] theorem State.acceptLive_pins (id inst v : Nat) : (s.acceptLive id inst v).pins = s.pins := rfl
@[simp] theorem State.acceptLive_slew (id inst v : Nat) : (s.acceptLive id inst v).slew = s.slew := rfl
@[simp] theorem State.acceptLive_slewPart (id inst v : Nat) : (s.acceptLive id inst v).slewPart = s.slewPart := rfl
@[simp] theorem State.acceptLive_pending (id inst v : Nat) : (s.acceptLive id inst v).pending = s.pending := rfl

/-! ### `setFb` -/

@[simp] theorem State.setFb_now (b : Nat) (f : FaultBlock) : (s.setFb b f).now = s.now := rfl
@[simp] theorem State.setFb_params (b : Nat) (f : FaultBlock) : (s.setFb b f).params = s.params := rfl
@[simp] theorem State.setFb_pend (b : Nat) (f : FaultBlock) : (s.setFb b f).pend = s.pend := rfl
@[simp] theorem State.setFb_shadow (b : Nat) (f : FaultBlock) : (s.setFb b f).shadow = s.shadow := rfl
@[simp] theorem State.setFb_todo (b : Nat) (f : FaultBlock) : (s.setFb b f).todo = s.todo := rfl
@[simp] theorem State.setFb_trcPend (b : Nat) (f : FaultBlock) : (s.setFb b f).trcPend = s.trcPend := rfl
@[simp] theorem State.setFb_fresh (b : Nat) (f : FaultBlock) : (s.setFb b f).fresh = s.fresh := rfl
@[simp] theorem State.setFb_result (b : Nat) (f : FaultBlock) : (s.setFb b f).result = s.result := rfl
@[simp] theorem State.setFb_flt (b : Nat) (f : FaultBlock) : (s.setFb b f).flt = { s.flt with blocks := tblSet {} s.flt.blocks b f } := rfl
@[simp] theorem State.setFb_tst (b : Nat) (f : FaultBlock) : (s.setFb b f).tst = s.tst := rfl
@[simp] theorem State.setFb_eng (b : Nat) (f : FaultBlock) : (s.setFb b f).eng = s.eng := rfl
@[simp] theorem State.setFb_wheel (b : Nat) (f : FaultBlock) : (s.setFb b f).wheel = s.wheel := rfl
@[simp] theorem State.setFb_cells (b : Nat) (f : FaultBlock) : (s.setFb b f).cells = s.cells := rfl
@[simp] theorem State.setFb_cmps (b : Nat) (f : FaultBlock) : (s.setFb b f).cmps = s.cmps := rfl
@[simp] theorem State.setFb_groups (b : Nat) (f : FaultBlock) : (s.setFb b f).groups = s.groups := rfl
@[simp] theorem State.setFb_ics (b : Nat) (f : FaultBlock) : (s.setFb b f).ics = s.ics := rfl
@[simp] theorem State.setFb_mains (b : Nat) (f : FaultBlock) : (s.setFb b f).mains = s.mains := rfl
@[simp] theorem State.setFb_lanes (b : Nat) (f : FaultBlock) : (s.setFb b f).lanes = s.lanes := rfl
@[simp] theorem State.setFb_fab (b : Nat) (f : FaultBlock) : (s.setFb b f).fab = s.fab := rfl
@[simp] theorem State.setFb_timers (b : Nat) (f : FaultBlock) : (s.setFb b f).timers = s.timers := rfl
@[simp] theorem State.setFb_cal (b : Nat) (f : FaultBlock) : (s.setFb b f).cal = s.cal := rfl
@[simp] theorem State.setFb_coefs (b : Nat) (f : FaultBlock) : (s.setFb b f).coefs = s.coefs := rfl
@[simp] theorem State.setFb_kiln (b : Nat) (f : FaultBlock) : (s.setFb b f).kiln = s.kiln := rfl
@[simp] theorem State.setFb_grist (b : Nat) (f : FaultBlock) : (s.setFb b f).grist = s.grist := rfl
@[simp] theorem State.setFb_sessions (b : Nat) (f : FaultBlock) : (s.setFb b f).sessions = s.sessions := rfl
@[simp] theorem State.setFb_mboxes (b : Nat) (f : FaultBlock) : (s.setFb b f).mboxes = s.mboxes := rfl
@[simp] theorem State.setFb_rings (b : Nat) (f : FaultBlock) : (s.setFb b f).rings = s.rings := rfl
@[simp] theorem State.setFb_pool (b : Nat) (f : FaultBlock) : (s.setFb b f).pool = s.pool := rfl
@[simp] theorem State.setFb_pwr (b : Nat) (f : FaultBlock) : (s.setFb b f).pwr = s.pwr := rfl
@[simp] theorem State.setFb_hp (b : Nat) (f : FaultBlock) : (s.setFb b f).hp = s.hp := rfl
@[simp] theorem State.setFb_sl (b : Nat) (f : FaultBlock) : (s.setFb b f).sl = s.sl := rfl
@[simp] theorem State.setFb_pins (b : Nat) (f : FaultBlock) : (s.setFb b f).pins = s.pins := rfl
@[simp] theorem State.setFb_slew (b : Nat) (f : FaultBlock) : (s.setFb b f).slew = s.slew := rfl
@[simp] theorem State.setFb_slewPart (b : Nat) (f : FaultBlock) : (s.setFb b f).slewPart = s.slewPart := rfl
@[simp] theorem State.setFb_pending (b : Nat) (f : FaultBlock) : (s.setFb b f).pending = s.pending := rfl

/-! ### `ask` -/

@[simp] theorem State.ask_now (r : Raise) : (s.ask r).now = s.now := rfl
@[simp] theorem State.ask_params (r : Raise) : (s.ask r).params = s.params := rfl
@[simp] theorem State.ask_pend (r : Raise) : (s.ask r).pend = s.pend := rfl
@[simp] theorem State.ask_shadow (r : Raise) : (s.ask r).shadow = s.shadow := rfl
@[simp] theorem State.ask_todo (r : Raise) : (s.ask r).todo = s.todo ++ [r] := rfl
@[simp] theorem State.ask_trcPend (r : Raise) : (s.ask r).trcPend = s.trcPend := rfl
@[simp] theorem State.ask_fresh (r : Raise) : (s.ask r).fresh = s.fresh := rfl
@[simp] theorem State.ask_result (r : Raise) : (s.ask r).result = s.result := rfl
@[simp] theorem State.ask_flt (r : Raise) : (s.ask r).flt = s.flt := rfl
@[simp] theorem State.ask_tst (r : Raise) : (s.ask r).tst = s.tst := rfl
@[simp] theorem State.ask_eng (r : Raise) : (s.ask r).eng = s.eng := rfl
@[simp] theorem State.ask_wheel (r : Raise) : (s.ask r).wheel = s.wheel := rfl
@[simp] theorem State.ask_cells (r : Raise) : (s.ask r).cells = s.cells := rfl
@[simp] theorem State.ask_cmps (r : Raise) : (s.ask r).cmps = s.cmps := rfl
@[simp] theorem State.ask_groups (r : Raise) : (s.ask r).groups = s.groups := rfl
@[simp] theorem State.ask_ics (r : Raise) : (s.ask r).ics = s.ics := rfl
@[simp] theorem State.ask_mains (r : Raise) : (s.ask r).mains = s.mains := rfl
@[simp] theorem State.ask_lanes (r : Raise) : (s.ask r).lanes = s.lanes := rfl
@[simp] theorem State.ask_fab (r : Raise) : (s.ask r).fab = s.fab := rfl
@[simp] theorem State.ask_timers (r : Raise) : (s.ask r).timers = s.timers := rfl
@[simp] theorem State.ask_cal (r : Raise) : (s.ask r).cal = s.cal := rfl
@[simp] theorem State.ask_coefs (r : Raise) : (s.ask r).coefs = s.coefs := rfl
@[simp] theorem State.ask_kiln (r : Raise) : (s.ask r).kiln = s.kiln := rfl
@[simp] theorem State.ask_grist (r : Raise) : (s.ask r).grist = s.grist := rfl
@[simp] theorem State.ask_sessions (r : Raise) : (s.ask r).sessions = s.sessions := rfl
@[simp] theorem State.ask_mboxes (r : Raise) : (s.ask r).mboxes = s.mboxes := rfl
@[simp] theorem State.ask_rings (r : Raise) : (s.ask r).rings = s.rings := rfl
@[simp] theorem State.ask_pool (r : Raise) : (s.ask r).pool = s.pool := rfl
@[simp] theorem State.ask_pwr (r : Raise) : (s.ask r).pwr = s.pwr := rfl
@[simp] theorem State.ask_hp (r : Raise) : (s.ask r).hp = s.hp := rfl
@[simp] theorem State.ask_sl (r : Raise) : (s.ask r).sl = s.sl := rfl
@[simp] theorem State.ask_pins (r : Raise) : (s.ask r).pins = s.pins := rfl
@[simp] theorem State.ask_slew (r : Raise) : (s.ask r).slew = s.slew := rfl
@[simp] theorem State.ask_slewPart (r : Raise) : (s.ask r).slewPart = s.slewPart := rfl
@[simp] theorem State.ask_pending (r : Raise) : (s.ask r).pending = s.pending := rfl

/-! ### `trace` -/

@[simp] theorem State.trace_now (typ info : Nat) (e : Option (List Byte)) : (s.trace typ info e).now = s.now := rfl
@[simp] theorem State.trace_params (typ info : Nat) (e : Option (List Byte)) : (s.trace typ info e).params = s.params := rfl
@[simp] theorem State.trace_pend (typ info : Nat) (e : Option (List Byte)) : (s.trace typ info e).pend = s.pend := rfl
@[simp] theorem State.trace_shadow (typ info : Nat) (e : Option (List Byte)) : (s.trace typ info e).shadow = s.shadow := rfl
@[simp] theorem State.trace_todo (typ info : Nat) (e : Option (List Byte)) : (s.trace typ info e).todo = s.todo := rfl
@[simp] theorem State.trace_trcPend (typ info : Nat) (e : Option (List Byte)) : (s.trace typ info e).trcPend = s.trcPend ++ [{ typ := typ, info := info, ext := e }] := rfl
@[simp] theorem State.trace_fresh (typ info : Nat) (e : Option (List Byte)) : (s.trace typ info e).fresh = s.fresh := rfl
@[simp] theorem State.trace_result (typ info : Nat) (e : Option (List Byte)) : (s.trace typ info e).result = s.result := rfl
@[simp] theorem State.trace_flt (typ info : Nat) (e : Option (List Byte)) : (s.trace typ info e).flt = s.flt := rfl
@[simp] theorem State.trace_tst (typ info : Nat) (e : Option (List Byte)) : (s.trace typ info e).tst = s.tst := rfl
@[simp] theorem State.trace_eng (typ info : Nat) (e : Option (List Byte)) : (s.trace typ info e).eng = s.eng := rfl
@[simp] theorem State.trace_wheel (typ info : Nat) (e : Option (List Byte)) : (s.trace typ info e).wheel = s.wheel := rfl
@[simp] theorem State.trace_cells (typ info : Nat) (e : Option (List Byte)) : (s.trace typ info e).cells = s.cells := rfl
@[simp] theorem State.trace_cmps (typ info : Nat) (e : Option (List Byte)) : (s.trace typ info e).cmps = s.cmps := rfl
@[simp] theorem State.trace_groups (typ info : Nat) (e : Option (List Byte)) : (s.trace typ info e).groups = s.groups := rfl
@[simp] theorem State.trace_ics (typ info : Nat) (e : Option (List Byte)) : (s.trace typ info e).ics = s.ics := rfl
@[simp] theorem State.trace_mains (typ info : Nat) (e : Option (List Byte)) : (s.trace typ info e).mains = s.mains := rfl
@[simp] theorem State.trace_lanes (typ info : Nat) (e : Option (List Byte)) : (s.trace typ info e).lanes = s.lanes := rfl
@[simp] theorem State.trace_fab (typ info : Nat) (e : Option (List Byte)) : (s.trace typ info e).fab = s.fab := rfl
@[simp] theorem State.trace_timers (typ info : Nat) (e : Option (List Byte)) : (s.trace typ info e).timers = s.timers := rfl
@[simp] theorem State.trace_cal (typ info : Nat) (e : Option (List Byte)) : (s.trace typ info e).cal = s.cal := rfl
@[simp] theorem State.trace_coefs (typ info : Nat) (e : Option (List Byte)) : (s.trace typ info e).coefs = s.coefs := rfl
@[simp] theorem State.trace_kiln (typ info : Nat) (e : Option (List Byte)) : (s.trace typ info e).kiln = s.kiln := rfl
@[simp] theorem State.trace_grist (typ info : Nat) (e : Option (List Byte)) : (s.trace typ info e).grist = s.grist := rfl
@[simp] theorem State.trace_sessions (typ info : Nat) (e : Option (List Byte)) : (s.trace typ info e).sessions = s.sessions := rfl
@[simp] theorem State.trace_mboxes (typ info : Nat) (e : Option (List Byte)) : (s.trace typ info e).mboxes = s.mboxes := rfl
@[simp] theorem State.trace_rings (typ info : Nat) (e : Option (List Byte)) : (s.trace typ info e).rings = s.rings := rfl
@[simp] theorem State.trace_pool (typ info : Nat) (e : Option (List Byte)) : (s.trace typ info e).pool = s.pool := rfl
@[simp] theorem State.trace_pwr (typ info : Nat) (e : Option (List Byte)) : (s.trace typ info e).pwr = s.pwr := rfl
@[simp] theorem State.trace_hp (typ info : Nat) (e : Option (List Byte)) : (s.trace typ info e).hp = s.hp := rfl
@[simp] theorem State.trace_sl (typ info : Nat) (e : Option (List Byte)) : (s.trace typ info e).sl = s.sl := rfl
@[simp] theorem State.trace_pins (typ info : Nat) (e : Option (List Byte)) : (s.trace typ info e).pins = s.pins := rfl
@[simp] theorem State.trace_slew (typ info : Nat) (e : Option (List Byte)) : (s.trace typ info e).slew = s.slew := rfl
@[simp] theorem State.trace_slewPart (typ info : Nat) (e : Option (List Byte)) : (s.trace typ info e).slewPart = s.slewPart := rfl
@[simp] theorem State.trace_pending (typ info : Nat) (e : Option (List Byte)) : (s.trace typ info e).pending = s.pending := rfl

/-! ### `answer` -/

@[simp] theorem State.answer_now (st det : Nat) (d : List Byte) : (s.answer st det d).now = s.now := rfl
@[simp] theorem State.answer_params (st det : Nat) (d : List Byte) : (s.answer st det d).params = s.params := rfl
@[simp] theorem State.answer_pend (st det : Nat) (d : List Byte) : (s.answer st det d).pend = s.pend := rfl
@[simp] theorem State.answer_shadow (st det : Nat) (d : List Byte) : (s.answer st det d).shadow = s.shadow := rfl
@[simp] theorem State.answer_todo (st det : Nat) (d : List Byte) : (s.answer st det d).todo = s.todo := rfl
@[simp] theorem State.answer_trcPend (st det : Nat) (d : List Byte) : (s.answer st det d).trcPend = s.trcPend := rfl
@[simp] theorem State.answer_fresh (st det : Nat) (d : List Byte) : (s.answer st det d).fresh = s.fresh := rfl
@[simp] theorem State.answer_result (st det : Nat) (d : List Byte) : (s.answer st det d).result = { status := st, detail := det, data := d } := rfl
@[simp] theorem State.answer_flt (st det : Nat) (d : List Byte) : (s.answer st det d).flt = s.flt := rfl
@[simp] theorem State.answer_tst (st det : Nat) (d : List Byte) : (s.answer st det d).tst = s.tst := rfl
@[simp] theorem State.answer_eng (st det : Nat) (d : List Byte) : (s.answer st det d).eng = s.eng := rfl
@[simp] theorem State.answer_wheel (st det : Nat) (d : List Byte) : (s.answer st det d).wheel = s.wheel := rfl
@[simp] theorem State.answer_cells (st det : Nat) (d : List Byte) : (s.answer st det d).cells = s.cells := rfl
@[simp] theorem State.answer_cmps (st det : Nat) (d : List Byte) : (s.answer st det d).cmps = s.cmps := rfl
@[simp] theorem State.answer_groups (st det : Nat) (d : List Byte) : (s.answer st det d).groups = s.groups := rfl
@[simp] theorem State.answer_ics (st det : Nat) (d : List Byte) : (s.answer st det d).ics = s.ics := rfl
@[simp] theorem State.answer_mains (st det : Nat) (d : List Byte) : (s.answer st det d).mains = s.mains := rfl
@[simp] theorem State.answer_lanes (st det : Nat) (d : List Byte) : (s.answer st det d).lanes = s.lanes := rfl
@[simp] theorem State.answer_fab (st det : Nat) (d : List Byte) : (s.answer st det d).fab = s.fab := rfl
@[simp] theorem State.answer_timers (st det : Nat) (d : List Byte) : (s.answer st det d).timers = s.timers := rfl
@[simp] theorem State.answer_cal (st det : Nat) (d : List Byte) : (s.answer st det d).cal = s.cal := rfl
@[simp] theorem State.answer_coefs (st det : Nat) (d : List Byte) : (s.answer st det d).coefs = s.coefs := rfl
@[simp] theorem State.answer_kiln (st det : Nat) (d : List Byte) : (s.answer st det d).kiln = s.kiln := rfl
@[simp] theorem State.answer_grist (st det : Nat) (d : List Byte) : (s.answer st det d).grist = s.grist := rfl
@[simp] theorem State.answer_sessions (st det : Nat) (d : List Byte) : (s.answer st det d).sessions = s.sessions := rfl
@[simp] theorem State.answer_mboxes (st det : Nat) (d : List Byte) : (s.answer st det d).mboxes = s.mboxes := rfl
@[simp] theorem State.answer_rings (st det : Nat) (d : List Byte) : (s.answer st det d).rings = s.rings := rfl
@[simp] theorem State.answer_pool (st det : Nat) (d : List Byte) : (s.answer st det d).pool = s.pool := rfl
@[simp] theorem State.answer_pwr (st det : Nat) (d : List Byte) : (s.answer st det d).pwr = s.pwr := rfl
@[simp] theorem State.answer_hp (st det : Nat) (d : List Byte) : (s.answer st det d).hp = s.hp := rfl
@[simp] theorem State.answer_sl (st det : Nat) (d : List Byte) : (s.answer st det d).sl = s.sl := rfl
@[simp] theorem State.answer_pins (st det : Nat) (d : List Byte) : (s.answer st det d).pins = s.pins := rfl
@[simp] theorem State.answer_slew (st det : Nat) (d : List Byte) : (s.answer st det d).slew = s.slew := rfl
@[simp] theorem State.answer_slewPart (st det : Nat) (d : List Byte) : (s.answer st det d).slewPart = s.slewPart := rfl
@[simp] theorem State.answer_pending (st det : Nat) (d : List Byte) : (s.answer st det d).pending = s.pending := rfl

/-! ### `setCell` -/

@[simp] theorem State.setCell_now (n : Nat) (x : Cell) : (s.setCell n x).now = s.now := rfl
@[simp] theorem State.setCell_params (n : Nat) (x : Cell) : (s.setCell n x).params = s.params := rfl
@[simp] theorem State.setCell_pend (n : Nat) (x : Cell) : (s.setCell n x).pend = s.pend := rfl
@[simp] theorem State.setCell_shadow (n : Nat) (x : Cell) : (s.setCell n x).shadow = s.shadow := rfl
@[simp] theorem State.setCell_todo (n : Nat) (x : Cell) : (s.setCell n x).todo = s.todo := rfl
@[simp] theorem State.setCell_trcPend (n : Nat) (x : Cell) : (s.setCell n x).trcPend = s.trcPend := rfl
@[simp] theorem State.setCell_fresh (n : Nat) (x : Cell) : (s.setCell n x).fresh = s.fresh := rfl
@[simp] theorem State.setCell_result (n : Nat) (x : Cell) : (s.setCell n x).result = s.result := rfl
@[simp] theorem State.setCell_flt (n : Nat) (x : Cell) : (s.setCell n x).flt = s.flt := rfl
@[simp] theorem State.setCell_tst (n : Nat) (x : Cell) : (s.setCell n x).tst = s.tst := rfl
@[simp] theorem State.setCell_eng (n : Nat) (x : Cell) : (s.setCell n x).eng = s.eng := rfl
@[simp] theorem State.setCell_wheel (n : Nat) (x : Cell) : (s.setCell n x).wheel = s.wheel := rfl
@[simp] theorem State.setCell_cells (n : Nat) (x : Cell) : (s.setCell n x).cells = tblSet {} s.cells n x := rfl
@[simp] theorem State.setCell_cmps (n : Nat) (x : Cell) : (s.setCell n x).cmps = s.cmps := rfl
@[simp] theorem State.setCell_groups (n : Nat) (x : Cell) : (s.setCell n x).groups = s.groups := rfl
@[simp] theorem State.setCell_ics (n : Nat) (x : Cell) : (s.setCell n x).ics = s.ics := rfl
@[simp] theorem State.setCell_mains (n : Nat) (x : Cell) : (s.setCell n x).mains = s.mains := rfl
@[simp] theorem State.setCell_lanes (n : Nat) (x : Cell) : (s.setCell n x).lanes = s.lanes := rfl
@[simp] theorem State.setCell_fab (n : Nat) (x : Cell) : (s.setCell n x).fab = s.fab := rfl
@[simp] theorem State.setCell_timers (n : Nat) (x : Cell) : (s.setCell n x).timers = s.timers := rfl
@[simp] theorem State.setCell_cal (n : Nat) (x : Cell) : (s.setCell n x).cal = s.cal := rfl
@[simp] theorem State.setCell_coefs (n : Nat) (x : Cell) : (s.setCell n x).coefs = s.coefs := rfl
@[simp] theorem State.setCell_kiln (n : Nat) (x : Cell) : (s.setCell n x).kiln = s.kiln := rfl
@[simp] theorem State.setCell_grist (n : Nat) (x : Cell) : (s.setCell n x).grist = s.grist := rfl
@[simp] theorem State.setCell_sessions (n : Nat) (x : Cell) : (s.setCell n x).sessions = s.sessions := rfl
@[simp] theorem State.setCell_mboxes (n : Nat) (x : Cell) : (s.setCell n x).mboxes = s.mboxes := rfl
@[simp] theorem State.setCell_rings (n : Nat) (x : Cell) : (s.setCell n x).rings = s.rings := rfl
@[simp] theorem State.setCell_pool (n : Nat) (x : Cell) : (s.setCell n x).pool = s.pool := rfl
@[simp] theorem State.setCell_pwr (n : Nat) (x : Cell) : (s.setCell n x).pwr = s.pwr := rfl
@[simp] theorem State.setCell_hp (n : Nat) (x : Cell) : (s.setCell n x).hp = s.hp := rfl
@[simp] theorem State.setCell_sl (n : Nat) (x : Cell) : (s.setCell n x).sl = s.sl := rfl
@[simp] theorem State.setCell_pins (n : Nat) (x : Cell) : (s.setCell n x).pins = s.pins := rfl
@[simp] theorem State.setCell_slew (n : Nat) (x : Cell) : (s.setCell n x).slew = s.slew := rfl
@[simp] theorem State.setCell_slewPart (n : Nat) (x : Cell) : (s.setCell n x).slewPart = s.slewPart := rfl
@[simp] theorem State.setCell_pending (n : Nat) (x : Cell) : (s.setCell n x).pending = s.pending := rfl

/-! ### `setMbox` -/

@[simp] theorem State.setMbox_now (n : Nat) (x : Mailbox) : (s.setMbox n x).now = s.now := rfl
@[simp] theorem State.setMbox_params (n : Nat) (x : Mailbox) : (s.setMbox n x).params = s.params := rfl
@[simp] theorem State.setMbox_pend (n : Nat) (x : Mailbox) : (s.setMbox n x).pend = s.pend := rfl
@[simp] theorem State.setMbox_shadow (n : Nat) (x : Mailbox) : (s.setMbox n x).shadow = s.shadow := rfl
@[simp] theorem State.setMbox_todo (n : Nat) (x : Mailbox) : (s.setMbox n x).todo = s.todo := rfl
@[simp] theorem State.setMbox_trcPend (n : Nat) (x : Mailbox) : (s.setMbox n x).trcPend = s.trcPend := rfl
@[simp] theorem State.setMbox_fresh (n : Nat) (x : Mailbox) : (s.setMbox n x).fresh = s.fresh := rfl
@[simp] theorem State.setMbox_result (n : Nat) (x : Mailbox) : (s.setMbox n x).result = s.result := rfl
@[simp] theorem State.setMbox_flt (n : Nat) (x : Mailbox) : (s.setMbox n x).flt = s.flt := rfl
@[simp] theorem State.setMbox_tst (n : Nat) (x : Mailbox) : (s.setMbox n x).tst = s.tst := rfl
@[simp] theorem State.setMbox_eng (n : Nat) (x : Mailbox) : (s.setMbox n x).eng = s.eng := rfl
@[simp] theorem State.setMbox_wheel (n : Nat) (x : Mailbox) : (s.setMbox n x).wheel = s.wheel := rfl
@[simp] theorem State.setMbox_cells (n : Nat) (x : Mailbox) : (s.setMbox n x).cells = s.cells := rfl
@[simp] theorem State.setMbox_cmps (n : Nat) (x : Mailbox) : (s.setMbox n x).cmps = s.cmps := rfl
@[simp] theorem State.setMbox_groups (n : Nat) (x : Mailbox) : (s.setMbox n x).groups = s.groups := rfl
@[simp] theorem State.setMbox_ics (n : Nat) (x : Mailbox) : (s.setMbox n x).ics = s.ics := rfl
@[simp] theorem State.setMbox_mains (n : Nat) (x : Mailbox) : (s.setMbox n x).mains = s.mains := rfl
@[simp] theorem State.setMbox_lanes (n : Nat) (x : Mailbox) : (s.setMbox n x).lanes = s.lanes := rfl
@[simp] theorem State.setMbox_fab (n : Nat) (x : Mailbox) : (s.setMbox n x).fab = s.fab := rfl
@[simp] theorem State.setMbox_timers (n : Nat) (x : Mailbox) : (s.setMbox n x).timers = s.timers := rfl
@[simp] theorem State.setMbox_cal (n : Nat) (x : Mailbox) : (s.setMbox n x).cal = s.cal := rfl
@[simp] theorem State.setMbox_coefs (n : Nat) (x : Mailbox) : (s.setMbox n x).coefs = s.coefs := rfl
@[simp] theorem State.setMbox_kiln (n : Nat) (x : Mailbox) : (s.setMbox n x).kiln = s.kiln := rfl
@[simp] theorem State.setMbox_grist (n : Nat) (x : Mailbox) : (s.setMbox n x).grist = s.grist := rfl
@[simp] theorem State.setMbox_sessions (n : Nat) (x : Mailbox) : (s.setMbox n x).sessions = s.sessions := rfl
@[simp] theorem State.setMbox_mboxes (n : Nat) (x : Mailbox) : (s.setMbox n x).mboxes = tblSet {} s.mboxes n x := rfl
@[simp] theorem State.setMbox_rings (n : Nat) (x : Mailbox) : (s.setMbox n x).rings = s.rings := rfl
@[simp] theorem State.setMbox_pool (n : Nat) (x : Mailbox) : (s.setMbox n x).pool = s.pool := rfl
@[simp] theorem State.setMbox_pwr (n : Nat) (x : Mailbox) : (s.setMbox n x).pwr = s.pwr := rfl
@[simp] theorem State.setMbox_hp (n : Nat) (x : Mailbox) : (s.setMbox n x).hp = s.hp := rfl
@[simp] theorem State.setMbox_sl (n : Nat) (x : Mailbox) : (s.setMbox n x).sl = s.sl := rfl
@[simp] theorem State.setMbox_pins (n : Nat) (x : Mailbox) : (s.setMbox n x).pins = s.pins := rfl
@[simp] theorem State.setMbox_slew (n : Nat) (x : Mailbox) : (s.setMbox n x).slew = s.slew := rfl
@[simp] theorem State.setMbox_slewPart (n : Nat) (x : Mailbox) : (s.setMbox n x).slewPart = s.slewPart := rfl
@[simp] theorem State.setMbox_pending (n : Nat) (x : Mailbox) : (s.setMbox n x).pending = s.pending := rfl

/-! ### `setRing` -/

@[simp] theorem State.setRing_now (n : Nat) (x : Ring) : (s.setRing n x).now = s.now := rfl
@[simp] theorem State.setRing_params (n : Nat) (x : Ring) : (s.setRing n x).params = s.params := rfl
@[simp] theorem State.setRing_pend (n : Nat) (x : Ring) : (s.setRing n x).pend = s.pend := rfl
@[simp] theorem State.setRing_shadow (n : Nat) (x : Ring) : (s.setRing n x).shadow = s.shadow := rfl
@[simp] theorem State.setRing_todo (n : Nat) (x : Ring) : (s.setRing n x).todo = s.todo := rfl
@[simp] theorem State.setRing_trcPend (n : Nat) (x : Ring) : (s.setRing n x).trcPend = s.trcPend := rfl
@[simp] theorem State.setRing_fresh (n : Nat) (x : Ring) : (s.setRing n x).fresh = s.fresh := rfl
@[simp] theorem State.setRing_result (n : Nat) (x : Ring) : (s.setRing n x).result = s.result := rfl
@[simp] theorem State.setRing_flt (n : Nat) (x : Ring) : (s.setRing n x).flt = s.flt := rfl
@[simp] theorem State.setRing_tst (n : Nat) (x : Ring) : (s.setRing n x).tst = s.tst := rfl
@[simp] theorem State.setRing_eng (n : Nat) (x : Ring) : (s.setRing n x).eng = s.eng := rfl
@[simp] theorem State.setRing_wheel (n : Nat) (x : Ring) : (s.setRing n x).wheel = s.wheel := rfl
@[simp] theorem State.setRing_cells (n : Nat) (x : Ring) : (s.setRing n x).cells = s.cells := rfl
@[simp] theorem State.setRing_cmps (n : Nat) (x : Ring) : (s.setRing n x).cmps = s.cmps := rfl
@[simp] theorem State.setRing_groups (n : Nat) (x : Ring) : (s.setRing n x).groups = s.groups := rfl
@[simp] theorem State.setRing_ics (n : Nat) (x : Ring) : (s.setRing n x).ics = s.ics := rfl
@[simp] theorem State.setRing_mains (n : Nat) (x : Ring) : (s.setRing n x).mains = s.mains := rfl
@[simp] theorem State.setRing_lanes (n : Nat) (x : Ring) : (s.setRing n x).lanes = s.lanes := rfl
@[simp] theorem State.setRing_fab (n : Nat) (x : Ring) : (s.setRing n x).fab = s.fab := rfl
@[simp] theorem State.setRing_timers (n : Nat) (x : Ring) : (s.setRing n x).timers = s.timers := rfl
@[simp] theorem State.setRing_cal (n : Nat) (x : Ring) : (s.setRing n x).cal = s.cal := rfl
@[simp] theorem State.setRing_coefs (n : Nat) (x : Ring) : (s.setRing n x).coefs = s.coefs := rfl
@[simp] theorem State.setRing_kiln (n : Nat) (x : Ring) : (s.setRing n x).kiln = s.kiln := rfl
@[simp] theorem State.setRing_grist (n : Nat) (x : Ring) : (s.setRing n x).grist = s.grist := rfl
@[simp] theorem State.setRing_sessions (n : Nat) (x : Ring) : (s.setRing n x).sessions = s.sessions := rfl
@[simp] theorem State.setRing_mboxes (n : Nat) (x : Ring) : (s.setRing n x).mboxes = s.mboxes := rfl
@[simp] theorem State.setRing_rings (n : Nat) (x : Ring) : (s.setRing n x).rings = tblSet {} s.rings n x := rfl
@[simp] theorem State.setRing_pool (n : Nat) (x : Ring) : (s.setRing n x).pool = s.pool := rfl
@[simp] theorem State.setRing_pwr (n : Nat) (x : Ring) : (s.setRing n x).pwr = s.pwr := rfl
@[simp] theorem State.setRing_hp (n : Nat) (x : Ring) : (s.setRing n x).hp = s.hp := rfl
@[simp] theorem State.setRing_sl (n : Nat) (x : Ring) : (s.setRing n x).sl = s.sl := rfl
@[simp] theorem State.setRing_pins (n : Nat) (x : Ring) : (s.setRing n x).pins = s.pins := rfl
@[simp] theorem State.setRing_slew (n : Nat) (x : Ring) : (s.setRing n x).slew = s.slew := rfl
@[simp] theorem State.setRing_slewPart (n : Nat) (x : Ring) : (s.setRing n x).slewPart = s.slewPart := rfl
@[simp] theorem State.setRing_pending (n : Nat) (x : Ring) : (s.setRing n x).pending = s.pending := rfl

/-! ### `setLane` -/

@[simp] theorem State.setLane_now (n : Nat) (x : Lane) : (s.setLane n x).now = s.now := rfl
@[simp] theorem State.setLane_params (n : Nat) (x : Lane) : (s.setLane n x).params = s.params := rfl
@[simp] theorem State.setLane_pend (n : Nat) (x : Lane) : (s.setLane n x).pend = s.pend := rfl
@[simp] theorem State.setLane_shadow (n : Nat) (x : Lane) : (s.setLane n x).shadow = s.shadow := rfl
@[simp] theorem State.setLane_todo (n : Nat) (x : Lane) : (s.setLane n x).todo = s.todo := rfl
@[simp] theorem State.setLane_trcPend (n : Nat) (x : Lane) : (s.setLane n x).trcPend = s.trcPend := rfl
@[simp] theorem State.setLane_fresh (n : Nat) (x : Lane) : (s.setLane n x).fresh = s.fresh := rfl
@[simp] theorem State.setLane_result (n : Nat) (x : Lane) : (s.setLane n x).result = s.result := rfl
@[simp] theorem State.setLane_flt (n : Nat) (x : Lane) : (s.setLane n x).flt = s.flt := rfl
@[simp] theorem State.setLane_tst (n : Nat) (x : Lane) : (s.setLane n x).tst = s.tst := rfl
@[simp] theorem State.setLane_eng (n : Nat) (x : Lane) : (s.setLane n x).eng = s.eng := rfl
@[simp] theorem State.setLane_wheel (n : Nat) (x : Lane) : (s.setLane n x).wheel = s.wheel := rfl
@[simp] theorem State.setLane_cells (n : Nat) (x : Lane) : (s.setLane n x).cells = s.cells := rfl
@[simp] theorem State.setLane_cmps (n : Nat) (x : Lane) : (s.setLane n x).cmps = s.cmps := rfl
@[simp] theorem State.setLane_groups (n : Nat) (x : Lane) : (s.setLane n x).groups = s.groups := rfl
@[simp] theorem State.setLane_ics (n : Nat) (x : Lane) : (s.setLane n x).ics = s.ics := rfl
@[simp] theorem State.setLane_mains (n : Nat) (x : Lane) : (s.setLane n x).mains = s.mains := rfl
@[simp] theorem State.setLane_lanes (n : Nat) (x : Lane) : (s.setLane n x).lanes = tblSet {} s.lanes n x := rfl
@[simp] theorem State.setLane_fab (n : Nat) (x : Lane) : (s.setLane n x).fab = s.fab := rfl
@[simp] theorem State.setLane_timers (n : Nat) (x : Lane) : (s.setLane n x).timers = s.timers := rfl
@[simp] theorem State.setLane_cal (n : Nat) (x : Lane) : (s.setLane n x).cal = s.cal := rfl
@[simp] theorem State.setLane_coefs (n : Nat) (x : Lane) : (s.setLane n x).coefs = s.coefs := rfl
@[simp] theorem State.setLane_kiln (n : Nat) (x : Lane) : (s.setLane n x).kiln = s.kiln := rfl
@[simp] theorem State.setLane_grist (n : Nat) (x : Lane) : (s.setLane n x).grist = s.grist := rfl
@[simp] theorem State.setLane_sessions (n : Nat) (x : Lane) : (s.setLane n x).sessions = s.sessions := rfl
@[simp] theorem State.setLane_mboxes (n : Nat) (x : Lane) : (s.setLane n x).mboxes = s.mboxes := rfl
@[simp] theorem State.setLane_rings (n : Nat) (x : Lane) : (s.setLane n x).rings = s.rings := rfl
@[simp] theorem State.setLane_pool (n : Nat) (x : Lane) : (s.setLane n x).pool = s.pool := rfl
@[simp] theorem State.setLane_pwr (n : Nat) (x : Lane) : (s.setLane n x).pwr = s.pwr := rfl
@[simp] theorem State.setLane_hp (n : Nat) (x : Lane) : (s.setLane n x).hp = s.hp := rfl
@[simp] theorem State.setLane_sl (n : Nat) (x : Lane) : (s.setLane n x).sl = s.sl := rfl
@[simp] theorem State.setLane_pins (n : Nat) (x : Lane) : (s.setLane n x).pins = s.pins := rfl
@[simp] theorem State.setLane_slew (n : Nat) (x : Lane) : (s.setLane n x).slew = s.slew := rfl
@[simp] theorem State.setLane_slewPart (n : Nat) (x : Lane) : (s.setLane n x).slewPart = s.slewPart := rfl
@[simp] theorem State.setLane_pending (n : Nat) (x : Lane) : (s.setLane n x).pending = s.pending := rfl

/-! ### `setGroup` -/

@[simp] theorem State.setGroup_now (n : Nat) (x : Group) : (s.setGroup n x).now = s.now := rfl
@[simp] theorem State.setGroup_params (n : Nat) (x : Group) : (s.setGroup n x).params = s.params := rfl
@[simp] theorem State.setGroup_pend (n : Nat) (x : Group) : (s.setGroup n x).pend = s.pend := rfl
@[simp] theorem State.setGroup_shadow (n : Nat) (x : Group) : (s.setGroup n x).shadow = s.shadow := rfl
@[simp] theorem State.setGroup_todo (n : Nat) (x : Group) : (s.setGroup n x).todo = s.todo := rfl
@[simp] theorem State.setGroup_trcPend (n : Nat) (x : Group) : (s.setGroup n x).trcPend = s.trcPend := rfl
@[simp] theorem State.setGroup_fresh (n : Nat) (x : Group) : (s.setGroup n x).fresh = s.fresh := rfl
@[simp] theorem State.setGroup_result (n : Nat) (x : Group) : (s.setGroup n x).result = s.result := rfl
@[simp] theorem State.setGroup_flt (n : Nat) (x : Group) : (s.setGroup n x).flt = s.flt := rfl
@[simp] theorem State.setGroup_tst (n : Nat) (x : Group) : (s.setGroup n x).tst = s.tst := rfl
@[simp] theorem State.setGroup_eng (n : Nat) (x : Group) : (s.setGroup n x).eng = s.eng := rfl
@[simp] theorem State.setGroup_wheel (n : Nat) (x : Group) : (s.setGroup n x).wheel = s.wheel := rfl
@[simp] theorem State.setGroup_cells (n : Nat) (x : Group) : (s.setGroup n x).cells = s.cells := rfl
@[simp] theorem State.setGroup_cmps (n : Nat) (x : Group) : (s.setGroup n x).cmps = s.cmps := rfl
@[simp] theorem State.setGroup_groups (n : Nat) (x : Group) : (s.setGroup n x).groups = tblSet {} s.groups n x := rfl
@[simp] theorem State.setGroup_ics (n : Nat) (x : Group) : (s.setGroup n x).ics = s.ics := rfl
@[simp] theorem State.setGroup_mains (n : Nat) (x : Group) : (s.setGroup n x).mains = s.mains := rfl
@[simp] theorem State.setGroup_lanes (n : Nat) (x : Group) : (s.setGroup n x).lanes = s.lanes := rfl
@[simp] theorem State.setGroup_fab (n : Nat) (x : Group) : (s.setGroup n x).fab = s.fab := rfl
@[simp] theorem State.setGroup_timers (n : Nat) (x : Group) : (s.setGroup n x).timers = s.timers := rfl
@[simp] theorem State.setGroup_cal (n : Nat) (x : Group) : (s.setGroup n x).cal = s.cal := rfl
@[simp] theorem State.setGroup_coefs (n : Nat) (x : Group) : (s.setGroup n x).coefs = s.coefs := rfl
@[simp] theorem State.setGroup_kiln (n : Nat) (x : Group) : (s.setGroup n x).kiln = s.kiln := rfl
@[simp] theorem State.setGroup_grist (n : Nat) (x : Group) : (s.setGroup n x).grist = s.grist := rfl
@[simp] theorem State.setGroup_sessions (n : Nat) (x : Group) : (s.setGroup n x).sessions = s.sessions := rfl
@[simp] theorem State.setGroup_mboxes (n : Nat) (x : Group) : (s.setGroup n x).mboxes = s.mboxes := rfl
@[simp] theorem State.setGroup_rings (n : Nat) (x : Group) : (s.setGroup n x).rings = s.rings := rfl
@[simp] theorem State.setGroup_pool (n : Nat) (x : Group) : (s.setGroup n x).pool = s.pool := rfl
@[simp] theorem State.setGroup_pwr (n : Nat) (x : Group) : (s.setGroup n x).pwr = s.pwr := rfl
@[simp] theorem State.setGroup_hp (n : Nat) (x : Group) : (s.setGroup n x).hp = s.hp := rfl
@[simp] theorem State.setGroup_sl (n : Nat) (x : Group) : (s.setGroup n x).sl = s.sl := rfl
@[simp] theorem State.setGroup_pins (n : Nat) (x : Group) : (s.setGroup n x).pins = s.pins := rfl
@[simp] theorem State.setGroup_slew (n : Nat) (x : Group) : (s.setGroup n x).slew = s.slew := rfl
@[simp] theorem State.setGroup_slewPart (n : Nat) (x : Group) : (s.setGroup n x).slewPart = s.slewPart := rfl
@[simp] theorem State.setGroup_pending (n : Nat) (x : Group) : (s.setGroup n x).pending = s.pending := rfl

/-! ### `setIc` -/

@[simp] theorem State.setIc_now (n : Nat) (x : IntConv) : (s.setIc n x).now = s.now := rfl
@[simp] theorem State.setIc_params (n : Nat) (x : IntConv) : (s.setIc n x).params = s.params := rfl
@[simp] theorem State.setIc_pend (n : Nat) (x : IntConv) : (s.setIc n x).pend = s.pend := rfl
@[simp] theorem State.setIc_shadow (n : Nat) (x : IntConv) : (s.setIc n x).shadow = s.shadow := rfl
@[simp] theorem State.setIc_todo (n : Nat) (x : IntConv) : (s.setIc n x).todo = s.todo := rfl
@[simp] theorem State.setIc_trcPend (n : Nat) (x : IntConv) : (s.setIc n x).trcPend = s.trcPend := rfl
@[simp] theorem State.setIc_fresh (n : Nat) (x : IntConv) : (s.setIc n x).fresh = s.fresh := rfl
@[simp] theorem State.setIc_result (n : Nat) (x : IntConv) : (s.setIc n x).result = s.result := rfl
@[simp] theorem State.setIc_flt (n : Nat) (x : IntConv) : (s.setIc n x).flt = s.flt := rfl
@[simp] theorem State.setIc_tst (n : Nat) (x : IntConv) : (s.setIc n x).tst = s.tst := rfl
@[simp] theorem State.setIc_eng (n : Nat) (x : IntConv) : (s.setIc n x).eng = s.eng := rfl
@[simp] theorem State.setIc_wheel (n : Nat) (x : IntConv) : (s.setIc n x).wheel = s.wheel := rfl
@[simp] theorem State.setIc_cells (n : Nat) (x : IntConv) : (s.setIc n x).cells = s.cells := rfl
@[simp] theorem State.setIc_cmps (n : Nat) (x : IntConv) : (s.setIc n x).cmps = s.cmps := rfl
@[simp] theorem State.setIc_groups (n : Nat) (x : IntConv) : (s.setIc n x).groups = s.groups := rfl
@[simp] theorem State.setIc_ics (n : Nat) (x : IntConv) : (s.setIc n x).ics = tblSet {} s.ics n x := rfl
@[simp] theorem State.setIc_mains (n : Nat) (x : IntConv) : (s.setIc n x).mains = s.mains := rfl
@[simp] theorem State.setIc_lanes (n : Nat) (x : IntConv) : (s.setIc n x).lanes = s.lanes := rfl
@[simp] theorem State.setIc_fab (n : Nat) (x : IntConv) : (s.setIc n x).fab = s.fab := rfl
@[simp] theorem State.setIc_timers (n : Nat) (x : IntConv) : (s.setIc n x).timers = s.timers := rfl
@[simp] theorem State.setIc_cal (n : Nat) (x : IntConv) : (s.setIc n x).cal = s.cal := rfl
@[simp] theorem State.setIc_coefs (n : Nat) (x : IntConv) : (s.setIc n x).coefs = s.coefs := rfl
@[simp] theorem State.setIc_kiln (n : Nat) (x : IntConv) : (s.setIc n x).kiln = s.kiln := rfl
@[simp] theorem State.setIc_grist (n : Nat) (x : IntConv) : (s.setIc n x).grist = s.grist := rfl
@[simp] theorem State.setIc_sessions (n : Nat) (x : IntConv) : (s.setIc n x).sessions = s.sessions := rfl
@[simp] theorem State.setIc_mboxes (n : Nat) (x : IntConv) : (s.setIc n x).mboxes = s.mboxes := rfl
@[simp] theorem State.setIc_rings (n : Nat) (x : IntConv) : (s.setIc n x).rings = s.rings := rfl
@[simp] theorem State.setIc_pool (n : Nat) (x : IntConv) : (s.setIc n x).pool = s.pool := rfl
@[simp] theorem State.setIc_pwr (n : Nat) (x : IntConv) : (s.setIc n x).pwr = s.pwr := rfl
@[simp] theorem State.setIc_hp (n : Nat) (x : IntConv) : (s.setIc n x).hp = s.hp := rfl
@[simp] theorem State.setIc_sl (n : Nat) (x : IntConv) : (s.setIc n x).sl = s.sl := rfl
@[simp] theorem State.setIc_pins (n : Nat) (x : IntConv) : (s.setIc n x).pins = s.pins := rfl
@[simp] theorem State.setIc_slew (n : Nat) (x : IntConv) : (s.setIc n x).slew = s.slew := rfl
@[simp] theorem State.setIc_slewPart (n : Nat) (x : IntConv) : (s.setIc n x).slewPart = s.slewPart := rfl
@[simp] theorem State.setIc_pending (n : Nat) (x : IntConv) : (s.setIc n x).pending = s.pending := rfl

/-! ### `setCmp` -/

@[simp] theorem State.setCmp_now (n : Nat) (x : Comparator) : (s.setCmp n x).now = s.now := rfl
@[simp] theorem State.setCmp_params (n : Nat) (x : Comparator) : (s.setCmp n x).params = s.params := rfl
@[simp] theorem State.setCmp_pend (n : Nat) (x : Comparator) : (s.setCmp n x).pend = s.pend := rfl
@[simp] theorem State.setCmp_shadow (n : Nat) (x : Comparator) : (s.setCmp n x).shadow = s.shadow := rfl
@[simp] theorem State.setCmp_todo (n : Nat) (x : Comparator) : (s.setCmp n x).todo = s.todo := rfl
@[simp] theorem State.setCmp_trcPend (n : Nat) (x : Comparator) : (s.setCmp n x).trcPend = s.trcPend := rfl
@[simp] theorem State.setCmp_fresh (n : Nat) (x : Comparator) : (s.setCmp n x).fresh = s.fresh := rfl
@[simp] theorem State.setCmp_result (n : Nat) (x : Comparator) : (s.setCmp n x).result = s.result := rfl
@[simp] theorem State.setCmp_flt (n : Nat) (x : Comparator) : (s.setCmp n x).flt = s.flt := rfl
@[simp] theorem State.setCmp_tst (n : Nat) (x : Comparator) : (s.setCmp n x).tst = s.tst := rfl
@[simp] theorem State.setCmp_eng (n : Nat) (x : Comparator) : (s.setCmp n x).eng = s.eng := rfl
@[simp] theorem State.setCmp_wheel (n : Nat) (x : Comparator) : (s.setCmp n x).wheel = s.wheel := rfl
@[simp] theorem State.setCmp_cells (n : Nat) (x : Comparator) : (s.setCmp n x).cells = s.cells := rfl
@[simp] theorem State.setCmp_cmps (n : Nat) (x : Comparator) : (s.setCmp n x).cmps = tblSet {} s.cmps n x := rfl
@[simp] theorem State.setCmp_groups (n : Nat) (x : Comparator) : (s.setCmp n x).groups = s.groups := rfl
@[simp] theorem State.setCmp_ics (n : Nat) (x : Comparator) : (s.setCmp n x).ics = s.ics := rfl
@[simp] theorem State.setCmp_mains (n : Nat) (x : Comparator) : (s.setCmp n x).mains = s.mains := rfl
@[simp] theorem State.setCmp_lanes (n : Nat) (x : Comparator) : (s.setCmp n x).lanes = s.lanes := rfl
@[simp] theorem State.setCmp_fab (n : Nat) (x : Comparator) : (s.setCmp n x).fab = s.fab := rfl
@[simp] theorem State.setCmp_timers (n : Nat) (x : Comparator) : (s.setCmp n x).timers = s.timers := rfl
@[simp] theorem State.setCmp_cal (n : Nat) (x : Comparator) : (s.setCmp n x).cal = s.cal := rfl
@[simp] theorem State.setCmp_coefs (n : Nat) (x : Comparator) : (s.setCmp n x).coefs = s.coefs := rfl
@[simp] theorem State.setCmp_kiln (n : Nat) (x : Comparator) : (s.setCmp n x).kiln = s.kiln := rfl
@[simp] theorem State.setCmp_grist (n : Nat) (x : Comparator) : (s.setCmp n x).grist = s.grist := rfl
@[simp] theorem State.setCmp_sessions (n : Nat) (x : Comparator) : (s.setCmp n x).sessions = s.sessions := rfl
@[simp] theorem State.setCmp_mboxes (n : Nat) (x : Comparator) : (s.setCmp n x).mboxes = s.mboxes := rfl
@[simp] theorem State.setCmp_rings (n : Nat) (x : Comparator) : (s.setCmp n x).rings = s.rings := rfl
@[simp] theorem State.setCmp_pool (n : Nat) (x : Comparator) : (s.setCmp n x).pool = s.pool := rfl
@[simp] theorem State.setCmp_pwr (n : Nat) (x : Comparator) : (s.setCmp n x).pwr = s.pwr := rfl
@[simp] theorem State.setCmp_hp (n : Nat) (x : Comparator) : (s.setCmp n x).hp = s.hp := rfl
@[simp] theorem State.setCmp_sl (n : Nat) (x : Comparator) : (s.setCmp n x).sl = s.sl := rfl
@[simp] theorem State.setCmp_pins (n : Nat) (x : Comparator) : (s.setCmp n x).pins = s.pins := rfl
@[simp] theorem State.setCmp_slew (n : Nat) (x : Comparator) : (s.setCmp n x).slew = s.slew := rfl
@[simp] theorem State.setCmp_slewPart (n : Nat) (x : Comparator) : (s.setCmp n x).slewPart = s.slewPart := rfl
@[simp] theorem State.setCmp_pending (n : Nat) (x : Comparator) : (s.setCmp n x).pending = s.pending := rfl

/-! ### `setSession` -/

@[simp] theorem State.setSession_now (n : Nat) (x : Session) : (s.setSession n x).now = s.now := rfl
@[simp] theorem State.setSession_params (n : Nat) (x : Session) : (s.setSession n x).params = s.params := rfl
@[simp] theorem State.setSession_pend (n : Nat) (x : Session) : (s.setSession n x).pend = s.pend := rfl
@[simp] theorem State.setSession_shadow (n : Nat) (x : Session) : (s.setSession n x).shadow = s.shadow := rfl
@[simp] theorem State.setSession_todo (n : Nat) (x : Session) : (s.setSession n x).todo = s.todo := rfl
@[simp] theorem State.setSession_trcPend (n : Nat) (x : Session) : (s.setSession n x).trcPend = s.trcPend := rfl
@[simp] theorem State.setSession_fresh (n : Nat) (x : Session) : (s.setSession n x).fresh = s.fresh := rfl
@[simp] theorem State.setSession_result (n : Nat) (x : Session) : (s.setSession n x).result = s.result := rfl
@[simp] theorem State.setSession_flt (n : Nat) (x : Session) : (s.setSession n x).flt = s.flt := rfl
@[simp] theorem State.setSession_tst (n : Nat) (x : Session) : (s.setSession n x).tst = s.tst := rfl
@[simp] theorem State.setSession_eng (n : Nat) (x : Session) : (s.setSession n x).eng = s.eng := rfl
@[simp] theorem State.setSession_wheel (n : Nat) (x : Session) : (s.setSession n x).wheel = s.wheel := rfl
@[simp] theorem State.setSession_cells (n : Nat) (x : Session) : (s.setSession n x).cells = s.cells := rfl
@[simp] theorem State.setSession_cmps (n : Nat) (x : Session) : (s.setSession n x).cmps = s.cmps := rfl
@[simp] theorem State.setSession_groups (n : Nat) (x : Session) : (s.setSession n x).groups = s.groups := rfl
@[simp] theorem State.setSession_ics (n : Nat) (x : Session) : (s.setSession n x).ics = s.ics := rfl
@[simp] theorem State.setSession_mains (n : Nat) (x : Session) : (s.setSession n x).mains = s.mains := rfl
@[simp] theorem State.setSession_lanes (n : Nat) (x : Session) : (s.setSession n x).lanes = s.lanes := rfl
@[simp] theorem State.setSession_fab (n : Nat) (x : Session) : (s.setSession n x).fab = s.fab := rfl
@[simp] theorem State.setSession_timers (n : Nat) (x : Session) : (s.setSession n x).timers = s.timers := rfl
@[simp] theorem State.setSession_cal (n : Nat) (x : Session) : (s.setSession n x).cal = s.cal := rfl
@[simp] theorem State.setSession_coefs (n : Nat) (x : Session) : (s.setSession n x).coefs = s.coefs := rfl
@[simp] theorem State.setSession_kiln (n : Nat) (x : Session) : (s.setSession n x).kiln = s.kiln := rfl
@[simp] theorem State.setSession_grist (n : Nat) (x : Session) : (s.setSession n x).grist = s.grist := rfl
@[simp] theorem State.setSession_sessions (n : Nat) (x : Session) : (s.setSession n x).sessions = tblSet {} s.sessions n x := rfl
@[simp] theorem State.setSession_mboxes (n : Nat) (x : Session) : (s.setSession n x).mboxes = s.mboxes := rfl
@[simp] theorem State.setSession_rings (n : Nat) (x : Session) : (s.setSession n x).rings = s.rings := rfl
@[simp] theorem State.setSession_pool (n : Nat) (x : Session) : (s.setSession n x).pool = s.pool := rfl
@[simp] theorem State.setSession_pwr (n : Nat) (x : Session) : (s.setSession n x).pwr = s.pwr := rfl
@[simp] theorem State.setSession_hp (n : Nat) (x : Session) : (s.setSession n x).hp = s.hp := rfl
@[simp] theorem State.setSession_sl (n : Nat) (x : Session) : (s.setSession n x).sl = s.sl := rfl
@[simp] theorem State.setSession_pins (n : Nat) (x : Session) : (s.setSession n x).pins = s.pins := rfl
@[simp] theorem State.setSession_slew (n : Nat) (x : Session) : (s.setSession n x).slew = s.slew := rfl
@[simp] theorem State.setSession_slewPart (n : Nat) (x : Session) : (s.setSession n x).slewPart = s.slewPart := rfl
@[simp] theorem State.setSession_pending (n : Nat) (x : Session) : (s.setSession n x).pending = s.pending := rfl

/-! ### `setEng` -/

@[simp] theorem State.setEng_now (x : Engine) : (s.setEng x).now = s.now := rfl
@[simp] theorem State.setEng_params (x : Engine) : (s.setEng x).params = s.params := rfl
@[simp] theorem State.setEng_pend (x : Engine) : (s.setEng x).pend = s.pend := rfl
@[simp] theorem State.setEng_shadow (x : Engine) : (s.setEng x).shadow = s.shadow := rfl
@[simp] theorem State.setEng_todo (x : Engine) : (s.setEng x).todo = s.todo := rfl
@[simp] theorem State.setEng_trcPend (x : Engine) : (s.setEng x).trcPend = s.trcPend := rfl
@[simp] theorem State.setEng_fresh (x : Engine) : (s.setEng x).fresh = s.fresh := rfl
@[simp] theorem State.setEng_result (x : Engine) : (s.setEng x).result = s.result := rfl
@[simp] theorem State.setEng_flt (x : Engine) : (s.setEng x).flt = s.flt := rfl
@[simp] theorem State.setEng_tst (x : Engine) : (s.setEng x).tst = s.tst := rfl
@[simp] theorem State.setEng_eng (x : Engine) : (s.setEng x).eng = x := rfl
@[simp] theorem State.setEng_wheel (x : Engine) : (s.setEng x).wheel = s.wheel := rfl
@[simp] theorem State.setEng_cells (x : Engine) : (s.setEng x).cells = s.cells := rfl
@[simp] theorem State.setEng_cmps (x : Engine) : (s.setEng x).cmps = s.cmps := rfl
@[simp] theorem State.setEng_groups (x : Engine) : (s.setEng x).groups = s.groups := rfl
@[simp] theorem State.setEng_ics (x : Engine) : (s.setEng x).ics = s.ics := rfl
@[simp] theorem State.setEng_mains (x : Engine) : (s.setEng x).mains = s.mains := rfl
@[simp] theorem State.setEng_lanes (x : Engine) : (s.setEng x).lanes = s.lanes := rfl
@[simp] theorem State.setEng_fab (x : Engine) : (s.setEng x).fab = s.fab := rfl
@[simp] theorem State.setEng_timers (x : Engine) : (s.setEng x).timers = s.timers := rfl
@[simp] theorem State.setEng_cal (x : Engine) : (s.setEng x).cal = s.cal := rfl
@[simp] theorem State.setEng_coefs (x : Engine) : (s.setEng x).coefs = s.coefs := rfl
@[simp] theorem State.setEng_kiln (x : Engine) : (s.setEng x).kiln = s.kiln := rfl
@[simp] theorem State.setEng_grist (x : Engine) : (s.setEng x).grist = s.grist := rfl
@[simp] theorem State.setEng_sessions (x : Engine) : (s.setEng x).sessions = s.sessions := rfl
@[simp] theorem State.setEng_mboxes (x : Engine) : (s.setEng x).mboxes = s.mboxes := rfl
@[simp] theorem State.setEng_rings (x : Engine) : (s.setEng x).rings = s.rings := rfl
@[simp] theorem State.setEng_pool (x : Engine) : (s.setEng x).pool = s.pool := rfl
@[simp] theorem State.setEng_pwr (x : Engine) : (s.setEng x).pwr = s.pwr := rfl
@[simp] theorem State.setEng_hp (x : Engine) : (s.setEng x).hp = s.hp := rfl
@[simp] theorem State.setEng_sl (x : Engine) : (s.setEng x).sl = s.sl := rfl
@[simp] theorem State.setEng_pins (x : Engine) : (s.setEng x).pins = s.pins := rfl
@[simp] theorem State.setEng_slew (x : Engine) : (s.setEng x).slew = s.slew := rfl
@[simp] theorem State.setEng_slewPart (x : Engine) : (s.setEng x).slewPart = s.slewPart := rfl
@[simp] theorem State.setEng_pending (x : Engine) : (s.setEng x).pending = s.pending := rfl

/-! ### `setTimer` -/

@[simp] theorem State.setTimer_now (n : Nat) (x : Timer) : (s.setTimer n x).now = s.now := rfl
@[simp] theorem State.setTimer_params (n : Nat) (x : Timer) : (s.setTimer n x).params = s.params := rfl
@[simp] theorem State.setTimer_pend (n : Nat) (x : Timer) : (s.setTimer n x).pend = s.pend := rfl
@[simp] theorem State.setTimer_shadow (n : Nat) (x : Timer) : (s.setTimer n x).shadow = s.shadow := rfl
@[simp] theorem State.setTimer_todo (n : Nat) (x : Timer) : (s.setTimer n x).todo = s.todo := rfl
@[simp] theorem State.setTimer_trcPend (n : Nat) (x : Timer) : (s.setTimer n x).trcPend = s.trcPend := rfl
@[simp] theorem State.setTimer_fresh (n : Nat) (x : Timer) : (s.setTimer n x).fresh = s.fresh := rfl
@[simp] theorem State.setTimer_result (n : Nat) (x : Timer) : (s.setTimer n x).result = s.result := rfl
@[simp] theorem State.setTimer_flt (n : Nat) (x : Timer) : (s.setTimer n x).flt = s.flt := rfl
@[simp] theorem State.setTimer_tst (n : Nat) (x : Timer) : (s.setTimer n x).tst = s.tst := rfl
@[simp] theorem State.setTimer_eng (n : Nat) (x : Timer) : (s.setTimer n x).eng = s.eng := rfl
@[simp] theorem State.setTimer_wheel (n : Nat) (x : Timer) : (s.setTimer n x).wheel = s.wheel := rfl
@[simp] theorem State.setTimer_cells (n : Nat) (x : Timer) : (s.setTimer n x).cells = s.cells := rfl
@[simp] theorem State.setTimer_cmps (n : Nat) (x : Timer) : (s.setTimer n x).cmps = s.cmps := rfl
@[simp] theorem State.setTimer_groups (n : Nat) (x : Timer) : (s.setTimer n x).groups = s.groups := rfl
@[simp] theorem State.setTimer_ics (n : Nat) (x : Timer) : (s.setTimer n x).ics = s.ics := rfl
@[simp] theorem State.setTimer_mains (n : Nat) (x : Timer) : (s.setTimer n x).mains = s.mains := rfl
@[simp] theorem State.setTimer_lanes (n : Nat) (x : Timer) : (s.setTimer n x).lanes = s.lanes := rfl
@[simp] theorem State.setTimer_fab (n : Nat) (x : Timer) : (s.setTimer n x).fab = s.fab := rfl
@[simp] theorem State.setTimer_timers (n : Nat) (x : Timer) : (s.setTimer n x).timers = tblSet {} s.timers n x := rfl
@[simp] theorem State.setTimer_cal (n : Nat) (x : Timer) : (s.setTimer n x).cal = s.cal := rfl
@[simp] theorem State.setTimer_coefs (n : Nat) (x : Timer) : (s.setTimer n x).coefs = s.coefs := rfl
@[simp] theorem State.setTimer_kiln (n : Nat) (x : Timer) : (s.setTimer n x).kiln = s.kiln := rfl
@[simp] theorem State.setTimer_grist (n : Nat) (x : Timer) : (s.setTimer n x).grist = s.grist := rfl
@[simp] theorem State.setTimer_sessions (n : Nat) (x : Timer) : (s.setTimer n x).sessions = s.sessions := rfl
@[simp] theorem State.setTimer_mboxes (n : Nat) (x : Timer) : (s.setTimer n x).mboxes = s.mboxes := rfl
@[simp] theorem State.setTimer_rings (n : Nat) (x : Timer) : (s.setTimer n x).rings = s.rings := rfl
@[simp] theorem State.setTimer_pool (n : Nat) (x : Timer) : (s.setTimer n x).pool = s.pool := rfl
@[simp] theorem State.setTimer_pwr (n : Nat) (x : Timer) : (s.setTimer n x).pwr = s.pwr := rfl
@[simp] theorem State.setTimer_hp (n : Nat) (x : Timer) : (s.setTimer n x).hp = s.hp := rfl
@[simp] theorem State.setTimer_sl (n : Nat) (x : Timer) : (s.setTimer n x).sl = s.sl := rfl
@[simp] theorem State.setTimer_pins (n : Nat) (x : Timer) : (s.setTimer n x).pins = s.pins := rfl
@[simp] theorem State.setTimer_slew (n : Nat) (x : Timer) : (s.setTimer n x).slew = s.slew := rfl
@[simp] theorem State.setTimer_slewPart (n : Nat) (x : Timer) : (s.setTimer n x).slewPart = s.slewPart := rfl
@[simp] theorem State.setTimer_pending (n : Nat) (x : Timer) : (s.setTimer n x).pending = s.pending := rfl

/-! ### `setGrist` -/

@[simp] theorem State.setGrist_now (x : Grist) : (s.setGrist x).now = s.now := rfl
@[simp] theorem State.setGrist_params (x : Grist) : (s.setGrist x).params = s.params := rfl
@[simp] theorem State.setGrist_pend (x : Grist) : (s.setGrist x).pend = s.pend := rfl
@[simp] theorem State.setGrist_shadow (x : Grist) : (s.setGrist x).shadow = s.shadow := rfl
@[simp] theorem State.setGrist_todo (x : Grist) : (s.setGrist x).todo = s.todo := rfl
@[simp] theorem State.setGrist_trcPend (x : Grist) : (s.setGrist x).trcPend = s.trcPend := rfl
@[simp] theorem State.setGrist_fresh (x : Grist) : (s.setGrist x).fresh = s.fresh := rfl
@[simp] theorem State.setGrist_result (x : Grist) : (s.setGrist x).result = s.result := rfl
@[simp] theorem State.setGrist_flt (x : Grist) : (s.setGrist x).flt = s.flt := rfl
@[simp] theorem State.setGrist_tst (x : Grist) : (s.setGrist x).tst = s.tst := rfl
@[simp] theorem State.setGrist_eng (x : Grist) : (s.setGrist x).eng = s.eng := rfl
@[simp] theorem State.setGrist_wheel (x : Grist) : (s.setGrist x).wheel = s.wheel := rfl
@[simp] theorem State.setGrist_cells (x : Grist) : (s.setGrist x).cells = s.cells := rfl
@[simp] theorem State.setGrist_cmps (x : Grist) : (s.setGrist x).cmps = s.cmps := rfl
@[simp] theorem State.setGrist_groups (x : Grist) : (s.setGrist x).groups = s.groups := rfl
@[simp] theorem State.setGrist_ics (x : Grist) : (s.setGrist x).ics = s.ics := rfl
@[simp] theorem State.setGrist_mains (x : Grist) : (s.setGrist x).mains = s.mains := rfl
@[simp] theorem State.setGrist_lanes (x : Grist) : (s.setGrist x).lanes = s.lanes := rfl
@[simp] theorem State.setGrist_fab (x : Grist) : (s.setGrist x).fab = s.fab := rfl
@[simp] theorem State.setGrist_timers (x : Grist) : (s.setGrist x).timers = s.timers := rfl
@[simp] theorem State.setGrist_cal (x : Grist) : (s.setGrist x).cal = s.cal := rfl
@[simp] theorem State.setGrist_coefs (x : Grist) : (s.setGrist x).coefs = s.coefs := rfl
@[simp] theorem State.setGrist_kiln (x : Grist) : (s.setGrist x).kiln = s.kiln := rfl
@[simp] theorem State.setGrist_grist (x : Grist) : (s.setGrist x).grist = x := rfl
@[simp] theorem State.setGrist_sessions (x : Grist) : (s.setGrist x).sessions = s.sessions := rfl
@[simp] theorem State.setGrist_mboxes (x : Grist) : (s.setGrist x).mboxes = s.mboxes := rfl
@[simp] theorem State.setGrist_rings (x : Grist) : (s.setGrist x).rings = s.rings := rfl
@[simp] theorem State.setGrist_pool (x : Grist) : (s.setGrist x).pool = s.pool := rfl
@[simp] theorem State.setGrist_pwr (x : Grist) : (s.setGrist x).pwr = s.pwr := rfl
@[simp] theorem State.setGrist_hp (x : Grist) : (s.setGrist x).hp = s.hp := rfl
@[simp] theorem State.setGrist_sl (x : Grist) : (s.setGrist x).sl = s.sl := rfl
@[simp] theorem State.setGrist_pins (x : Grist) : (s.setGrist x).pins = s.pins := rfl
@[simp] theorem State.setGrist_slew (x : Grist) : (s.setGrist x).slew = s.slew := rfl
@[simp] theorem State.setGrist_slewPart (x : Grist) : (s.setGrist x).slewPart = s.slewPart := rfl
@[simp] theorem State.setGrist_pending (x : Grist) : (s.setGrist x).pending = s.pending := rfl

/-! ### `setSl` -/

@[simp] theorem State.setSl_now (x : SyncLink) : (s.setSl x).now = s.now := rfl
@[simp] theorem State.setSl_params (x : SyncLink) : (s.setSl x).params = s.params := rfl
@[simp] theorem State.setSl_pend (x : SyncLink) : (s.setSl x).pend = s.pend := rfl
@[simp] theorem State.setSl_shadow (x : SyncLink) : (s.setSl x).shadow = s.shadow := rfl
@[simp] theorem State.setSl_todo (x : SyncLink) : (s.setSl x).todo = s.todo := rfl
@[simp] theorem State.setSl_trcPend (x : SyncLink) : (s.setSl x).trcPend = s.trcPend := rfl
@[simp] theorem State.setSl_fresh (x : SyncLink) : (s.setSl x).fresh = s.fresh := rfl
@[simp] theorem State.setSl_result (x : SyncLink) : (s.setSl x).result = s.result := rfl
@[simp] theorem State.setSl_flt (x : SyncLink) : (s.setSl x).flt = s.flt := rfl
@[simp] theorem State.setSl_tst (x : SyncLink) : (s.setSl x).tst = s.tst := rfl
@[simp] theorem State.setSl_eng (x : SyncLink) : (s.setSl x).eng = s.eng := rfl
@[simp] theorem State.setSl_wheel (x : SyncLink) : (s.setSl x).wheel = s.wheel := rfl
@[simp] theorem State.setSl_cells (x : SyncLink) : (s.setSl x).cells = s.cells := rfl
@[simp] theorem State.setSl_cmps (x : SyncLink) : (s.setSl x).cmps = s.cmps := rfl
@[simp] theorem State.setSl_groups (x : SyncLink) : (s.setSl x).groups = s.groups := rfl
@[simp] theorem State.setSl_ics (x : SyncLink) : (s.setSl x).ics = s.ics := rfl
@[simp] theorem State.setSl_mains (x : SyncLink) : (s.setSl x).mains = s.mains := rfl
@[simp] theorem State.setSl_lanes (x : SyncLink) : (s.setSl x).lanes = s.lanes := rfl
@[simp] theorem State.setSl_fab (x : SyncLink) : (s.setSl x).fab = s.fab := rfl
@[simp] theorem State.setSl_timers (x : SyncLink) : (s.setSl x).timers = s.timers := rfl
@[simp] theorem State.setSl_cal (x : SyncLink) : (s.setSl x).cal = s.cal := rfl
@[simp] theorem State.setSl_coefs (x : SyncLink) : (s.setSl x).coefs = s.coefs := rfl
@[simp] theorem State.setSl_kiln (x : SyncLink) : (s.setSl x).kiln = s.kiln := rfl
@[simp] theorem State.setSl_grist (x : SyncLink) : (s.setSl x).grist = s.grist := rfl
@[simp] theorem State.setSl_sessions (x : SyncLink) : (s.setSl x).sessions = s.sessions := rfl
@[simp] theorem State.setSl_mboxes (x : SyncLink) : (s.setSl x).mboxes = s.mboxes := rfl
@[simp] theorem State.setSl_rings (x : SyncLink) : (s.setSl x).rings = s.rings := rfl
@[simp] theorem State.setSl_pool (x : SyncLink) : (s.setSl x).pool = s.pool := rfl
@[simp] theorem State.setSl_pwr (x : SyncLink) : (s.setSl x).pwr = s.pwr := rfl
@[simp] theorem State.setSl_hp (x : SyncLink) : (s.setSl x).hp = s.hp := rfl
@[simp] theorem State.setSl_sl (x : SyncLink) : (s.setSl x).sl = x := rfl
@[simp] theorem State.setSl_pins (x : SyncLink) : (s.setSl x).pins = s.pins := rfl
@[simp] theorem State.setSl_slew (x : SyncLink) : (s.setSl x).slew = s.slew := rfl
@[simp] theorem State.setSl_slewPart (x : SyncLink) : (s.setSl x).slewPart = s.slewPart := rfl
@[simp] theorem State.setSl_pending (x : SyncLink) : (s.setSl x).pending = s.pending := rfl

/-! ### `setTst` -/

@[simp] theorem State.setTst_now (x : TestTrace) : (s.setTst x).now = s.now := rfl
@[simp] theorem State.setTst_params (x : TestTrace) : (s.setTst x).params = s.params := rfl
@[simp] theorem State.setTst_pend (x : TestTrace) : (s.setTst x).pend = s.pend := rfl
@[simp] theorem State.setTst_shadow (x : TestTrace) : (s.setTst x).shadow = s.shadow := rfl
@[simp] theorem State.setTst_todo (x : TestTrace) : (s.setTst x).todo = s.todo := rfl
@[simp] theorem State.setTst_trcPend (x : TestTrace) : (s.setTst x).trcPend = s.trcPend := rfl
@[simp] theorem State.setTst_fresh (x : TestTrace) : (s.setTst x).fresh = s.fresh := rfl
@[simp] theorem State.setTst_result (x : TestTrace) : (s.setTst x).result = s.result := rfl
@[simp] theorem State.setTst_flt (x : TestTrace) : (s.setTst x).flt = s.flt := rfl
@[simp] theorem State.setTst_tst (x : TestTrace) : (s.setTst x).tst = x := rfl
@[simp] theorem State.setTst_eng (x : TestTrace) : (s.setTst x).eng = s.eng := rfl
@[simp] theorem State.setTst_wheel (x : TestTrace) : (s.setTst x).wheel = s.wheel := rfl
@[simp] theorem State.setTst_cells (x : TestTrace) : (s.setTst x).cells = s.cells := rfl
@[simp] theorem State.setTst_cmps (x : TestTrace) : (s.setTst x).cmps = s.cmps := rfl
@[simp] theorem State.setTst_groups (x : TestTrace) : (s.setTst x).groups = s.groups := rfl
@[simp] theorem State.setTst_ics (x : TestTrace) : (s.setTst x).ics = s.ics := rfl
@[simp] theorem State.setTst_mains (x : TestTrace) : (s.setTst x).mains = s.mains := rfl
@[simp] theorem State.setTst_lanes (x : TestTrace) : (s.setTst x).lanes = s.lanes := rfl
@[simp] theorem State.setTst_fab (x : TestTrace) : (s.setTst x).fab = s.fab := rfl
@[simp] theorem State.setTst_timers (x : TestTrace) : (s.setTst x).timers = s.timers := rfl
@[simp] theorem State.setTst_cal (x : TestTrace) : (s.setTst x).cal = s.cal := rfl
@[simp] theorem State.setTst_coefs (x : TestTrace) : (s.setTst x).coefs = s.coefs := rfl
@[simp] theorem State.setTst_kiln (x : TestTrace) : (s.setTst x).kiln = s.kiln := rfl
@[simp] theorem State.setTst_grist (x : TestTrace) : (s.setTst x).grist = s.grist := rfl
@[simp] theorem State.setTst_sessions (x : TestTrace) : (s.setTst x).sessions = s.sessions := rfl
@[simp] theorem State.setTst_mboxes (x : TestTrace) : (s.setTst x).mboxes = s.mboxes := rfl
@[simp] theorem State.setTst_rings (x : TestTrace) : (s.setTst x).rings = s.rings := rfl
@[simp] theorem State.setTst_pool (x : TestTrace) : (s.setTst x).pool = s.pool := rfl
@[simp] theorem State.setTst_pwr (x : TestTrace) : (s.setTst x).pwr = s.pwr := rfl
@[simp] theorem State.setTst_hp (x : TestTrace) : (s.setTst x).hp = s.hp := rfl
@[simp] theorem State.setTst_sl (x : TestTrace) : (s.setTst x).sl = s.sl := rfl
@[simp] theorem State.setTst_pins (x : TestTrace) : (s.setTst x).pins = s.pins := rfl
@[simp] theorem State.setTst_slew (x : TestTrace) : (s.setTst x).slew = s.slew := rfl
@[simp] theorem State.setTst_slewPart (x : TestTrace) : (s.setTst x).slewPart = s.slewPart := rfl
@[simp] theorem State.setTst_pending (x : TestTrace) : (s.setTst x).pending = s.pending := rfl

/-! ### `setPwr` -/

@[simp] theorem State.setPwr_now (x : Power) : (s.setPwr x).now = s.now := rfl
@[simp] theorem State.setPwr_params (x : Power) : (s.setPwr x).params = s.params := rfl
@[simp] theorem State.setPwr_pend (x : Power) : (s.setPwr x).pend = s.pend := rfl
@[simp] theorem State.setPwr_shadow (x : Power) : (s.setPwr x).shadow = s.shadow := rfl
@[simp] theorem State.setPwr_todo (x : Power) : (s.setPwr x).todo = s.todo := rfl
@[simp] theorem State.setPwr_trcPend (x : Power) : (s.setPwr x).trcPend = s.trcPend := rfl
@[simp] theorem State.setPwr_fresh (x : Power) : (s.setPwr x).fresh = s.fresh := rfl
@[simp] theorem State.setPwr_result (x : Power) : (s.setPwr x).result = s.result := rfl
@[simp] theorem State.setPwr_flt (x : Power) : (s.setPwr x).flt = s.flt := rfl
@[simp] theorem State.setPwr_tst (x : Power) : (s.setPwr x).tst = s.tst := rfl
@[simp] theorem State.setPwr_eng (x : Power) : (s.setPwr x).eng = s.eng := rfl
@[simp] theorem State.setPwr_wheel (x : Power) : (s.setPwr x).wheel = s.wheel := rfl
@[simp] theorem State.setPwr_cells (x : Power) : (s.setPwr x).cells = s.cells := rfl
@[simp] theorem State.setPwr_cmps (x : Power) : (s.setPwr x).cmps = s.cmps := rfl
@[simp] theorem State.setPwr_groups (x : Power) : (s.setPwr x).groups = s.groups := rfl
@[simp] theorem State.setPwr_ics (x : Power) : (s.setPwr x).ics = s.ics := rfl
@[simp] theorem State.setPwr_mains (x : Power) : (s.setPwr x).mains = s.mains := rfl
@[simp] theorem State.setPwr_lanes (x : Power) : (s.setPwr x).lanes = s.lanes := rfl
@[simp] theorem State.setPwr_fab (x : Power) : (s.setPwr x).fab = s.fab := rfl
@[simp] theorem State.setPwr_timers (x : Power) : (s.setPwr x).timers = s.timers := rfl
@[simp] theorem State.setPwr_cal (x : Power) : (s.setPwr x).cal = s.cal := rfl
@[simp] theorem State.setPwr_coefs (x : Power) : (s.setPwr x).coefs = s.coefs := rfl
@[simp] theorem State.setPwr_kiln (x : Power) : (s.setPwr x).kiln = s.kiln := rfl
@[simp] theorem State.setPwr_grist (x : Power) : (s.setPwr x).grist = s.grist := rfl
@[simp] theorem State.setPwr_sessions (x : Power) : (s.setPwr x).sessions = s.sessions := rfl
@[simp] theorem State.setPwr_mboxes (x : Power) : (s.setPwr x).mboxes = s.mboxes := rfl
@[simp] theorem State.setPwr_rings (x : Power) : (s.setPwr x).rings = s.rings := rfl
@[simp] theorem State.setPwr_pool (x : Power) : (s.setPwr x).pool = s.pool := rfl
@[simp] theorem State.setPwr_pwr (x : Power) : (s.setPwr x).pwr = x := rfl
@[simp] theorem State.setPwr_hp (x : Power) : (s.setPwr x).hp = s.hp := rfl
@[simp] theorem State.setPwr_sl (x : Power) : (s.setPwr x).sl = s.sl := rfl
@[simp] theorem State.setPwr_pins (x : Power) : (s.setPwr x).pins = s.pins := rfl
@[simp] theorem State.setPwr_slew (x : Power) : (s.setPwr x).slew = s.slew := rfl
@[simp] theorem State.setPwr_slewPart (x : Power) : (s.setPwr x).slewPart = s.slewPart := rfl
@[simp] theorem State.setPwr_pending (x : Power) : (s.setPwr x).pending = s.pending := rfl

/-! ### What updates leave of the parts of the state -/

@[simp] theorem State.setPar_t (id inst v : Nat) : (s.setPar id inst v).t = s.t := rfl
@[simp] theorem State.setShadow_t (id inst v : Nat) : (s.setShadow id inst v).t = s.t := rfl
@[simp] theorem State.acceptLive_t (id inst v : Nat) : (s.acceptLive id inst v).t = s.t := rfl
@[simp] theorem State.setFb_t (b : Nat) (f : FaultBlock) : (s.setFb b f).t = s.t := rfl
@[simp] theorem State.ask_t (r : Raise) : (s.ask r).t = s.t := rfl
@[simp] theorem State.trace_t (typ info : Nat) (e : Option (List Byte)) : (s.trace typ info e).t = s.t := rfl
@[simp] theorem State.answer_t (st det : Nat) (d : List Byte) : (s.answer st det d).t = s.t := rfl
@[simp] theorem State.setCell_t (n : Nat) (x : Cell) : (s.setCell n x).t = s.t := rfl
@[simp] theorem State.setMbox_t (n : Nat) (x : Mailbox) : (s.setMbox n x).t = s.t := rfl
@[simp] theorem State.setRing_t (n : Nat) (x : Ring) : (s.setRing n x).t = s.t := rfl
@[simp] theorem State.setLane_t (n : Nat) (x : Lane) : (s.setLane n x).t = s.t := rfl
@[simp] theorem State.setGroup_t (n : Nat) (x : Group) : (s.setGroup n x).t = s.t := rfl
@[simp] theorem State.setIc_t (n : Nat) (x : IntConv) : (s.setIc n x).t = s.t := rfl
@[simp] theorem State.setCmp_t (n : Nat) (x : Comparator) : (s.setCmp n x).t = s.t := rfl
@[simp] theorem State.setSession_t (n : Nat) (x : Session) : (s.setSession n x).t = s.t := rfl
@[simp] theorem State.setEng_t (x : Engine) : (s.setEng x).t = s.t := rfl
@[simp] theorem State.setTimer_t (n : Nat) (x : Timer) : (s.setTimer n x).t = s.t := rfl
@[simp] theorem State.setGrist_t (x : Grist) : (s.setGrist x).t = s.t := rfl
@[simp] theorem State.setSl_t (x : SyncLink) : (s.setSl x).t = s.t := rfl
@[simp] theorem State.setTst_t (x : TestTrace) : (s.setTst x).t = s.t := rfl
@[simp] theorem State.setPwr_t (x : Power) : (s.setPwr x).t = s.t := rfl
@[simp] theorem State.setShadow_par (id inst v : Nat) (id inst : Nat) : (s.setShadow id inst v).par id inst = s.par id inst := rfl
@[simp] theorem State.acceptLive_par (id inst v : Nat) (id inst : Nat) : (s.acceptLive id inst v).par id inst = s.par id inst := rfl
@[simp] theorem State.setFb_par (b : Nat) (f : FaultBlock) (id inst : Nat) : (s.setFb b f).par id inst = s.par id inst := rfl
@[simp] theorem State.ask_par (r : Raise) (id inst : Nat) : (s.ask r).par id inst = s.par id inst := rfl
@[simp] theorem State.trace_par (typ info : Nat) (e : Option (List Byte)) (id inst : Nat) : (s.trace typ info e).par id inst = s.par id inst := rfl
@[simp] theorem State.answer_par (st det : Nat) (d : List Byte) (id inst : Nat) : (s.answer st det d).par id inst = s.par id inst := rfl
@[simp] theorem State.setCell_par (n : Nat) (x : Cell) (id inst : Nat) : (s.setCell n x).par id inst = s.par id inst := rfl
@[simp] theorem State.setMbox_par (n : Nat) (x : Mailbox) (id inst : Nat) : (s.setMbox n x).par id inst = s.par id inst := rfl
@[simp] theorem State.setRing_par (n : Nat) (x : Ring) (id inst : Nat) : (s.setRing n x).par id inst = s.par id inst := rfl
@[simp] theorem State.setLane_par (n : Nat) (x : Lane) (id inst : Nat) : (s.setLane n x).par id inst = s.par id inst := rfl
@[simp] theorem State.setGroup_par (n : Nat) (x : Group) (id inst : Nat) : (s.setGroup n x).par id inst = s.par id inst := rfl
@[simp] theorem State.setIc_par (n : Nat) (x : IntConv) (id inst : Nat) : (s.setIc n x).par id inst = s.par id inst := rfl
@[simp] theorem State.setCmp_par (n : Nat) (x : Comparator) (id inst : Nat) : (s.setCmp n x).par id inst = s.par id inst := rfl
@[simp] theorem State.setSession_par (n : Nat) (x : Session) (id inst : Nat) : (s.setSession n x).par id inst = s.par id inst := rfl
@[simp] theorem State.setEng_par (x : Engine) (id inst : Nat) : (s.setEng x).par id inst = s.par id inst := rfl
@[simp] theorem State.setTimer_par (n : Nat) (x : Timer) (id inst : Nat) : (s.setTimer n x).par id inst = s.par id inst := rfl
@[simp] theorem State.setGrist_par (x : Grist) (id inst : Nat) : (s.setGrist x).par id inst = s.par id inst := rfl
@[simp] theorem State.setSl_par (x : SyncLink) (id inst : Nat) : (s.setSl x).par id inst = s.par id inst := rfl
@[simp] theorem State.setTst_par (x : TestTrace) (id inst : Nat) : (s.setTst x).par id inst = s.par id inst := rfl
@[simp] theorem State.setPwr_par (x : Power) (id inst : Nat) : (s.setPwr x).par id inst = s.par id inst := rfl
@[simp] theorem State.setPar_cell (id inst v : Nat) (m : Nat) : (s.setPar id inst v).cell m = s.cell m := rfl
@[simp] theorem State.setShadow_cell (id inst v : Nat) (m : Nat) : (s.setShadow id inst v).cell m = s.cell m := rfl
@[simp] theorem State.acceptLive_cell (id inst v : Nat) (m : Nat) : (s.acceptLive id inst v).cell m = s.cell m := rfl
@[simp] theorem State.setFb_cell (b : Nat) (f : FaultBlock) (m : Nat) : (s.setFb b f).cell m = s.cell m := rfl
@[simp] theorem State.ask_cell (r : Raise) (m : Nat) : (s.ask r).cell m = s.cell m := rfl
@[simp] theorem State.trace_cell (typ info : Nat) (e : Option (List Byte)) (m : Nat) : (s.trace typ info e).cell m = s.cell m := rfl
@[simp] theorem State.answer_cell (st det : Nat) (d : List Byte) (m : Nat) : (s.answer st det d).cell m = s.cell m := rfl
@[simp] theorem State.setMbox_cell (n : Nat) (x : Mailbox) (m : Nat) : (s.setMbox n x).cell m = s.cell m := rfl
@[simp] theorem State.setRing_cell (n : Nat) (x : Ring) (m : Nat) : (s.setRing n x).cell m = s.cell m := rfl
@[simp] theorem State.setLane_cell (n : Nat) (x : Lane) (m : Nat) : (s.setLane n x).cell m = s.cell m := rfl
@[simp] theorem State.setGroup_cell (n : Nat) (x : Group) (m : Nat) : (s.setGroup n x).cell m = s.cell m := rfl
@[simp] theorem State.setIc_cell (n : Nat) (x : IntConv) (m : Nat) : (s.setIc n x).cell m = s.cell m := rfl
@[simp] theorem State.setCmp_cell (n : Nat) (x : Comparator) (m : Nat) : (s.setCmp n x).cell m = s.cell m := rfl
@[simp] theorem State.setSession_cell (n : Nat) (x : Session) (m : Nat) : (s.setSession n x).cell m = s.cell m := rfl
@[simp] theorem State.setEng_cell (x : Engine) (m : Nat) : (s.setEng x).cell m = s.cell m := rfl
@[simp] theorem State.setTimer_cell (n : Nat) (x : Timer) (m : Nat) : (s.setTimer n x).cell m = s.cell m := rfl
@[simp] theorem State.setGrist_cell (x : Grist) (m : Nat) : (s.setGrist x).cell m = s.cell m := rfl
@[simp] theorem State.setSl_cell (x : SyncLink) (m : Nat) : (s.setSl x).cell m = s.cell m := rfl
@[simp] theorem State.setTst_cell (x : TestTrace) (m : Nat) : (s.setTst x).cell m = s.cell m := rfl
@[simp] theorem State.setPwr_cell (x : Power) (m : Nat) : (s.setPwr x).cell m = s.cell m := rfl
@[simp] theorem State.setPar_cmp (id inst v : Nat) (m : Nat) : (s.setPar id inst v).cmp m = s.cmp m := rfl
@[simp] theorem State.setShadow_cmp (id inst v : Nat) (m : Nat) : (s.setShadow id inst v).cmp m = s.cmp m := rfl
@[simp] theorem State.acceptLive_cmp (id inst v : Nat) (m : Nat) : (s.acceptLive id inst v).cmp m = s.cmp m := rfl
@[simp] theorem State.setFb_cmp (b : Nat) (f : FaultBlock) (m : Nat) : (s.setFb b f).cmp m = s.cmp m := rfl
@[simp] theorem State.ask_cmp (r : Raise) (m : Nat) : (s.ask r).cmp m = s.cmp m := rfl
@[simp] theorem State.trace_cmp (typ info : Nat) (e : Option (List Byte)) (m : Nat) : (s.trace typ info e).cmp m = s.cmp m := rfl
@[simp] theorem State.answer_cmp (st det : Nat) (d : List Byte) (m : Nat) : (s.answer st det d).cmp m = s.cmp m := rfl
@[simp] theorem State.setCell_cmp (n : Nat) (x : Cell) (m : Nat) : (s.setCell n x).cmp m = s.cmp m := rfl
@[simp] theorem State.setMbox_cmp (n : Nat) (x : Mailbox) (m : Nat) : (s.setMbox n x).cmp m = s.cmp m := rfl
@[simp] theorem State.setRing_cmp (n : Nat) (x : Ring) (m : Nat) : (s.setRing n x).cmp m = s.cmp m := rfl
@[simp] theorem State.setLane_cmp (n : Nat) (x : Lane) (m : Nat) : (s.setLane n x).cmp m = s.cmp m := rfl
@[simp] theorem State.setGroup_cmp (n : Nat) (x : Group) (m : Nat) : (s.setGroup n x).cmp m = s.cmp m := rfl
@[simp] theorem State.setIc_cmp (n : Nat) (x : IntConv) (m : Nat) : (s.setIc n x).cmp m = s.cmp m := rfl
@[simp] theorem State.setSession_cmp (n : Nat) (x : Session) (m : Nat) : (s.setSession n x).cmp m = s.cmp m := rfl
@[simp] theorem State.setEng_cmp (x : Engine) (m : Nat) : (s.setEng x).cmp m = s.cmp m := rfl
@[simp] theorem State.setTimer_cmp (n : Nat) (x : Timer) (m : Nat) : (s.setTimer n x).cmp m = s.cmp m := rfl
@[simp] theorem State.setGrist_cmp (x : Grist) (m : Nat) : (s.setGrist x).cmp m = s.cmp m := rfl
@[simp] theorem State.setSl_cmp (x : SyncLink) (m : Nat) : (s.setSl x).cmp m = s.cmp m := rfl
@[simp] theorem State.setTst_cmp (x : TestTrace) (m : Nat) : (s.setTst x).cmp m = s.cmp m := rfl
@[simp] theorem State.setPwr_cmp (x : Power) (m : Nat) : (s.setPwr x).cmp m = s.cmp m := rfl
@[simp] theorem State.setPar_group (id inst v : Nat) (m : Nat) : (s.setPar id inst v).group m = s.group m := rfl
@[simp] theorem State.setShadow_group (id inst v : Nat) (m : Nat) : (s.setShadow id inst v).group m = s.group m := rfl
@[simp] theorem State.acceptLive_group (id inst v : Nat) (m : Nat) : (s.acceptLive id inst v).group m = s.group m := rfl
@[simp] theorem State.setFb_group (b : Nat) (f : FaultBlock) (m : Nat) : (s.setFb b f).group m = s.group m := rfl
@[simp] theorem State.ask_group (r : Raise) (m : Nat) : (s.ask r).group m = s.group m := rfl
@[simp] theorem State.trace_group (typ info : Nat) (e : Option (List Byte)) (m : Nat) : (s.trace typ info e).group m = s.group m := rfl
@[simp] theorem State.answer_group (st det : Nat) (d : List Byte) (m : Nat) : (s.answer st det d).group m = s.group m := rfl
@[simp] theorem State.setCell_group (n : Nat) (x : Cell) (m : Nat) : (s.setCell n x).group m = s.group m := rfl
@[simp] theorem State.setMbox_group (n : Nat) (x : Mailbox) (m : Nat) : (s.setMbox n x).group m = s.group m := rfl
@[simp] theorem State.setRing_group (n : Nat) (x : Ring) (m : Nat) : (s.setRing n x).group m = s.group m := rfl
@[simp] theorem State.setLane_group (n : Nat) (x : Lane) (m : Nat) : (s.setLane n x).group m = s.group m := rfl
@[simp] theorem State.setIc_group (n : Nat) (x : IntConv) (m : Nat) : (s.setIc n x).group m = s.group m := rfl
@[simp] theorem State.setCmp_group (n : Nat) (x : Comparator) (m : Nat) : (s.setCmp n x).group m = s.group m := rfl
@[simp] theorem State.setSession_group (n : Nat) (x : Session) (m : Nat) : (s.setSession n x).group m = s.group m := rfl
@[simp] theorem State.setEng_group (x : Engine) (m : Nat) : (s.setEng x).group m = s.group m := rfl
@[simp] theorem State.setTimer_group (n : Nat) (x : Timer) (m : Nat) : (s.setTimer n x).group m = s.group m := rfl
@[simp] theorem State.setGrist_group (x : Grist) (m : Nat) : (s.setGrist x).group m = s.group m := rfl
@[simp] theorem State.setSl_group (x : SyncLink) (m : Nat) : (s.setSl x).group m = s.group m := rfl
@[simp] theorem State.setTst_group (x : TestTrace) (m : Nat) : (s.setTst x).group m = s.group m := rfl
@[simp] theorem State.setPwr_group (x : Power) (m : Nat) : (s.setPwr x).group m = s.group m := rfl
@[simp] theorem State.setPar_ic (id inst v : Nat) (m : Nat) : (s.setPar id inst v).ic m = s.ic m := rfl
@[simp] theorem State.setShadow_ic (id inst v : Nat) (m : Nat) : (s.setShadow id inst v).ic m = s.ic m := rfl
@[simp] theorem State.acceptLive_ic (id inst v : Nat) (m : Nat) : (s.acceptLive id inst v).ic m = s.ic m := rfl
@[simp] theorem State.setFb_ic (b : Nat) (f : FaultBlock) (m : Nat) : (s.setFb b f).ic m = s.ic m := rfl
@[simp] theorem State.ask_ic (r : Raise) (m : Nat) : (s.ask r).ic m = s.ic m := rfl
@[simp] theorem State.trace_ic (typ info : Nat) (e : Option (List Byte)) (m : Nat) : (s.trace typ info e).ic m = s.ic m := rfl
@[simp] theorem State.answer_ic (st det : Nat) (d : List Byte) (m : Nat) : (s.answer st det d).ic m = s.ic m := rfl
@[simp] theorem State.setCell_ic (n : Nat) (x : Cell) (m : Nat) : (s.setCell n x).ic m = s.ic m := rfl
@[simp] theorem State.setMbox_ic (n : Nat) (x : Mailbox) (m : Nat) : (s.setMbox n x).ic m = s.ic m := rfl
@[simp] theorem State.setRing_ic (n : Nat) (x : Ring) (m : Nat) : (s.setRing n x).ic m = s.ic m := rfl
@[simp] theorem State.setLane_ic (n : Nat) (x : Lane) (m : Nat) : (s.setLane n x).ic m = s.ic m := rfl
@[simp] theorem State.setGroup_ic (n : Nat) (x : Group) (m : Nat) : (s.setGroup n x).ic m = s.ic m := rfl
@[simp] theorem State.setCmp_ic (n : Nat) (x : Comparator) (m : Nat) : (s.setCmp n x).ic m = s.ic m := rfl
@[simp] theorem State.setSession_ic (n : Nat) (x : Session) (m : Nat) : (s.setSession n x).ic m = s.ic m := rfl
@[simp] theorem State.setEng_ic (x : Engine) (m : Nat) : (s.setEng x).ic m = s.ic m := rfl
@[simp] theorem State.setTimer_ic (n : Nat) (x : Timer) (m : Nat) : (s.setTimer n x).ic m = s.ic m := rfl
@[simp] theorem State.setGrist_ic (x : Grist) (m : Nat) : (s.setGrist x).ic m = s.ic m := rfl
@[simp] theorem State.setSl_ic (x : SyncLink) (m : Nat) : (s.setSl x).ic m = s.ic m := rfl
@[simp] theorem State.setTst_ic (x : TestTrace) (m : Nat) : (s.setTst x).ic m = s.ic m := rfl
@[simp] theorem State.setPwr_ic (x : Power) (m : Nat) : (s.setPwr x).ic m = s.ic m := rfl
@[simp] theorem State.setPar_lane (id inst v : Nat) (m : Nat) : (s.setPar id inst v).lane m = s.lane m := rfl
@[simp] theorem State.setShadow_lane (id inst v : Nat) (m : Nat) : (s.setShadow id inst v).lane m = s.lane m := rfl
@[simp] theorem State.acceptLive_lane (id inst v : Nat) (m : Nat) : (s.acceptLive id inst v).lane m = s.lane m := rfl
@[simp] theorem State.setFb_lane (b : Nat) (f : FaultBlock) (m : Nat) : (s.setFb b f).lane m = s.lane m := rfl
@[simp] theorem State.ask_lane (r : Raise) (m : Nat) : (s.ask r).lane m = s.lane m := rfl
@[simp] theorem State.trace_lane (typ info : Nat) (e : Option (List Byte)) (m : Nat) : (s.trace typ info e).lane m = s.lane m := rfl
@[simp] theorem State.answer_lane (st det : Nat) (d : List Byte) (m : Nat) : (s.answer st det d).lane m = s.lane m := rfl
@[simp] theorem State.setCell_lane (n : Nat) (x : Cell) (m : Nat) : (s.setCell n x).lane m = s.lane m := rfl
@[simp] theorem State.setMbox_lane (n : Nat) (x : Mailbox) (m : Nat) : (s.setMbox n x).lane m = s.lane m := rfl
@[simp] theorem State.setRing_lane (n : Nat) (x : Ring) (m : Nat) : (s.setRing n x).lane m = s.lane m := rfl
@[simp] theorem State.setGroup_lane (n : Nat) (x : Group) (m : Nat) : (s.setGroup n x).lane m = s.lane m := rfl
@[simp] theorem State.setIc_lane (n : Nat) (x : IntConv) (m : Nat) : (s.setIc n x).lane m = s.lane m := rfl
@[simp] theorem State.setCmp_lane (n : Nat) (x : Comparator) (m : Nat) : (s.setCmp n x).lane m = s.lane m := rfl
@[simp] theorem State.setSession_lane (n : Nat) (x : Session) (m : Nat) : (s.setSession n x).lane m = s.lane m := rfl
@[simp] theorem State.setEng_lane (x : Engine) (m : Nat) : (s.setEng x).lane m = s.lane m := rfl
@[simp] theorem State.setTimer_lane (n : Nat) (x : Timer) (m : Nat) : (s.setTimer n x).lane m = s.lane m := rfl
@[simp] theorem State.setGrist_lane (x : Grist) (m : Nat) : (s.setGrist x).lane m = s.lane m := rfl
@[simp] theorem State.setSl_lane (x : SyncLink) (m : Nat) : (s.setSl x).lane m = s.lane m := rfl
@[simp] theorem State.setTst_lane (x : TestTrace) (m : Nat) : (s.setTst x).lane m = s.lane m := rfl
@[simp] theorem State.setPwr_lane (x : Power) (m : Nat) : (s.setPwr x).lane m = s.lane m := rfl
@[simp] theorem State.setPar_ring (id inst v : Nat) (m : Nat) : (s.setPar id inst v).ring m = s.ring m := rfl
@[simp] theorem State.setShadow_ring (id inst v : Nat) (m : Nat) : (s.setShadow id inst v).ring m = s.ring m := rfl
@[simp] theorem State.acceptLive_ring (id inst v : Nat) (m : Nat) : (s.acceptLive id inst v).ring m = s.ring m := rfl
@[simp] theorem State.setFb_ring (b : Nat) (f : FaultBlock) (m : Nat) : (s.setFb b f).ring m = s.ring m := rfl
@[simp] theorem State.ask_ring (r : Raise) (m : Nat) : (s.ask r).ring m = s.ring m := rfl
@[simp] theorem State.trace_ring (typ info : Nat) (e : Option (List Byte)) (m : Nat) : (s.trace typ info e).ring m = s.ring m := rfl
@[simp] theorem State.answer_ring (st det : Nat) (d : List Byte) (m : Nat) : (s.answer st det d).ring m = s.ring m := rfl
@[simp] theorem State.setCell_ring (n : Nat) (x : Cell) (m : Nat) : (s.setCell n x).ring m = s.ring m := rfl
@[simp] theorem State.setMbox_ring (n : Nat) (x : Mailbox) (m : Nat) : (s.setMbox n x).ring m = s.ring m := rfl
@[simp] theorem State.setLane_ring (n : Nat) (x : Lane) (m : Nat) : (s.setLane n x).ring m = s.ring m := rfl
@[simp] theorem State.setGroup_ring (n : Nat) (x : Group) (m : Nat) : (s.setGroup n x).ring m = s.ring m := rfl
@[simp] theorem State.setIc_ring (n : Nat) (x : IntConv) (m : Nat) : (s.setIc n x).ring m = s.ring m := rfl
@[simp] theorem State.setCmp_ring (n : Nat) (x : Comparator) (m : Nat) : (s.setCmp n x).ring m = s.ring m := rfl
@[simp] theorem State.setSession_ring (n : Nat) (x : Session) (m : Nat) : (s.setSession n x).ring m = s.ring m := rfl
@[simp] theorem State.setEng_ring (x : Engine) (m : Nat) : (s.setEng x).ring m = s.ring m := rfl
@[simp] theorem State.setTimer_ring (n : Nat) (x : Timer) (m : Nat) : (s.setTimer n x).ring m = s.ring m := rfl
@[simp] theorem State.setGrist_ring (x : Grist) (m : Nat) : (s.setGrist x).ring m = s.ring m := rfl
@[simp] theorem State.setSl_ring (x : SyncLink) (m : Nat) : (s.setSl x).ring m = s.ring m := rfl
@[simp] theorem State.setTst_ring (x : TestTrace) (m : Nat) : (s.setTst x).ring m = s.ring m := rfl
@[simp] theorem State.setPwr_ring (x : Power) (m : Nat) : (s.setPwr x).ring m = s.ring m := rfl
@[simp] theorem State.setPar_mbox (id inst v : Nat) (m : Nat) : (s.setPar id inst v).mbox m = s.mbox m := rfl
@[simp] theorem State.setShadow_mbox (id inst v : Nat) (m : Nat) : (s.setShadow id inst v).mbox m = s.mbox m := rfl
@[simp] theorem State.acceptLive_mbox (id inst v : Nat) (m : Nat) : (s.acceptLive id inst v).mbox m = s.mbox m := rfl
@[simp] theorem State.setFb_mbox (b : Nat) (f : FaultBlock) (m : Nat) : (s.setFb b f).mbox m = s.mbox m := rfl
@[simp] theorem State.ask_mbox (r : Raise) (m : Nat) : (s.ask r).mbox m = s.mbox m := rfl
@[simp] theorem State.trace_mbox (typ info : Nat) (e : Option (List Byte)) (m : Nat) : (s.trace typ info e).mbox m = s.mbox m := rfl
@[simp] theorem State.answer_mbox (st det : Nat) (d : List Byte) (m : Nat) : (s.answer st det d).mbox m = s.mbox m := rfl
@[simp] theorem State.setCell_mbox (n : Nat) (x : Cell) (m : Nat) : (s.setCell n x).mbox m = s.mbox m := rfl
@[simp] theorem State.setRing_mbox (n : Nat) (x : Ring) (m : Nat) : (s.setRing n x).mbox m = s.mbox m := rfl
@[simp] theorem State.setLane_mbox (n : Nat) (x : Lane) (m : Nat) : (s.setLane n x).mbox m = s.mbox m := rfl
@[simp] theorem State.setGroup_mbox (n : Nat) (x : Group) (m : Nat) : (s.setGroup n x).mbox m = s.mbox m := rfl
@[simp] theorem State.setIc_mbox (n : Nat) (x : IntConv) (m : Nat) : (s.setIc n x).mbox m = s.mbox m := rfl
@[simp] theorem State.setCmp_mbox (n : Nat) (x : Comparator) (m : Nat) : (s.setCmp n x).mbox m = s.mbox m := rfl
@[simp] theorem State.setSession_mbox (n : Nat) (x : Session) (m : Nat) : (s.setSession n x).mbox m = s.mbox m := rfl
@[simp] theorem State.setEng_mbox (x : Engine) (m : Nat) : (s.setEng x).mbox m = s.mbox m := rfl
@[simp] theorem State.setTimer_mbox (n : Nat) (x : Timer) (m : Nat) : (s.setTimer n x).mbox m = s.mbox m := rfl
@[simp] theorem State.setGrist_mbox (x : Grist) (m : Nat) : (s.setGrist x).mbox m = s.mbox m := rfl
@[simp] theorem State.setSl_mbox (x : SyncLink) (m : Nat) : (s.setSl x).mbox m = s.mbox m := rfl
@[simp] theorem State.setTst_mbox (x : TestTrace) (m : Nat) : (s.setTst x).mbox m = s.mbox m := rfl
@[simp] theorem State.setPwr_mbox (x : Power) (m : Nat) : (s.setPwr x).mbox m = s.mbox m := rfl
@[simp] theorem State.setPar_session (id inst v : Nat) (m : Nat) : (s.setPar id inst v).session m = s.session m := rfl
@[simp] theorem State.setShadow_session (id inst v : Nat) (m : Nat) : (s.setShadow id inst v).session m = s.session m := rfl
@[simp] theorem State.acceptLive_session (id inst v : Nat) (m : Nat) : (s.acceptLive id inst v).session m = s.session m := rfl
@[simp] theorem State.setFb_session (b : Nat) (f : FaultBlock) (m : Nat) : (s.setFb b f).session m = s.session m := rfl
@[simp] theorem State.ask_session (r : Raise) (m : Nat) : (s.ask r).session m = s.session m := rfl
@[simp] theorem State.trace_session (typ info : Nat) (e : Option (List Byte)) (m : Nat) : (s.trace typ info e).session m = s.session m := rfl
@[simp] theorem State.answer_session (st det : Nat) (d : List Byte) (m : Nat) : (s.answer st det d).session m = s.session m := rfl
@[simp] theorem State.setCell_session (n : Nat) (x : Cell) (m : Nat) : (s.setCell n x).session m = s.session m := rfl
@[simp] theorem State.setMbox_session (n : Nat) (x : Mailbox) (m : Nat) : (s.setMbox n x).session m = s.session m := rfl
@[simp] theorem State.setRing_session (n : Nat) (x : Ring) (m : Nat) : (s.setRing n x).session m = s.session m := rfl
@[simp] theorem State.setLane_session (n : Nat) (x : Lane) (m : Nat) : (s.setLane n x).session m = s.session m := rfl
@[simp] theorem State.setGroup_session (n : Nat) (x : Group) (m : Nat) : (s.setGroup n x).session m = s.session m := rfl
@[simp] theorem State.setIc_session (n : Nat) (x : IntConv) (m : Nat) : (s.setIc n x).session m = s.session m := rfl
@[simp] theorem State.setCmp_session (n : Nat) (x : Comparator) (m : Nat) : (s.setCmp n x).session m = s.session m := rfl
@[simp] theorem State.setEng_session (x : Engine) (m : Nat) : (s.setEng x).session m = s.session m := rfl
@[simp] theorem State.setTimer_session (n : Nat) (x : Timer) (m : Nat) : (s.setTimer n x).session m = s.session m := rfl
@[simp] theorem State.setGrist_session (x : Grist) (m : Nat) : (s.setGrist x).session m = s.session m := rfl
@[simp] theorem State.setSl_session (x : SyncLink) (m : Nat) : (s.setSl x).session m = s.session m := rfl
@[simp] theorem State.setTst_session (x : TestTrace) (m : Nat) : (s.setTst x).session m = s.session m := rfl
@[simp] theorem State.setPwr_session (x : Power) (m : Nat) : (s.setPwr x).session m = s.session m := rfl
@[simp] theorem State.setPar_timer (id inst v : Nat) (m : Nat) : (s.setPar id inst v).timer m = s.timer m := rfl
@[simp] theorem State.setShadow_timer (id inst v : Nat) (m : Nat) : (s.setShadow id inst v).timer m = s.timer m := rfl
@[simp] theorem State.acceptLive_timer (id inst v : Nat) (m : Nat) : (s.acceptLive id inst v).timer m = s.timer m := rfl
@[simp] theorem State.setFb_timer (b : Nat) (f : FaultBlock) (m : Nat) : (s.setFb b f).timer m = s.timer m := rfl
@[simp] theorem State.ask_timer (r : Raise) (m : Nat) : (s.ask r).timer m = s.timer m := rfl
@[simp] theorem State.trace_timer (typ info : Nat) (e : Option (List Byte)) (m : Nat) : (s.trace typ info e).timer m = s.timer m := rfl
@[simp] theorem State.answer_timer (st det : Nat) (d : List Byte) (m : Nat) : (s.answer st det d).timer m = s.timer m := rfl
@[simp] theorem State.setCell_timer (n : Nat) (x : Cell) (m : Nat) : (s.setCell n x).timer m = s.timer m := rfl
@[simp] theorem State.setMbox_timer (n : Nat) (x : Mailbox) (m : Nat) : (s.setMbox n x).timer m = s.timer m := rfl
@[simp] theorem State.setRing_timer (n : Nat) (x : Ring) (m : Nat) : (s.setRing n x).timer m = s.timer m := rfl
@[simp] theorem State.setLane_timer (n : Nat) (x : Lane) (m : Nat) : (s.setLane n x).timer m = s.timer m := rfl
@[simp] theorem State.setGroup_timer (n : Nat) (x : Group) (m : Nat) : (s.setGroup n x).timer m = s.timer m := rfl
@[simp] theorem State.setIc_timer (n : Nat) (x : IntConv) (m : Nat) : (s.setIc n x).timer m = s.timer m := rfl
@[simp] theorem State.setCmp_timer (n : Nat) (x : Comparator) (m : Nat) : (s.setCmp n x).timer m = s.timer m := rfl
@[simp] theorem State.setSession_timer (n : Nat) (x : Session) (m : Nat) : (s.setSession n x).timer m = s.timer m := rfl
@[simp] theorem State.setEng_timer (x : Engine) (m : Nat) : (s.setEng x).timer m = s.timer m := rfl
@[simp] theorem State.setGrist_timer (x : Grist) (m : Nat) : (s.setGrist x).timer m = s.timer m := rfl
@[simp] theorem State.setSl_timer (x : SyncLink) (m : Nat) : (s.setSl x).timer m = s.timer m := rfl
@[simp] theorem State.setTst_timer (x : TestTrace) (m : Nat) : (s.setTst x).timer m = s.timer m := rfl
@[simp] theorem State.setPwr_timer (x : Power) (m : Nat) : (s.setPwr x).timer m = s.timer m := rfl
@[simp] theorem State.setPar_fb (id inst v : Nat) (m : Nat) : (s.setPar id inst v).fb m = s.fb m := rfl
@[simp] theorem State.setShadow_fb (id inst v : Nat) (m : Nat) : (s.setShadow id inst v).fb m = s.fb m := rfl
@[simp] theorem State.acceptLive_fb (id inst v : Nat) (m : Nat) : (s.acceptLive id inst v).fb m = s.fb m := rfl
@[simp] theorem State.ask_fb (r : Raise) (m : Nat) : (s.ask r).fb m = s.fb m := rfl
@[simp] theorem State.trace_fb (typ info : Nat) (e : Option (List Byte)) (m : Nat) : (s.trace typ info e).fb m = s.fb m := rfl
@[simp] theorem State.answer_fb (st det : Nat) (d : List Byte) (m : Nat) : (s.answer st det d).fb m = s.fb m := rfl
@[simp] theorem State.setCell_fb (n : Nat) (x : Cell) (m : Nat) : (s.setCell n x).fb m = s.fb m := rfl
@[simp] theorem State.setMbox_fb (n : Nat) (x : Mailbox) (m : Nat) : (s.setMbox n x).fb m = s.fb m := rfl
@[simp] theorem State.setRing_fb (n : Nat) (x : Ring) (m : Nat) : (s.setRing n x).fb m = s.fb m := rfl
@[simp] theorem State.setLane_fb (n : Nat) (x : Lane) (m : Nat) : (s.setLane n x).fb m = s.fb m := rfl
@[simp] theorem State.setGroup_fb (n : Nat) (x : Group) (m : Nat) : (s.setGroup n x).fb m = s.fb m := rfl
@[simp] theorem State.setIc_fb (n : Nat) (x : IntConv) (m : Nat) : (s.setIc n x).fb m = s.fb m := rfl
@[simp] theorem State.setCmp_fb (n : Nat) (x : Comparator) (m : Nat) : (s.setCmp n x).fb m = s.fb m := rfl
@[simp] theorem State.setSession_fb (n : Nat) (x : Session) (m : Nat) : (s.setSession n x).fb m = s.fb m := rfl
@[simp] theorem State.setEng_fb (x : Engine) (m : Nat) : (s.setEng x).fb m = s.fb m := rfl
@[simp] theorem State.setTimer_fb (n : Nat) (x : Timer) (m : Nat) : (s.setTimer n x).fb m = s.fb m := rfl
@[simp] theorem State.setGrist_fb (x : Grist) (m : Nat) : (s.setGrist x).fb m = s.fb m := rfl
@[simp] theorem State.setSl_fb (x : SyncLink) (m : Nat) : (s.setSl x).fb m = s.fb m := rfl
@[simp] theorem State.setTst_fb (x : TestTrace) (m : Nat) : (s.setTst x).fb m = s.fb m := rfl
@[simp] theorem State.setPwr_fb (x : Power) (m : Nat) : (s.setPwr x).fb m = s.fb m := rfl
@[simp] theorem State.setPar_hopperUp (id inst v : Nat) : (s.setPar id inst v).hopperUp = s.hopperUp := rfl
@[simp] theorem State.setShadow_hopperUp (id inst v : Nat) : (s.setShadow id inst v).hopperUp = s.hopperUp := rfl
@[simp] theorem State.acceptLive_hopperUp (id inst v : Nat) : (s.acceptLive id inst v).hopperUp = s.hopperUp := rfl
@[simp] theorem State.ask_hopperUp (r : Raise) : (s.ask r).hopperUp = s.hopperUp := rfl
@[simp] theorem State.trace_hopperUp (typ info : Nat) (e : Option (List Byte)) : (s.trace typ info e).hopperUp = s.hopperUp := rfl
@[simp] theorem State.answer_hopperUp (st det : Nat) (d : List Byte) : (s.answer st det d).hopperUp = s.hopperUp := rfl
@[simp] theorem State.setCell_hopperUp (n : Nat) (x : Cell) : (s.setCell n x).hopperUp = s.hopperUp := rfl
@[simp] theorem State.setMbox_hopperUp (n : Nat) (x : Mailbox) : (s.setMbox n x).hopperUp = s.hopperUp := rfl
@[simp] theorem State.setRing_hopperUp (n : Nat) (x : Ring) : (s.setRing n x).hopperUp = s.hopperUp := rfl
@[simp] theorem State.setLane_hopperUp (n : Nat) (x : Lane) : (s.setLane n x).hopperUp = s.hopperUp := rfl
@[simp] theorem State.setGroup_hopperUp (n : Nat) (x : Group) : (s.setGroup n x).hopperUp = s.hopperUp := rfl
@[simp] theorem State.setIc_hopperUp (n : Nat) (x : IntConv) : (s.setIc n x).hopperUp = s.hopperUp := rfl
@[simp] theorem State.setCmp_hopperUp (n : Nat) (x : Comparator) : (s.setCmp n x).hopperUp = s.hopperUp := rfl
@[simp] theorem State.setSession_hopperUp (n : Nat) (x : Session) : (s.setSession n x).hopperUp = s.hopperUp := rfl
@[simp] theorem State.setEng_hopperUp (x : Engine) : (s.setEng x).hopperUp = s.hopperUp := rfl
@[simp] theorem State.setTimer_hopperUp (n : Nat) (x : Timer) : (s.setTimer n x).hopperUp = s.hopperUp := rfl
@[simp] theorem State.setGrist_hopperUp (x : Grist) : (s.setGrist x).hopperUp = s.hopperUp := rfl
@[simp] theorem State.setSl_hopperUp (x : SyncLink) : (s.setSl x).hopperUp = s.hopperUp := rfl
@[simp] theorem State.setTst_hopperUp (x : TestTrace) : (s.setTst x).hopperUp = s.hopperUp := rfl
@[simp] theorem State.setPar_alive (id inst v : Nat) : (s.setPar id inst v).alive = s.alive := rfl
@[simp] theorem State.setShadow_alive (id inst v : Nat) : (s.setShadow id inst v).alive = s.alive := rfl
@[simp] theorem State.acceptLive_alive (id inst v : Nat) : (s.acceptLive id inst v).alive = s.alive := rfl
@[simp] theorem State.ask_alive (r : Raise) : (s.ask r).alive = s.alive := rfl
@[simp] theorem State.trace_alive (typ info : Nat) (e : Option (List Byte)) : (s.trace typ info e).alive = s.alive := rfl
@[simp] theorem State.answer_alive (st det : Nat) (d : List Byte) : (s.answer st det d).alive = s.alive := rfl
@[simp] theorem State.setCell_alive (n : Nat) (x : Cell) : (s.setCell n x).alive = s.alive := rfl
@[simp] theorem State.setMbox_alive (n : Nat) (x : Mailbox) : (s.setMbox n x).alive = s.alive := rfl
@[simp] theorem State.setRing_alive (n : Nat) (x : Ring) : (s.setRing n x).alive = s.alive := rfl
@[simp] theorem State.setLane_alive (n : Nat) (x : Lane) : (s.setLane n x).alive = s.alive := rfl
@[simp] theorem State.setGroup_alive (n : Nat) (x : Group) : (s.setGroup n x).alive = s.alive := rfl
@[simp] theorem State.setIc_alive (n : Nat) (x : IntConv) : (s.setIc n x).alive = s.alive := rfl
@[simp] theorem State.setCmp_alive (n : Nat) (x : Comparator) : (s.setCmp n x).alive = s.alive := rfl
@[simp] theorem State.setSession_alive (n : Nat) (x : Session) : (s.setSession n x).alive = s.alive := rfl
@[simp] theorem State.setEng_alive (x : Engine) : (s.setEng x).alive = s.alive := rfl
@[simp] theorem State.setTimer_alive (n : Nat) (x : Timer) : (s.setTimer n x).alive = s.alive := rfl
@[simp] theorem State.setGrist_alive (x : Grist) : (s.setGrist x).alive = s.alive := rfl
@[simp] theorem State.setSl_alive (x : SyncLink) : (s.setSl x).alive = s.alive := rfl
@[simp] theorem State.setTst_alive (x : TestTrace) : (s.setTst x).alive = s.alive := rfl
@[simp] theorem State.setPar_resetting (id inst v : Nat) (c : Nat) : (s.setPar id inst v).resetting c = s.resetting c := rfl
@[simp] theorem State.setShadow_resetting (id inst v : Nat) (c : Nat) : (s.setShadow id inst v).resetting c = s.resetting c := rfl
@[simp] theorem State.acceptLive_resetting (id inst v : Nat) (c : Nat) : (s.acceptLive id inst v).resetting c = s.resetting c := rfl
@[simp] theorem State.setFb_resetting (b : Nat) (f : FaultBlock) (c : Nat) : (s.setFb b f).resetting c = s.resetting c := rfl
@[simp] theorem State.ask_resetting (r : Raise) (c : Nat) : (s.ask r).resetting c = s.resetting c := rfl
@[simp] theorem State.trace_resetting (typ info : Nat) (e : Option (List Byte)) (c : Nat) : (s.trace typ info e).resetting c = s.resetting c := rfl
@[simp] theorem State.answer_resetting (st det : Nat) (d : List Byte) (c : Nat) : (s.answer st det d).resetting c = s.resetting c := rfl
@[simp] theorem State.setCell_resetting (n : Nat) (x : Cell) (c : Nat) : (s.setCell n x).resetting c = s.resetting c := rfl
@[simp] theorem State.setMbox_resetting (n : Nat) (x : Mailbox) (c : Nat) : (s.setMbox n x).resetting c = s.resetting c := rfl
@[simp] theorem State.setRing_resetting (n : Nat) (x : Ring) (c : Nat) : (s.setRing n x).resetting c = s.resetting c := rfl
@[simp] theorem State.setLane_resetting (n : Nat) (x : Lane) (c : Nat) : (s.setLane n x).resetting c = s.resetting c := rfl
@[simp] theorem State.setGroup_resetting (n : Nat) (x : Group) (c : Nat) : (s.setGroup n x).resetting c = s.resetting c := rfl
@[simp] theorem State.setIc_resetting (n : Nat) (x : IntConv) (c : Nat) : (s.setIc n x).resetting c = s.resetting c := rfl
@[simp] theorem State.setCmp_resetting (n : Nat) (x : Comparator) (c : Nat) : (s.setCmp n x).resetting c = s.resetting c := rfl
@[simp] theorem State.setSession_resetting (n : Nat) (x : Session) (c : Nat) : (s.setSession n x).resetting c = s.resetting c := rfl
@[simp] theorem State.setEng_resetting (x : Engine) (c : Nat) : (s.setEng x).resetting c = s.resetting c := rfl
@[simp] theorem State.setTimer_resetting (n : Nat) (x : Timer) (c : Nat) : (s.setTimer n x).resetting c = s.resetting c := rfl
@[simp] theorem State.setGrist_resetting (x : Grist) (c : Nat) : (s.setGrist x).resetting c = s.resetting c := rfl
@[simp] theorem State.setSl_resetting (x : SyncLink) (c : Nat) : (s.setSl x).resetting c = s.resetting c := rfl
@[simp] theorem State.setTst_resetting (x : TestTrace) (c : Nat) : (s.setTst x).resetting c = s.resetting c := rfl

/-! ### Reads after updates -/

@[simp] theorem State.cell_setCell (n : Nat) (x : Cell) : (s.setCell n x).cell n = x := tblGet_tblSet_same _ _ _ _
theorem State.cell_setCell_ne {n m : Nat} (x : Cell) (h : m ≠ n) : (s.setCell n x).cell m = s.cell m := tblGet_tblSet_ne _ _ _ _ h
@[simp] theorem State.mbox_setMbox (n : Nat) (x : Mailbox) : (s.setMbox n x).mbox n = x := tblGet_tblSet_same _ _ _ _
theorem State.mbox_setMbox_ne {n m : Nat} (x : Mailbox) (h : m ≠ n) : (s.setMbox n x).mbox m = s.mbox m := tblGet_tblSet_ne _ _ _ _ h
@[simp] theorem State.ring_setRing (n : Nat) (x : Ring) : (s.setRing n x).ring n = x := tblGet_tblSet_same _ _ _ _
theorem State.ring_setRing_ne {n m : Nat} (x : Ring) (h : m ≠ n) : (s.setRing n x).ring m = s.ring m := tblGet_tblSet_ne _ _ _ _ h
@[simp] theorem State.lane_setLane (n : Nat) (x : Lane) : (s.setLane n x).lane n = x := tblGet_tblSet_same _ _ _ _
theorem State.lane_setLane_ne {n m : Nat} (x : Lane) (h : m ≠ n) : (s.setLane n x).lane m = s.lane m := tblGet_tblSet_ne _ _ _ _ h
@[simp] theorem State.group_setGroup (n : Nat) (x : Group) : (s.setGroup n x).group n = x := tblGet_tblSet_same _ _ _ _
theorem State.group_setGroup_ne {n m : Nat} (x : Group) (h : m ≠ n) : (s.setGroup n x).group m = s.group m := tblGet_tblSet_ne _ _ _ _ h
@[simp] theorem State.ic_setIc (n : Nat) (x : IntConv) : (s.setIc n x).ic n = x := tblGet_tblSet_same _ _ _ _
theorem State.ic_setIc_ne {n m : Nat} (x : IntConv) (h : m ≠ n) : (s.setIc n x).ic m = s.ic m := tblGet_tblSet_ne _ _ _ _ h
@[simp] theorem State.cmp_setCmp (n : Nat) (x : Comparator) : (s.setCmp n x).cmp n = x := tblGet_tblSet_same _ _ _ _
theorem State.cmp_setCmp_ne {n m : Nat} (x : Comparator) (h : m ≠ n) : (s.setCmp n x).cmp m = s.cmp m := tblGet_tblSet_ne _ _ _ _ h
@[simp] theorem State.session_setSession (n : Nat) (x : Session) : (s.setSession n x).session n = x := tblGet_tblSet_same _ _ _ _
theorem State.session_setSession_ne {n m : Nat} (x : Session) (h : m ≠ n) : (s.setSession n x).session m = s.session m := tblGet_tblSet_ne _ _ _ _ h
@[simp] theorem State.timer_setTimer (n : Nat) (x : Timer) : (s.setTimer n x).timer n = x := tblGet_tblSet_same _ _ _ _
theorem State.timer_setTimer_ne {n m : Nat} (x : Timer) (h : m ≠ n) : (s.setTimer n x).timer m = s.timer m := tblGet_tblSet_ne _ _ _ _ h
@[simp] theorem State.fb_setFb (b : Nat) (f : FaultBlock) : (s.setFb b f).fb b = f := tblGet_tblSet_same _ _ _ _
theorem State.fb_setFb_ne {b c : Nat} (f : FaultBlock) (h : c ≠ b) : (s.setFb b f).fb c = s.fb c := tblGet_tblSet_ne _ _ _ _ h

/-- A value in force that has been set reads as its low 32 bits. -/
@[simp] theorem State.par_setPar (id inst v : Nat) : (s.setPar id inst v).par id inst = v % 2 ^ 32 := by
  simp [State.par, bankGet, bankSet]

/-- Setting one value leaves those under other keys. -/
theorem State.par_setPar_ne {id inst id' inst' : Nat} (v : Nat) (h : paramKey id' inst' ≠ paramKey id inst) :
    (s.setPar id inst v).par id' inst' = s.par id' inst' := by
  simp only [State.par, bankGet, bankSet, State.setPar]
  rw [tblGet_tblSet_ne _ _ _ _ h]

@[simp] theorem State.shadowPar_setShadow (id inst v : Nat) : (s.setShadow id inst v).shadowPar id inst = v % 2 ^ 32 := by
  simp [State.shadowPar, bankGet, bankSet]

/-! ### Of two settings of one instance the later one stands -/

@[simp] theorem State.setCell_setCell (n : Nat) (x y : Cell) : (s.setCell n x).setCell n y = s.setCell n y := by
  simp [State.setCell]

@[simp] theorem State.setCmp_setCmp (n : Nat) (x y : Comparator) : (s.setCmp n x).setCmp n y = s.setCmp n y := by
  simp [State.setCmp]

@[simp] theorem State.setGroup_setGroup (n : Nat) (x y : Group) : (s.setGroup n x).setGroup n y = s.setGroup n y := by
  simp [State.setGroup]

@[simp] theorem State.setIc_setIc (n : Nat) (x y : IntConv) : (s.setIc n x).setIc n y = s.setIc n y := by
  simp [State.setIc]

@[simp] theorem State.setLane_setLane (n : Nat) (x y : Lane) : (s.setLane n x).setLane n y = s.setLane n y := by
  simp [State.setLane]

@[simp] theorem State.setTimer_setTimer (n : Nat) (x y : Timer) : (s.setTimer n x).setTimer n y = s.setTimer n y := by
  simp [State.setTimer]

/-- Keys of parameter instances are distinct. -/
theorem paramKey_ne {id inst id' inst' : Nat} (hi : inst < 256) (hi' : inst' < 256) (h : id ≠ id' ∨ inst ≠ inst') :
    paramKey id inst ≠ paramKey id' inst' := by
  simp only [paramKey]; omega

end Sys2Proof.Machine
end

