-- ==== Sys2Proof/Laws/Ops.lean ====
section
/-! SUPPORT. What the shared operations do, said once: writes of command parameters, the arms' outcome and the edge's end, and
packets that pass the steps of acceptance. -/

namespace Sys2Proof.Machine

/-! ### Outcomes -/

/-- An edge's end keeps the queue. -/
@[simp] theorem State.finish_pending (s0 s : State) : (s0.finish s).pending = s0.pending := rfl

/-- An edge's end never releases Halt (R482). -/
theorem State.finish_halted {s0 : State} (s : State) (h : s0.flt.halted = true) : (s0.finish s).flt.halted = true := by
  simp [State.finish, State.held, h]

/-- A member of a list that is there. -/
theorem nthD_of_lt {α : Type} (d : α) {l : List α} {k : Nat} (h : k < l.length) : nthD d l k = l[k] := by
  induction l generalizing k with
  | nil => exact absurd h (Nat.not_lt_zero _)
  | cons a t ih =>
    cases k with
    | zero => rfl
    | succ n => simpa [nthD] using ih (by simpa using h)

/-! ### Writes of command parameters -/

/-- A command parameter's write that passes the checks acts as its chapter defines. -/
theorem State.hostWrite_cmd {s : State} {id inst v : Nat} {d : ParamDef} (hd : paramDef? id = some d) (hup : s.hopperUp = true)
    (hattr : d.attr = .cmd) (hi : inst < d.count) (hv : valueOk id inst v = true)
    (hr : s.resetting (ownerOf id inst) = false) (ho : s.ownCheck id inst v = Status.ok)
    (hrel : s.relationCheck id inst = Status.ok) :
    s.hostWrite id inst v = s.cmdWrite State.grImmediate id inst v := by
  have ha : attrOf id = .cmd := by simp [attrOf, hd, hattr]
  have he : paramExists id inst = true := by simp [paramExists, hd, hi]
  have hw : s.writeCheck id inst v = (Status.ok, 0) := by
    simp [State.writeCheck, he, ha, hv, hr, ho]
  simp [State.hostWrite, hup, State.writeWith, State.checkWrites, State.checkEach, State.checkRelations, hw, State.scratch, ha, hrel, State.countWrite]

/-- A write of `HP_PCTRL` that the command layer takes. -/
theorem State.hostWrite_HP_PCTRL {s : State} {v : Nat} (hup : s.hopperUp = true)
    (hv : valueOk P.HP_PCTRL 0 v = true) (hr : s.resetting Fb.ports = false) :
    s.hostWrite P.HP_PCTRL 0 v = s.pctrlClear :=
  State.hostWrite_cmd (d := ⟨P.HP_PCTRL, .cmd, 1, .each [], .spans [(1, 1)]⟩) rfl hup rfl Nat.one_pos hv hr rfl rfl

/-- A write of `WH_CTRL` that the command layer takes. -/
theorem State.hostWrite_WH_CTRL {s : State} {v : Nat} (hup : s.hopperUp = true)
    (hv : valueOk P.WH_CTRL 0 v = true) (hr : s.resetting Fb.wheel = false) :
    s.hostWrite P.WH_CTRL 0 v = s.whCtrl v :=
  State.hostWrite_cmd (d := ⟨P.WH_CTRL, .cmd, 1, .each [], .spans [(1, 4)]⟩) rfl hup rfl Nat.one_pos hv hr rfl rfl

/-- A write of `WH_TQCTL` that the command layer takes. -/
theorem State.hostWrite_WH_TQCTL {s : State} {n v : Nat} (hup : s.hopperUp = true) (hn : n < 16)
    (hv : valueOk P.WH_TQCTL n v = true) (hr : s.resetting Fb.wheel = false) (hq : (decide (n = 15) && s.tq15Reserved) = false) :
    s.hostWrite P.WH_TQCTL n v = (if v = 1 then s.tqEnable n else if v = 2 then s.tqDisable n else s.tqClear n) :=
  State.hostWrite_cmd (d := ⟨P.WH_TQCTL, .cmd, 16, .each [], .spans [(1, 3)]⟩) rfl hup rfl hn hv hr (by
      simp only [State.ownCheck]
      simp only [Bool.and_eq_false_iff, decide_eq_false_iff_not] at hq
      have : ¬ (n = 15 ∧ s.tq15Reserved = true) := by
        rintro ⟨a, b⟩; rcases hq with hq | hq
        · exact hq a
        · rw [b] at hq; cases hq
      simp [this]) rfl

/-- A write of `AC_CTRL` that the command layer takes. -/
theorem State.hostWrite_AC_CTRL {s : State} {n v : Nat} (hup : s.hopperUp = true) (hn : n < 64)
    (hv : valueOk P.AC_CTRL n v = true) (hr : s.resetting (Fb.cell n) = false) :
    s.hostWrite P.AC_CTRL n v = s.acCtrl n v :=
  State.hostWrite_cmd (d := ⟨P.AC_CTRL, .cmd, 64, .each [], .spans [(1, 2)]⟩) rfl hup rfl hn hv hr rfl rfl

/-- A write of `CMP_CTRL` that the command layer takes. -/
theorem State.hostWrite_CMP_CTRL {s : State} {n v : Nat} (hup : s.hopperUp = true) (hn : n < 64)
    (hv : valueOk P.CMP_CTRL n v = true) (hr : s.resetting (Fb.cmp n) = false) :
    s.hostWrite P.CMP_CTRL n v = s.cmpCtrl n v :=
  State.hostWrite_cmd (d := ⟨P.CMP_CTRL, .cmd, 64, .each [], .spans [(1, 6)]⟩) rfl hup rfl hn hv hr rfl rfl

/-- A write of `SAR_CTRL` that the command layer takes. -/
theorem State.hostWrite_SAR_CTRL {s : State} {n v : Nat} (hup : s.hopperUp = true) (hn : n < 4)
    (hv : valueOk P.SAR_CTRL n v = true) (hr : s.resetting (Fb.sar n) = false) :
    s.hostWrite P.SAR_CTRL n v = s.sarCtrl n v :=
  State.hostWrite_cmd (d := ⟨P.SAR_CTRL, .cmd, 4, .each [], .command 4 0xFFF⟩) rfl hup rfl hn hv hr rfl rfl

/-- A write of `SAR_SYSCAL` that the command layer takes. -/
theorem State.hostWrite_SAR_SYSCAL {s : State} {n v : Nat} (hup : s.hopperUp = true) (hn : n < 4)
    (hv : valueOk P.SAR_SYSCAL n v = true) (hr : s.resetting (Fb.sar n) = false) :
    s.hostWrite P.SAR_SYSCAL n v = s.sysCalWrite n v :=
  State.hostWrite_cmd (d := ⟨P.SAR_SYSCAL, .cmd, 4, .each [], .bits 0x33F⟩) rfl hup rfl hn hv hr rfl rfl

/-- A write of `IC_CTRL` that the command layer takes. -/
theorem State.hostWrite_IC_CTRL {s : State} {n v : Nat} (hup : s.hopperUp = true) (hn : n < 8)
    (hv : valueOk P.IC_CTRL n v = true) (hr : s.resetting (Fb.ic n) = false) :
    s.hostWrite P.IC_CTRL n v = s.icCtrl n v :=
  State.hostWrite_cmd (d := ⟨P.IC_CTRL, .cmd, 8, .each [], .command 4 0x3FF⟩) rfl hup rfl hn hv hr rfl rfl

/-- A write of `FL_CTRL` that the command layer takes. -/
theorem State.hostWrite_FL_CTRL {s : State} {n v : Nat} (hup : s.hopperUp = true) (hn : n < 32)
    (hv : valueOk P.FL_CTRL n v = true) (hr : s.resetting (Fb.lane n) = false) :
    s.hostWrite P.FL_CTRL n v = s.flCtrl n v :=
  State.hostWrite_cmd (d := ⟨P.FL_CTRL, .cmd, 32, .each [], .spans [(1, 3)]⟩) rfl hup rfl hn hv hr rfl rfl

/-- A write of `FAB_CTRL` that the command layer takes. -/
theorem State.hostWrite_FAB_CTRL {s : State} {v : Nat} (hup : s.hopperUp = true)
    (hv : valueOk P.FAB_CTRL 0 v = true) (hr : s.resetting Fb.fabric = false) :
    s.hostWrite P.FAB_CTRL 0 v = s.fabCtrl v :=
  State.hostWrite_cmd (d := ⟨P.FAB_CTRL, .cmd, 1, .each [], .spans [(1, 3)]⟩) rfl hup rfl Nat.one_pos hv hr rfl rfl

/-- A write of `TM_CTRL` that the command layer takes. -/
theorem State.hostWrite_TM_CTRL {s : State} {n v : Nat} (hup : s.hopperUp = true) (hn : n < 64)
    (hv : valueOk P.TM_CTRL n v = true) (hr : s.resetting (Fb.timer n) = false) :
    s.hostWrite P.TM_CTRL n v = s.tmCtrl n v :=
  State.hostWrite_cmd (d := ⟨P.TM_CTRL, .cmd, 64, .each [], .spans [(1, 5)]⟩) rfl hup rfl hn hv hr rfl rfl

/-- A write of `KL_CTRL` that the command layer takes. -/
theorem State.hostWrite_KL_CTRL {s : State} {v : Nat} (hup : s.hopperUp = true)
    (hv : valueOk P.KL_CTRL 0 v = true) (hr : s.resetting Fb.kiln = false) :
    s.hostWrite P.KL_CTRL 0 v = s.klHostCtrl v :=
  State.hostWrite_cmd (d := ⟨P.KL_CTRL, .cmd, 1, .each [], .spans [(1, 5)]⟩) rfl hup rfl Nat.one_pos hv hr rfl rfl

/-- A write of `CAL_CTRL` that the command layer takes. -/
theorem State.hostWrite_CAL_CTRL {s : State} {v : Nat} (hup : s.hopperUp = true)
    (hv : valueOk P.CAL_CTRL 0 v = true) (hr : s.resetting Fb.cal = false) :
    s.hostWrite P.CAL_CTRL 0 v = s.calCtrl v :=
  State.hostWrite_cmd (d := ⟨P.CAL_CTRL, .cmd, 1, .each [], .spans [(1, 5)]⟩) rfl hup rfl Nat.one_pos hv hr rfl rfl

/-- A write of `GR_CTRL` that the command layer takes. -/
theorem State.hostWrite_GR_CTRL {s : State} {v : Nat} (hup : s.hopperUp = true)
    (hv : valueOk P.GR_CTRL 0 v = true) (hr : s.resetting Fb.grist = false) :
    s.hostWrite P.GR_CTRL 0 v = s.grCtrl State.grImmediate v :=
  State.hostWrite_cmd (d := ⟨P.GR_CTRL, .cmd, 1, .each [], .command 8 0xFFFF⟩) rfl hup rfl Nat.one_pos hv hr rfl rfl

/-- A write of `MB_CTRL` that the command layer takes. -/
theorem State.hostWrite_MB_CTRL {s : State} {n v : Nat} (hup : s.hopperUp = true) (hn : n < 16)
    (hv : valueOk P.MB_CTRL n v = true) (hr : s.resetting Fb.streams = false) :
    s.hostWrite P.MB_CTRL n v = s.mbCtrl n v :=
  State.hostWrite_cmd (d := ⟨P.MB_CTRL, .cmd, 16, .each [], .spans [(1, 2)]⟩) rfl hup rfl hn hv hr rfl rfl

/-- A write of `ST_CTRL` that the command layer takes. -/
theorem State.hostWrite_ST_CTRL {s : State} {n v : Nat} (hup : s.hopperUp = true) (hn : n < 64)
    (hv : valueOk P.ST_CTRL n v = true) (hr : s.resetting Fb.streams = false) :
    s.hostWrite P.ST_CTRL n v = s.stCtrl n v :=
  State.hostWrite_cmd (d := ⟨P.ST_CTRL, .cmd, 64, .each [], .command 5 0xFFFF00FF⟩) rfl hup rfl hn hv hr rfl rfl

/-- A write of `ST_POOLCTRL` that the command layer takes. -/
theorem State.hostWrite_ST_POOLCTRL {s : State} {v : Nat} (hup : s.hopperUp = true)
    (hv : valueOk P.ST_POOLCTRL 0 v = true) (hr : s.resetting Fb.streams = false) :
    s.hostWrite P.ST_POOLCTRL 0 v = s.poolCtrl v :=
  State.hostWrite_cmd (d := ⟨P.ST_POOLCTRL, .cmd, 1, .each [], .spans [(1, 2)]⟩) rfl hup rfl Nat.one_pos hv hr rfl rfl

/-- A write of `FLT_CTRL` that the command layer takes. -/
theorem State.hostWrite_FLT_CTRL {s : State} {v : Nat} (hup : s.hopperUp = true)
    (hv : valueOk P.FLT_CTRL 0 v = true) (hr : s.resetting Fb.faults = false) :
    s.hostWrite P.FLT_CTRL 0 v = s.fltCtrl v :=
  State.hostWrite_cmd (d := ⟨P.FLT_CTRL, .cmd, 1, .each [], .command 4 0xFFFFF⟩) rfl hup rfl Nat.one_pos hv hr rfl rfl

/-- A write of `SL_CTRL` that the command layer takes. -/
theorem State.hostWrite_SL_CTRL {s : State} {v : Nat} (hup : s.hopperUp = true)
    (hv : valueOk P.SL_CTRL 0 v = true) (hr : s.resetting Fb.sync = false) :
    s.hostWrite P.SL_CTRL 0 v = s.slCtrl v :=
  State.hostWrite_cmd (d := ⟨P.SL_CTRL, .cmd, 1, .each [], .spans [(1, 4)]⟩) rfl hup rfl Nat.one_pos hv hr rfl rfl

/-- A write of `TST_CTRL` that the command layer takes. -/
theorem State.hostWrite_TST_CTRL {s : State} {v : Nat} (hup : s.hopperUp = true)
    (hv : valueOk P.TST_CTRL 0 v = true) (hr : s.resetting Fb.test = false) :
    s.hostWrite P.TST_CTRL 0 v = s.tstCtrl v :=
  State.hostWrite_cmd (d := ⟨P.TST_CTRL, .cmd, 1, .each [], .spans [(1, 4)]⟩) rfl hup rfl Nat.one_pos hv hr rfl rfl

/-- A write of `TST_BLKRST` that the command layer takes. -/
theorem State.hostWrite_TST_BLKRST {s : State} {v : Nat} (hup : s.hopperUp = true)
    (hv : valueOk P.TST_BLKRST 0 v = true) (hr : s.resetting Fb.test = false) :
    s.hostWrite P.TST_BLKRST 0 v = s.blockResetWrite v :=
  State.hostWrite_cmd (d := ⟨P.TST_BLKRST, .cmd, 1, .each [], .bits 0xFFFF00FF⟩) rfl hup rfl Nat.one_pos hv hr rfl rfl

/-- A write of `TST_MARK` that the command layer takes. -/
theorem State.hostWrite_TST_MARK {s : State} {v : Nat} (hup : s.hopperUp = true)
    (hv : valueOk P.TST_MARK 0 v = true) (hr : s.resetting Fb.test = false) :
    s.hostWrite P.TST_MARK 0 v = s.traceMark v :=
  State.hostWrite_cmd (d := ⟨P.TST_MARK, .cmd, 1, .each [], .spans [(0, 4294967295)]⟩) rfl hup rfl Nat.one_pos hv hr rfl rfl

/-! ### Writes of other parameters -/

/-- A RW-LIVE write that passes the checks takes effect as its block has it, and answers OK. -/
theorem State.hostWrite_live {s : State} {id inst v : Nat} {d : ParamDef} (hd : paramDef? id = some d) (hup : s.hopperUp = true)
    (hattr : d.attr = .rwLive) (hi : inst < d.count) (hv : valueOk id inst v = true)
    (hr : s.resetting (ownerOf id inst) = false) (ho : s.ownCheck id inst v = Status.ok)
    (hrel : (s.acceptLive id inst v).relationCheck id inst = Status.ok) :
    s.hostWrite id inst v = (s.liveWrite id inst v).done := by
  have ha : attrOf id = .rwLive := by simp [attrOf, hd, hattr]
  have he : paramExists id inst = true := by simp [paramExists, hd, hi]
  have hw : s.writeCheck id inst v = (Status.ok, 0) := by
    simp [State.writeCheck, he, ha, hv, hr, ho]
  simp [State.hostWrite, hup, State.writeWith, State.checkWrites, State.checkEach, State.checkRelations, hw, State.scratch, ha, hrel, State.countWrite, State.applyWrite]

/-- A write that fails a check is answered with its status and changes nothing else. -/
theorem State.hostWrite_refused {s : State} {id inst v st det : Nat} (hup : s.hopperUp = true)
    (hw : s.writeCheck id inst v = (st, det)) (hst : st ≠ Status.ok) : s.hostWrite id inst v = s.answer st det := by
  by_cases hr : s.relationCheck id inst = Status.ok <;>
    simp [State.hostWrite, hup, State.writeWith, State.checkWrites, State.checkEach, State.checkRelations, hw, hst, hr]

/-- The status of a write's own conditions, where the conditions before them pass. -/
theorem State.writeCheck_own {s : State} {id inst v : Nat} {d : ParamDef} (hd : paramDef? id = some d)
    (hattr : d.attr = .rwLive ∨ d.attr = .cmd) (hi : inst < d.count) (hv : valueOk id inst v = true)
    (hr : s.resetting (ownerOf id inst) = false) : s.writeCheck id inst v = (s.ownCheck id inst v, 0) := by
  have ha : attrOf id = .rwLive ∨ attrOf id = .cmd := by simpa [attrOf, hd] using hattr
  have he : paramExists id inst = true := by simp [paramExists, hd, hi]
  rcases ha with ha | ha <;> simp [State.writeCheck, he, ha, hv, hr]

/-- A value outside its range is refused. -/
theorem State.writeCheck_range {s : State} {id inst v : Nat} {d : ParamDef} (hd : paramDef? id = some d) (hattr : d.attr ≠ .ro)
    (hi : inst < d.count) (hv : valueOk id inst v = false) : s.writeCheck id inst v = (Status.outOfRange, 0) := by
  have ha : attrOf id ≠ .ro := by simpa [attrOf, hd] using hattr
  have he : paramExists id inst = true := by simp [paramExists, hd, hi]
  simp [State.writeCheck, he, ha, hv]

/-! ### Packets -/

/-- A packet whose command passes steps 5 to 9 executes and is answered. -/
theorem State.accept_admits {s a : State} {c : Cmd} {r : Rule} {run : State → State} (ha : a = s.arrived c)
    (hh : s.hears c.port = true) (hs : r.free = true ∨ ((a.session c.port).isOpen = true ∧ c.seq = (a.session c.port).expSeq))
    (he : (a.hp.waits.filter (fun w => w.port == c.port)).length < 4) (hp : r.pend = true → (a.session c.port).slots.length < 4)
    (hb : packetBufs c.payload.length ≤ a.sharedBufs) (hl : r.lenOk = true) (ht : r.targetOk = true) {b : State}
    (hab : b = { a with pool := { a.pool with low := min a.pool.low (a.freeBufs - packetBufs c.payload.length) } }.passed c)
    (ho : r.owner = true → b.owns c.port = true) (hz : r.zeroOk = true) :
    s.accept c r run = ((run b).takeSlot c r).reply c := by
  have hadm : a.admitCmd c r run = ((run b).takeSlot c r).reply c := by
    have e5 : ¬ (r.pend = true ∧ 4 ≤ (a.session c.port).slots.length) := fun h => Nat.not_le.mpr (hp h.1) h.2
    have eo : ¬ (r.owner = true ∧ b.owns c.port = false) := fun h => by rw [ho h.1] at h; exact absurd h.2 (by simp)
    simp only [State.admitCmd, Nat.not_le.mpr he, e5, Nat.not_lt.mpr hb, if_false, State.execute, hl, ht, hz,
      Bool.true_eq_false, ← hab, eo]
  simp only [State.accept, hh, Bool.true_eq_false, if_false, ← ha]
  rcases hs with hf | ⟨h1, h2⟩
  · simp only [hf, if_true]; exact hadm
  · simp only [h1, Bool.true_eq_false, if_false, ← h2, if_true, hadm]; split <;> rfl

/-- A packet notes at its port that it is addressed to the device, and nothing that decides whether the port hears it. -/
theorem State.addressed_hears {s : State} {p : Packet} (n : Nat) : (s.addressed p).hears n = s.hears n := by
  simp only [State.addressed]; split <;> rfl

/-- A packet that is admitted, and whose command passes steps 8 and 9, executes and is answered. -/
theorem State.native_admits {s : State} {p : Packet} {op : Nat} {r : Rule} {run : State → State}
    (h : s.Admits p op r.free r.pend) (hl : r.lenOk = true) (ht : r.targetOk = true)
    (ho : r.owner = true → (s.admitted p op).owns (portCode p.port) = true) (hz : r.zeroOk = true) :
    s.native p op r run = (run (s.admitted p op)).executed p op r.limit r.arg := by
  have hh := s.addressed_hears (p := p) (portCode p.port)
  simp only [State.native, h.form, h.heard, Bool.true_eq_false, or_self, if_false]
  exact State.accept_admits (c := nativeCmd p op) rfl (hh.trans h.heard) h.session h.entry h.slot h.buffers hl ht rfl ho hz

/-- A personality packet that is admitted, and whose command passes steps 8 and 9, executes and is answered. -/
theorem State.pers_admits {s : State} {p : Packet} {k : PersRule} {bytes us : Nat} {run : PersArg → State → PersOut}
    (h : s.AdmitsPers p k.op) (hl : p.payload.length = bytes) (hc : k.channel = true → p.target.toNat < 32)
    (ha : p.target.toNat < k.args) (ho : k.owner = true → (s.persAdmitted p k.op).owns (portCode p.port) = true) :
    s.persPacket p k bytes us run =
      (run ⟨portCode p.port, true, p.target.toNat, fieldAt p.payload 0 2⟩ (s.persAdmitted p k.op)).replied p k.op := by
  have hold : s.persHold (portCode p.port) us = none := by simp [State.persHold, h.quick]
  have hh := s.addressed_hears (p := p) (portCode p.port)
  have hc' : (k.channel && decide (32 ≤ p.target.toNat)) = false := by
    cases hk : k.channel
    · rfl
    · have := hc hk; simp [this]
  simp only [State.persPacket, h.form, h.code, h.heard, Bool.true_eq_false, or_self, if_false, hold]
  exact State.accept_admits (c := packetCmd p k.op) rfl (hh.trans h.heard) (.inr h.session) h.entry (fun z => by cases z)
    h.buffers (by simp [hl]) (by simp [hc', ha]) rfl ho rfl

/-! ### Orders within an edge -/

/-- A record that takes its place among others is added to them, and nothing else (R451). -/
theorem RingEntry.insert_perm (e : RingEntry) : ∀ l : List RingEntry, (e.insert l).Perm (e :: l)
  | [] => List.Perm.refl _
  | f :: l => by
    simp only [RingEntry.insert]; split
    · exact List.Perm.refl _
    · exact ((RingEntry.insert_perm e l).cons f).trans (List.Perm.swap e f l)

/-- Entries that take their places in the trace FIFO are added to it, and nothing else (R594). -/
theorem traceInsert_perm (t typ : Nat) (es : List TraceEntry) :
    ∀ l : List TraceEntry, (traceInsert t typ es l).Perm (es ++ l)
  | [] => by simp [traceInsert]
  | .head y i a t' :: l => by
    simp only [traceInsert]; split
    · exact List.Perm.refl _
    · exact ((traceInsert_perm t typ es l).cons _).trans List.perm_middle.symm
  | .ext y p :: l => ((traceInsert_perm t typ es l).cons _).trans List.perm_middle.symm
  | .bad :: l => ((traceInsert_perm t typ es l).cons _).trans List.perm_middle.symm

end Sys2Proof.Machine
end

