-- ==== Sys2Proof/Laws/Shapes.lean ====
section
/-! SUPPORT. For the operations that many commands share, the parts of the state each can change: every other part is as it was. -/

namespace Sys2Proof.Machine

variable (s : State)

/-! ### Values, records and answers -/

theorem State.bump_shape (id inst n : Nat) : ∃ p, s.bump id inst n = { s with params := p } := ⟨_, rfl⟩

theorem State.clearPars_shape (ps : List (Nat × Nat)) : ∃ p, s.clearPars ps = { s with params := p } := by
  induction ps generalizing s with
  | nil => exact ⟨_, rfl⟩
  | cons a ps ih =>
    obtain ⟨p, h⟩ := ih (s.setPar a.1 a.2 0)
    exact ⟨p, by simpa [State.clearPars] using h⟩

theorem State.takeLive_shape (b : Nat) : ∃ p q, s.takeLive b = { s with params := p, pend := q } := by
  simp only [State.takeLive]; split <;> exact ⟨_, _, rfl⟩

theorem State.raise_shape (b d k v i : Nat) : ∃ t, s.raise b d k v i = { s with todo := t } := ⟨_, rfl⟩

theorem State.askEpisode_shape (r : Raise) : ∃ f t, s.askEpisode r = { s with flt := f, todo := t } := by
  simp only [State.askEpisode]; split <;> exact ⟨_, _, rfl⟩

theorem State.raiseEpisode_shape (b d k v i : Nat) : ∃ f t, s.raiseEpisode b d k v i = { s with flt := f, todo := t } :=
  s.askEpisode_shape _

theorem State.endEpisode_shape (b d : Nat) : ∃ f, s.endEpisode b d = { s with flt := f } := by
  simp only [State.endEpisode]; split <;> exact ⟨_, rfl⟩

theorem State.openWindow_shape (b : Nat) : ∃ f, s.openWindow b = { s with flt := f } := by
  simp only [State.openWindow]; split <;> exact ⟨_, rfl⟩

theorem State.holdWindow_shape (b : Nat) : ∃ f, s.holdWindow b = { s with flt := f } := by
  simp only [State.holdWindow]; split <;> exact ⟨_, rfl⟩

theorem State.complete_shape (port seq st : Nat) (d : List Byte) (det : Nat) :
    ∃ x p, s.complete port seq st d det = { s with sessions := x, params := p } := by
  simp only [State.complete]
  split
  · exact ⟨_, _, rfl⟩
  · split <;> exact ⟨_, _, rfl⟩

/-! ### Wake requests and the angle -/

theorem State.requestWake_shape (n : Nat) :
    ∃ k p t, s.requestWake n = { s with kiln := k, params := p, trcPend := t } := by
  simp only [State.requestWake]
  split
  · split
    · exact ⟨_, _, _, rfl⟩
    · split <;> exact ⟨_, _, _, rfl⟩
  · exact ⟨_, _, _, rfl⟩

theorem State.moveTo_shape (p : BitVec 64) : ∃ f k q t, s.moveTo p =
    { s with eng := { s.eng with pos := p, firstCrossed := f }, kiln := k, params := q, trcPend := t } := by
  simp only [State.moveTo]
  split
  · obtain ⟨k, q, t, h⟩ := State.requestWake_shape (s.setEng { s.eng with pos := p, firstCrossed := _ }) 1
    exact ⟨_, k, q, t, by rw [h]; rfl⟩
  · exact ⟨_, _, _, _, rfl⟩

theorem State.direction_shape (d : Int) : ∃ r t, s.direction d =
    { s with eng := { s.eng with reverse := r }, todo := t } := by
  simp only [State.direction]
  split
  · exact ⟨_, _, rfl⟩
  · split <;> exact ⟨_, _, rfl⟩

theorem State.interpError_shape (p : BitVec 64) (t0 : Nat) : ∃ q, s.interpError p t0 = { s with params := q } := by
  simp only [State.interpError]; split <;> exact ⟨_, rfl⟩

/-- A position event changes the engine as R34 says, values of parameters, and what a wake or reverse rotation brings. -/
theorem State.positionEvent_shape (p : BitVec 64) (t0 : Nat) : ∃ (i : Interp) (r : Bool) (f : Option Nat) (k : Kiln) (q : Tbl Word)
    (t : List TraceEvent) (d : List Raise), i.pPrev = p ∧ i.tPrev = t0 ∧ s.positionEvent p t0 =
    { s with eng := { s.eng with pos := p, interp := i, standstill := false, lastEvent := s.t, reverse := r, firstCrossed := f
                                 travel := s.eng.travel + (posSub p s.eng.interp.pPrev).natAbs }
             kiln := k, params := q, trcPend := t, todo := d } := by
  obtain ⟨q1, h1⟩ := s.interpError_shape p t0
  have ht : (s.interpError p t0).t = s.t := by rw [h1]; rfl
  have he : (s.interpError p t0).eng = s.eng := by rw [h1]
  simp only [State.positionEvent, ht, he]
  generalize hs2 : State.setEng (s.interpError p t0) _ = s2
  have hi : ∃ i : Interp, i.pPrev = p ∧ i.tPrev = t0 ∧ s2 = { s with
      eng := { s.eng with interp := i, standstill := false, lastEvent := s.t
                          travel := s.eng.travel + (posSub p s.eng.interp.pPrev).natAbs }
      params := q1 } :=
    ⟨s2.eng.interp, by subst hs2; rfl, by subst hs2; rfl, by subst hs2; rw [h1]; rfl⟩
  obtain ⟨i, hp, htp, hi⟩ := hi
  obtain ⟨f, k, q, t, h2⟩ := s2.moveTo_shape p
  obtain ⟨r, d, h3⟩ := (s2.moveTo p).direction_shape (posSub p s.eng.interp.pPrev)
  split
  · obtain ⟨k', q', t', h4⟩ := ((s2.moveTo p).direction (posSub p s.eng.interp.pPrev)).requestWake_shape 2
    exact ⟨i, r, f, k', q', t', d, hp, htp, by rw [h4, h3, h2, hi]⟩
  · exact ⟨i, r, f, k, q, t, d, hp, htp, by rw [h3, h2, hi]⟩

/-! ### Rings -/

theorem State.bump_ring (id inst k m : Nat) : (s.bump id inst k).ring m = s.ring m := rfl

theorem State.askStream_ring (d k i : Nat) (o : Origin) (m : Nat) : (s.askStream d k i o).ring m = s.ring m := rfl

/-- A loss leaves a ring's words, is to be shown by a loss record, and takes an ENABLED ring to LOSING. -/
theorem State.ringLose_ring (n k : Nat) (o : Origin) : (s.ringLose n k o).ring n =
    { s.ring n with lostSince := satAdd (s.ring n).lostSince k, anchorDue := true
                    state := if (s.ring n).state = .enabled then .losing else (s.ring n).state } := by
  by_cases h : (s.ring n).state = .enabled <;> simp [State.ringLose, h, State.askStream_ring]

/-- A refused request for a buffer changes nothing of a ring but its mark. -/
theorem State.poolRefuse_ring (n port : Nat) (o : Origin) : (s.poolRefuse n port o).ring n = { s.ring n with refused := true } := by
  by_cases h : (s.ring n).refused = true
  · simp only [State.poolRefuse, State.bump_ring, h, if_true]
    cases hr : s.ring n; simp_all
  · simp [State.poolRefuse, State.bump_ring, h, State.askStream_ring]

/-- A record that takes its place follows what the ring holds, and the ring loses no more. -/
theorem State.ringPlace_ring (n : Nat) (sample : Bool) (all words : List Word) :
    ((s.ringPlace n sample all words).ring n).words = (s.ring n).words ++ ringWords s.t all ∧
    ((s.ringPlace n sample all words).ring n).lostSince = 0 := by
  have h (u : State) : u.markLow.ring n = u.ring n := rfl
  simp [State.ringPlace, h, State.bump_ring]

theorem State.ringLose_t (n k : Nat) (o : Origin) : (s.ringLose n k o).t = s.t := by
  simp only [State.ringLose]; split <;> rfl

theorem State.poolRefuse_t (n port : Nat) (o : Origin) : (s.poolRefuse n port o).t = s.t := by
  simp only [State.poolRefuse]; split <;> rfl

end Sys2Proof.Machine
end

