-- ==== Sys2Proof/WellFormed.lean ====
section
/-! DEFINITION. Well-formed commands: what the operands of a row can be where their types admit more. A command that is
not well formed has a meaning too; it stands for no event of the device. -/

namespace Sys2Proof

/-- The members of a list differ from one another. -/
def distinct {α : Type} [DecidableEq α] : List α → Bool
  | [] => true
  | a :: t => !t.contains a && distinct t

/-- A packet that can have passed steps 1 to 4 of Table 12.5: at most 1,024 bytes of payload (R347), on a port that takes
packets (Table 14.1), and a broadcast only on Port U (R407). -/
def Packet.wf (p : Packet) : Bool :=
  decide (p.payload.length ≤ 1024) && !(p.port == .s1) && (!p.broadcast || p.port == .u)

/-- A packet with a native code (R343). -/
def Packet.native (p : Packet) : Bool := p.wf && !p.pers

/-- A packet rejected for its length is longer than step 2 admits. -/
def Reject.wf (why : Reject) (p : Packet) : Bool :=
  match why with
  | .length _ => decide (1024 < p.payload.length) && !(p.port == .s1)
  | _ => p.wf

/-- A Gen-1 frame reaches S1; a packet with a personality command carries code 0x22 (R424). -/
def PersCommand.wf : PersCommand → Bool
  | .frame _ _ => true
  | .packet p => p.wf && p.pers

/-- A SYSCAL_STEP packet carries a native code. -/
def SysStep.wf : SysStep → Bool
  | .ctrl _ _ => true
  | .packet p => p.native

/-- A FAULT_ACK packet, or an acknowledgement by parameter with a class of Table 16.2. -/
def AckCommand.wf : AckCommand → Bool
  | .ctrl _ cls => decide (1 ≤ cls.toNat) && decide (cls.toNat ≤ 3)
  | .packet p => p.native

/-- The user logic writes, and parity bits flip in, words of the 24 block RAMs of 512 words (R219). -/
def FabEdge.wf (e : FabEdge) : Bool :=
  e.writes.all (fun w => decide (w.1 < 24) && decide (w.2.1 < 512)) &&
    e.upsets.all (fun w => decide (w.1 < 24) && decide (w.2.1 < 512))

/-- Announce, Sync, Follow_Up and Delay_Resp messages carry times after the epoch. -/
def PtpAnnounce.wf (m : PtpAnnounce) : Bool := !m.rank.isEmpty
def PtpSync.wf (m : PtpSync) : Bool := decide (0 ≤ m.origin)
def PtpFollowUp.wf (m : PtpFollowUp) : Bool := decide (0 ≤ m.origin)
def PtpDelayResp.wf (m : PtpDelayResp) : Bool := decide (0 ≤ m.receive)

/-- The OTP word an error stands in. -/
def OtpError.addr : OtpError → BitVec 16
  | .corrected a => a
  | .pair a _ _ => a
  | .key a _ => a
  | .mac a => a

/-- The factory pairs of Table 10.2: 20 slices, 8 integrating converters, 512 cell inputs, 128 outputs and 128 thresholds. -/
def OtpError.wf : OtpError → Bool
  | .pair _ k i => decide (i.toNat < [20, 8, 512, 128, 128].getD k.val 0)
  | _ => true

/-- A command is well formed: each operand is a value that its row's event or command can carry. -/
def Instr.wf (i : Instr) : Bool :=
  match i with
  | .quadEdge _ => true
  | .ssiFrame _ _ _ => true
  | .mainsZeroCrossing _ => true
  | .encfltPinChange _ _ => true
  | .evaluationStep ecc => distinct (ecc.map StoreError.handle)
  | .timeQueueDue _ ecc => distinct (ecc.map StoreError.handle)
  | .whTqctlEnable _ => true
  | .whTqctlDisable _ => true
  | .whTqctlClear _ => true
  | .settlingEnd _ => true
  | .acOutWrite _ _ => true
  | .acCtrlResume _ => true
  | .acCtrlClearCounters _ => true
  | .ovr _ => true
  | .inclamp _ => true
  | .openin _ => true
  | .excflt _ => true
  | .outopen _ => true
  | .outlim _ _ => true
  | .hvrail _ => true
  | .deliveredEdge _ _ => true
  | .blankEnd _ => true
  | .heldRelease _ _ => true
  | .cmpThrWrite _ _ => true
  | .cmpCtrlEnable _ => true
  | .cmpCtrlDisable _ => true
  | .cmpCtrlArm _ => true
  | .cmpCtrlDisarm _ => true
  | .cmpCtrlResume _ => true
  | .cmpCtrlClearCounters _ => true
  | .dacchk _ => true
  | .sclk _ => true
  | .slotBoundary _ _ => true
  | .conversionComplete _ _ _ _ => true
  | .sliceTimeout _ _ => true
  | .sarCtrlStart _ _ => true
  | .sarCtrlStop _ => true
  | .sarCtrlResume _ => true
  | .sarCtrlClearCounters _ => true
  | .syscalClear c => c.wf
  | .syscalZero c => c.wf
  | .syscalFull c => c.wf
  | .syscalApply c => c.wf
  | .syscalDone _ => true
  | .syscalTimeout _ => true
  | .refsetElapsed _ => true
  | .refoot _ => true
  | .sarclk _ => true
  | .integrationEnd _ => true
  | .overheadEnd _ _ _ => true
  | .cycleWindowTimeout _ => true
  | .overheadTimeout _ => true
  | .icCtrlStart _ _ => true
  | .icCtrlStop _ => true
  | .icCtrlResume _ => true
  | .icCtrlClearCounters _ => true
  | .laneOutput _ => true
  | .angleBlockTimeout _ => true
  | .laneStall _ => true
  | .flCtrlResume _ => true
  | .flCtrlRestart _ => true
  | .flCtrlClearCounters _ => true
  | .flDcmWrite _ _ => true
  | .fabRamdatAccess _ _ => true
  | .fabricMbPost _ payload => decide (1 ≤ payload.length) && decide (payload.length ≤ 64)
  | .fabricMbTake _ => true
  | .timerCapture _ => true
  | .timerCompare _ => true
  | .timerTrigger _ => true
  | .tmCtrlStart _ => true
  | .tmCtrlStop _ => true
  | .tmCtrlResume _ => true
  | .tmCtrlClearCounters _ => true
  | .tmCtrlTrig _ => true
  | .tmLastangRead _ => true
  | .configScrub _ => true
  | .blockGated _ => true
  | .thermalSample temps currents => temps.length == 5 && currents.length == 6
  | .klCtrlRun c => c.all Packet.native
  | .klCtrlIdle c => c.all Packet.native
  | .klCtrlHibernate c => c.all Packet.native
  | .klCtrlResume c => c.all Packet.native
  | .spareCalStart _ => true
  | .spareCalDone _ zero full _ => decide (zero.toNat ≤ 128 * 4095) && decide (full.toNat ≤ 128 * 4095)
  | .spareCalTimeout _ => true
  | .calStepDone _ (.levels lo hi) => decide (lo.toNat ≤ 64 * 4095) && decide (hi.toNat ≤ 64 * 4095)
  | .calStepDone _ (.line _ _) => true
  | .calStepDone _ (.pair _ _) => true
  | .injectionRecoveryEnd _ => true
  | .outputBlendTick _ => true
  | .calCtrlStart c => c.all Packet.native
  | .calCtrlAbort c => c.all Packet.native
  | .calCtrlCommit c => c.all Packet.native
  | .calCoefWrite _ _ => true
  | .gristOpen p => p.native
  | .gristData p => p.native
  | .gristClose p => p.native
  | .gristInfo p => p.native
  | .keyProgram p => p.native
  | .bankRead p => p.native
  | .flashRead p => p.native
  | .flashErase p => p.native
  | .flashWrite p => p.native
  | .grCtrlKeyrevoke _ => true
  | .nop p => p.native
  | .sessionOpen p => p.native
  | .sessionClose p => p.native
  | .identify p => p.native
  | .ownTake p => p.native
  | .ownRelease p => p.native
  | .ownQuery p => p.native
  | .echo p => p.native
  | .getTime p => p.native
  | .getStatus p => p.native
  | .resetHopperRestart p => p.native
  | .resetDevice p => p.native
  | .getParam p => p.native
  | .setParam p => p.native
  | .getMulti p => p.native
  | .setMulti p => p.native
  | .getRange p => p.native
  | .setGroup p => p.native
  | .commit p => p.native
  | .groupCancel p => p.native
  | .groupLapse _ => true
  | .paramInfo p => p.native
  | .setBits p => p.native
  | .postAction p => p.native
  | .cancelAction p => p.native
  | .clearQueue p => p.native
  | .postMulti p => p.native
  | .readQueue p ecc => p.native && distinct (ecc.map StoreError.handle)
  | .readAction p ecc => p.native && distinct (ecc.map StoreError.handle)
  | .getAngle p => p.native
  | .waitBin p => p.native
  | .readResult p => p.native
  | .readLane p => p.native
  | .scanLoad p => p.native
  | .coefLoad p => p.native
  | .coefRead p => p.native
  | .scanRead p => p.native
  | .coefGet p => p.native
  | .coefPut p => p.native
  | .coefDump p => p.native
  | .streamRead p _ => p.native
  | .streamStatus p => p.native
  | .streamFlush p => p.native
  | .mbRead p => p.native
  | .mbWrite p => p.native
  | .mbStatus p => p.native
  | .faultSummary p => p.native
  | .faultRead p => p.native
  | .faultAck c => c.wf
  | .logRead p _ => p.native
  | .logClear c => c.all Packet.native
  | .kilnReport p => p.native
  | .kilnJobs p => p.native
  | .slStatus p => p.native
  | .slRole p => p.native
  | .slCopy p => p.native
  | .slTakeover p => p.native
  | .testEnter p _ => p.native
  | .testResponse p => p.native
  | .testExit p => p.native
  | .faultInject p => p.native
  | .memRead p => p.native
  | .traceRead p _ => p.native
  | .traceStart c => c.all Packet.native
  | .traceStop c => c.all Packet.native
  | .traceClear c => c.all Packet.native
  | .pendingTimeout _ _ => true
  | .readId c => c.wf
  | .readStatus c => c.wf
  | .softReset c => c.wf
  | .setGain c => c.wf
  | .getGain c => c.wf
  | .setFilter c => c.wf
  | .setMode c => c.wf
  | .startScan c => c.wf
  | .stopScan c => c.wf
  | .readCh c => c.wf
  | .setRate c => c.wf
  | .setThrh c => c.wf
  | .setThrl c => c.wf
  | .persCmpCtrl c => c.wf
  | .readCmp c => c.wf
  | .setOut c => c.wf
  | .readBlock c => c.wf
  | .xsel c => c.wf
  | .xrdlo c => c.wf
  | .xrdhi c => c.wf
  | .xwrlo c => c.wf
  | .xwrhi c => c.wf
  | .faithfulReplyRelease _ => true
  | .s2Read _ => true
  | .uFrameGap _ => true
  | .uTransmit _ => true
  | .linkTimeout _ => true
  | .phyPoll _ => true
  | .dhcpMessage _ => true
  | .arpRequest _ _ => true
  | .ethFrameDiscard _ => true
  | .ptpAnnounce m => m.wf
  | .ptpSync m => m.wf
  | .ptpFollowUp m => m.wf
  | .ptpDelayResp m => m.wf
  | .hpPortenWrite _ => true
  | .mbRelay _ => true
  | .mbRelayTimeout _ => true
  | .mbCtrlClear _ => true
  | .mbCtrlClearCounters _ => true
  | .streamDatagramSend _ _ => true
  | .stCtrlEnable _ => true
  | .stCtrlDisable _ => true
  | .stCtrlFlush _ => true
  | .stMark _ _ => true
  | .stCtrlClearCounters _ => true
  | .freelistCheck _ => true
  | .graceExpiry _ => true
  | .maskWindowClose _ => true
  | .hopperMemoryEcc _ => true
  | .syncFrame frame => frame.length == 49
  | .slEnableWrite _ => true
  | .supplyDrop _ => true
  | .endOfDeviceReset otp _ => otp.all OtpError.wf && distinct (otp.map OtpError.addr)
  | .selfTestDone _ => true
  | .hopperRestartDone _ => true
  | .blockReset _ => true
  | .blockResetDone _ => true
  | .viorange _ _ => true
  | .samplePreload _ _ => true
  | .recsel _ => true
  | .traceMark _ => true
  | .commandPacketRejected p why => why.wf p
  | .gen1FrameRejected _ _ => true
  | .hostPortActivityWake _ => true
  | .crossingAtTheTap _ _ => true
  | .urgentRequestDispatch _ => true
  | .fabricClockEdge e => e.wf
  | .blockPowered _ => true
  | .railPresenceChange _ _ => true
  | .captureParityError _ => true
  | .episodeEnd _ _ => true
  | .reverseLimit => true
  | .zEdge => true
  | .zmiss => true
  | .mainsTimeout => true
  | .coastLimit => true
  | .holdRelease => true
  | .standstillTimeout => true
  | .whCtrlRun => true
  | .whCtrlStop => true
  | .whCtrlReref => true
  | .whCtrlClearCounters => true
  | .fclkLoss => true
  | .fabCtrlResume => true
  | .fabCtrlClearCounters => true
  | .fabCtrlReinit => true
  | .timedPlan => true
  | .klCtrlClearCounters => true
  | .wakeTimer => true
  | .hibernateExit => true
  | .calRunTimeout => true
  | .calCtrlRetrig => true
  | .calCtrlClearCounters => true
  | .gristCheckDone => true
  | .gristLoadTimeout => true
  | .restoreDone => true
  | .autocommit => true
  | .flashOpDone => true
  | .grCtrlArm => true
  | .grCtrlAbort => true
  | .grCtrlCommit => true
  | .grCtrlRollback => true
  | .grCtrlImmediate => true
  | .grCtrlFlash => true
  | .grCtrlClearCounters => true
  | .gen1Nop => true
  | .gen1FrameDiscard => true
  | .s2Status => true
  | .s2WriteAbort => true
  | .dhcpRenew => true
  | .dhcpRebind => true
  | .dhcpLeaseExpiry => true
  | .ptpDelayReqSend => true
  | .ptpTimeout => true
  | .eventHoldoffExpiry => true
  | .hpPctrlClearCounters => true
  | .hpTimelRead => true
  | .hpPtpofslRead => true
  | .stPoolctrlResume => true
  | .stPoolctrlClear => true
  | .fltCtrlAckall => true
  | .fltCtrlClearCounters => true
  | .fltCap0Read => true
  | .hopperWatchdog => true
  | .lockstepMismatch => true
  | .syncFrameOriginate => true
  | .slLossTimeout => true
  | .reformEnd => true
  | .uidCompare => true
  | .timeDivergenceTimeout => true
  | .hashMismatch => true
  | .syncHoldExit => true
  | .slCtrlReform => true
  | .slCtrlRelease => true
  | .slCtrlResume => true
  | .slCtrlClearCounters => true
  | .powerOn => true
  | .resetN => true
  | .clockLoss => true
  | .pllLossOfLock => true
  | .clockQualified => true
  | .pllLocked => true
  | .flashDirectoryRead => true
  | .bootImageLoaded => true
  | .vrefioReady => true
  | .icalSettled => true
  | .vioblow => true
  | .jtagTestLogicReset => true
  | .extest => true
  | .idcode => true
  | .jtagClamp => true
  | .highz => true
  | .recdata => true
  | .bypass => true
  | .testmodeNHigh => true
  | .testModeIdleTimeout => true
  | .tstCtrlClearCounters => true
  | .traceFifoDrain => true
  | .uFramingError => true
  | .keyProgramComplete => true
  | .deviceResetCauseEnd => true

end Sys2Proof
end

