-- ==== Sys2Proof/Tests/Slice0.lean ====
section
/-! SUPPORT. The model's own tests: an ill-formed command for each check of well-formedness, a few single steps, and for each
obligation a concrete state and operands that meet the hypotheses of its clauses. -/

namespace Sys2Proof.Tests

open Sys2Proof.Machine

set_option maxRecDepth 8000

/-! ### States the tests start from -/

/-- A device that has started, one core tick after reset. -/
def up : State := { pwr := { step := .ready, originDue := false } }

/-- The same long after reset, when no block's reset is still running. -/
def late : State := { up with now := 1000000000000 }

/-- A conversion group runs a scan list of two slots on slice 3; `sim` is the second word of the list. -/
def scan (sim : Nat) : State :=
  ((late.setGroup 3 { state := .running }).setPar P.SAR_LIST (3 * 16) (2 * 64)).setPar (scanPar 3) 0 (sim * 512)

/-- A load that fails its first checks. -/
def failure : LoadFailure := (firstSome [check1 [] 0, check2 []]).getD ⟨0, 0, 0, 0⟩

/-- An action word that stops a converter. -/
def act : BitVec 64 := actWord Act.convStop true 0 0 0

/-- A group that runs, with the calibration current settled. -/
def cal : State := { (late.setGroup 3 { state := .running }) with pwr.icalSettled := true }

/-- Port S1 enabled with the first personality, and the owner. -/
def s1 : State := ((late.setPar P.HP_PORTEN 0 15).setPar P.HP_PERS 0 1).setPar P.HP_OWNER 0 1

/-- Port E up with a fixed address, and a stream's ring with a word to push. -/
def dgram : State :=
  (((((({ (late.setPar P.HP_PORTEN 0 15) with hp.eth.phyUp := true } : State).setPar P.HP_EIP 0 5).setPar P.HP_EIPMODE 0 0).setPar P.HP_ESTRMAC 0 7).setPar P.ST_CFG 63 12).setPar
    P.ST_PUSHN 63 1).setRing 63 { state := .enabled, words := [⟨1, 0, true⟩] }

/-- Port S2 has an open session and is the owner. -/
def host : State := ({ late with sessions := [(2, { isOpen := true })] }).setPar P.HP_OWNER 0 2

/-- A packet on Port S2 with this target and payload. -/
def pkt (target : Nat) (payload : List Byte) : Packet :=
  { port := .s2, pers := false, broadcast := false, seq := 0, flags := 0, target := BitVec.ofNat 16 target, payload := payload
    src := ⟨0, 0, 0⟩ }

/-- The six conditions of admission, as one that can be evaluated. -/
theorem admits {s : State} {p : Packet} {op : Nat} {free pend : Bool}
    (h : nativeOk p op = true ∧ s.hears (portCode p.port) = true ∧ (free = true ∨ (((s.arrival p op).session (portCode
      p.port)).isOpen = true ∧ p.seq.toNat = ((s.arrival p op).session (portCode p.port)).expSeq)) ∧ ((s.arrival p
      op).hp.waits.filter (fun w => w.port == portCode p.port)).length < 4 ∧ (pend = true → ((s.arrival p op).session (portCode
      p.port)).slots.length < 4) ∧ packetBufs p.payload.length ≤ (s.arrival p op).sharedBufs) : s.Admits p op free pend :=
  ⟨h.1, h.2.1, h.2.2.1, h.2.2.2.1, h.2.2.2.2.1, h.2.2.2.2.2⟩

/-- The conditions of admission of a personality packet, as one that can be evaluated. -/
theorem admitsPers {s : State} {p : Packet} {op : Nat} (h : packetOk p = true ∧ p.pers = true ∧
    s.hears (portCode p.port) = true ∧ ((((s.addressed p).arrived (packetCmd p op)).session (portCode p.port)).isOpen = true ∧
      p.seq.toNat = (((s.addressed p).arrived (packetCmd p op)).session (portCode p.port)).expSeq) ∧
    (((s.addressed p).arrived (packetCmd p op)).hp.waits.filter (fun w => w.port == portCode p.port)).length < 4 ∧
    packetBufs p.payload.length ≤ ((s.addressed p).arrived (packetCmd p op)).sharedBufs ∧
    s.par P.HP_TFAITH (portCode p.port - 1) ≠ 1) : s.AdmitsPers p op :=
  ⟨h.1, h.2.1, h.2.2.1, h.2.2.2.1, h.2.2.2.2.1, h.2.2.2.2.2.1, h.2.2.2.2.2.2⟩

/-- The three conditions on which a Gen-1 frame is taken, as one that can be evaluated. -/
theorem takes {s : State} {op : Nat} (h : s.hears 1 = true ∧ ((s.framed op).hp.waits.filter (fun w => w.port == 1 &&
    !w.codes.isEmpty)).length < 4 ∧ (s.framed op).par P.HP_TFAITH 0 ≠ 1) : s.TakesFrame op := ⟨h.1, h.2.1, h.2.2⟩

/-! ### Well-formedness: an ill-formed command for each check, and a well-formed one beside them -/

theorem test_wf_packet : (Instr.nop (pkt 0 [])).wf = true := by decide
theorem test_wf_packet_too_long : (Instr.nop (pkt 0 (List.replicate 1025 0))).wf = false := by decide
theorem test_wf_packet_on_s1 : (Instr.nop { pkt 0 [] with port := .s1 }).wf = false := by decide
theorem test_wf_broadcast_off_u : (Instr.nop { pkt 0 [] with broadcast := true }).wf = false := by decide
theorem test_wf_native_code : (Instr.nop { pkt 0 [] with pers := true }).wf = false := by decide
theorem test_wf_pers_code : (Instr.readId (.packet (pkt 0 []))).wf = false := by decide
theorem test_wf_syscal_code : (Instr.syscalClear (.packet { pkt 0 [] with pers := true })).wf = false := by decide
theorem test_wf_ack_class : (Instr.faultAck (.ctrl 3 0)).wf = false ∧ (Instr.faultAck (.ctrl 3 4)).wf = false ∧
    (Instr.faultAck (.ctrl 3 3)).wf = true := by decide
theorem test_wf_ack_code : (Instr.faultAck (.packet { pkt 0 [] with pers := true })).wf = false := by decide
theorem test_wf_optional_packet : (Instr.klCtrlRun (some { pkt 0 [] with pers := true })).wf = false ∧
    (Instr.klCtrlRun none).wf = true := by decide
theorem test_wf_rejected_length : (Instr.commandPacketRejected (pkt 0 []) (.length 0)).wf = false ∧
    (Instr.commandPacketRejected (pkt 0 []) .header).wf = true := by decide
theorem test_wf_store_errors_repeat : (Instr.evaluationStep [⟨5, true⟩, ⟨5, false⟩]).wf = false ∧
    (Instr.timeQueueDue 0 [⟨5, true⟩, ⟨5, false⟩]).wf = false := by decide
theorem test_wf_mailbox_length : (Instr.fabricMbPost 0 []).wf = false ∧ (Instr.fabricMbPost 0 (List.replicate 65 0)).wf = false ∧
    (Instr.fabricMbPost 3 (List.replicate 64 0)).wf = true := by decide
theorem test_wf_thermal_counts : (Instr.thermalSample [0] []).wf = false := by decide
theorem test_wf_spare_sum : (Instr.spareCalDone 0 524161 0 0).wf = false ∧ (Instr.spareCalDone 0 524160 524160 0).wf = true := by
  decide
theorem test_wf_ptp_times : (Instr.ptpAnnounce ⟨0, 0, [], 0, 0⟩).wf = false ∧ (Instr.ptpSync ⟨0, 0, 0, false, -1, 0, 0⟩).wf = false ∧
    (Instr.ptpFollowUp ⟨0, 0, 0, -1, 0⟩).wf = false ∧ (Instr.ptpDelayResp ⟨0, 0, 0, -1, 0, 0⟩).wf = false := by decide
theorem test_wf_frame_length : (Instr.syncFrame []).wf = false := by decide
theorem test_wf_otp_index : (Instr.endOfDeviceReset [.pair 0 0 20] false).wf = false ∧
    (Instr.endOfDeviceReset [.pair 0 0 19] false).wf = true := by decide
theorem test_wf_otp_repeat : (Instr.endOfDeviceReset [.corrected 7, .mac 7] false).wf = false := by decide
theorem test_wf_fabric_ram : (Instr.fabricClockEdge ⟨0, 0, 0, 0, 0, 0, 0, 0, [(24, 0, 0)], [], false⟩).wf = false ∧
    (Instr.fabricClockEdge ⟨0, 0, 0, 0, 0, 0, 0, 0, [(0, 512, 0)], [], false⟩).wf = false ∧
    (Instr.fabricClockEdge ⟨0, 0, 0, 0, 0, 0, 0, 0, [], [(24, 0, 0)], false⟩).wf = false := by decide
theorem test_wf_level_sums : (Instr.calStepDone none (.levels 262081 0)).wf = false ∧
    (Instr.calStepDone none (.levels 262080 262080)).wf = true := by decide

/-! ### Single values and steps, their expected results worked out from the spec -/

/-- Table 12.4's check value of ASCII "123456789". -/
theorem test_header_check : crc16 [0x31, 0x32, 0x33, 0x34, 0x35, 0x36, 0x37, 0x38, 0x39] = 0x29B1 := by decide

/-- Table 12.4's check value of ASCII "123456789". -/
theorem test_trailer_check : crc32 [0x31, 0x32, 0x33, 0x34, 0x35, 0x36, 0x37, 0x38, 0x39] = 0xCBF43926 := by decide

/-- R26: 1,024 lines give 4,096 steps a revolution, so INC is 2^40 / 4,096. -/
theorem test_increment : (late.setPar P.WH_QLINES 0 1024).quadInc = 2 ^ 28 := by decide

/-- The queue is first in, first out: a step takes its front and leaves the rest. -/
theorem test_step_takes_the_front :
    step { late with pending := [.tmLastangRead 0, .recdata] } = exec (.tmLastangRead 0) { late with pending := [.recdata] } := rfl

/-- A step on an empty queue is one edge of the core clock (log entry 3). -/
theorem test_empty_queue : step State.reset = .next State.reset.tick := rfl

/-- No row has bits: no word spells a command. -/
theorem test_no_word_is_a_command : decodeTableWord 8 0 = none := rfl

/-- After reset nothing is halted and nothing waits. -/
theorem test_reset_has_no_halt : State.reset.flt.halted = false ∧ State.reset.pending = [] := by decide

/-! ### The hypotheses of each obligation are met: a state and operands for each clause -/

theorem witness_PositionEventsMoveTheAngle :
    (∃ (k : QuadStep) (s : State), s.pwr.phase = ResetPhase.running ∧ s.resetting Fb.wheel = false ∧ s.par P.WH_SRC = 0 ∧
      s.eng.state ≠ EngineState.stopped ∧ k = QuadStep.both) ∧
    (∃ (id : ℕ) (inst : ℕ), id < 1344 ∧ inst < 256 ∧ (id ≠ P.WH_INTERR ∨ inst ≠ 0) ∧ (id ≠ P.KL_LASTWAKE ∨ inst ≠ 0)) :=
  ⟨⟨.both, { (late.setPar P.WH_SRC 0 0) with eng.state := .track }, by decide⟩,
   ⟨0, 0, by decide⟩⟩

theorem witness_DoubleEdgesAreSourceErrors :
    (∃ (s : State), s.pwr.phase = ResetPhase.running ∧ s.resetting Fb.wheel = false ∧ s.par P.WH_SRC = 0 ∧ s.eng.state ≠
      EngineState.stopped) :=
  ⟨{ (late.setPar P.WH_SRC 0 0) with eng.state := .track }, by decide⟩

theorem witness_ReferencesSetAndCorrectTheAngle :
    (∃ (s : State), s.pwr.phase = ResetPhase.running ∧ s.resetting Fb.wheel = false ∧ s.zSource = true ∧ (s.eng.state =
      EngineState.unref ∨ s.eng.state = EngineState.coast)) ∧
    (∃ (s : State), s.pwr.phase = ResetPhase.running ∧ s.resetting Fb.wheel = false ∧ s.zSource = true ∧ s.eng.state =
      EngineState.track ∧ (shiftTo s.eng.pos (s.par P.WH_ZOFS)).natAbs ≤ s.par P.WH_ZTOL * s.quadInc) ∧
    (∃ (s : State), s.pwr.phase = ResetPhase.running ∧ s.resetting Fb.wheel = false ∧ s.zSource = true ∧ s.eng.state =
      EngineState.track ∧ s.par P.WH_ZTOL * s.quadInc < (shiftTo s.eng.pos (s.par P.WH_ZOFS)).natAbs) ∧
    (∃ (s : State), s.pwr.phase = ResetPhase.running ∧ s.resetting Fb.wheel = false ∧ s.zSource = true ∧ (s.eng.state =
      EngineState.stopped ∨ s.eng.state = EngineState.hold)) ∧
    (∃ (s : State), (s.eng.state = EngineState.unref ∨ s.eng.state = EngineState.coast) ∧ s.eng.state = EngineState.coast) ∧
    (∃ (s : State), (s.eng.state = EngineState.unref ∨ s.eng.state = EngineState.coast) ∧ s.eng.state = EngineState.unref ∧
      s.eng.fromHold = true ∧ s.par P.WH_GAPCNT < 2 ^ 32 - 1) :=
  ⟨⟨{ (late.setPar P.WH_SRC 0 0) with eng.state := .unref }, by decide⟩,
   ⟨({ (late.setPar P.WH_SRC 0 0) with eng.state := .track }), by decide⟩,
   ⟨{ (late.setPar P.WH_SRC 0 0) with eng.state := .track, eng.pos := 549755813888 }, by decide⟩,
   ⟨(late.setPar P.WH_SRC 0 0), by decide⟩,
   ⟨{ { up with eng.state := EngineState.unref } with eng.state := EngineState.coast }, by decide⟩,
   ⟨{ { { up with eng.state := EngineState.unref } with eng.state := EngineState.unref } with eng.fromHold := true }, by
     decide⟩⟩

theorem witness_AngleLimitsTakeEffect :
    (∃ (s : State), s.pwr.phase = ResetPhase.running ∧ s.resetting Fb.wheel = false ∧ s.zMissed = true) ∧
    (∃ (s : State), s.pwr.phase = ResetPhase.running ∧ s.resetting Fb.wheel = false ∧ s.par P.WH_REVLIM ≠ 0 ∧ s.eng.state.tracking
      = true ∧ ↑(s.par P.WH_REVLIM) < s.binsBehind) ∧
    (∃ (s : State), s.pwr.phase = ResetPhase.running ∧ s.resetting Fb.wheel = false ∧ s.eng.state = EngineState.coast ∧ s.par
      P.WH_COASTMAX * binUnits ≤ (posSub s.eng.pos s.eng.interp.base).natAbs) ∧
    (∃ (s : State), s.pwr.phase = ResetPhase.running ∧ s.resetting Fb.wheel = false ∧ s.eng.state = EngineState.hold ∧ s.lossOver
      = true) ∧
    (∃ (s : State), s.pwr.phase = ResetPhase.running ∧ s.resetting Fb.wheel = false ∧ (s.eng.state = EngineState.unref ∨
      s.eng.state = EngineState.track) ∧ s.par P.WH_SRC ≠ 4 ∧ usTicks (s.par P.WH_STALLT) ≤ s.t - s.eng.lastEvent) :=
  ⟨⟨{ (late.setPar P.WH_SRC 0 0) with eng.state := .track, eng.zMark := some 0, eng.pos := 2199023255552, eng.interp.pPrev := 2199023255552 },
     by decide⟩,
   ⟨{ (late.setPar P.WH_REVLIM 0 1) with eng.state := .track, eng.hwm := 1000 }, by decide⟩,
   ⟨{ late with eng.state := .coast, eng.pos := 109951162777600000 }, by decide⟩,
   ⟨{ late with eng.state := EngineState.hold }, by decide⟩,
   ⟨{ (late.setPar P.WH_SRC 0 0) with eng.state := .track }, by decide⟩⟩

theorem witness_SsiFramesAreCheckedAndApplied :
    (∃ (data : BitVec 32) (startHigh : Bool) (endLow : Bool) (s : State), s.pwr.phase = ResetPhase.running ∧ s.resetting Fb.wheel
      = false ∧ s.par P.WH_SRC = 1 ∧ s.eng.state ≠ EngineState.stopped ∧ (startHigh && endLow && !(Option.any (fun q => decide
      (s.par P.WH_SSIJMP * 2 ^ 8 < (BitVec.ofNat 24 (s.ssiPosition data.toNat) - BitVec.ofNat 24 q).toInt.natAbs)) s.eng.ssiFrame))
      = false) ∧
    (∃ (data : BitVec 32) (startHigh : Bool) (endLow : Bool) (d : ℤ) (s : State), s.pwr.phase = ResetPhase.running ∧ s.resetting
      Fb.wheel = false ∧ s.par P.WH_SRC = 1 ∧ s.eng.state ≠ EngineState.stopped ∧ (startHigh && endLow && !(Option.any (fun q =>
      decide (s.par P.WH_SSIJMP * 2 ^ 8 < (BitVec.ofNat 24 (s.ssiPosition data.toNat) - BitVec.ofNat 24 q).toInt.natAbs))
      s.eng.ssiFrame)) = true ∧ (s.eng.ssiPos = none → d = 0) ∧ (s.eng.state = EngineState.unref ∨ s.eng.state = EngineState.coast)) ∧
    (∃ (data : BitVec 32) (startHigh : Bool) (endLow : Bool) (d : ℤ) (s : State), s.pwr.phase = ResetPhase.running ∧ s.resetting
      Fb.wheel = false ∧ s.par P.WH_SRC = 1 ∧ s.eng.state ≠ EngineState.stopped ∧ (startHigh && endLow && !(Option.any (fun q =>
      decide (s.par P.WH_SSIJMP * 2 ^ 8 < (BitVec.ofNat 24 (s.ssiPosition data.toNat) - BitVec.ofNat 24 q).toInt.natAbs))
      s.eng.ssiFrame)) = true ∧ (s.eng.ssiPos = none → d = 0) ∧ s.eng.state = EngineState.track) ∧
    (∃ (data : BitVec 32) (startHigh : Bool) (endLow : Bool) (d : ℤ) (s : State), s.pwr.phase = ResetPhase.running ∧ s.resetting
      Fb.wheel = false ∧ s.par P.WH_SRC = 1 ∧ s.eng.state ≠ EngineState.stopped ∧ (startHigh && endLow && !(Option.any (fun q =>
      decide (s.par P.WH_SSIJMP * 2 ^ 8 < (BitVec.ofNat 24 (s.ssiPosition data.toNat) - BitVec.ofNat 24 q).toInt.natAbs))
      s.eng.ssiFrame)) = true ∧ (s.eng.ssiPos = none → d = 0) ∧ s.eng.state = EngineState.hold) :=
  ⟨⟨0, false, true, { (late.setPar P.WH_SRC 0 1) with eng.state := .track }, by decide⟩,
   ⟨0, true, true, 0, { (late.setPar P.WH_SRC 0 1) with eng.state := .unref }, by decide⟩,
   ⟨0, true, true, 0, { (late.setPar P.WH_SRC 0 1) with eng.state := .track }, by decide⟩,
   ⟨0, true, true, 0, { (late.setPar P.WH_SRC 0 1) with eng.state := .hold }, by decide⟩⟩

theorem witness_EvaluationStepsRunAndAdvance :
    (∃ (s : State), s.stepFree = true ∧ s.wheel.store = [] ∧ s.pend = [] ∧ s.cells = [] ∧ s.ics = [] ∧ s.sessions = [] ∧
      s.crossings s.binsAhead (s.par P.GR_STARTBIN) = [] ∧ s.crossings s.binsAhead (s.par P.SL_SNAPBIN) = [] ∧ 0 < s.binsAhead) ∧
    (∃ (q : Fin 16) (s : State), s.stepFree = true ∧ s.wheel.store = [] ∧ s.pend = [] ∧ s.cells = [] ∧ s.ics = [] ∧ s.sessions =
      [] ∧ s.crossings s.binsAhead (s.par P.GR_STARTBIN) = [] ∧ s.crossings s.binsAhead (s.par P.SL_SNAPBIN) = [] ∧ (s.queue
      q.val).enabled = true ∧ (s.queue q.val).due ≤ s.t) :=
  ⟨⟨{ late with eng.state := .track, eng.pos := 16777216, wheel.queues := [] }, by decide⟩,
   ⟨0, (let zz : State := up; zz.setQueue ((0 : Fin 16)) { zz.queue ((0 : Fin 16)) with enabled := true }), by decide⟩⟩

theorem witness_WheelAndTimeQueueCommandsComplete :
    (∃ (s : State), s.hopperUp = true ∧ s.resetting Fb.wheel = false ∧ s.pendingC Fb.wheel = false ∧ s.eng.state =
      EngineState.stopped ∧ s.par P.WH_SRC ≠ 4) ∧
    (∃ (s : State), s.hopperUp = true ∧ s.resetting Fb.wheel = false ∧ s.pendingC Fb.wheel = false ∧ s.eng.state =
      EngineState.stopped ∧ s.par P.WH_SRC = 4) ∧
    (∃ (s : State), s.hopperUp = true ∧ s.resetting Fb.wheel = false ∧ s.pendingC Fb.wheel = false ∧ s.eng.state =
      EngineState.unref ∧ s.par P.WH_SRC = 4) ∧
    (∃ (s : State), s.hopperUp = true ∧ s.resetting Fb.wheel = false ∧ s.pendingC Fb.wheel = true) ∧
    (∃ (s : State), s.hopperUp = true ∧ s.resetting Fb.wheel = false ∧ s.eng.state ≠ EngineState.stopped ∧ s.eng.state ≠
      EngineState.unref) ∧
    (∃ (s : State), s.hopperUp = true ∧ s.resetting Fb.wheel = false ∧ s.eng.state = EngineState.track) ∧
    (∃ (s : State), s.hopperUp = true ∧ s.resetting Fb.wheel = false ∧ s.eng.state ≠ EngineState.track) ∧
    (∃ (q : Fin 16) (s : State), s.hopperUp = true ∧ s.resetting Fb.wheel = false ∧ (decide (q.val = 15) && s.tq15Reserved) =
      false) ∧
    (∃ (q : Fin 16) (s : State), s.hopperUp = true ∧ s.resetting Fb.wheel = false ∧ q.val = 15 ∧ s.tq15Reserved = true) ∧
    (∃ (n : Fin 64) (s : State), s.wheelActs = true ∧ (s.cmp n.val).urgent = true ∧ (s.setCmp n.val
      ({ s.cmp n.val with urgent := false, urgLost := false })).isGated (codeBlock (actOwner (actWord Act.urgentConv true 0 (s.par
      P.CMP_URGDST n.val) n.val))) = true) ∧
    (∃ (n : Fin 64) (s : State), s.wheelActs = true ∧ (s.cmp n.val).urgent = true ∧ (s.setCmp n.val
      ({ s.cmp n.val with urgent := false, urgLost := false })).isGated (codeBlock (actOwner (actWord Act.urgentConv true 0 (s.par
      P.CMP_URGDST n.val) n.val))) = false ∧ (s.setCmp n.val ({ s.cmp n.val with urgent := false, urgLost := false })).actSkips
      (actWord Act.urgentConv true 0 (s.par P.CMP_URGDST n.val) n.val) = true) ∧
    (∃ (n : Fin 64) (s : State), s.wheelActs = true ∧ (s.cmp n.val).urgent = true ∧ (s.setCmp n.val
      ({ s.cmp n.val with urgent := false, urgLost := false })).isGated (codeBlock (actOwner (actWord Act.urgentConv true 0 (s.par
      P.CMP_URGDST n.val) n.val))) = false ∧ (s.setCmp n.val ({ s.cmp n.val with urgent := false, urgLost := false })).actSkips
      (actWord Act.urgentConv true 0 (s.par P.CMP_URGDST n.val) n.val) = false ∧ actTarget (actWord Act.urgentConv true 0 (s.par
      P.CMP_URGDST n.val) n.val) < 4) ∧
    (∃ (n : Fin 64) (s : State), s.wheelActs = true ∧ (s.cmp n.val).urgent = true ∧ (s.setCmp n.val
      ({ s.cmp n.val with urgent := false, urgLost := false })).isGated (codeBlock (actOwner (actWord Act.urgentConv true 0 (s.par
      P.CMP_URGDST n.val) n.val))) = false ∧ (s.setCmp n.val ({ s.cmp n.val with urgent := false, urgLost := false })).actSkips
      (actWord Act.urgentConv true 0 (s.par P.CMP_URGDST n.val) n.val) = false ∧ 4 ≤ actTarget (actWord Act.urgentConv true 0
      (s.par P.CMP_URGDST n.val) n.val)) :=
  ⟨⟨(late.setPar P.WH_SRC 0 0), by decide⟩,
   ⟨({ up with eng.state := EngineState.stopped }).setPar P.WH_SRC 0 4, by decide⟩,
   ⟨({ up with eng.state := EngineState.unref }).setPar P.WH_SRC 0 4, by decide⟩,
   ⟨(let zz : State := up; zz.setFb (Fb.wheel) { zz.fb (Fb.wheel) with pendC := true }), by decide⟩,
   ⟨{ (late.setPar P.WH_SRC 0 0) with eng.state := .track }, by decide⟩,
   ⟨{ up with eng.state := EngineState.track }, by decide⟩,
   ⟨up, by decide⟩,
   ⟨0, up, by decide⟩,
   ⟨15, up, by decide⟩,
   ⟨63,
     { ((({ late with eng.state := .track }).setCmp 63 { urgent := true }).setGroup 0 { state := .gated true }) with kiln.deferred := [8] },
     by decide⟩,
   ⟨63, ((({ late with eng.state := .track }).setCmp 63 { urgent := true }).setGroup 0 { state := .safe }), by decide⟩,
   ⟨0, (let zz : State := up; zz.setCmp ((0 : Fin 64)) { zz.cmp ((0 : Fin 64)) with urgent := true }), by decide⟩,
   ⟨63, (((({ late with eng.state := .track }).setCmp 63 { urgent := true }).setPar P.CMP_URGDST 63 16).setIc 0
     { state := .running }), by decide⟩⟩

theorem witness_MainsCrossingsAndEncoderFaultAct :
    (∃ (s : State), s.pwr.phase = ResetPhase.running ∧ s.resetting Fb.wheel = false ∧ s.mains.lastRise = none) ∧
    (∃ (t0 : ℕ) (s : State), s.pwr.phase = ResetPhase.running ∧ s.resetting Fb.wheel = false ∧ s.mains.lastRise = some t0 ∧
      periodAccepted (s.t - t0) = true) ∧
    (∃ (t0 : ℕ) (s : State), s.pwr.phase = ResetPhase.running ∧ s.resetting Fb.wheel = false ∧ s.mains.lastRise = some t0 ∧
      periodAccepted (s.t - t0) = false) ∧
    (∃ (s : State), s.pwr.phase = ResetPhase.running ∧ s.resetting Fb.wheel = false ∧ s.mainsQuiet = true ∧ s.mains.state =
      LockState.acquire) ∧
    (∃ (s : State), s.pwr.phase = ResetPhase.running ∧ s.resetting Fb.wheel = false ∧ s.mainsQuiet = true ∧ s.mains.state =
      LockState.locked) ∧
    (∃ (s : State), s.pwr.phase = ResetPhase.running ∧ s.resetting Fb.wheel = false ∧ s.mainsQuiet = true ∧ (s.mains.state =
      LockState.nolock ∨ s.mains.state = LockState.held)) ∧
    (∃ (p : Fin 48) (s : State), s.pwr.phase = ResetPhase.running ∧ (s.pinEntry p.val).func = 3) ∧
    (∃ (p : Fin 48) (s : State), s.pwr.phase = ResetPhase.running ∧ (s.pinEntry p.val).func ≠ 3) :=
  ⟨⟨late, by decide⟩,
   ⟨999998000000, { late with mains.state := .locked, mains.lastRise := some 999998000000 }, by decide⟩,
   ⟨0, { up with mains.lastRise := some (0) }, by decide⟩,
   ⟨{ late with mains.state := LockState.acquire }, by decide⟩,
   ⟨{ late with mains.state := LockState.locked }, by decide⟩,
   ⟨{ late with mains.state := LockState.nolock }, by decide⟩,
   ⟨0, { late with fab.state := .run, fab.live.loaded := true, fab.live.bytes := [(0x2BF00, 3)] }, by decide⟩,
   ⟨0, up, by decide⟩⟩

theorem witness_SettlingAndCellDetectorsAct :
    (∃ (n : Fin 64) (e : ℕ) (s : State), s.alive = true ∧ (s.cell n.val).settleEnd = some e ∧ e ≤ s.t ∧ ((s.cell n.val).state =
      CellState.settling ∨ (s.cell n.val).state = CellState.active)) ∧
    (∃ (n : Fin 64) (s : State), s.pwr.phase = ResetPhase.running ∧ (s.cell n.val).state ≠ CellState.off ∧ (s.cell n.val).state ≠
      CellState.gated ∧ s.episodeOpen (Fb.cell n.val) 0 = false) ∧
    (∃ (n : Fin 64) (s : State), s.pwr.phase = ResetPhase.running ∧ (s.cell n.val).state ≠ CellState.off ∧ isInputMode (s.par
      P.AC_MODE n.val) = true) ∧
    (∃ (n : Fin 64) (s : State), s.pwr.phase = ResetPhase.running ∧ (s.cell n.val).state ≠ CellState.off ∧ (s.par P.AC_MODE n.val
      = 2 ∨ s.par P.AC_MODE n.val = 4) ∧ s.par P.AC_BURNOUT n.val = 1) ∧
    (∃ (n : Fin 64) (s : State), s.pwr.phase = ResetPhase.running ∧ (s.cell n.val).state ≠ CellState.off ∧ isExciteMode (s.par
      P.AC_MODE n.val) = true) ∧
    (∃ (n : Fin 64) (s : State), s.pwr.phase = ResetPhase.running ∧ (s.cell n.val).state ≠ CellState.off ∧ s.par P.AC_MODE n.val =
      6) ∧
    (∃ (n : Fin 64) (s : State), s.pwr.phase = ResetPhase.running ∧ (s.cell n.val).state ≠ CellState.off ∧ s.par P.AC_MODE n.val =
      5) ∧
    (∃ (n : Fin 64) (s : State), s.pwr.phase = ResetPhase.running ∧ (s.cell n.val).state ≠ CellState.off ∧ (s.par P.AC_MODE n.val
      = 3 ∨ isOutputMode (s.par P.AC_MODE n.val) = true)) :=
  ⟨⟨0, 0, (let zz : State := (let zz : State := up; zz.setCell ((0 : Fin 64))
     { zz.cell ((0 : Fin 64)) with settleEnd := some (0) }); zz.setCell ((0 : Fin 64))
     { zz.cell ((0 : Fin 64)) with state := CellState.settling }), by decide⟩,
   ⟨63, ((late.setCell 63 { state := .active }).setPar P.AC_MODE 63 1), by decide⟩,
   ⟨63, (((late.setCell 63 { state := .active }).setPar P.AC_MODE 63 1).setPar P.AC_BURNOUT 63 1), by decide⟩,
   ⟨63, (((late.setCell 63 { state := .active }).setPar P.AC_MODE 63 2).setPar P.AC_BURNOUT 63 1), by decide⟩,
   ⟨63, ((late.setCell 63 { state := .active }).setPar P.AC_MODE 63 7), by decide⟩,
   ⟨63, ((late.setCell 63 { state := .active }).setPar P.AC_MODE 63 6), by decide⟩,
   ⟨63, ((late.setCell 63 { state := .active }).setPar P.AC_MODE 63 5), by decide⟩,
   ⟨63, ((late.setCell 63 { state := .active }).setPar P.AC_MODE 63 3), by decide⟩⟩

theorem witness_OutputWritesClampAndComeInForce :
    (∃ (n : Fin 64) (v : Word) (s : State), s.hopperUp = true ∧ s.resetting (Fb.cell n.val) = false ∧ v.toNat < 65536 ∧ (s.cell
      n.val).state ≠ CellState.safe ∧ isOutputMode (s.par P.AC_MODE n.val) = true) ∧
    (∃ (n : Fin 64) (v : Word) (s : State), s.hopperUp = true ∧ s.resetting (Fb.cell n.val) = false ∧ v.toNat < 65536 ∧ (s.cell
      n.val).state = CellState.safe) ∧
    (∃ (n : Fin 64) (v : Word) (s : State), s.hopperUp = true ∧ s.resetting (Fb.cell n.val) = false ∧ v.toNat < 65536 ∧ (s.cell
      n.val).state ≠ CellState.safe ∧ isOutputMode (s.par P.AC_MODE n.val) = false) ∧
    (∃ (n : Fin 64) (v : Word) (s : State), s.hopperUp = true ∧ s.resetting (Fb.cell n.val) = false ∧ 65536 ≤ v.toNat) ∧
    (∃ (n : Fin 64) (v : ℕ) (m : ℕ) (s : State), v < 65536 ∧ s.par P.AC_OUTMAX n.val < 65536 ∧ s.par P.AC_OUTMIN n.val ≤ s.par
      P.AC_OUTMAX n.val ∧ m ≠ n.val) ∧
    (∃ (n : Fin 64) (v : ℕ) (s : State), v < 65536 ∧ s.par P.AC_OUTMAX n.val < 65536 ∧ s.par P.AC_OUTMIN n.val ≤ s.par P.AC_OUTMAX
      n.val ∧ s.par P.AC_OUTMIN n.val ≤ v ∧ v ≤ s.par P.AC_OUTMAX n.val) ∧
    (∃ (n : Fin 64) (v : ℕ) (s : State), v < 65536 ∧ s.par P.AC_OUTMAX n.val < 65536 ∧ s.par P.AC_OUTMIN n.val ≤ s.par P.AC_OUTMAX
      n.val ∧ (v < s.par P.AC_OUTMIN n.val ∨ s.par P.AC_OUTMAX n.val < v) ∧ s.episodeOpen (Fb.cell n.val) 7 = false) ∧
    (∃ (n : Fin 64) (c : ℕ) (s : State), s.pwr.phase = ResetPhase.running ∧ s.tst.isolated = false ∧ s.isStandby = false ∧ (s.cell
      n.val).state = CellState.active ∧ (s.cell n.val).drive = Drive.code ∧ (s.cell n.val).code.toNat = c ∧ s.par P.AC_MODE n.val =
      5) ∧
    (∃ (n : Fin 64) (c : ℕ) (s : State), s.pwr.phase = ResetPhase.running ∧ s.tst.isolated = false ∧ s.isStandby = false ∧ (s.cell
      n.val).state = CellState.active ∧ (s.cell n.val).drive = Drive.code ∧ (s.cell n.val).code.toNat = c ∧ s.par P.AC_MODE n.val =
      6) ∧
    (∃ (n : Fin 64) (s : State), s.par P.AC_MODE n.val = 0) ∧
    (∃ (signed : Bool) (v : Frac) (bits : ℕ), 0 < v.den ∧ 0 < bits ∧ spanPlace signed v = SpanPlace.above) ∧
    (∃ (signed : Bool) (v : Frac) (bits : ℕ), 0 < v.den ∧ 0 < bits ∧ spanPlace signed v = SpanPlace.below) :=
  ⟨⟨63, 65535, ((late.setCell 63 { state := .active }).setPar P.AC_MODE 63 5), by decide⟩,
   ⟨0, 0, (let zz : State := up; zz.setCell ((0 : Fin 64)) { zz.cell ((0 : Fin 64)) with state := CellState.safe }), by
     decide⟩,
   ⟨0, 0, up, by decide⟩,
   ⟨63, 65536, ((late.setCell 63 { state := .active }).setPar P.AC_MODE 63 5), by decide⟩,
   ⟨1, 0, 0, up, by decide⟩,
   ⟨0, 0, up, by decide⟩,
   ⟨63, 65535, ((late.setPar P.AC_OUTMAX 63 32768).setPar P.AC_OUTMIN 63 0), by decide⟩,
   ⟨63, 65535, ((late.setCell 63 { state := .active, drive := .code, code := 65535 }).setPar P.AC_MODE 63 5), by decide⟩,
   ⟨63, 65535, ((late.setCell 63 { state := .active, drive := .code, code := 65535 }).setPar P.AC_MODE 63 6), by decide⟩,
   ⟨0, (up).setPar P.AC_MODE ((0 : Fin 64)) 0, by decide⟩,
   ⟨true, ⟨4096000001, 1⟩, 12, by decide⟩,
   ⟨true, ⟨-4096000001, 1⟩, 12, by decide⟩⟩

theorem witness_CellAndComparatorCommandsComplete :
    (∃ (n : Fin 64) (s : State), s.hopperUp = true ∧ s.resetting (Fb.cell n.val) = false ∧ ((s.cell n.val).state ≠ CellState.safe
      ∨ s.pendingC (Fb.cell n.val) = true)) ∧
    (∃ (n : Fin 64) (s : State), s.hopperUp = true ∧ s.resetting (Fb.cmp n.val) = false ∧ (s.cmp n.val).state = CmpState.disabled) ∧
    (∃ (n : Fin 64) (s : State), s.hopperUp = true ∧ s.resetting (Fb.cmp n.val) = false ∧ (s.cmp n.val).state ≠ CmpState.disabled) ∧
    (∃ (n : Fin 64) (s : State), s.hopperUp = true ∧ s.resetting (Fb.cmp n.val) = false ∧ (s.cmp n.val).state = CmpState.disarmed) ∧
    (∃ (n : Fin 64) (s : State), s.hopperUp = true ∧ s.resetting (Fb.cmp n.val) = false ∧ (s.cmp n.val).state = CmpState.armed) ∧
    (∃ (n : Fin 64) (s : State), s.hopperUp = true ∧ s.resetting (Fb.cmp n.val) = false ∧ (s.cmp n.val).state = CmpState.held) ∧
    (∃ (n : Fin 64) (s : State), s.hopperUp = true ∧ s.resetting (Fb.cmp n.val) = false ∧ (s.cmp n.val).state = CmpState.safe ∧
      s.pendingC (Fb.cmp n.val) = false) ∧
    (∃ (n : Fin 64) (s : State), s.hopperUp = true ∧ s.resetting (Fb.cmp n.val) = false ∧ (s.cmp n.val).state = CmpState.safe ∧
      s.pendingC (Fb.cmp n.val) = true) :=
  ⟨⟨0, up, by decide⟩,
   ⟨0, (let zz : State := up; zz.setCmp ((0 : Fin 64)) { zz.cmp ((0 : Fin 64)) with state := CmpState.disabled }), by decide⟩,
   ⟨63, (late.setCmp 63 { state := .armed }), by decide⟩,
   ⟨0, (let zz : State := up; zz.setCmp ((0 : Fin 64)) { zz.cmp ((0 : Fin 64)) with state := CmpState.disarmed }), by decide⟩,
   ⟨0, (let zz : State := up; zz.setCmp ((0 : Fin 64)) { zz.cmp ((0 : Fin 64)) with state := CmpState.armed }), by decide⟩,
   ⟨0, (let zz : State := up; zz.setCmp ((0 : Fin 64)) { zz.cmp ((0 : Fin 64)) with state := CmpState.held }), by decide⟩,
   ⟨0, (let zz : State := up; zz.setCmp ((0 : Fin 64)) { zz.cmp ((0 : Fin 64)) with state := CmpState.safe }), by decide⟩,
   ⟨0, (let zz : State := (let zz : State := up; zz.setCmp ((0 : Fin 64))
     { zz.cmp ((0 : Fin 64)) with state := CmpState.safe }); zz.setFb ((Fb.cmp ((0 : Fin 64))))
     { zz.fb ((Fb.cmp ((0 : Fin 64)))) with pendC := true }), by decide⟩⟩

theorem witness_ThresholdsLoadAndComparatorsSample :
    (∃ (n : Fin 64) (v : Word) (s : State), s.hopperUp = true ∧ s.resetting (Fb.cmp n.val) = false ∧ valueOk P.CMP_THR n.val
      (v.toNat) = true ∧ thrOutOfOrder (s.par P.CMP_MODE n.val) (v.toNat) = false) ∧
    (∃ (n : Fin 64) (v : Word) (s : State), s.hopperUp = true ∧ s.resetting (Fb.cmp n.val) = false ∧ valueOk P.CMP_THR n.val
      (v.toNat) = true ∧ thrOutOfOrder (s.par P.CMP_MODE n.val) (v.toNat) = true) ∧
    (∃ (n : Fin 64) (v : Word) (w : ℕ) (m : ℕ) (s : State), s.hopperUp = true ∧ s.resetting (Fb.cmp n.val) = false ∧ valueOk
      P.CMP_THR n.val (v.toNat) = true ∧ w < 2 ^ 32 ∧ m ≠ n.val) ∧
    (∃ (n : Fin 64) (x : TapSample) (s : State) (v : State), s.alive = true ∧ s.cmpRuns n.val = true ∧ (s.cmp n.val).phase + s.par
      P.CMP_DIV n.val ≤ s.t ∧ (((((s.setCmp n.val ({ s.cmp n.val with tap := x })).cmpBoundary n.val).cmp n.val).state =
      CmpState.held ∧ ((s.setCmp n.val ({ s.cmp n.val with tap := x })).cmpBoundary n.val).cellSettling n.val = false ∧ ∃ a b,
      (((s.setCmp n.val ({ s.cmp n.val with tap := x })).cmpBoundary n.val).cmp n.val).passed = some (a, b) ∧ v = ((((s.setCmp
      n.val ({ s.cmp n.val with tap := x })).cmpBoundary n.val).setCmp n.val
      ({ ((s.setCmp n.val ({ s.cmp n.val with tap := x })).cmpBoundary n.val).cmp n.val with state := if (((s.setCmp n.val ({ s.cmp n.val with tap := x })).cmpBoundary n.val).cmp n.val).heldArmed = true then CmpState.armed else CmpState.disarmed, reload := true })).cmpPush
      n.val a b).cmpDeliver n.val) ∨ ((((s.setCmp n.val ({ s.cmp n.val with tap := x })).cmpBoundary n.val).cmp n.val).state ≠
      CmpState.held ∨ ((s.setCmp n.val ({ s.cmp n.val with tap := x })).cmpBoundary n.val).cellSettling n.val = true ∨ (((s.setCmp
      n.val ({ s.cmp n.val with tap := x })).cmpBoundary n.val).cmp n.val).passed = none) ∧ ((((s.setCmp n.val
      ({ s.cmp n.val with tap := x })).cmpBoundary n.val).cmp n.val).feed ((s.setCmp n.val
      ({ s.cmp n.val with tap := x })).cmpBoundary n.val).t = none ∧ v = ((s.setCmp n.val
      ({ s.cmp n.val with tap := x })).cmpBoundary n.val) ∨ ∃ a b, (((s.setCmp n.val ({ s.cmp n.val with tap := x })).cmpBoundary
      n.val).cmp n.val).feed ((s.setCmp n.val ({ s.cmp n.val with tap := x })).cmpBoundary n.val).t = some (a, b) ∧ v = (((s.setCmp
      n.val ({ s.cmp n.val with tap := x })).cmpBoundary n.val).cmpPush n.val a b).cmpDeliver n.val)) ∧ (s.cmp n.val).state =
      CmpState.held) ∧
    (∃ (n : Fin 64) (e : ℕ) (s : State), s.alive = true ∧ (s.cmp n.val).blankEnd = some e ∧ e ≤ s.t) ∧
    (∃ (n : Fin 64) (s : State), s.alive = true ∧ (s.cmp n.val).state ≠ CmpState.disabled) :=
  ⟨⟨0, 0, up, by decide⟩,
   ⟨63, 4095, (late.setPar P.CMP_MODE 63 1), by decide⟩,
   ⟨1, 0, 0, 0, up, by decide⟩,
   ⟨0, {}, (let zz : State := late; zz.setCmp ((0 : Fin 64)) { zz.cmp ((0 : Fin 64)) with state := CmpState.held }), (let zz :
     State := late; zz.setCmp ((0 : Fin 64)) { zz.cmp ((0 : Fin 64)) with state := CmpState.held }), by decide⟩,
   ⟨0, 0, (let zz : State := up; zz.setCmp ((0 : Fin 64)) { zz.cmp ((0 : Fin 64)) with blankEnd := some (0) }), by decide⟩,
   ⟨63, (late.setCmp 63 { state := .armed }), by decide⟩⟩

theorem witness_DeliveredOutputFollowsTheFilters :
    (∃ (n : Fin 64) (u : Bool) (l : Bool) (s : State), (s.cmp n.val).state = CmpState.armed ∧ (((if s.par P.CMP_MODE n.val = 0
      then majority (if (s.cmp n.val).reload = true then List.replicate (s.par P.CMP_MAJ n.val) u else List.take (s.par P.CMP_MAJ
      n.val) (u :: (s.cmp n.val).histU)) else if s.par P.CMP_MODE n.val = 1 then majority (if (s.cmp n.val).reload = true then
      List.replicate (s.par P.CMP_MAJ n.val) l else List.take (s.par P.CMP_MAJ n.val) (l :: (s.cmp n.val).histL)) && !majority (if
      (s.cmp n.val).reload = true then List.replicate (s.par P.CMP_MAJ n.val) u else List.take (s.par P.CMP_MAJ n.val) (u :: (s.cmp
      n.val).histU)) else if (s.cmp n.val).reload = true then majority (if (s.cmp n.val).reload = true then List.replicate (s.par
      P.CMP_MAJ n.val) u else List.take (s.par P.CMP_MAJ n.val) (u :: (s.cmp n.val).histU)) || majority (if (s.cmp n.val).reload =
      true then List.replicate (s.par P.CMP_MAJ n.val) l else List.take (s.par P.CMP_MAJ n.val) (l :: (s.cmp n.val).histL)) &&
      (s.cmp n.val).hyst else if (majority (if (s.cmp n.val).reload = true then List.replicate (s.par P.CMP_MAJ n.val) u else
      List.take (s.par P.CMP_MAJ n.val) (u :: (s.cmp n.val).histU)) != (s.cmp n.val).upper && majority (if (s.cmp n.val).reload =
      true then List.replicate (s.par P.CMP_MAJ n.val) l else List.take (s.par P.CMP_MAJ n.val) (l :: (s.cmp n.val).histL)) !=
      (s.cmp n.val).lower) = true then majority (if (s.cmp n.val).reload = true then List.replicate (s.par P.CMP_MAJ n.val) u else
      List.take (s.par P.CMP_MAJ n.val) (u :: (s.cmp n.val).histU)) else if (majority (if (s.cmp n.val).reload = true then
      List.replicate (s.par P.CMP_MAJ n.val) u else List.take (s.par P.CMP_MAJ n.val) (u :: (s.cmp n.val).histU)) != (s.cmp
      n.val).upper && majority (if (s.cmp n.val).reload = true then List.replicate (s.par P.CMP_MAJ n.val) u else List.take (s.par
      P.CMP_MAJ n.val) (u :: (s.cmp n.val).histU))) = true then true else if (majority (if (s.cmp n.val).reload = true then
      List.replicate (s.par P.CMP_MAJ n.val) l else List.take (s.par P.CMP_MAJ n.val) (l :: (s.cmp n.val).histL)) != (s.cmp
      n.val).lower && !majority (if (s.cmp n.val).reload = true then List.replicate (s.par P.CMP_MAJ n.val) l else List.take (s.par
      P.CMP_MAJ n.val) (l :: (s.cmp n.val).histL))) = true then false else (s.cmp n.val).hyst) != (s.par P.CMP_POL n.val == 1))) =
      (s.cmp n.val).delivered) ∧
    (∃ (n : Fin 64) (u : Bool) (l : Bool) (s : State), (s.cmp n.val).state = CmpState.armed ∧ (((if s.par P.CMP_MODE n.val = 0
      then majority (if (s.cmp n.val).reload = true then List.replicate (s.par P.CMP_MAJ n.val) u else List.take (s.par P.CMP_MAJ
      n.val) (u :: (s.cmp n.val).histU)) else if s.par P.CMP_MODE n.val = 1 then majority (if (s.cmp n.val).reload = true then
      List.replicate (s.par P.CMP_MAJ n.val) l else List.take (s.par P.CMP_MAJ n.val) (l :: (s.cmp n.val).histL)) && !majority (if
      (s.cmp n.val).reload = true then List.replicate (s.par P.CMP_MAJ n.val) u else List.take (s.par P.CMP_MAJ n.val) (u :: (s.cmp
      n.val).histU)) else if (s.cmp n.val).reload = true then majority (if (s.cmp n.val).reload = true then List.replicate (s.par
      P.CMP_MAJ n.val) u else List.take (s.par P.CMP_MAJ n.val) (u :: (s.cmp n.val).histU)) || majority (if (s.cmp n.val).reload =
      true then List.replicate (s.par P.CMP_MAJ n.val) l else List.take (s.par P.CMP_MAJ n.val) (l :: (s.cmp n.val).histL)) &&
      (s.cmp n.val).hyst else if (majority (if (s.cmp n.val).reload = true then List.replicate (s.par P.CMP_MAJ n.val) u else
      List.take (s.par P.CMP_MAJ n.val) (u :: (s.cmp n.val).histU)) != (s.cmp n.val).upper && majority (if (s.cmp n.val).reload =
      true then List.replicate (s.par P.CMP_MAJ n.val) l else List.take (s.par P.CMP_MAJ n.val) (l :: (s.cmp n.val).histL)) !=
      (s.cmp n.val).lower) = true then majority (if (s.cmp n.val).reload = true then List.replicate (s.par P.CMP_MAJ n.val) u else
      List.take (s.par P.CMP_MAJ n.val) (u :: (s.cmp n.val).histU)) else if (majority (if (s.cmp n.val).reload = true then
      List.replicate (s.par P.CMP_MAJ n.val) u else List.take (s.par P.CMP_MAJ n.val) (u :: (s.cmp n.val).histU)) != (s.cmp
      n.val).upper && majority (if (s.cmp n.val).reload = true then List.replicate (s.par P.CMP_MAJ n.val) u else List.take (s.par
      P.CMP_MAJ n.val) (u :: (s.cmp n.val).histU))) = true then true else if (majority (if (s.cmp n.val).reload = true then
      List.replicate (s.par P.CMP_MAJ n.val) l else List.take (s.par P.CMP_MAJ n.val) (l :: (s.cmp n.val).histL)) != (s.cmp
      n.val).lower && !majority (if (s.cmp n.val).reload = true then List.replicate (s.par P.CMP_MAJ n.val) l else List.take (s.par
      P.CMP_MAJ n.val) (l :: (s.cmp n.val).histL))) = true then false else (s.cmp n.val).hyst) != (s.par P.CMP_POL n.val == 1))) ≠
      (s.cmp n.val).delivered ∧ s.par P.CMP_EDGECNT n.val < 2 ^ 32 - 1) ∧
    (∃ (n : Fin 64) (m : ℕ) (s : State), (s.cmp n.val).state = CmpState.armed ∧ m ≠ n.val) :=
  ⟨⟨0, false, true, (let zz : State := up; zz.setCmp ((0 : Fin 64)) { zz.cmp ((0 : Fin 64)) with state := CmpState.armed }),
     by decide⟩,
   ⟨0, true, true, (let zz : State := up; zz.setCmp ((0 : Fin 64)) { zz.cmp ((0 : Fin 64)) with state := CmpState.armed }), by
     decide⟩,
   ⟨1, 0, (let zz : State := up; zz.setCmp ((1 : Fin 64)) { zz.cmp ((1 : Fin 64)) with state := CmpState.armed }), by decide⟩⟩

theorem witness_SarSlotsStartAndFinishConversions :
    (∃ (g : Fin 4) (half : Bool) (s : State), s.alive = true ∧ ((((((s.setGroup g.val
      ({ s.group g.val with lastSlot := some (2 * s.t + b2n half), oldSys := [], oldPairs := [] })).takeLive (Fb.sar
      g.val)).sarRefUpdate g.val).sarSwap g.val).sarListCmds g.val).group g.val).serves = true ∧ (((((s.setGroup g.val
      ({ s.group g.val with lastSlot := some (2 * s.t + b2n half), oldSys := [], oldPairs := [] })).takeLive (Fb.sar
      g.val)).sarRefUpdate g.val).sarSwap g.val).sarListCmds g.val).sarHeldBack g.val = false) ∧
    (∃ (g : Fin 4) (half : Bool) (s : State), s.alive = true ∧ (((((((s.setGroup g.val
      ({ s.group g.val with lastSlot := some (2 * s.t + b2n half), oldSys := [], oldPairs := [] })).takeLive (Fb.sar
      g.val)).sarRefUpdate g.val).sarSwap g.val).sarListCmds g.val).group g.val).serves = false ∨ (((((s.setGroup g.val
      ({ s.group g.val with lastSlot := some (2 * s.t + b2n half), oldSys := [], oldPairs := [] })).takeLive (Fb.sar
      g.val)).sarRefUpdate g.val).sarSwap g.val).sarListCmds g.val).sarHeldBack g.val = true)) ∧
    (∃ (g : Fin 4) (i : Fin 5) (c : Conv) (s : State), s.alive = true ∧ (((s.sarSampleSlice g.val i.val).group g.val).slice
      i.val).conv = some c ∧ c.start + 100 ≤ 2 * (s.sarSampleSlice g.val i.val).t + 1) ∧
    (∃ (g : Fin 4) (i : ℕ) (cell : ℕ) (r : List ℕ) (q : List ℕ) (s : State), (s.group g.val).urgent = cell :: q ∧ (s.group
      g.val).free = i :: r) ∧
    (∃ (g : Fin 4) (now5 : ℕ) (came : Option ℕ) (k : ℕ) (i : ℕ) (r : List ℕ) (s : State), (s.group g.val).urgent = [] ∧ (s.group
      g.val).restart = [] ∧ s.listDue g.val now5 = some k ∧ (s.group g.val).freeFor came = i :: r ∧ (scanSim (s.scanEntry g.val
      ((listFirst (s.listWord g.val)) + k)) = false ∨ listLength (s.listWord g.val) ≤ k + 1)) ∧
    (∃ (g : Fin 4) (now5 : ℕ) (came : Option ℕ) (k : ℕ) (i : ℕ) (j : ℕ) (r : List ℕ) (s : State), (s.group g.val).urgent = [] ∧
      (s.group g.val).restart = [] ∧ s.listDue g.val now5 = some k ∧ (s.group g.val).freeFor came = i :: j :: r ∧ scanSim
      (s.scanEntry g.val ((listFirst (s.listWord g.val)) + k)) = true ∧ k + 1 < listLength (s.listWord g.val)) ∧
    (∃ (g : Fin 4) (now5 : ℕ) (came : Option ℕ) (k : ℕ) (s : State), (s.group g.val).urgent = [] ∧ (s.group g.val).restart = [] ∧
      s.listDue g.val now5 = some k ∧ (s.group g.val).freeFor came = []) :=
  ⟨⟨0, true, up, by decide⟩,
   ⟨3, true, (late.setGroup 3 { state := .safe }), by decide⟩,
   ⟨3, 0, { kind := .entry 0, word := 0, start := 0, stamp := some (0, 5) }, (late.setGroup 3
     { state := .running, slices := [(0, { conv := some { kind := .entry 0, word := 0, start := 0, stamp := some (0, 5) } })] }),
     by decide⟩,
   ⟨3, 0, 5, [1, 2, 3], [], (late.setGroup 3 { state := .running, urgent := [5] }), by decide⟩,
   ⟨3, 2000000000000, none, 0, 0, [1, 2, 3], scan 0, by decide⟩,
   ⟨3, 2000000000000, none, 0, 0, 1, [2, 3], scan 1, by decide⟩,
   ⟨3, 2000000000000, none, 0, (let z := scan 0; z.setGroup 3
     { z.group 3 with slices := [0, 1, 2, 3, 4].map (fun i => (i, { state := .withdrawn })) }), by decide⟩⟩

theorem witness_SarCommandsComplete :
    (∃ (g : Fin 4) (list : Fin 16) (s : State), s.hopperUp = true ∧ s.resetting (Fb.sar g.val) = false ∧ s.budgetOk (8 + g.val)
      (s.sarExtra g.val list.val) = true ∧ ((s.group g.val).state = GroupState.stopped ∨ (s.group g.val).state =
      GroupState.running)) ∧
    (∃ (g : Fin 4) (list : Fin 16) (was : Bool) (s : State), s.hopperUp = true ∧ s.resetting (Fb.sar g.val) = false ∧ s.budgetOk
      (8 + g.val) (s.sarExtra g.val list.val) = true ∧ (s.group g.val).state = GroupState.gated was) ∧
    (∃ (g : Fin 4) (list : Fin 16) (s : State), s.hopperUp = true ∧ s.resetting (Fb.sar g.val) = false ∧ s.budgetOk (8 + g.val)
      (s.sarExtra g.val list.val) = false) ∧
    (∃ (g : Fin 4) (list : Fin 16) (s : State), s.hopperUp = true ∧ s.resetting (Fb.sar g.val) = false ∧ s.budgetOk (8 + g.val)
      (s.sarExtra g.val list.val) = true ∧ (s.group g.val).state = GroupState.safe) ∧
    (∃ (g : Fin 4) (s : State), s.hopperUp = true ∧ s.resetting (Fb.sar g.val) = false ∧ ((s.group g.val).state =
      GroupState.running ∨ (s.group g.val).state = GroupState.gated true ∨ (s.group g.val).state = GroupState.stopped ∧ (s.group
      g.val).cmds ≠ [])) ∧
    (∃ (g : Fin 4) (s : State), s.hopperUp = true ∧ s.resetting (Fb.sar g.val) = false ∧ ((s.group g.val).state = GroupState.gated
      false ∨ (s.group g.val).state = GroupState.stopped ∧ (s.group g.val).cmds = [])) ∧
    (∃ (g : Fin 4) (s : State), s.hopperUp = true ∧ s.resetting (Fb.sar g.val) = false ∧ (s.group g.val).state = GroupState.safe ∧
      s.pendingC (Fb.sar g.val) = false) ∧
    (∃ (g : Fin 4) (s : State), s.hopperUp = true ∧ s.resetting (Fb.sar g.val) = false ∧ (s.group g.val).state ≠ GroupState.safe) ∧
    (∃ (g : Fin 4) (s : State), s.hopperUp = true ∧ s.resetting (Fb.sar g.val) = false ∧ g.val ≠ 0) ∧
    (∃ (g : Fin 4) (s : State), s.hopperUp = true ∧ s.resetting (Fb.sar g.val) = false ∧ g.val = 0) :=
  ⟨⟨3, 15, (({ late with kiln.planned := true }).setPar P.KL_PBUDGET 0 4294967295), by decide⟩,
   ⟨0, 0, true, (let zz : State := up; zz.setGroup ((0 : Fin 4))
     { zz.group ((0 : Fin 4)) with state := GroupState.gated ((true : Bool)) }), by decide⟩,
   ⟨3, 15, { late with kiln.planned := true, kiln.state := .idle }, by decide⟩,
   ⟨3, 15, (late.setGroup 3 { state := .safe }), by decide⟩,
   ⟨3, (late.setGroup 3 { state := .running }), by decide⟩,
   ⟨3, (late.setGroup 3 { state := .stopped }), by decide⟩,
   ⟨3, (late.setGroup 3 { state := .safe }), by decide⟩,
   ⟨3, (late.setGroup 3 { state := .running }), by decide⟩,
   ⟨3, late, by decide⟩,
   ⟨0, late, by decide⟩⟩

theorem witness_SystemCalibrationAndReferencesComplete :
    (∃ (g : Fin 4) (s : State), s.hopperUp = true ∧ s.resetting (Fb.sar g.val) = false ∧ (s.group g.val).syscal.busy = false ∧
      s.budgetOk (8 + g.val) s.sysExtra = true ∧ (s.group g.val).state ≠ GroupState.safe) ∧
    (∃ (g : Fin 4) (cell : Fin 64) (z : ℕ) (f : ℕ) (s : State), s.hopperUp = true ∧ s.resetting (Fb.sar g.val) = false ∧ (s.group
      g.val).syscal.busy = false ∧ (s.group g.val).syscal.zero = some z ∧ (s.group g.val).syscal.fullMean = some f ∧ (s.group
      g.val).syscal.cell = cell.val ∧ z < f ∧ 16384 ≤ f - z ∧ ↑((f - z) * 2 ^ 30) ≤ 2 * (64 * (↑(s.par P.SAR_SYSFS cell.val) - ↑(if
      isSignedMode (s.par P.AC_MODE cell.val) = true then 2048 else 0)) * 2 ^ 30) ∧ (64 * (↑(s.par P.SAR_SYSFS cell.val) - ↑(if
      isSignedMode (s.par P.AC_MODE cell.val) = true then 2048 else 0)) * 2 ^ 30) ≤ ↑(2 * (f - z) * 2 ^ 30)) ∧
    (∃ (g : Fin 4) (s : State), s.hopperUp = true ∧ s.resetting (Fb.sar g.val) = false ∧ (s.group g.val).syscal.busy = true ∧
      (s.group g.val).syscal.failed = true) ∧
    (∃ (g : Fin 4) (s : State), s.hopperUp = true ∧ s.resetting (Fb.sar g.val) = false ∧ (s.group g.val).syscal.busy = true ∧
      (s.group g.val).syscal.failed = false ∧ 256 ≤ (s.group g.val).syscal.done ∧ (s.group g.val).syscal.full = false) ∧
    (∃ (g : Fin 4) (s : State), s.hopperUp = true ∧ s.resetting (Fb.sar g.val) = false ∧ (s.group g.val).syscal.busy = true ∧
      (s.group g.val).syscal.failed = false ∧ 256 ≤ (s.group g.val).syscal.done ∧ (s.group g.val).syscal.full = true) ∧
    (∃ (g : Fin 4) (s : State), s.hopperUp = true ∧ s.resetting (Fb.sar g.val) = false ∧ (s.group g.val).syscal.busy = true ∧
      (s.group g.val).syscal.done < 256 ∧ (s.group g.val).syscal.since + msTicks (s.par P.CAL_TIMEOUT) ≤ s.t) ∧
    (∃ (g : Fin 4) (t0 : ℕ) (s : State), s.alive = true ∧ (s.group g.val).refOn = some t0 ∧ t0 + msTicks 2 ≤ s.t) ∧
    (∃ (t0 : ℕ) (s : State), s.alive = true ∧ s.mains.refOn = some t0 ∧ t0 + msTicks 2 ≤ s.t) ∧
    (∃ (g : Fin 4) (s : State), s.alive = true ∧ (s.group g.val).refReady = true) ∧
    (∃ (s : State), s.alive = true ∧ s.mains.refReady = true) :=
  ⟨⟨3, (late.setGroup 3 { state := .running }), by decide⟩,
   ⟨3, 63, 0, 262080, (late.setGroup 3
     { state := .stopped, syscal := { zero := some 0, fullMean := some 262080, cell := 63 } }), by decide⟩,
   ⟨3, (late.setGroup 3 { state := .running, syscal := { busy := true, failed := true } }), by decide⟩,
   ⟨3, (late.setGroup 3 { state := .running, syscal := { busy := true, done := 256 } }), by decide⟩,
   ⟨3, (late.setGroup 3 { state := .running, syscal := { busy := true, done := 256, full := true } }), by decide⟩,
   ⟨3, (late.setGroup 3 { state := .running, syscal := { busy := true, since := 0 } }), by decide⟩,
   ⟨3, 0, (late.setGroup 3 { state := .running, refOn := some 0 }), by decide⟩,
   ⟨0, { late with mains.refOn := some (0) }, by decide⟩,
   ⟨0, (let zz : State := up; zz.setGroup ((0 : Fin 4)) { zz.group ((0 : Fin 4)) with refReady := true }), by decide⟩,
   ⟨{ up with mains.refReady := true }, by decide⟩⟩

theorem witness_IntegrationsAndTheirCommandsComplete :
    (∃ (i : Fin 8) (s : State), s.alive = true ∧ s.icWindowDone i.val = true) ∧
    (∃ (i : Fin 8) (s : State), s.alive = true ∧ (s.ic i.val).phase = IcPhase.window ∧ (s.ic i.val).mode = 1 ∧ s.icWindowDone
      i.val = false ∧ (s.ic i.val).start + msTicks (s.par P.IC_CYCMAX i.val) ≤ s.t) ∧
    (∃ (i : Fin 8) (s : State), s.alive = true ∧ (s.ic i.val).state = IcState.running ∧ (s.ic i.val).phase = IcPhase.overhead ∧
      (s.ic i.val).stop + 120000 ≤ s.t) ∧
    (∃ (i : Fin 8) (s : State), s.alive = true ∧ (s.ic i.val).state = IcState.running ∧ (s.ic i.val).phase = IcPhase.overhead ∧
      (s.ic i.val).stop + msTicks 1 ≤ s.t ∧ (s.ic i.val).discard = true ∧ (s.ic i.val).nextSlot = none ∧ (s.ic i.val).stopDue =
      true) ∧
    (∃ (i : Fin 8) (s : State), s.alive = true ∧ (s.ic i.val).state = IcState.running ∧ (s.ic i.val).phase = IcPhase.overhead ∧
      (s.ic i.val).stop + msTicks 1 ≤ s.t ∧ (s.ic i.val).discard = true ∧ (s.ic i.val).nextSlot = none ∧ (s.ic i.val).stopDue =
      false) ∧
    (∃ (i : Fin 8) (s : State), s.alive = true ∧ (s.ic i.val).state = IcState.running ∧ (s.ic i.val).phase = IcPhase.overhead ∧
      (s.ic i.val).stop + msTicks 1 ≤ s.t ∧ (s.ic i.val).discard = true ∧ (s.ic i.val).nextSlot ≠ none) ∧
    (∃ (i : Fin 8) (j : ℕ) (s : State), (s.ic i.val).state = IcState.running ∧ (s.ic i.val).phase = IcPhase.overhead ∧ (s.ic
      i.val).stop + msTicks 1 ≤ s.t ∧ (s.ic i.val).discard = false ∧ bitOf (s.ic i.val).xcsel 0 = false ∧ (s.ic i.val).nextSlot =
      none ∧ ((s.ic i.val).stopDue = true ∨ (s.ic i.val).once = true ∨ (s.ic i.val).urgent = true) ∧ (s.ic i.val).swapDue = false ∧
      dstLane (s.ic i.val).dst = none ∧ dstStream (s.ic i.val).dst = none ∧ s.kiln.dfrOwed = [] ∧ j ≠ i.val) ∧
    (∃ (i : Fin 8) (s : State), s.hopperUp = true ∧ s.resetting (Fb.ic i.val) = false ∧ s.budgetOk (16 + i.val) (s.icExtra i.val)
      = true ∧ (s.ic i.val).state = IcState.stopped) ∧
    (∃ (i : Fin 8) (s : State), s.hopperUp = true ∧ s.resetting (Fb.ic i.val) = false ∧ s.budgetOk (16 + i.val) (s.icExtra i.val)
      = true ∧ (s.ic i.val).state = IcState.running) ∧
    (∃ (i : Fin 8) (s : State), s.hopperUp = true ∧ s.resetting (Fb.ic i.val) = false ∧ s.budgetOk (16 + i.val) (s.icExtra i.val)
      = true ∧ (s.ic i.val).state = IcState.gated) ∧
    (∃ (i : Fin 8) (s : State), s.hopperUp = true ∧ s.resetting (Fb.ic i.val) = false ∧ s.budgetOk (16 + i.val) (s.icExtra i.val)
      = true ∧ (s.ic i.val).state = IcState.safe) ∧
    (∃ (i : Fin 8) (s : State), s.hopperUp = true ∧ s.resetting (Fb.ic i.val) = false ∧ s.budgetOk (16 + i.val) (s.icExtra i.val)
      = false) ∧
    (∃ (i : Fin 8) (s : State), s.hopperUp = true ∧ s.resetting (Fb.ic i.val) = false ∧ (s.ic i.val).state = IcState.running ∧
      (s.ic i.val).phase ≠ IcPhase.waiting) ∧
    (∃ (i : Fin 8) (s : State), s.hopperUp = true ∧ s.resetting (Fb.ic i.val) = false ∧ (s.ic i.val).state = IcState.running ∧
      (s.ic i.val).phase = IcPhase.waiting) ∧
    (∃ (i : Fin 8) (s : State), s.hopperUp = true ∧ s.resetting (Fb.ic i.val) = false ∧ (s.ic i.val).state = IcState.safe ∧
      s.pendingC (Fb.ic i.val) = false) ∧
    (∃ (i : Fin 8) (s : State), s.hopperUp = true ∧ s.resetting (Fb.ic i.val) = false ∧ i.val ≠ 0) ∧
    (∃ (i : Fin 8) (s : State), s.hopperUp = true ∧ s.resetting (Fb.ic i.val) = false ∧ i.val = 0) :=
  ⟨⟨7, (late.setIc 7 { state := .running, phase := .window, length := 1 }), by decide⟩,
   ⟨7, (late.setIc 7 { state := .running, phase := .window, mode := 1, bins := 1, length := 65535 }), by decide⟩,
   ⟨0, (let zz : State := (let zz : State := late; zz.setIc ((0 : Fin 8))
     { zz.ic ((0 : Fin 8)) with state := IcState.running }); zz.setIc ((0 : Fin 8))
     { zz.ic ((0 : Fin 8)) with phase := IcPhase.overhead }), by decide⟩,
   ⟨0, (let zz : State := (let zz : State := (let zz : State := (let zz : State := (let zz : State := late; zz.setIc ((0 : Fin
     8)) { zz.ic ((0 : Fin 8)) with state := IcState.running }); zz.setIc ((0 : Fin 8))
     { zz.ic ((0 : Fin 8)) with phase := IcPhase.overhead }); zz.setIc ((0 : Fin 8))
     { zz.ic ((0 : Fin 8)) with discard := true }); zz.setIc ((0 : Fin 8)) { zz.ic ((0 : Fin 8)) with nextSlot := none });
     zz.setIc ((0 : Fin 8)) { zz.ic ((0 : Fin 8)) with stopDue := true }), by decide⟩,
   ⟨0, (let zz : State := (let zz : State := (let zz : State := (let zz : State := (let zz : State := late; zz.setIc ((0 : Fin
     8)) { zz.ic ((0 : Fin 8)) with state := IcState.running }); zz.setIc ((0 : Fin 8))
     { zz.ic ((0 : Fin 8)) with phase := IcPhase.overhead }); zz.setIc ((0 : Fin 8))
     { zz.ic ((0 : Fin 8)) with discard := true }); zz.setIc ((0 : Fin 8)) { zz.ic ((0 : Fin 8)) with nextSlot := none });
     zz.setIc ((0 : Fin 8)) { zz.ic ((0 : Fin 8)) with stopDue := false }), by decide⟩,
   ⟨7, (late.setIc 7 { state := .running, phase := .overhead, discard := true, nextSlot := some 3 }), by decide⟩,
   ⟨1, 0,
     { (let zz : State := (let zz : State := (let zz : State := (let zz : State := (let zz : State := (let zz : State := late; zz.setIc ((1 : Fin 8)) { zz.ic ((1 : Fin 8)) with state := IcState.running }); zz.setIc ((1 : Fin 8)) { zz.ic ((1 : Fin 8)) with phase := IcPhase.overhead }); zz.setIc ((1 : Fin 8)) { zz.ic ((1 : Fin 8)) with discard := false }); zz.setIc ((1 : Fin 8)) { zz.ic ((1 : Fin 8)) with nextSlot := none }); zz.setIc ((1 : Fin 8)) { zz.ic ((1 : Fin 8)) with stopDue := true }); zz.setIc ((1 : Fin 8)) { zz.ic ((1 : Fin 8)) with swapDue := false }) with kiln.dfrOwed := [] },
     by decide⟩,
   ⟨0, (let zz : State := up; zz.setIc ((0 : Fin 8)) { zz.ic ((0 : Fin 8)) with state := IcState.stopped }), by decide⟩,
   ⟨0, (let zz : State := up; zz.setIc ((0 : Fin 8)) { zz.ic ((0 : Fin 8)) with state := IcState.running }), by decide⟩,
   ⟨0, (let zz : State := up; zz.setIc ((0 : Fin 8)) { zz.ic ((0 : Fin 8)) with state := IcState.gated }), by decide⟩,
   ⟨0, (let zz : State := up; zz.setIc ((0 : Fin 8)) { zz.ic ((0 : Fin 8)) with state := IcState.safe }), by decide⟩,
   ⟨7, { late with kiln.planned := true, kiln.state := .idle }, by decide⟩,
   ⟨7, (late.setIc 7 { state := .running, phase := .window }), by decide⟩,
   ⟨0, (let zz : State := (let zz : State := up; zz.setIc ((0 : Fin 8))
     { zz.ic ((0 : Fin 8)) with state := IcState.running }); zz.setIc ((0 : Fin 8))
     { zz.ic ((0 : Fin 8)) with phase := IcPhase.waiting }), by decide⟩,
   ⟨0, (let zz : State := up; zz.setIc ((0 : Fin 8)) { zz.ic ((0 : Fin 8)) with state := IcState.safe }), by decide⟩,
   ⟨1, up, by decide⟩,
   ⟨0, up, by decide⟩⟩

theorem witness_LaneOutputsAndCommandsComplete :
    (∃ (n : Fin 32) (o : LaneOut) (rest : List LaneOut) (s : State), s.alive = true ∧ (s.lane n.val).outs = o :: rest ∧
      s.kiln.dfrOwed = [] ∧ bitOf (s.par P.FL_DST n.val) 6 = false) ∧
    (∃ (n : Fin 32) (o : LaneOut) (rest : List LaneOut) (s : State), s.alive = true ∧ (s.lane n.val).outs = o :: rest ∧
      s.kiln.dfrOwed = [] ∧ bitOf (s.par P.FL_DST n.val) 6 = true) ∧
    (∃ (n : Fin 32) (t0 : ℕ) (s : State), s.alive = true ∧ (s.lane n.val).left = some t0 ∧ (s.lane n.val).state = LaneState.run ∧
      max t0 (s.lane n.val).lastIn + usTicks 2 ≤ s.t) ∧
    (∃ (n : Fin 32) (s : State), s.pwr.phase = ResetPhase.running ∧ ((s.lane n.val).state = LaneState.run ∨ (s.lane n.val).state =
      LaneState.priming)) ∧
    (∃ (n : Fin 32) (s : State), s.hopperUp = true ∧ s.resetting (Fb.lane n.val) = false ∧ (s.lane n.val).state = LaneState.safe ∧
      s.pendingC (Fb.lane n.val) = false) ∧
    (∃ (n : Fin 32) (s : State), s.hopperUp = true ∧ s.resetting (Fb.lane n.val) = false ∧ ((s.lane n.val).state ≠ LaneState.safe
      ∨ s.pendingC (Fb.lane n.val) = true)) ∧
    (∃ (n : Fin 32) (s : State), s.hopperUp = true ∧ s.resetting (Fb.lane n.val) = false ∧ ((s.lane n.val).state = LaneState.run ∨
      (s.lane n.val).state = LaneState.priming)) ∧
    (∃ (n : Fin 32) (s : State), s.hopperUp = true ∧ s.resetting (Fb.lane n.val) = false ∧ ((s.lane n.val).state = LaneState.off ∨
      (s.lane n.val).state = LaneState.gated)) :=
  ⟨⟨0, { value := 5, angle := 0, time := 0 }, [],
     { (let zz : State := up; zz.setLane ((0 : Fin 32)) { zz.lane ((0 : Fin 32)) with outs := ({ value := 5, angle := 0, time := 0 } : LaneOut) :: (([] : List LaneOut)) }) with kiln.dfrOwed := [] },
     by decide⟩,
   ⟨0, { value := 5, angle := 0, time := 0 }, [],
     ({ (let zz : State := up; zz.setLane ((0 : Fin 32)) { zz.lane ((0 : Fin 32)) with outs := ({ value := 5, angle := 0, time := 0 } : LaneOut) :: (([] : List LaneOut)) }) with kiln.dfrOwed := [] }).setPar
     P.FL_DST ((0 : Fin 32)) 64, by decide⟩,
   ⟨0, 0, (let zz : State := (let zz : State := late; zz.setLane ((0 : Fin 32))
     { zz.lane ((0 : Fin 32)) with left := some (0) }); zz.setLane ((0 : Fin 32))
     { zz.lane ((0 : Fin 32)) with state := LaneState.run }), by decide⟩,
   ⟨0, (let zz : State := up; zz.setLane ((0 : Fin 32)) { zz.lane ((0 : Fin 32)) with state := LaneState.run }), by decide⟩,
   ⟨0, (let zz : State := up; zz.setLane ((0 : Fin 32)) { zz.lane ((0 : Fin 32)) with state := LaneState.safe }), by decide⟩,
   ⟨0, up, by decide⟩,
   ⟨0, (let zz : State := up; zz.setLane ((0 : Fin 32)) { zz.lane ((0 : Fin 32)) with state := LaneState.run }), by decide⟩,
   ⟨0, (let zz : State := up; zz.setLane ((0 : Fin 32)) { zz.lane ((0 : Fin 32)) with state := LaneState.off }), by decide⟩⟩

theorem witness_TimersCaptureRunAndObey :
    (∃ (n : Fin 64) (level : Bool) (s : State), s.alive = true ∧ (s.timer n.val).state = TmState.run ∧ s.timersStop = false ∧
      s.par P.TM_MODE n.val = 1 ∧ s.par P.TM_CAPSRC n.val = 0 ∧ (s.par P.TM_EDGE n.val = 2 ∨ s.par P.TM_EDGE n.val = if level =
      true then 0 else 1)) ∧
    (∃ (n : Fin 64) (level : Bool) (s : State), s.alive = true ∧ (s.timer n.val).state = TmState.run ∧ s.timersStop = false ∧
      s.par P.TM_MODE n.val = 1 ∧ s.par P.TM_CAPSRC n.val = 0 ∧ s.par P.TM_EDGE n.val = if level = true then 1 else 0) ∧
    (∃ (n : Fin 64) (s : State), s.alive = true ∧ bitOf (s.par P.TM_DST n.val) 6 = false) ∧
    (∃ (n : Fin 64) (s : State), s.alive = true ∧ bitOf (s.par P.TM_DST n.val) 6 = true ∧ (s.timer n.val).fifo.length < 4) ∧
    (∃ (n : Fin 64) (s : State), s.alive = true ∧ bitOf (s.par P.TM_DST n.val) 6 = true ∧ 4 ≤ (s.timer n.val).fifo.length) ∧
    (∃ (n : Fin 64) (s : State), s.alive = true ∧ (s.timer n.val).trigDue = true ∧ (s.timer n.val).state = TmState.run ∧ s.par
      P.TM_MODE n.val = 3 ∧ s.timersStop = false ∧ s.par P.TM_CMPA n.val ≠ 0 ∧ s.par P.TM_CMPB n.val ≠ 0) ∧
    (∃ (n : Fin 64) (s : State), s.alive = true ∧ (s.timer n.val).trigDue = true ∧ (s.timer n.val).state = TmState.run ∧ s.par
      P.TM_MODE n.val = 3 ∧ s.timersStop = false ∧ s.par P.TM_CMPA n.val = 0 ∧ s.par P.TM_CMPB n.val ≠ 0) ∧
    (∃ (n : Fin 64) (s : State), s.alive = true ∧ (s.timer n.val).trigDue = true ∧ (s.timer n.val).state = TmState.run ∧ s.par
      P.TM_MODE n.val = 3 ∧ s.timersStop = false ∧ s.par P.TM_CMPA n.val ≠ 0 ∧ s.par P.TM_CMPB n.val = 0) ∧
    (∃ (n : Fin 64) (s : State), s.alive = true ∧ (s.timer n.val).trigDue = true ∧ ((s.timer n.val).state ≠ TmState.run ∨ s.par
      P.TM_MODE n.val ≠ 3 ∨ s.timersStop = true)) ∧
    (∃ (n : Fin 64) (s : State), s.hopperUp = true ∧ s.resetting (Fb.timer n.val) = false ∧ (s.timer n.val).state =
      TmState.stopped) ∧
    (∃ (n : Fin 64) (s : State), s.hopperUp = true ∧ s.resetting (Fb.timer n.val) = false ∧ (s.timer n.val).state = TmState.safe ∧
      s.pendingC (Fb.timer n.val) = false ∧ s.pendingC Fb.fabric = false) ∧
    (∃ (n : Fin 64) (s : State), s.hopperUp = true ∧ s.resetting (Fb.timer n.val) = false ∧ (s.timer n.val).state ≠ TmState.safe) ∧
    (∃ (n : Fin 64) (s : State), s.hopperUp = true ∧ s.resetting (Fb.timer n.val) = false ∧ (s.timer n.val).state = TmState.run ∧
      s.par P.TM_MODE n.val = 3 ∧ s.timersStop = false) ∧
    (∃ (n : Fin 64) (s : State), s.hopperUp = true ∧ s.resetting (Fb.timer n.val) = false ∧ (s.timer n.val).state = TmState.run ∧
      s.par P.TM_MODE n.val ≠ 3) :=
  ⟨⟨0, true, ((((let zz : State := up; zz.setTimer ((0 : Fin 64))
     { zz.timer ((0 : Fin 64)) with state := TmState.run })).setPar P.TM_MODE ((0 : Fin 64)) 1).setPar P.TM_CAPSRC ((0 : Fin 64))
     0).setPar P.TM_EDGE ((0 : Fin 64)) 2, by decide⟩,
   ⟨0, false, (((let zz : State := up; zz.setTimer ((0 : Fin 64))
     { zz.timer ((0 : Fin 64)) with state := TmState.run })).setPar P.TM_MODE ((0 : Fin 64)) 1).setPar P.TM_CAPSRC ((0 : Fin 64))
     0, by decide⟩,
   ⟨0, up, by decide⟩,
   ⟨0, (up).setPar P.TM_DST ((0 : Fin 64)) 64, by decide⟩,
   ⟨63, ((late.setTimer 63
     { fifo := [{ kind := 0, seq := 0, count := 0, angle := 0, time := 0 }, { kind := 0, seq := 0, count := 0, angle := 0, time := 0 }, { kind := 0, seq := 0, count := 0, angle := 0, time := 0 }, { kind := 0, seq := 0, count := 0, angle := 0, time := 0 }] }).setPar
     P.TM_DST 63 64), by decide⟩,
   ⟨0, ((((let zz : State := (let zz : State := up; zz.setTimer ((0 : Fin 64))
     { zz.timer ((0 : Fin 64)) with trigDue := true }); zz.setTimer ((0 : Fin 64))
     { zz.timer ((0 : Fin 64)) with state := TmState.run })).setPar P.TM_MODE ((0 : Fin 64)) 3).setPar P.TM_CMPA ((0 : Fin 64))
     1).setPar P.TM_CMPB ((0 : Fin 64)) 1, by decide⟩,
   ⟨0, ((((let zz : State := (let zz : State := up; zz.setTimer ((0 : Fin 64))
     { zz.timer ((0 : Fin 64)) with trigDue := true }); zz.setTimer ((0 : Fin 64))
     { zz.timer ((0 : Fin 64)) with state := TmState.run })).setPar P.TM_MODE ((0 : Fin 64)) 3).setPar P.TM_CMPA ((0 : Fin 64))
     0).setPar P.TM_CMPB ((0 : Fin 64)) 1, by decide⟩,
   ⟨0, ((((let zz : State := (let zz : State := up; zz.setTimer ((0 : Fin 64))
     { zz.timer ((0 : Fin 64)) with trigDue := true }); zz.setTimer ((0 : Fin 64))
     { zz.timer ((0 : Fin 64)) with state := TmState.run })).setPar P.TM_MODE ((0 : Fin 64)) 3).setPar P.TM_CMPA ((0 : Fin 64))
     1).setPar P.TM_CMPB ((0 : Fin 64)) 0, by decide⟩,
   ⟨0, (let zz : State := up; zz.setTimer ((0 : Fin 64)) { zz.timer ((0 : Fin 64)) with trigDue := true }), by decide⟩,
   ⟨0, (let zz : State := up; zz.setTimer ((0 : Fin 64)) { zz.timer ((0 : Fin 64)) with state := TmState.stopped }), by
     decide⟩,
   ⟨0, (let zz : State := up; zz.setTimer ((0 : Fin 64)) { zz.timer ((0 : Fin 64)) with state := TmState.safe }), by decide⟩,
   ⟨0, up, by decide⟩,
   ⟨0, ((let zz : State := up; zz.setTimer ((0 : Fin 64)) { zz.timer ((0 : Fin 64)) with state := TmState.run })).setPar
     P.TM_MODE ((0 : Fin 64)) 3, by decide⟩,
   ⟨0, (let zz : State := up; zz.setTimer ((0 : Fin 64)) { zz.timer ((0 : Fin 64)) with state := TmState.run }), by decide⟩⟩

theorem witness_FabricClocksAndObeysCommands :
    (∃ (s : State), s.alive = true ∧ s.fclkComes = false) ∧
    (∃ (e : FabEdge) (s : State), s.alive = true ∧ s.fclkComes = true ∧ (s.firstDrive true).fclkComes = true ∧ (s.firstDrive
      true).fab.swapDue = false ∧
      ((({ (s.firstDrive true) with fab := { (s.firstDrive true).fab with edges := (s.firstDrive true).fab.edges + 1, quiet := 0 } }.ramUpsets
      e.upsets).takeLive Fb.fabric).fabPulseStep).fab.swapDue = false ∧
      ((({ (s.firstDrive true) with fab := { (s.firstDrive true).fab with edges := (s.firstDrive true).fab.edges + 1, quiet := 0 } }.ramUpsets
      e.upsets).takeLive Fb.fabric).fabPulseStep).fab.state = FabState.run) ∧
    (∃ (e : FabEdge) (s : State), s.alive = true ∧ s.fclkComes = true ∧ (s.firstDrive true).fclkComes = true ∧ (s.firstDrive
      true).fab.swapDue = false ∧
      ((({ (s.firstDrive true) with fab := { (s.firstDrive true).fab with edges := (s.firstDrive true).fab.edges + 1, quiet := 0 } }.ramUpsets
      e.upsets).takeLive Fb.fabric).fabPulseStep).fab.swapDue = false ∧
      ((({ (s.firstDrive true) with fab := { (s.firstDrive true).fab with edges := (s.firstDrive true).fab.edges + 1, quiet := 0 } }.ramUpsets
      e.upsets).takeLive Fb.fabric).fabPulseStep).fab.state ≠ FabState.run) ∧
    (∃ (e : FabEdge) (s : State), s.alive = true ∧ s.fclkComes = true ∧ (s.firstDrive true).fclkComes = true ∧ (s.firstDrive
      true).fab.swapDue = true ∧
      ((({ (s.firstDrive true) with fab := { (s.firstDrive true).fab with edges := (s.firstDrive true).fab.edges + 1, quiet := 0 } }.ramUpsets
      e.upsets).takeLive Fb.fabric).fabPulseStep).fab.swapDue = true ∧ e.shadowBad = false ∧
      ((({ (s.firstDrive true) with fab := { (s.firstDrive true).fab with edges := (s.firstDrive true).fab.edges + 1, quiet := 0 } }.ramUpsets
      e.upsets).takeLive Fb.fabric).fabPulseStep).fabSwap.fab.state = FabState.run) ∧
    (∃ (e : FabEdge) (s : State), s.alive = true ∧ s.fclkComes = true ∧ (s.firstDrive true).fclkComes = true ∧ (s.firstDrive
      true).fab.swapDue = true ∧
      ((({ (s.firstDrive true) with fab := { (s.firstDrive true).fab with edges := (s.firstDrive true).fab.edges + 1, quiet := 0 } }.ramUpsets
      e.upsets).takeLive Fb.fabric).fabPulseStep).fab.swapDue = true ∧ e.shadowBad = true ∧
      ((({ (s.firstDrive true) with fab := { (s.firstDrive true).fab with edges := (s.firstDrive true).fab.edges + 1, quiet := 0 } }.ramUpsets
      e.upsets).takeLive Fb.fabric).fabPulseStep).fab.state = FabState.run ∧ tblGet 0
      (({ ((({ (s.firstDrive true) with fab := { (s.firstDrive true).fab with edges := (s.firstDrive true).fab.edges + 1, quiet := 0 } }.ramUpsets e.upsets).takeLive Fb.fabric).fabPulseStep) with fab := { ((({ (s.firstDrive true) with fab := { (s.firstDrive true).fab with edges := (s.firstDrive true).fab.edges + 1, quiet := 0 } }.ramUpsets e.upsets).takeLive Fb.fabric).fabPulseStep).fab with swapDue := false } }.raise
      Fb.fabric 3 2).fabClock e false).grist.waiting 192 = 2) ∧
    (∃ (s : State), s.alive = true ∧ (s.fab.state = FabState.run ∨ s.fab.state = FabState.safe) ∧ s.kiln.state ≠
      KilnState.hibernate ∧ s.fab.scrubAt + msTicks 1 ≤ s.t) ∧
    (∃ (s : State), s.alive = true ∧ s.fab.state = FabState.run ∧ s.kiln.state ≠ KilnState.hibernate ∧ 10 ≤ s.fab.quiet) ∧
    (∃ (s : State), s.hopperUp = true ∧ s.resetting Fb.fabric = false ∧ s.fab.live.loaded = false) ∧
    (∃ (s : State), s.hopperUp = true ∧ s.resetting Fb.fabric = false ∧ s.fab.state = FabState.safe ∧ s.pendingC Fb.fabric = false) ∧
    (∃ (s : State), s.hopperUp = true ∧ s.resetting Fb.fabric = false ∧ s.fab.state ≠ FabState.safe) ∧
    (∃ (k : Fin 4) (s : State), s.hopperUp = true ∧ s.resetting Fb.fabric = false ∧ s.alive = true ∧ s.fab.state = FabState.run ∧
      s.isSender (8 + k.val) Sender.fabric = true ∧ (s.mbox (8 + k.val)).msg = none) ∧
    (∃ (k : Fin 4) (m : Message) (s : State), s.hopperUp = true ∧ s.resetting Fb.fabric = false ∧ s.alive = true ∧ s.fab.state =
      FabState.run ∧ (s.mbox (12 + k.val)).msg = some m) :=
  ⟨⟨{ late with fab.state := .safe }, by decide⟩,
   ⟨{ flips := 0, gpo := 0, gpoe := 0, swout := 0, tmcap := 0, tmtrig := 0, tmcen := 0, parity := 0, writes := [], upsets := [], shadowBad := false },
     { late with fab.state := .run, fab.live.loaded := true }, by decide⟩,
   ⟨{ flips := 0, gpo := 0, gpoe := 0, swout := 0, tmcap := 0, tmtrig := 0, tmcen := 0, parity := 0, writes := [], upsets := [], shadowBad := false },
     { late with fab.state := .empty, fab.live.loaded := true }, by decide⟩,
   ⟨{ flips := 0, gpo := 0, gpoe := 0, swout := 0, tmcap := 0, tmtrig := 0, tmcen := 0, parity := 0, writes := [], upsets := [], shadowBad := false },
     { late with fab.state := .run, fab.live.loaded := true, fab.swapDue := true, fab.shadow.loaded := true }, by decide⟩,
   ⟨{ flips := 0, gpo := 0, gpoe := 0, swout := 0, tmcap := 0, tmtrig := 0, tmcen := 0, parity := 0, writes := [], upsets := [], shadowBad := true },
     { late with fab.state := .run, fab.live.loaded := true, fab.swapDue := true, fab.shadow.loaded := true, grist.waiting := [(0xC0, 2)] },
     by decide⟩,
   ⟨{ late with fab.state := FabState.run }, by decide⟩,
   ⟨{ late with fab.state := .run, fab.quiet := 10 }, by decide⟩,
   ⟨{ up with fab.live.loaded := false }, by decide⟩,
   ⟨{ up with fab.state := FabState.safe }, by decide⟩,
   ⟨up, by decide⟩,
   ⟨0, (let zz : State := { up with fab.state := FabState.run }; zz.setMbox (8 + ((0 : Fin 4)))
     { zz.mbox (8 + ((0 : Fin 4))) with msg := none }), by decide⟩,
   ⟨0, { payload := [1], sender := 2, gen := 1 }, (let zz : State := { up with fab.state := FabState.run }; zz.setMbox (12 +
     ((0 : Fin 4))) { zz.mbox (12 + ((0 : Fin 4))) with msg := some ({ payload := [1], sender := 2, gen := 1 } : Message) }), by
     decide⟩⟩

theorem witness_KilnEventsAndWakesComplete :
    (∃ (s : State), s.alive = true ∧ s.kiln.state ≠ KilnState.hibernate ∧ (s.kiln.planned = false ∨ s.kiln.planTime + msTicks
      (s.par P.KL_PLANMAX) ≤ s.t)) ∧
    (∃ (b : BitVec 8) (s : State), s.alive = true ∧ s.kiln.gateDue.contains b.toNat = true ∧ s.mayGate b.toNat = true ∧ s.gateIdle
      b.toNat = true) ∧
    (∃ (b : BitVec 8) (s : State), s.alive = true ∧ s.kiln.gateDue.contains b.toNat = true ∧ s.mayGate b.toNat = false) ∧
    (∃ (b : BitVec 8) (s : State), s.alive = true ∧ s.kiln.gateDue.contains b.toNat = true ∧ s.mayGate b.toNat = true ∧ s.gateIdle
      b.toNat = false) ∧
    (∃ (b : BitVec 8) (s : State), s.alive = true ∧ tblGet 0 s.kiln.powerDue b.toNat ≠ 0 ∧
      ({ s with kiln := { s.kiln with powerDue := tblErase s.kiln.powerDue b.toNat } }).isGated b.toNat = true) ∧
    (∃ (b : BitVec 8) (s : State), s.alive = true ∧ tblGet 0 s.kiln.powerDue b.toNat ≠ 0 ∧
      ({ s with kiln := { s.kiln with powerDue := tblErase s.kiln.powerDue b.toNat } }).isGated b.toNat = false) ∧
    (∃ (s : State), s.alive = true ∧ s.kiln.state = KilnState.hibernate ∧ s.kiln.hibernateAt + msTicks (s.par P.KL_WAKET) ≤ s.t) ∧
    (∃ (p : HostPort) (s : State), s.alive = true ∧ s.portOn (portCode p) = true) ∧
    (∃ (w : ℕ) (s : State), s.alive = true ∧ s.kiln.state = KilnState.hibernate ∧ s.kiln.wake = some w) ∧
    (∃ (src : ℕ) (s : State), src < 8 ∧ s.kiln.state = KilnState.hibernate ∧ bitOf (s.par P.KL_WAKESRC) src = true ∧ s.kiln.wake =
      none) ∧
    (∃ (src : ℕ) (s : State), src < 8 ∧ (s.kiln.state ≠ KilnState.hibernate ∨ bitOf (s.par P.KL_WAKESRC) src = false)) ∧
    (∃ (src : ℕ) (w : ℕ) (s : State), src < 8 ∧ s.kiln.state = KilnState.hibernate ∧ bitOf (s.par P.KL_WAKESRC) src = true ∧
      s.kiln.wake = some w ∧ (s.kiln.wakeAt ≠ s.t ∨ w ≤ src)) :=
  ⟨⟨{ up with kiln.planned := false }, by decide⟩,
   ⟨63, (({ late with kiln.gateDue := [63] }).setCell 63 { state := .active }).setPar P.AC_MODE 63 1, by decide⟩,
   ⟨63, ({ late with kiln.gateDue := [63] }).setPar P.AC_MODE 63 5, by decide⟩,
   ⟨224, ({ late with kiln.gateDue := [224] }).setGroup 0 { state := .running }, by decide⟩,
   ⟨63, (({ late with kiln.powerDue := [(63, 1)] }).setCell 63 { state := .gated }), by decide⟩,
   ⟨63, { late with kiln.powerDue := [(63, 1)] }, by decide⟩,
   ⟨{ late with kiln.state := KilnState.hibernate }, by decide⟩,
   ⟨.s2, up, by decide⟩,
   ⟨0, { { up with kiln.state := KilnState.hibernate } with kiln.wake := some (0) }, by decide⟩,
   ⟨7, ({ late with kiln.state := .hibernate }).setPar P.KL_WAKESRC 0 255, by decide⟩,
   ⟨0, up, by decide⟩,
   ⟨7, 7, ({ late with kiln.state := .hibernate, kiln.wake := some 7, kiln.wakeAt := 5 }).setPar P.KL_WAKESRC 0 255, by
     decide⟩⟩

theorem witness_PowerCommandsComplete :
    (∃ (s : State), s.hopperUp = true ∧ s.resetting Fb.kiln = false ∧ s.klRefused 1 = false ∧ s.kiln.heldC = false ∧ s.kiln.state
      = KilnState.idle) ∧
    (∃ (s : State), s.hopperUp = true ∧ s.resetting Fb.kiln = false ∧ s.klRefused 1 = false ∧ s.kiln.heldC = true) ∧
    (∃ (s : State), s.hopperUp = true ∧ s.resetting Fb.kiln = false ∧ s.klRefused 1 = false ∧ s.kiln.heldC = false ∧ s.kiln.state
      ≠ KilnState.idle) ∧
    (∃ (s : State), s.hopperUp = true ∧ s.resetting Fb.kiln = false ∧ s.klRefused 2 = false ∧ (s.kiln.state = KilnState.run ∨
      s.kiln.state = KilnState.trim)) ∧
    (∃ (s : State), s.hopperUp = true ∧ s.resetting Fb.kiln = false ∧ s.klRefused 2 = false ∧ (s.kiln.state = KilnState.idle ∨
      s.kiln.state = KilnState.hibernate)) ∧
    (∃ (s : State), s.hopperUp = true ∧ s.resetting Fb.kiln = false ∧ s.klRefused 2 = true) ∧
    (∃ (s : State), s.hopperUp = true ∧ s.resetting Fb.kiln = false ∧ s.klRefused 3 = false ∧ s.mayHibernate = true) ∧
    (∃ (s : State), s.hopperUp = true ∧ s.resetting Fb.kiln = false ∧ s.klRefused 3 = false ∧ s.mayHibernate = false) ∧
    (∃ (s : State), s.hopperUp = true ∧ s.resetting Fb.kiln = false ∧ s.klRefused 4 = false ∧ s.kiln.heldC = true ∧ s.pendingC
      Fb.kiln = false) ∧
    (∃ (s : State), s.hopperUp = true ∧ s.resetting Fb.kiln = false ∧ s.klRefused 4 = false ∧ s.kiln.heldC = false) ∧
    (∃ (s : State), s.hopperUp = true ∧ s.resetting Fb.kiln = false ∧ s.klRefused 5 = false) :=
  ⟨⟨{ { up with kiln.heldC := false } with kiln.state := KilnState.idle }, by decide⟩,
   ⟨{ up with kiln.heldC := true }, by decide⟩,
   ⟨{ up with kiln.heldC := false }, by decide⟩,
   ⟨{ up with kiln.state := KilnState.run }, by decide⟩,
   ⟨{ up with kiln.state := KilnState.idle }, by decide⟩,
   ⟨({ late with sl.state := .synced, sl.closed := true }), by decide⟩,
   ⟨({ late with kiln.state := .idle }).setPar P.KL_WAKESRC 0 1, by decide⟩,
   ⟨up, by decide⟩,
   ⟨{ up with kiln.heldC := true }, by decide⟩,
   ⟨{ up with kiln.heldC := false }, by decide⟩,
   ⟨up, by decide⟩⟩

theorem witness_CalibrationRunsAndSparesComplete :
    (∃ (g : Fin 4) (s : State), s.alive = true ∧ s.spareDue g.val = true ∧ s.calBusy = false ∧ s.cal.state ≠ CalState.running ∧ ∀
      h < g.val, s.spareDue h = false) ∧
    (∃ (g : Fin 4) (vcr : BitVec 32) (t0 : ℕ) (i : ℕ) (s : State), s.alive = true ∧ (tblGet { } s.cal.spares g.val).start = some
      t0 ∧ t0 ≤ s.t ∧ (s.group g.val).spare = some i ∧ (vcr.toNat < 1960000 ∨ 2040000 < vcr.toNat)) ∧
    (∃ (g : Fin 4) (zero : BitVec 19) (vcr : BitVec 32) (t0 : ℕ) (i : ℕ) (s : State), s.alive = true ∧ (tblGet { } s.cal.spares
      g.val).start = some t0 ∧ t0 ≤ s.t ∧ (s.group g.val).spare = some i ∧ 1960000 ≤ vcr.toNat ∧ vcr.toNat ≤ 2040000 ∧ 2048 <
      zero.toNat) ∧
    (∃ (g : Fin 4) (zero : BitVec 19) (full : BitVec 19) (vcr : BitVec 32) (t0 : ℕ) (i : ℕ) (span : ℕ) (s : State), s.alive = true
      ∧ (tblGet { } s.cal.spares g.val).start = some t0 ∧ t0 ≤ s.t ∧ (s.group g.val).spare = some i ∧ 1960000 ≤ vcr.toNat ∧
      vcr.toNat ≤ 2040000 ∧ zero.toNat ≤ 2048 ∧ full.toNat = zero.toNat + span ∧ 0 < span ∧ 50 * (256000 - (span : Int)).natAbs ≤
      span) ∧
    (∃ (g : Fin 4) (t0 : ℕ) (s : State), s.alive = true ∧ (tblGet { } s.cal.spares g.val).start = some t0 ∧ t0 + msTicks 2 ≤ s.t) ∧
    (∃ (n : ℕ) (vcr : BitVec 32) (s : State), s.alive = true ∧ s.cal.state = CalState.running ∧ s.cal.item = some n ∧
      s.cal.itemStart + s.cal.step.ticks ≤ s.t ∧ s.cal.step = CalStep.cdac ∧ 1960000 ≤ vcr.toNat ∧ vcr.toNat ≤ 2040000) ∧
    (∃ (n : ℕ) (vcr : BitVec 32) (s : State), s.alive = true ∧ s.cal.state = CalState.running ∧ s.cal.item = some n ∧
      s.cal.itemStart + s.cal.step.ticks ≤ s.t ∧ s.cal.step = CalStep.cdac ∧ (vcr.toNat < 1960000 ∨ 2040000 < vcr.toNat)) ∧
    (∃ (n : ℕ) (g : ℕ) (i : ℕ) (s : State), s.alive = true ∧ s.cal.state = CalState.running ∧ s.cal.item = some n ∧
      s.cal.itemStart + s.cal.step.ticks ≤ s.t ∧ s.cal.step = CalStep.cell ∧
      ({ s.calEndItem with cal := { s.calEndItem.cal with items := List.filter (fun k => !k == n) s.calEndItem.cal.items } }).cal.spareOf
      = some (g, i)) ∧
    (∃ (n : ℕ) (s : State), s.alive = true ∧ s.cal.state = CalState.running ∧ s.cal.item = some n ∧ s.cal.itemStart +
      s.cal.step.ticks ≤ s.t ∧ s.cal.step = CalStep.thr ∧
      ({ s.calEndItem with cal := { s.calEndItem.cal with items := List.filter (fun k => !k == n) s.calEndItem.cal.items } }).cal.step
      = CalStep.thr) ∧
    (∃ (n : ℕ) (s : State), s.alive = true ∧ s.cal.state = CalState.running ∧ s.cal.item = some n ∧ s.cal.itemStart +
      s.cal.step.ticks ≤ s.t ∧ s.cal.step = CalStep.out ∧
      ({ s.calEndItem with cal := { s.calEndItem.cal with items := List.filter (fun k => !k == n) s.calEndItem.cal.items } }).cal.step
      = CalStep.out) ∧
    (∃ (i : Fin 8) (s : State), s.alive = true ∧ s.cal.state = CalState.running ∧ (s.ic i.val).phase = IcPhase.overhead ∧
      s.cal.icItems.contains i.val = true ∧ s.cal.icMeasured.contains i.val = false ∧ (s.ic i.val).stop + 25000 ≤ s.t) ∧
    (∃ (n : Fin 64) (s : State), s.alive = true ∧ tblGet 0 s.cal.recovering n.val ≤ s.t) ∧
    (∃ (s : State), s.alive = true ∧ s.cal.state = CalState.running ∧ msTicks (s.par P.CAL_TIMEOUT) ≤ s.cal.counted + (s.t -
      s.cal.since)) ∧
    (∃ (k : Fin 128) (b : Blend) (s : State), s.alive = true ∧ tblGet none s.cal.blends k.val = some b ∧ b.since + msTicks 1 ≤ s.t
      ∧ b.delta ≤ b.num + s.par P.CAL_SLEW) ∧
    (∃ (k : Fin 128) (b : Blend) (s : State), s.alive = true ∧ tblGet none s.cal.blends k.val = some b ∧ b.since + msTicks 1 ≤ s.t
      ∧ b.num + s.par P.CAL_SLEW < b.delta) :=
  ⟨⟨3, { cal with kiln.planned := true, kiln.jobs := [{ job := 15, energy := 1, cls := 2 }] }, by decide⟩,
   ⟨3, 1959999, 5, 4, ({ late with cal.spares := [(3, { start := some 5 })] }), by decide⟩,
   ⟨3, 2049, 1960000, 5, 4, ({ late with cal.spares := [(3, { start := some 5 })] }), by decide⟩,
   ⟨3, 0, 256000, 2000000, 5, 4, 256000, ({ late with cal.spares := [(3, { start := some 5 })] }), by decide⟩,
   ⟨3, 5, ({ late with cal.spares := [(3, { start := some 5 })] }), by decide⟩,
   ⟨0, 1960000, { late with cal.state := .running, cal.item := some 0, cal.step := .cdac }, by decide⟩,
   ⟨0, 0, { { { late with cal.state := CalState.running } with cal.item := some (0) } with cal.step := CalStep.cdac }, by
     decide⟩,
   ⟨0, 3, 4, { late with cal.state := .running, cal.item := some 0, cal.step := .cell, cal.spareOf := some (3, 4) }, by
     decide⟩,
   ⟨0, { { { late with cal.state := CalState.running } with cal.item := some (0) } with cal.step := CalStep.thr }, by decide⟩,
   ⟨0, { { { late with cal.state := CalState.running } with cal.item := some (0) } with cal.step := CalStep.out }, by decide⟩,
   ⟨7, (({ late with cal.state := .running, cal.icItems := [7] }).setIc 7 { state := .running, phase := .overhead }), by
     decide⟩,
   ⟨0, up, by decide⟩,
   ⟨{ late with cal.state := CalState.running }, by decide⟩,
   ⟨127, {}, { late with cal.blends := [(127, some {})] }, by decide⟩,
   ⟨127, { delta := 4294967296 }, { late with cal.blends := [(127, some { delta := 4294967296 })] }, by decide⟩⟩

theorem witness_CalibrationCommandsComplete :
    (∃ (s : State), s.hopperUp = true ∧ s.resetting Fb.cal = false ∧ s.cal.state = CalState.idle ∧ s.budgetOk 24 s.calExtra = true) ∧
    (∃ (s : State), s.hopperUp = true ∧ s.resetting Fb.cal = false ∧ s.cal.state ≠ CalState.idle) ∧
    (∃ (s : State), s.hopperUp = true ∧ s.resetting Fb.cal = false ∧ s.cal.state = CalState.idle ∧ s.budgetOk 24 s.calExtra =
      false) ∧
    (∃ (s : State), s.hopperUp = true ∧ s.resetting Fb.cal = false ∧ s.cal.trigOff = true ∧ (s.fb Fb.cal).pendB = false) ∧
    (∃ (s : State), s.hopperUp = true ∧ s.resetting Fb.cal = false ∧ s.cal.trigOff = false) ∧
    (∃ (v : Word) (s : State), s.hopperUp = true ∧ s.resetting Fb.cal = false ∧ s.cal.state = CalState.idle ∧ List.find? (fun e =>
      e.1 == (coefKey (s.par P.CAL_CSEL / 4096) (s.par P.CAL_CSEL % 4096))) s.cal.staging = none ∧ valueOk P.CAL_CGAIN 0 (v.toNat)
      = true) ∧
    (∃ (v : Word) (s : State), s.hopperUp = true ∧ s.resetting Fb.cal = false ∧ s.cal.state = CalState.idle ∧ List.find? (fun e =>
      e.1 == (coefKey (s.par P.CAL_CSEL / 4096) (s.par P.CAL_CSEL % 4096))) s.cal.staging = none ∧ valueOk P.CAL_COFS 0 (v.toNat) =
      true) :=
  ⟨⟨{ up with cal.state := CalState.idle }, by decide⟩,
   ⟨up, by decide⟩,
   ⟨{ late with cal.state := .idle, kiln.planned := true, kiln.period := 1, kiln.admitted := 4294967295 }, by decide⟩,
   ⟨{ up with cal.trigOff := true }, by decide⟩,
   ⟨{ up with cal.trigOff := false }, by decide⟩,
   ⟨1073741824, { late with cal.state := .idle }, by decide⟩,
   ⟨0, { up with cal.state := CalState.idle }, by decide⟩⟩

theorem witness_GristEventsAndProgrammingComplete :
    (∃ (f : LoadFailure) (s : State), s.alive = true ∧ s.grist.state = GristState.loading ∧ s.grist.checking.isSome = true ∧
      firstSome [check1 s.grist.image s.grist.length, check2 s.grist.image, s.check3 s.grist.image, check4 s.grist.image, s.check5
      s.grist.image] = some f) ∧
    (∃ (s : State), s.alive = true ∧ s.grist.state = GristState.loading ∧ s.grist.checking = none ∧ s.grist.port ≠ 0 ∧
      s.grist.lastData + msTicks (s.par P.GR_LOADTO) ≤ s.t) ∧
    (∃ (s : State), s.alive = true ∧ s.grist.state = GristState.restoring) ∧
    (∃ (s : State), s.alive = true ∧ s.grist.state = GristState.swapped ∧ s.par P.GR_AUTOCOMMIT ≠ 0 ∧ ↑(s.par P.GR_AUTOCOMMIT *
      65536) ≤ binSub s.eng.hwm s.grist.swappedAt) ∧
    (∃ (k : ℕ) (key : BitVec 128) (rest : List (ℕ × BitVec 128)) (s : State), s.alive = true ∧ s.pwr.keyDue = (k, key) :: rest) ∧
    (∃ (op : FlashOp) (s : State), s.alive = true ∧ s.grist.flashOp = some op ∧ op.data = none) ∧
    (∃ (op : FlashOp) (d : List Byte) (s : State), s.alive = true ∧ s.grist.flashOp = some op ∧ op.data = some d) ∧
    (∃ (m : Mem) (d : List Byte) (k : ℕ), memWf 255 m = true ∧ k < d.length) ∧
    (∃ (m : Mem) (a : ℕ) (d : List Byte) (c : ℕ), memWf 255 m = true ∧ (c < a ∨ a + d.length ≤ c)) :=
  ⟨⟨failure, { late with grist.state := .loading, grist.port := 2, grist.checking := some 5 }, by decide⟩,
   ⟨{ late with grist.state := .loading, grist.port := 2 }, by decide⟩,
   ⟨{ up with grist.state := GristState.restoring }, by decide⟩,
   ⟨({ late with grist.state := .swapped, eng.hwm := 655360 }).setPar P.GR_AUTOCOMMIT 0 10, by decide⟩,
   ⟨0, 0, [], { up with pwr.keyDue := ((0), ((0 : BitVec 128))) :: (([] : List (ℕ × BitVec 128))) }, by decide⟩,
   ⟨{ port := 2, seq := 1, addr := 4096 },
     { up with grist.flashOp := some ({ port := 2, seq := 1, addr := 4096 } : FlashOp) }, by decide⟩,
   ⟨{ port := 2, seq := 0, addr := 0, data := some [1] }, [1],
     { late with grist.flashOp := some { port := 2, seq := 0, addr := 0, data := some [1] } }, by decide⟩,
   ⟨[(5, 0)], [1], 0, by decide⟩,
   ⟨[], 0, [], 0, by decide⟩⟩

theorem witness_GristCommandsComplete :
    (∃ (s : State), s.hopperUp = true ∧ s.resetting Fb.grist = false ∧ s.grist.state = GristState.verified ∧ s.engineRuns = true ∧
      s.par P.GR_ACTNEED ≤ s.freeEntries) ∧
    (∃ (s : State), s.hopperUp = true ∧ s.resetting Fb.grist = false ∧ s.grist.state = GristState.verified ∧ s.engineRuns = true ∧
      s.freeEntries < s.par P.GR_ACTNEED) ∧
    (∃ (s : State), s.hopperUp = true ∧ s.resetting Fb.grist = false ∧ (s.grist.state ≠ GristState.verified ∨ s.engineRuns =
      false)) ∧
    (∃ (s : State), s.hopperUp = true ∧ s.resetting Fb.grist = false ∧ s.grist.state = GristState.loading) ∧
    (∃ (s : State), s.hopperUp = true ∧ s.resetting Fb.grist = false ∧ s.grist.state = GristState.armed) ∧
    (∃ (s : State), s.hopperUp = true ∧ s.resetting Fb.grist = false ∧ s.grist.state = GristState.swapping) ∧
    (∃ (s : State), s.hopperUp = true ∧ s.resetting Fb.grist = false ∧ (s.grist.state = GristState.idle ∨ s.grist.state =
      GristState.restoring ∨ s.grist.state = GristState.swapped ∨ s.grist.state = GristState.rollback)) ∧
    (∃ (s : State), s.hopperUp = true ∧ s.resetting Fb.grist = false ∧ s.grist.state = GristState.swapped) ∧
    (∃ (s : State), s.hopperUp = true ∧ s.resetting Fb.grist = false ∧ s.grist.state ≠ GristState.swapped) ∧
    (∃ (s : State), s.hopperUp = true ∧ s.resetting Fb.grist = false ∧ s.grist.state = GristState.verified ∧ s.engineRuns = false
      ∧ (actionRecs s.grist.image).length ≤ s.freeEntries) ∧
    (∃ (s : State), s.hopperUp = true ∧ s.resetting Fb.grist = false ∧ (s.grist.state ≠ GristState.verified ∨ s.engineRuns = true)) ∧
    (∃ (s : State), s.hopperUp = true ∧ s.resetting Fb.grist = false ∧ s.grist.state = GristState.idle ∧ s.grist.flashOp = none) ∧
    (∃ (s : State), s.hopperUp = true ∧ s.resetting Fb.grist = false ∧ s.grist.state ≠ GristState.idle) ∧
    (∃ (k : BitVec 8) (s : State), s.hopperUp = true ∧ s.resetting Fb.grist = false ∧ k.toNat < 4 ∧ s.keySlot k.toNat = 1 ∧ 2 ≤
      (List.filter (fun j => s.keySlot j == 1) (List.range 4)).length) ∧
    (∃ (k : BitVec 8) (s : State), s.hopperUp = true ∧ s.resetting Fb.grist = false ∧ 3 < k.toNat) :=
  ⟨⟨{ late with grist.state := .verified, eng.state := .track }, by decide⟩,
   ⟨({ late with grist.state := .verified, eng.state := .track }).setPar P.GR_ACTNEED 0 200000, by decide⟩,
   ⟨up, by decide⟩,
   ⟨{ up with grist.state := GristState.loading }, by decide⟩,
   ⟨{ up with grist.state := GristState.armed }, by decide⟩,
   ⟨{ up with grist.state := GristState.swapping }, by decide⟩,
   ⟨{ up with grist.state := GristState.idle }, by decide⟩,
   ⟨{ up with grist.state := GristState.swapped }, by decide⟩,
   ⟨up, by decide⟩,
   ⟨{ up with grist.state := GristState.verified }, by decide⟩,
   ⟨up, by decide⟩,
   ⟨{ { up with grist.state := GristState.idle } with grist.flashOp := none }, by decide⟩,
   ⟨{ late with grist.state := .loading }, by decide⟩,
   ⟨3, { late with pwr.keyState := [(3, 1), (0, 1)] }, by decide⟩,
   ⟨4, late, by decide⟩⟩

theorem witness_SessionPacketsAreAnswered :
    (∃ (p : Packet) (s : State), s.Admits p 0 true false ∧ p.payload = [] ∧ p.target = 0) ∧
    (∃ (p : Packet) (s : State), s.Admits p 3 true false ∧ p.payload = [] ∧ p.target = 0) ∧
    (∃ (p : Packet) (s : State), s.Admits p 7 true false ∧ p.payload.length ≤ 1020 ∧ p.target = 0) ∧
    (∃ (p : Packet) (s : State), s.Admits p 1 true false ∧ p.payload.length = 4 ∧ p.target = 0 ∧ fieldAt p.payload 3 1 = 0 ∧
      fieldAt p.payload 2 1 ≤ 1 ∧ fieldAt p.payload 0 1 ≤ 4 ∧ 4 ≤ fieldAt p.payload 1 1 ∧ (s.admitted p 1).sl.state = SlState.off) ∧
    (∃ (p : Packet) (s : State), s.Admits p 1 true false ∧ p.payload.length = 4 ∧ p.target = 0 ∧ fieldAt p.payload 3 1 = 0 ∧
      fieldAt p.payload 2 1 ≤ 1 ∧ (4 < fieldAt p.payload 0 1 ∨ fieldAt p.payload 1 1 < 4)) ∧
    (∃ (p : Packet) (s : State), s.Admits p 2 false false ∧ p.payload = [] ∧ p.target = 0) ∧
    (∃ (p : Packet) (s : State), s.Admits p 4 false false ∧ p.payload.length = 4 ∧ p.target = 0 ∧ fieldAt p.payload 1 3 = 0 ∧
      fieldAt p.payload 0 1 ≤ 1 ∧ ((s.admitted p 4).par P.HP_OWNER = 0 ∨ (s.admitted p 4).par P.HP_OWNER = (portCode p.port))) ∧
    (∃ (p : Packet) (s : State), s.Admits p 4 false false ∧ p.payload.length = 4 ∧ p.target = 0 ∧ fieldAt p.payload 0 4 = 0 ∧
      (s.admitted p 4).par P.HP_OWNER ≠ 0 ∧ (s.admitted p 4).par P.HP_OWNER ≠ (portCode p.port)) ∧
    (∃ (p : Packet) (s : State), s.Admits p 5 false false ∧ (s.admitted p 5).owns (portCode p.port) = true ∧ p.payload = [] ∧
      p.target = 0) ∧
    (∃ (p : Packet) (s : State), s.Admits p 6 false false ∧ p.payload = [] ∧ p.target = 0 ∧ (s.admitted p 6).par P.HP_OWNER ≠ 0) ∧
    (∃ (p : Packet) (s : State), s.Admits p 8 false false ∧ p.payload = [] ∧ p.target = 0) ∧
    (∃ (p : Packet) (s : State), s.Admits p 9 false false ∧ p.payload = [] ∧ p.target = 0) ∧
    (∃ (p : Packet) (s : State), s.Admits p 10 false false ∧ (s.admitted p 10).owns (portCode p.port) = true ∧ p.payload.length =
      4 ∧ p.target = 0 ∧ fieldAt p.payload 3 1 = 0 ∧ fieldAt p.payload 0 1 = 1 ∧ fieldAt p.payload 1 2 = 42330) ∧
    (∃ (p : Packet) (s : State), s.Admits p 10 false false ∧ (s.admitted p 10).owns (portCode p.port) = true ∧ p.payload.length =
      4 ∧ p.target = 0 ∧ fieldAt p.payload 3 1 = 0 ∧ fieldAt p.payload 0 1 = 2 ∧ fieldAt p.payload 1 2 = 42330) :=
  ⟨⟨(pkt 0 []), host, admits (by decide), by decide⟩,
   ⟨(pkt 0 []), host, admits (by decide), by decide⟩,
   ⟨(pkt 0 []), host, admits (by decide), by decide⟩,
   ⟨(pkt 0 [0, 4, 0, 0]), host, admits (by decide), by decide⟩,
   ⟨(pkt 0 [5, 0, 0, 0]), host, admits (by decide), by decide⟩,
   ⟨(pkt 0 []), host, admits (by decide), by decide⟩,
   ⟨(pkt 0 [0, 0, 0, 0]), host, admits (by decide), by decide⟩,
   ⟨pkt 0 [0, 0, 0, 0], (host.setPar P.HP_OWNER 0 4), admits (by decide), by decide⟩,
   ⟨(pkt 0 []), host, admits (by decide), by decide⟩,
   ⟨(pkt 0 []), host, admits (by decide), by decide⟩,
   ⟨(pkt 0 []), host, admits (by decide), by decide⟩,
   ⟨(pkt 0 []), host, admits (by decide), by decide⟩,
   ⟨(pkt 0 [1, 90, 165, 0]), host, admits (by decide), by decide⟩,
   ⟨(pkt 0 [2, 90, 165, 0]), host, admits (by decide), by decide⟩⟩

theorem witness_ParameterPacketsAreAnswered :
    (∃ (p : Packet) (s : State), s.Admits p 16 false false ∧ p.payload.length = 2 ∧ paramExists (fieldAt p.payload 0 2)
      p.target.toNat = true) ∧
    (∃ (p : Packet) (s : State), s.Admits p 17 false true ∧ (s.admitted p 17).owns (portCode p.port) = true ∧ p.payload.length = 8
      ∧ paramExists (fieldAt p.payload 0 2) p.target.toNat = true ∧ fieldAt p.payload 2 2 = 0) ∧
    (∃ (p : Packet) (s : State), s.Admits p 18 false false ∧ p.payload.length = 4 + 4 * fieldAt p.payload 0 2 ∧ p.target = 0 ∧
      fieldAt p.payload 2 2 = 0 ∧ 1 ≤ fieldAt p.payload 0 2 ∧ fieldAt p.payload 0 2 ≤ 128) ∧
    (∃ (p : Packet) (s : State), s.Admits p 20 false false ∧ p.payload.length = 4 ∧ paramExists (fieldAt p.payload 0 2)
      p.target.toNat = true ∧ 1 ≤ fieldAt p.payload 2 2 ∧ fieldAt p.payload 2 2 ≤ 64) ∧
    (∃ (p : Packet) (s : State), s.Admits p 19 false false ∧ (s.admitted p 19).owns (portCode p.port) = true ∧ p.payload.length =
      4 + 8 * fieldAt p.payload 0 2 ∧ p.target = 0 ∧ fieldAt p.payload 2 2 = 0 ∧ 1 ≤ fieldAt p.payload 0 2 ∧ fieldAt p.payload 0 2
      ≤ 127) ∧
    (∃ (p : Packet) (s : State), s.Admits p 21 false false ∧ (s.admitted p 21).owns (portCode p.port) = true ∧ p.payload.length =
      4 + 8 * fieldAt p.payload 0 2 ∧ p.target = 0 ∧ fieldAt p.payload 2 2 = 0 ∧ 1 ≤ fieldAt p.payload 0 2 ∧ fieldAt p.payload 0 2
      ≤ 127 ∧ ((s.admitted p 21).session (portCode p.port)).group.length + fieldAt p.payload 0 2 ≤ (s.admitted p 21).par
      P.HP_GRPMAX ∧ ∀ w ∈ setRecords p.payload, groupRecStatus w = (Status.ok, 0)) ∧
    (∃ (p : Packet) (s : State), s.Admits p 22 false false ∧ (s.admitted p 22).owns (portCode p.port) = true ∧ p.payload = [] ∧
      p.target = 0) ∧
    (∃ (p : Packet) (s : State), s.Admits p 23 false false ∧ (s.admitted p 23).owns (portCode p.port) = true ∧ p.payload = [] ∧
      p.target = 0) ∧
    (∃ (p : Packet) (d : ParamDef) (s : State), s.Admits p 24 false false ∧ p.payload.length = 2 ∧ paramExists (fieldAt p.payload
      0 2) p.target.toNat = true ∧ paramDef? (fieldAt p.payload 0 2) = some d ∧ (s.admitted p 24).resetting (ownerOf (fieldAt
      p.payload 0 2) p.target.toNat) = false) ∧
    (∃ (p : Packet) (s : State), s.Admits p 25 false false ∧ (s.admitted p 25).owns (portCode p.port) = true ∧ p.payload.length =
      12 ∧ paramExists (fieldAt p.payload 0 2) p.target.toNat = true ∧ fieldAt p.payload 2 2 = 0) ∧
    (∃ (p : Packet) (s : State), s.Admits p 37 false false ∧ p.payload.length = 2 ∧ paramExists (fieldAt p.payload 0 2)
      p.target.toNat = true ∧ attrOf (fieldAt p.payload 0 2) = Attr.rwShadow ∧ (s.admitted p 37).resetting (ownerOf (fieldAt
      p.payload 0 2) p.target.toNat) = false) :=
  ⟨⟨(pkt 0 [0, 0]), host, admits (by decide), by decide⟩,
   ⟨(pkt 0 [0, 0, 0, 0, 0, 0, 0, 0]), host, admits (by decide), by decide⟩,
   ⟨(pkt 0 [1, 0, 0, 0, 0, 0, 0, 0]), host, admits (by decide), by decide⟩,
   ⟨(pkt 0 [0, 0, 1, 0]), host, admits (by decide), by decide⟩,
   ⟨(pkt 0 [1, 0, 0, 0, 0, 0, 0, 0, 0, 0, 0, 0]), host, admits (by decide), by decide⟩,
   ⟨pkt 0 ([1, 0, 0, 0] ++ leBytes 8 (P.AC_MODE + 2 ^ 16 * 63 + 2 ^ 32)), host, admits (by decide), by decide⟩,
   ⟨(pkt 0 []), host, admits (by decide), by decide⟩,
   ⟨(pkt 0 []), host, admits (by decide), by decide⟩,
   ⟨pkt 0 (leBytes 2 P.WH_SRC), ⟨P.WH_SRC, .rwLocked, 1, .all 4, .spans [(0, 5)]⟩, host, admits (by decide), by decide⟩,
   ⟨(pkt 0 [0, 0, 0, 0, 0, 0, 0, 0, 0, 0, 0, 0]), host, admits (by decide), by decide⟩,
   ⟨pkt 0 (leBytes 2 P.SAR_XCSEL), host, admits (by decide), by decide⟩⟩

theorem witness_WheelAndConverterPacketsAreAnswered :
    (∃ (p : Packet) (k : ℕ) (s : State), s.Admits p 48 false false ∧ (s.admitted p 48).owns (portCode p.port) = true ∧
      p.payload.length = 12 ∧ p.target = 0 ∧ placeAt p.payload 0 = some k ∧ (s.admitted p 48).placeBarred k = false ∧ actStatus
      (BitVec.ofNat 64 (fieldAt p.payload 4 8)) = Status.ok ∧ (s.admitted p 48).freeEntries ≠ 0) ∧
    (∃ (p : Packet) (k : ℕ) (s : State), s.Admits p 48 false false ∧ (s.admitted p 48).owns (portCode p.port) = true ∧
      p.payload.length = 12 ∧ p.target = 0 ∧ placeAt p.payload 0 = some k ∧ (s.admitted p 48).placeBarred k = false ∧ actStatus
      (BitVec.ofNat 64 (fieldAt p.payload 4 8)) = Status.ok ∧ (s.admitted p 48).freeEntries = 0) ∧
    (∃ (p : Packet) (s : State), s.Admits p 51 false false ∧ (s.admitted p 51).owns (portCode p.port) = true ∧ p.payload.length =
      4 + 12 * fieldAt p.payload 0 2 ∧ p.target = 0 ∧ fieldAt p.payload 2 2 = 0) ∧
    (∃ (p : Packet) (x : Action) (s : State), s.Admits p 49 false false ∧ (s.admitted p 49).owns (portCode p.port) = true ∧
      p.payload.length = 4 ∧ p.target = 0 ∧ (s.admitted p 49).actionAt (fieldAt p.payload 0 4) = some x) ∧
    (∃ (p : Packet) (s : State), s.Admits p 49 false false ∧ (s.admitted p 49).owns (portCode p.port) = true ∧ p.payload.length =
      4 ∧ p.target = 0 ∧ (s.admitted p 49).actionAt (fieldAt p.payload 0 4) = none) ∧
    (∃ (p : Packet) (k : ℕ) (s : State), s.Admits p 50 false false ∧ (s.admitted p 50).owns (portCode p.port) = true ∧
      p.payload.length = 4 ∧ p.target = 0 ∧ placeAt p.payload 0 = some k ∧ (s.admitted p 50).placeBarred k = false) ∧
    (∃ (p : Packet) (k : ℕ) (s : State), s.Admits p 52 false false ∧ p.payload.length = 8 ∧ p.target = 0 ∧ fieldAt p.payload 6 2 =
      0 ∧ placeAt p.payload 0 = some k) ∧
    (∃ (p : Packet) (ecc : List StoreError) (x : Action) (s : State), s.Admits p 53 false false ∧ p.payload.length = 4 ∧ p.target
      = 0 ∧ ((s.admitted p 53).storeCheck ecc (fieldAt p.payload 0 4)).actionAt (fieldAt p.payload 0 4) = some x) ∧
    (∃ (p : Packet) (ecc : List StoreError) (s : State), s.Admits p 53 false false ∧ p.payload.length = 4 ∧ p.target = 0 ∧
      ((s.admitted p 53).storeCheck ecc (fieldAt p.payload 0 4)).actionAt (fieldAt p.payload 0 4) = none) ∧
    (∃ (p : Packet) (s : State), s.Admits p 54 false false ∧ p.payload = [] ∧ p.target = 0) ∧
    (∃ (p : Packet) (s : State), s.Admits p 55 false true ∧ p.payload.length = 8 ∧ p.target = 0 ∧ fieldAt p.payload 2 2 = 0 ∧ 1 ≤
      fieldAt p.payload 4 4 ∧ fieldAt p.payload 4 4 ≤ 60000) ∧
    (∃ (p : Packet) (x : LastRecord) (s : State), s.Admits p 64 false false ∧ p.payload.length = 0 ∧ p.target.toNat < 192 ∧ tblGet
      none ((s.admitted p 64).group (p.target.toNat / 48)).last (p.target.toNat % 48) = some x) ∧
    (∃ (p : Packet) (x : LastRecord) (s : State), s.Admits p 64 false false ∧ p.payload.length = 0 ∧ 256 ≤ p.target.toNat ∧
      p.target.toNat ≤ 263 ∧ ((s.admitted p 64).ic (p.target.toNat - 256)).last = some x) ∧
    (∃ (p : Packet) (x : LastRecord) (s : State), s.Admits p 65 false false ∧ p.payload.length = 0 ∧ p.target.toNat < 32 ∧
      ((s.admitted p 65).lane p.target.toNat).last = some x) ∧
    (∃ (p : Packet) (s : State), s.Admits p 66 false false ∧ (s.admitted p 66).owns (portCode p.port) = true ∧ p.payload.length =
      4 + 4 * fieldAt p.payload 1 1 ∧ p.target.toNat < 4 ∧ fieldAt p.payload 2 2 = 0 ∧ 1 ≤ fieldAt p.payload 1 1 ∧ fieldAt
      p.payload 0 1 + fieldAt p.payload 1 1 ≤ 48) ∧
    (∃ (p : Packet) (s : State), s.Admits p 69 false false ∧ p.payload.length = 4 ∧ p.target.toNat < 4 ∧ fieldAt p.payload 2 2 = 0
      ∧ 1 ≤ fieldAt p.payload 1 1 ∧ fieldAt p.payload 0 1 + fieldAt p.payload 1 1 ≤ 48) ∧
    (∃ (p : Packet) (s : State), s.Admits p 67 false false ∧ (s.admitted p 67).owns (portCode p.port) = true ∧ p.payload.length =
      128 ∧ p.target.toNat < 4) ∧
    (∃ (p : Packet) (s : State), s.Admits p 68 false false ∧ p.payload.length = 0 ∧ p.target.toNat < 4) :=
  ⟨⟨pkt 0 ([0, 0, 0, 0] ++ leBytes 8 act.toNat), 0, host, admits (by decide), by decide⟩,
   ⟨pkt 0 ([0, 0, 0, 0] ++ leBytes 8 act.toNat), 0, { host with grist.reserved := 200000 }, admits (by decide), by
     decide⟩,
   ⟨(pkt 0 [0, 0, 0, 0]), host, admits (by decide), by decide⟩,
   ⟨pkt 0 [0, 0, 0, 0], { word := 0, place := 0, seq := 0 },
     ({ host with wheel.store := [(0, { word := 0, place := 0, seq := 0 })] }), admits (by decide), by decide⟩,
   ⟨(pkt 0 [0, 0, 0, 0]), host, admits (by decide), by decide⟩,
   ⟨(pkt 0 [0, 0, 0, 0]), 0, host, admits (by decide), by decide⟩,
   ⟨(pkt 0 [0, 0, 0, 0, 0, 0, 0, 0]), 0, host, admits (by decide), by decide⟩,
   ⟨pkt 0 [0, 0, 0, 0], [], { word := 0, place := 0, seq := 0 },
     ({ host with wheel.store := [(0, { word := 0, place := 0, seq := 0 })] }), admits (by decide), by decide⟩,
   ⟨(pkt 0 [0, 0, 0, 0]), [], host, admits (by decide), by decide⟩,
   ⟨(pkt 0 []), host, admits (by decide), by decide⟩,
   ⟨(pkt 0 [0, 0, 0, 0, 1, 0, 0, 0]), host, admits (by decide), by decide⟩,
   ⟨pkt 191 [], { word := 0, angle := 0, time := 0 }, (host.setGroup 3
     { last := [(47, some { word := 0, angle := 0, time := 0 })] }), admits (by decide), by decide⟩,
   ⟨pkt 263 [], { word := 0, angle := 0, time := 0 }, (host.setIc 7 { last := some { word := 0, angle := 0, time := 0 } }),
     admits (by decide), by decide⟩,
   ⟨pkt 31 [], { word := 0, angle := 0, time := 0 }, (host.setLane 31
     { last := some { word := 0, angle := 0, time := 0 } }), admits (by decide), by decide⟩,
   ⟨(pkt 0 [0, 1, 0, 0, 0, 0, 0, 0]), host, admits (by decide), by decide⟩,
   ⟨(pkt 0 [0, 1, 0, 0]), host, admits (by decide), by decide⟩,
   ⟨(pkt 0 [0, 0, 0, 0, 0, 0, 0, 0, 0, 0, 0, 0, 0, 0, 0, 0, 0, 0, 0, 0, 0, 0, 0, 0, 0, 0, 0, 0, 0, 0, 0, 0, 0, 0, 0, 0, 0, 0,
     0, 0, 0, 0, 0, 0, 0, 0, 0, 0, 0, 0, 0, 0, 0, 0, 0, 0, 0, 0, 0, 0, 0, 0, 0, 0, 0, 0, 0, 0, 0, 0, 0, 0, 0, 0, 0, 0, 0, 0, 0, 0,
     0, 0, 0, 0, 0, 0, 0, 0, 0, 0, 0, 0, 0, 0, 0, 0, 0, 0, 0, 0, 0, 0, 0, 0, 0, 0, 0, 0, 0, 0, 0, 0, 0, 0, 0, 0, 0, 0, 0, 0, 0, 0,
     0, 0, 0, 0, 0, 0]), host, admits (by decide), by decide⟩,
   ⟨(pkt 0 []), host, admits (by decide), by decide⟩⟩

theorem witness_ImageAndCalibrationPacketsAreAnswered :
    (∃ (p : Packet) (s : State), s.Admits p 32 false false ∧ (s.admitted p 32).owns (portCode p.port) = true ∧ p.payload.length =
      4 ∧ p.target = 0 ∧ (s.admitted p 32).grist.state = GristState.idle ∧ 96 ≤ fieldAt p.payload 0 4 ∧ fieldAt p.payload 0 4 ≤
      1048576) ∧
    (∃ (p : Packet) (s : State), s.Admits p 32 false false ∧ (s.admitted p 32).owns (portCode p.port) = true ∧ p.payload.length =
      4 ∧ p.target = 0 ∧ (s.admitted p 32).grist.state ≠ GristState.idle) ∧
    (∃ (p : Packet) (s : State), s.Admits p 33 false false ∧ (s.admitted p 33).owns (portCode p.port) = true ∧ 5 ≤
      p.payload.length ∧ p.payload.length ≤ 1024 ∧ p.target = 0 ∧ (s.admitted p 33).grist.state = GristState.loading ∧ (s.admitted
      p 33).grist.checking = none ∧ (s.admitted p 33).grist.port = (portCode p.port) ∧ fieldAt p.payload 0 4 = (s.admitted p
      33).grist.image.length ∧ ((s.admitted p 33).grist.image ++ List.drop 4 p.payload).length ≤ (s.admitted p 33).grist.length) ∧
    (∃ (p : Packet) (s : State), s.Admits p 34 false true ∧ (s.admitted p 34).owns (portCode p.port) = true ∧ p.payload = [] ∧
      p.target = 0 ∧ (s.admitted p 34).grist.state = GristState.loading ∧ (s.admitted p 34).grist.checking = none ∧ (s.admitted p
      34).grist.port = (portCode p.port)) ∧
    (∃ (p : Packet) (s : State), s.Admits p 35 false false ∧ p.payload.length = 0 ∧ p.target.toNat ≤ 1) ∧
    (∃ (p : Packet) (s : State), s.Admits p 36 false true ∧ (s.admitted p 36).owns (portCode p.port) = true ∧ p.payload.length =
      16 ∧ p.target.toNat ≤ 3 ∧ (s.admitted p 36).keySlot p.target.toNat = 0 ∧ ((s.admitted p 36).pwr.keyDue.any fun d => d.1 ==
      p.target.toNat) = false) ∧
    (∃ (p : Packet) (s : State), s.Admits p 36 false true ∧ (s.admitted p 36).owns (portCode p.port) = true ∧ p.payload.length =
      16 ∧ p.target.toNat ≤ 3 ∧ (s.admitted p 36).keySlot p.target.toNat ≠ 0) ∧
    (∃ (p : Packet) (s : State), s.Admits p 38 false false ∧ p.payload.length = 6 ∧ p.target = 0 ∧ (s.admitted p 38).portFBusy =
      false ∧ 1 ≤ fieldAt p.payload 4 2 ∧ fieldAt p.payload 4 2 ≤ 1020 ∧ fieldAt p.payload 0 4 + fieldAt p.payload 4 2 ≤ 2 ^ 24) ∧
    (∃ (p : Packet) (s : State), s.Admits p 39 false true ∧ (s.admitted p 39).owns (portCode p.port) = true ∧ p.payload.length = 4
      ∧ p.target = 0 ∧ (s.admitted p 39).portFBusy = false ∧ (s.admitted p 39).grist.flashOp = none ∧ fieldAt p.payload 0 4 % 4096
      = 0 ∧ fieldAt p.payload 0 4 < 2 ^ 24) ∧
    (∃ (p : Packet) (s : State), s.Admits p 40 false true ∧ (s.admitted p 40).owns (portCode p.port) = true ∧ 5 ≤ p.payload.length
      ∧ p.payload.length ≤ 260 ∧ p.target = 0 ∧ (s.admitted p 40).portFBusy = false ∧ (s.admitted p 40).grist.flashOp = none ∧
      fieldAt p.payload 0 4 < 2 ^ 24 ∧ fieldAt p.payload 0 4 % 256 + (List.drop 4 p.payload).length ≤ 256) ∧
    (∃ (p : Packet) (s : State), s.Admits p 82 false false ∧ p.payload.length = 0 ∧ itemOk p.target.toNat = true) ∧
    (∃ (p : Packet) (s : State), s.Admits p 83 false false ∧ (s.admitted p 83).owns (portCode p.port) = true ∧ p.payload.length =
      8 ∧ itemOk p.target.toNat = true ∧ valueOk P.CAL_CGAIN 0 (fieldAt p.payload 0 4) = true ∧ valueOk P.CAL_COFS 0 (fieldAt
      p.payload 4 4) = true) ∧
    (∃ (p : Packet) (s : State), s.Admits p 85 false false ∧ p.payload.length = 4 ∧ fieldAt p.payload 1 3 = 0 ∧ itemOk
      p.target.toNat = true ∧ 1 ≤ fieldAt p.payload 0 1 ∧ fieldAt p.payload 0 1 ≤ 84 ∧ p.target.toNat % 4096 + fieldAt p.payload 0
      1 ≤ coefCount (p.target.toNat / 4096)) ∧
    (∃ (p : Packet) (s : State), s.Admits p 86 false true ∧ (s.admitted p 86).owns (portCode p.port) = true ∧ p.payload.length = 4
      ∧ fieldAt p.payload 1 3 = 0 ∧ p.target.toNat = sysCellOf p + 256 * sysGroup p ∧ fieldAt p.payload 0 1 = 0 ∧ (s.admitted p
      86).resetting (Fb.sar (sysGroup p)) = false) ∧
    (∃ (p : Packet) (s : State), s.Admits p 86 false true ∧ (s.admitted p 86).owns (portCode p.port) = true ∧ p.payload.length = 4
      ∧ fieldAt p.payload 1 3 = 0 ∧ p.target.toNat = sysCellOf p + 256 * sysGroup p ∧ fieldAt p.payload 0 1 = 1 ∧ (s.admitted p
      86).resetting (Fb.sar (sysGroup p)) = false) ∧
    (∃ (p : Packet) (s : State), s.Admits p 86 false true ∧ (s.admitted p 86).owns (portCode p.port) = true ∧ p.payload.length = 4
      ∧ fieldAt p.payload 1 3 = 0 ∧ p.target.toNat = sysCellOf p + 256 * sysGroup p ∧ fieldAt p.payload 0 1 = 2 ∧ (s.admitted p
      86).resetting (Fb.sar (sysGroup p)) = false) ∧
    (∃ (p : Packet) (s : State), s.Admits p 86 false true ∧ (s.admitted p 86).owns (portCode p.port) = true ∧ p.payload.length = 4
      ∧ fieldAt p.payload 1 3 = 0 ∧ p.target.toNat = sysCellOf p + 256 * sysGroup p ∧ fieldAt p.payload 0 1 = 3 ∧ (s.admitted p
      86).resetting (Fb.sar (sysGroup p)) = false) ∧
    (∃ (p : Packet) (s : State), s.Admits p 80 false true ∧ (s.admitted p 80).owns (portCode p.port) = true ∧ p.payload = [] ∧
      p.target = 0 ∧ (s.admitted p 80).cal.state = CalState.idle ∧ (s.admitted p 80).budgetOk 24 (s.admitted p 80).calExtra = true) ∧
    (∃ (p : Packet) (s : State), s.Admits p 81 false false ∧ (s.admitted p 81).owns (portCode p.port) = true ∧ p.payload = [] ∧
      p.target = 0) ∧
    (∃ (p : Packet) (s : State), s.Admits p 84 false false ∧ (s.admitted p 84).owns (portCode p.port) = true ∧ p.payload = [] ∧
      p.target = 0) :=
  ⟨⟨(pkt 0 [96, 0, 0, 0]), host, admits (by decide), by decide⟩,
   ⟨pkt 0 [0, 0, 0, 0], { host with grist.state := .loading }, admits (by decide), by decide⟩,
   ⟨pkt 0 [0, 0, 0, 0, 7], { host with grist.state := .loading, grist.port := 2, grist.length := 8 }, admits (by
     decide), by decide⟩,
   ⟨pkt 0 [], { host with grist.state := .loading, grist.port := 2, grist.length := 8 }, admits (by decide), by decide⟩,
   ⟨(pkt 0 []), host, admits (by decide), by decide⟩,
   ⟨(pkt 0 [0, 0, 0, 0, 0, 0, 0, 0, 0, 0, 0, 0, 0, 0, 0, 0]), host, admits (by decide), by decide⟩,
   ⟨pkt 3 (List.replicate 16 0), { host with pwr.keyState := [(3, 1)] }, admits (by decide), by decide⟩,
   ⟨(pkt 0 [0, 0, 0, 0, 1, 0]), host, admits (by decide), by decide⟩,
   ⟨(pkt 0 [0, 0, 0, 0]), host, admits (by decide), by decide⟩,
   ⟨pkt 0 [255, 0, 0, 0, 7], host, admits (by decide), by decide⟩,
   ⟨(pkt 0 []), host, admits (by decide), by decide⟩,
   ⟨pkt 0 ([0, 0, 0, 64] ++ [0, 0, 0, 0]), host, admits (by decide), by decide⟩,
   ⟨(pkt 0 [1, 0, 0, 0]), host, admits (by decide), by decide⟩,
   ⟨(pkt 0 [0, 0, 0, 0]), host, admits (by decide), by decide⟩,
   ⟨(pkt 0 [1, 0, 0, 0]), host, admits (by decide), by decide⟩,
   ⟨(pkt 0 [2, 0, 0, 0]), host, admits (by decide), by decide⟩,
   ⟨(pkt 0 [3, 0, 0, 0]), host, admits (by decide), by decide⟩,
   ⟨pkt 0 [], { host with cal.state := .idle }, admits (by decide), by decide⟩,
   ⟨(pkt 0 []), host, admits (by decide), by decide⟩,
   ⟨(pkt 0 []), host, admits (by decide), by decide⟩⟩

theorem witness_StreamMailboxAndFaultPacketsAreAnswered :
    (∃ (p : Packet) (s : State), s.Admits p 96 false false ∧ p.payload.length = 4 ∧ p.target.toNat < 64 ∧ fieldAt p.payload 2 2 =
      0 ∧ (s.admitted p 96).ringPort p.target.toNat = (portCode p.port) ∧ (s.admitted p 96).ringPush p.target.toNat = false ∧ 1 ≤
      fieldAt p.payload 0 2 ∧ fieldAt p.payload 0 2 ≤ 254) ∧
    (∃ (p : Packet) (s : State), s.Admits p 97 false false ∧ p.payload.length = 0 ∧ p.target.toNat < 64 ∧ (s.admitted p
      97).ringPort p.target.toNat = (portCode p.port)) ∧
    (∃ (p : Packet) (s : State), s.Admits p 98 false false ∧ p.payload.length = 0 ∧ p.target.toNat < 64 ∧ (s.admitted p
      98).ringPort p.target.toNat = (portCode p.port)) ∧
    (∃ (p : Packet) (s : State), s.Admits p 98 false false ∧ p.payload.length = 0 ∧ p.target.toNat < 64 ∧ (s.admitted p
      98).ringPort p.target.toNat ≠ (portCode p.port)) ∧
    (∃ (p : Packet) (m : Message) (s : State), s.Admits p 99 false false ∧ p.payload.length = 0 ∧ p.target.toNat < 8 ∧ (s.admitted
      p 99).fromHost p.target.toNat = false ∧ ((s.admitted p 99).par P.MB_PORT p.target.toNat = 0 ∨ (s.admitted p 99).par P.MB_PORT
      p.target.toNat = (portCode p.port)) ∧ ((s.admitted p 99).mbox p.target.toNat).msg = some m) ∧
    (∃ (p : Packet) (s : State), s.Admits p 100 false true ∧ p.payload.length = 4 + fieldAt p.payload 0 2 ∧ p.target.toNat < 8 ∧
      fieldAt p.payload 2 2 = 0 ∧ (s.admitted p 100).toHost p.target.toNat = false ∧ ((List.range 4).any fun k => (s.admitted p
      100).par P.MB_ROUTE (4 + k) == p.target.toNat) = true ∧ ((s.admitted p 100).par P.MB_PORT p.target.toNat = 0 ∨ (s.admitted p
      100).par P.MB_PORT p.target.toNat = (portCode p.port)) ∧ 1 ≤ fieldAt p.payload 0 2 ∧ fieldAt p.payload 0 2 ≤ 64 ∧
      ((s.admitted p 100).mbox p.target.toNat).msg = none) ∧
    (∃ (p : Packet) (s : State), s.Admits p 100 false true ∧ p.payload.length = 4 + fieldAt p.payload 0 2 ∧ p.target.toNat < 8 ∧
      fieldAt p.payload 2 2 = 0 ∧ (s.admitted p 100).toHost p.target.toNat = false ∧ ((List.range 4).any fun k => (s.admitted p
      100).par P.MB_ROUTE (4 + k) == p.target.toNat) = true ∧ ((s.admitted p 100).par P.MB_PORT p.target.toNat = 0 ∨ (s.admitted p
      100).par P.MB_PORT p.target.toNat = (portCode p.port)) ∧ 1 ≤ fieldAt p.payload 0 2 ∧ fieldAt p.payload 0 2 ≤ 64 ∧
      ((s.admitted p 100).mbox p.target.toNat).msg.isSome = true) ∧
    (∃ (p : Packet) (s : State), s.Admits p 101 false false ∧ p.payload = [] ∧ p.target = 0) ∧
    (∃ (p : Packet) (s : State), s.Admits p 112 false false ∧ p.payload = [] ∧ p.target = 0) ∧
    (∃ (p : Packet) (s : State), s.Admits p 113 false false ∧ p.payload.length = 0 ∧ p.target.toNat < 248) ∧
    (∃ (p : Packet) (s : State), s.Admits p 114 false false ∧ (s.admitted p 114).owns (portCode p.port) = true ∧ p.payload.length
      = 4 ∧ fieldAt p.payload 1 3 = 0 ∧ p.target.toNat < 248) ∧
    (∃ (p : Packet) (es : List FaultRec) (s : State), s.Admits p 115 false false ∧ p.payload.length = 4 ∧ fieldAt p.payload 1 3 =
      0 ∧ 1 ≤ fieldAt p.payload 0 1 ∧ fieldAt p.payload 0 1 ≤ 31 ∧ (s.admitted p 115).logEntries p.target.toNat (fieldAt p.payload
      0 1) = some es) ∧
    (∃ (p : Packet) (s : State), s.Admits p 116 false false ∧ (s.admitted p 116).owns (portCode p.port) = true ∧ p.payload = [] ∧
      p.target = 0) :=
  ⟨⟨pkt 63 [254, 0, 0, 0], (host.setPar P.ST_CFG 63 2), admits (by decide), by decide⟩,
   ⟨pkt 63 [], (host.setPar P.ST_CFG 63 2), admits (by decide), by decide⟩,
   ⟨pkt 63 [], (host.setPar P.ST_CFG 63 2), admits (by decide), by decide⟩,
   ⟨(pkt 0 []), host, admits (by decide), by decide⟩,
   ⟨pkt 0 [], { payload := [1], sender := 0, gen := 0 }, ((host.setMbox 0
     { msg := some { payload := [1], sender := 0, gen := 0 } }).setPar P.MB_DIR 0 0), admits (by decide), by decide⟩,
   ⟨pkt 4 [1, 0, 0, 0, 9], host, admits (by decide), by decide⟩,
   ⟨pkt 4 [1, 0, 0, 0, 9], (((host.setMbox 0 { msg := some { payload := [1], sender := 0, gen := 0 } }).setMbox 4
     { msg := some { payload := [1], sender := 0, gen := 0 } }).setMbox 7
     { msg := some { payload := [1], sender := 0, gen := 0 } }), admits (by decide), by decide⟩,
   ⟨(pkt 0 []), host, admits (by decide), by decide⟩,
   ⟨(pkt 0 []), host, admits (by decide), by decide⟩,
   ⟨(pkt 0 []), host, admits (by decide), by decide⟩,
   ⟨(pkt 0 [0, 0, 0, 0]), host, admits (by decide), by decide⟩,
   ⟨pkt 0 [1, 0, 0, 0], [{}], { host with flt.log := [{}] }, admits (by decide), by decide⟩,
   ⟨(pkt 0 []), host, admits (by decide), by decide⟩⟩

theorem witness_KilnSyncAndTestPacketsAreAnswered :
    (∃ (p : Packet) (s : State), s.Admits p 128 false false ∧ p.payload = [] ∧ p.target = 0) ∧
    (∃ (p : Packet) (s : State), s.Admits p 129 false false ∧ p.payload.length = 4 ∧ fieldAt p.payload 1 3 = 0 ∧ p.target.toNat <
      256 ∧ 1 ≤ fieldAt p.payload 0 1 ∧ fieldAt p.payload 0 1 ≤ 127 ∧ p.target.toNat + fieldAt p.payload 0 1 ≤ 256) ∧
    (∃ (p : Packet) (s : State), s.Admits p 130 false false ∧ (s.admitted p 130).owns (portCode p.port) = true ∧ p.payload.length
      = 4 ∧ p.target = 0 ∧ fieldAt p.payload 1 3 = 0 ∧ fieldAt p.payload 0 1 = 1 ∧ (s.admitted p 130).resetting Fb.kiln = false) ∧
    (∃ (p : Packet) (s : State), s.Admits p 130 false false ∧ (s.admitted p 130).owns (portCode p.port) = true ∧ p.payload.length
      = 4 ∧ p.target = 0 ∧ fieldAt p.payload 1 3 = 0 ∧ fieldAt p.payload 0 1 = 2 ∧ (s.admitted p 130).resetting Fb.kiln = false) ∧
    (∃ (p : Packet) (s : State), s.Admits p 130 false false ∧ (s.admitted p 130).owns (portCode p.port) = true ∧ p.payload.length
      = 4 ∧ p.target = 0 ∧ fieldAt p.payload 1 3 = 0 ∧ fieldAt p.payload 0 1 = 3 ∧ (s.admitted p 130).resetting Fb.kiln = false) ∧
    (∃ (p : Packet) (s : State), s.Admits p 130 false false ∧ (s.admitted p 130).owns (portCode p.port) = true ∧ p.payload.length
      = 4 ∧ p.target = 0 ∧ fieldAt p.payload 1 3 = 0 ∧ fieldAt p.payload 0 1 = 4 ∧ (s.admitted p 130).resetting Fb.kiln = false) ∧
    (∃ (p : Packet) (s : State), s.Admits p 144 false false ∧ p.payload = [] ∧ p.target = 0) ∧
    (∃ (p : Packet) (s : State), s.Admits p 145 false true ∧ (s.admitted p 145).owns (portCode p.port) = true ∧ p.payload.length =
      4 ∧ p.target = 0 ∧ fieldAt p.payload 1 3 = 0 ∧ 2 ≤ fieldAt p.payload 0 1 ∧ fieldAt p.payload 0 1 ≤ 3 ∧ (s.admitted p
      145).isPair = true ∧ (s.admitted p 145).sl.state ≠ SlState.off ∧ (s.admitted p 145).role = Role.active) ∧
    (∃ (p : Packet) (s : State), s.Admits p 145 false true ∧ (s.admitted p 145).owns (portCode p.port) = true ∧ p.payload.length =
      4 ∧ p.target = 0 ∧ fieldAt p.payload 1 3 = 0 ∧ fieldAt p.payload 0 1 < 2) ∧
    (∃ (p : Packet) (s : State), s.Admits p 146 false true ∧ (s.admitted p 146).owns (portCode p.port) = true ∧ p.payload = [] ∧
      p.target = 0 ∧ (s.admitted p 146).isPair = true ∧ (s.admitted p 146).role = Role.active ∧ (s.admitted p 146).sl.state =
      SlState.synced ∧ (s.admitted p 146).partnerRec.valid = true ∧ (s.admitted p 146).partnerRec.hold = false) ∧
    (∃ (p : Packet) (s : State), s.Admits p 147 false true ∧ (s.admitted p 147).owns (portCode p.port) = true ∧ p.payload = [] ∧
      p.target = 0 ∧ (s.admitted p 147).mayTakeOver = true) ∧
    (∃ (p : Packet) (s : State), s.Admits p 147 false true ∧ (s.admitted p 147).owns (portCode p.port) = true ∧ p.payload = [] ∧
      p.target = 0 ∧ (s.admitted p 147).mayTakeOver = false) ∧
    (∃ (p : Packet) (s : State), s.Admits p 162 false false ∧ (s.admitted p 162).owns (portCode p.port) = true ∧ p.payload = [] ∧
      p.target = 0 ∧ (s.admitted p 162).par P.TST_AUTHFAIL < 3 ∧ (s.admitted p 162).tst.testLock = false) ∧
    (∃ (p : Packet) (s : State), s.Admits p 163 false false ∧ (s.admitted p 163).owns (portCode p.port) = true ∧ p.payload.length
      = 16 ∧ p.target = 0 ∧ (s.admitted p 163).tst.challenge = none) ∧
    (∃ (p : Packet) (s : State), s.Admits p 164 false false ∧ (s.admitted p 164).owns (portCode p.port) = true ∧ p.payload = [] ∧
      p.target = 0 ∧ (s.admitted p 164).tst.testMode = true) ∧
    (∃ (p : Packet) (s : State), s.Admits p 164 false false ∧ (s.admitted p 164).owns (portCode p.port) = true ∧ p.payload = [] ∧
      p.target = 0 ∧ (s.admitted p 164).tst.testMode = false) ∧
    (∃ (p : Packet) (k : ℕ) (s : State), s.Admits p 165 false false ∧ (s.admitted p 165).owns (portCode p.port) = true ∧
      p.payload.length = 4 ∧ fieldAt p.payload 1 3 = 0 ∧ p.target.toNat < 248 ∧ (s.admitted p 165).tst.testMode = true ∧ detClass
      p.target.toNat (fieldAt p.payload 0 1) = some k) ∧
    (∃ (p : Packet) (s : State), s.Admits p 166 false false ∧ p.payload.length = 6 ∧ p.target = 0 ∧ (s.admitted p
      166).tst.testMode = true ∧ 1 ≤ fieldAt p.payload 4 2 ∧ fieldAt p.payload 4 2 ≤ 1020 ∧ fieldAt p.payload 0 4 % 2 ^ 28 +
      fieldAt p.payload 4 2 ≤ memSize (fieldAt p.payload 0 4 / 2 ^ 28)) ∧
    (∃ (p : Packet) (s : State), s.Admits p 166 false false ∧ p.payload.length = 6 ∧ p.target = 0 ∧ (s.admitted p
      166).tst.testMode = false) ∧
    (∃ (p : Packet) (s : State), s.Admits p 161 false false ∧ p.payload.length = 4 ∧ fieldAt p.payload 1 3 = 0 ∧ 1 ≤ fieldAt
      p.payload 0 1 ∧ fieldAt p.payload 0 1 ≤ 63 ∧ p.target.toNat + fieldAt p.payload 0 1 ≤ (s.admitted p 161).tst.buffer.length) ∧
    (∃ (p : Packet) (s : State), s.Admits p 160 false false ∧ (s.admitted p 160).owns (portCode p.port) = true ∧ p.payload.length
      = 8 ∧ p.target = 0 ∧ fieldAt p.payload 1 3 = 0 ∧ fieldAt p.payload 0 1 = 1) ∧
    (∃ (p : Packet) (s : State), s.Admits p 160 false false ∧ (s.admitted p 160).owns (portCode p.port) = true ∧ p.payload.length
      = 8 ∧ p.target = 0 ∧ fieldAt p.payload 1 3 = 0 ∧ fieldAt p.payload 0 1 = 2) ∧
    (∃ (p : Packet) (s : State), s.Admits p 160 false false ∧ (s.admitted p 160).owns (portCode p.port) = true ∧ p.payload.length
      = 8 ∧ p.target = 0 ∧ fieldAt p.payload 1 3 = 0 ∧ fieldAt p.payload 0 1 = 3) :=
  ⟨⟨(pkt 0 []), host, admits (by decide), by decide⟩,
   ⟨(pkt 0 [1, 0, 0, 0]), host, admits (by decide), by decide⟩,
   ⟨(pkt 0 [1, 0, 0, 0]), host, admits (by decide), by decide⟩,
   ⟨(pkt 0 [2, 0, 0, 0]), host, admits (by decide), by decide⟩,
   ⟨(pkt 0 [3, 0, 0, 0]), host, admits (by decide), by decide⟩,
   ⟨(pkt 0 [4, 0, 0, 0]), host, admits (by decide), by decide⟩,
   ⟨(pkt 0 []), host, admits (by decide), by decide⟩,
   ⟨pkt 0 [3, 0, 0, 0], (({ host with sl.state := .synced, sl.closed := true }).setPar P.SL_ROLECFG 0 2).setPar P.SL_ROLE 0
     2, admits (by decide), by decide⟩,
   ⟨(pkt 0 [0, 0, 0, 0]), host, admits (by decide), by decide⟩,
   ⟨pkt 0 [], (({ host with sl.state := .synced, sl.closed := true, sl.peers := [(1, { b4 := 128 })] }).setPar P.SL_ROLECFG
     0 2).setPar P.SL_ROLE 0 2, admits (by decide), by decide⟩,
   ⟨pkt 0 [],
     ((({ host with sl.state := .synced, sl.closed := true, sl.peers := [(1, { b4 := 128 })], sl.committed := some [] }).setPar
     P.SL_ROLECFG 0 3).setPar P.SL_ROLE 0 3), admits (by decide), by decide⟩,
   ⟨(pkt 0 []), host, admits (by decide), by decide⟩,
   ⟨(pkt 0 []), host, admits (by decide), by decide⟩,
   ⟨(pkt 0 [0, 0, 0, 0, 0, 0, 0, 0, 0, 0, 0, 0, 0, 0, 0, 0]), host, admits (by decide), by decide⟩,
   ⟨pkt 0 [], { host with tst.testMode := true, tst.testPort := 2 }, admits (by decide), by decide⟩,
   ⟨(pkt 0 []), host, admits (by decide), by decide⟩,
   ⟨pkt 0 [0, 0, 0, 0], 1, { host with tst.testMode := true, tst.testPort := 2 }, admits (by decide), by decide⟩,
   ⟨pkt 0 [0, 0, 0, 0, 1, 0], { host with tst.testMode := true, tst.testPort := 2 }, admits (by decide), by decide⟩,
   ⟨(pkt 0 [0, 0, 0, 0, 0, 0]), host, admits (by decide), by decide⟩,
   ⟨pkt 0 [1, 0, 0, 0], { host with tst.buffer := [.bad] }, admits (by decide), by decide⟩,
   ⟨(pkt 0 [1, 0, 0, 0, 0, 0, 0, 0]), host, admits (by decide), by decide⟩,
   ⟨(pkt 0 [2, 0, 0, 0, 0, 0, 0, 0]), host, admits (by decide), by decide⟩,
   ⟨(pkt 0 [3, 0, 0, 0, 0, 0, 0, 0]), host, admits (by decide), by decide⟩⟩

theorem witness_GenOneFramesAreAnswered :
    (∃ (s : State), s.TakesFrame 1) ∧
    (∃ (s : State), s.TakesFrame 2) ∧
    (∃ (s : State), s.TakesFrame 3 ∧ ((s.framed 3).s1Auto).owns 1 = true) ∧
    (∃ (arg : BitVec 8) (data : BitVec 16) (s : State), s.TakesFrame 8 ∧
      ({ port := 1, big := s.par P.HP_PERS == 2, arg := arg.toNat, data := data.toNat } : PersArg).arg < persChannels
      ({ port := 1, big := s.par P.HP_PERS == 2, arg := arg.toNat, data := data.toNat } : PersArg).big ∧ ((s.framed 8).s1Auto).owns
      1 = true) ∧
    (∃ (arg : BitVec 8) (data : BitVec 16) (s : State), s.TakesFrame 9 ∧
      ({ port := 1, big := s.par P.HP_PERS == 2, arg := arg.toNat, data := data.toNat } : PersArg).arg < persChannels
      ({ port := 1, big := s.par P.HP_PERS == 2, arg := arg.toNat, data := data.toNat } : PersArg).big) ∧
    (∃ (arg : BitVec 8) (data : BitVec 16) (s : State), s.TakesFrame 10 ∧
      ({ port := 1, big := s.par P.HP_PERS == 2, arg := arg.toNat, data := data.toNat } : PersArg).arg < persChannels
      ({ port := 1, big := s.par P.HP_PERS == 2, arg := arg.toNat, data := data.toNat } : PersArg).big ∧ ((s.framed
      10).s1Auto).owns 1 = true) ∧
    (∃ (arg : BitVec 8) (data : BitVec 16) (s : State), s.TakesFrame 11 ∧
      ({ port := 1, big := s.par P.HP_PERS == 2, arg := arg.toNat, data := data.toNat } : PersArg).arg < persChannels
      ({ port := 1, big := s.par P.HP_PERS == 2, arg := arg.toNat, data := data.toNat } : PersArg).big ∧ ((s.framed
      11).s1Auto).owns 1 = true ∧ (({ port := 1, big := s.par P.HP_PERS == 2, arg := arg.toNat, data := data.toNat } :
      PersArg).data ≤ 2 ∨ ({ port := 1, big := s.par P.HP_PERS == 2, arg := arg.toNat, data := data.toNat } : PersArg).data = 3 ∧
      ({ port := 1, big := s.par P.HP_PERS == 2, arg := arg.toNat, data := data.toNat } : PersArg).big = true)) ∧
    (∃ (arg : BitVec 8) (data : BitVec 16) (s : State), s.TakesFrame 16 ∧
      ({ port := 1, big := s.par P.HP_PERS == 2, arg := arg.toNat, data := data.toNat } : PersArg).arg < 2 ∧ ((s.framed
      16).s1Auto).owns 1 = true) ∧
    (∃ (s : State), s.TakesFrame 17 ∧ ((s.framed 17).s1Auto).owns 1 = true) ∧
    (∃ (arg : BitVec 8) (data : BitVec 16) (s : State), s.TakesFrame 18 ∧
      ({ port := 1, big := s.par P.HP_PERS == 2, arg := arg.toNat, data := data.toNat } : PersArg).arg < persChannels
      ({ port := 1, big := s.par P.HP_PERS == 2, arg := arg.toNat, data := data.toNat } : PersArg).big) ∧
    (∃ (arg : BitVec 8) (data : BitVec 16) (s : State), s.TakesFrame 19 ∧ ((s.framed 19).s1Auto).owns 1 = true ∧ 10 ≤
      ({ port := 1, big := s.par P.HP_PERS == 2, arg := arg.toNat, data := data.toNat } : PersArg).data) ∧
    (∃ (arg : BitVec 8) (data : BitVec 16) (s : State), s.TakesFrame 24 ∧
      ({ port := 1, big := s.par P.HP_PERS == 2, arg := arg.toNat, data := data.toNat } : PersArg).big = true ∧
      ({ port := 1, big := s.par P.HP_PERS == 2, arg := arg.toNat, data := data.toNat } : PersArg).arg < persChannels
      ({ port := 1, big := s.par P.HP_PERS == 2, arg := arg.toNat, data := data.toNat } : PersArg).big ∧ ((s.framed
      24).s1Auto).owns 1 = true) ∧
    (∃ (arg : BitVec 8) (data : BitVec 16) (s : State), s.TakesFrame 25 ∧
      ({ port := 1, big := s.par P.HP_PERS == 2, arg := arg.toNat, data := data.toNat } : PersArg).big = true ∧
      ({ port := 1, big := s.par P.HP_PERS == 2, arg := arg.toNat, data := data.toNat } : PersArg).arg < persChannels
      ({ port := 1, big := s.par P.HP_PERS == 2, arg := arg.toNat, data := data.toNat } : PersArg).big ∧ ((s.framed
      25).s1Auto).owns 1 = true) ∧
    (∃ (arg : BitVec 8) (data : BitVec 16) (s : State), s.TakesFrame 26 ∧
      ({ port := 1, big := s.par P.HP_PERS == 2, arg := arg.toNat, data := data.toNat } : PersArg).big = true ∧
      ({ port := 1, big := s.par P.HP_PERS == 2, arg := arg.toNat, data := data.toNat } : PersArg).arg < persChannels
      ({ port := 1, big := s.par P.HP_PERS == 2, arg := arg.toNat, data := data.toNat } : PersArg).big ∧ ((s.framed
      26).s1Auto).owns 1 = true) ∧
    (∃ (arg : BitVec 8) (data : BitVec 16) (s : State), s.TakesFrame 27 ∧
      ({ port := 1, big := s.par P.HP_PERS == 2, arg := arg.toNat, data := data.toNat } : PersArg).big = true ∧
      ({ port := 1, big := s.par P.HP_PERS == 2, arg := arg.toNat, data := data.toNat } : PersArg).arg < persChannels
      ({ port := 1, big := s.par P.HP_PERS == 2, arg := arg.toNat, data := data.toNat } : PersArg).big ∧ (s.framed 27).readStatus
      P.CMP_STATUS ((s.framed 27).persCell ({ port := 1, big := s.par P.HP_PERS == 2, arg := arg.toNat, data := data.toNat } :
      PersArg).arg) = Status.ok) ∧
    (∃ (arg : BitVec 8) (data : BitVec 16) (s : State), s.TakesFrame 32 ∧
      ({ port := 1, big := s.par P.HP_PERS == 2, arg := arg.toNat, data := data.toNat } : PersArg).big = true ∧
      ({ port := 1, big := s.par P.HP_PERS == 2, arg := arg.toNat, data := data.toNat } : PersArg).arg < persChannels
      ({ port := 1, big := s.par P.HP_PERS == 2, arg := arg.toNat, data := data.toNat } : PersArg).big ∧ ((s.framed
      32).s1Auto).owns 1 = true) ∧
    (∃ (arg : BitVec 8) (data : BitVec 16) (s : State), s.TakesFrame 56 ∧
      ({ port := 1, big := s.par P.HP_PERS == 2, arg := arg.toNat, data := data.toNat } : PersArg).arg < 256) ∧
    (∃ (s : State), s.TakesFrame 57) ∧
    (∃ (s : State), s.TakesFrame 58) ∧
    (∃ (s : State), s.TakesFrame 59) ∧
    (∃ (s : State), s.TakesFrame 60 ∧ ((s.framed 60).s1Auto).owns 1 = true) ∧
    (∃ (op : BitVec 6) (s : State), s.hears 1 = true ∧ op ≠ 0) ∧
    (∃ (op : BitVec 6) (s : State), s.hears 1 = true ∧ s.gen1Has op.toNat = false) ∧
    (∃ (p : Packet) (s : State), s.AdmitsPers p 1 ∧ p.payload.length = 0) ∧
    (∃ (p : Packet) (s : State), s.AdmitsPers p 2 ∧ p.payload.length = 0) ∧
    (∃ (p : Packet) (s : State), s.AdmitsPers p 3 ∧ p.payload.length = 2 ∧ (s.persAdmitted p 3).owns (portCode p.port) = true) ∧
    (∃ (p : Packet) (s : State), s.AdmitsPers p 8 ∧ p.payload.length = 2 ∧
      (({ port := portCode p.port, big := true, arg := p.target.toNat, data := fieldAt p.payload 0 2 } : PersArg)).arg < 32 ∧
      (s.persAdmitted p 8).owns (portCode p.port) = true) ∧
    (∃ (p : Packet) (s : State), s.AdmitsPers p 9 ∧ p.payload.length = 0 ∧
      (({ port := portCode p.port, big := true, arg := p.target.toNat, data := fieldAt p.payload 0 2 } : PersArg)).arg < 32) ∧
    (∃ (p : Packet) (s : State), s.AdmitsPers p 10 ∧ p.payload.length = 2 ∧
      (({ port := portCode p.port, big := true, arg := p.target.toNat, data := fieldAt p.payload 0 2 } : PersArg)).arg < 32 ∧
      (s.persAdmitted p 10).owns (portCode p.port) = true) ∧
    (∃ (p : Packet) (s : State), s.AdmitsPers p 11 ∧ p.payload.length = 2 ∧
      (({ port := portCode p.port, big := true, arg := p.target.toNat, data := fieldAt p.payload 0 2 } : PersArg)).arg < 32 ∧
      (s.persAdmitted p 11).owns (portCode p.port) = true ∧
      (({ port := portCode p.port, big := true, arg := p.target.toNat, data := fieldAt p.payload 0 2 } : PersArg)).data ≤ 3) ∧
    (∃ (p : Packet) (s : State), s.AdmitsPers p 16 ∧ p.payload.length = 2 ∧
      (({ port := portCode p.port, big := true, arg := p.target.toNat, data := fieldAt p.payload 0 2 } : PersArg)).arg < 2 ∧
      (s.persAdmitted p 16).owns (portCode p.port) = true) ∧
    (∃ (p : Packet) (s : State), s.AdmitsPers p 17 ∧ p.payload.length = 0 ∧ (s.persAdmitted p 17).owns (portCode p.port) = true) ∧
    (∃ (p : Packet) (s : State), s.AdmitsPers p 18 ∧ p.payload.length = 0 ∧
      (({ port := portCode p.port, big := true, arg := p.target.toNat, data := fieldAt p.payload 0 2 } : PersArg)).arg < 32) ∧
    (∃ (p : Packet) (s : State), s.AdmitsPers p 19 ∧ p.payload.length = 2 ∧ (s.persAdmitted p 19).owns (portCode p.port) = true ∧
      10 ≤ (({ port := portCode p.port, big := true, arg := p.target.toNat, data := fieldAt p.payload 0 2 } : PersArg)).data) ∧
    (∃ (p : Packet) (s : State), s.AdmitsPers p 24 ∧ p.payload.length = 2 ∧
      (({ port := portCode p.port, big := true, arg := p.target.toNat, data := fieldAt p.payload 0 2 } : PersArg)).arg < 32 ∧
      (s.persAdmitted p 24).owns (portCode p.port) = true) ∧
    (∃ (p : Packet) (s : State), s.AdmitsPers p 25 ∧ p.payload.length = 2 ∧
      (({ port := portCode p.port, big := true, arg := p.target.toNat, data := fieldAt p.payload 0 2 } : PersArg)).arg < 32 ∧
      (s.persAdmitted p 25).owns (portCode p.port) = true) ∧
    (∃ (p : Packet) (s : State), s.AdmitsPers p 26 ∧ p.payload.length = 2 ∧
      (({ port := portCode p.port, big := true, arg := p.target.toNat, data := fieldAt p.payload 0 2 } : PersArg)).arg < 32 ∧
      (s.persAdmitted p 26).owns (portCode p.port) = true) ∧
    (∃ (p : Packet) (s : State), s.AdmitsPers p 27 ∧ p.payload.length = 0 ∧
      (({ port := portCode p.port, big := true, arg := p.target.toNat, data := fieldAt p.payload 0 2 } : PersArg)).arg < 32 ∧
      (s.persAdmitted p 27).readStatus P.CMP_STATUS ((s.persAdmitted p 27).persCell
      (({ port := portCode p.port, big := true, arg := p.target.toNat, data := fieldAt p.payload 0 2 } : PersArg)).arg) = Status.ok) ∧
    (∃ (p : Packet) (s : State), s.AdmitsPers p 32 ∧ p.payload.length = 2 ∧
      (({ port := portCode p.port, big := true, arg := p.target.toNat, data := fieldAt p.payload 0 2 } : PersArg)).arg < 32 ∧
      (s.persAdmitted p 32).owns (portCode p.port) = true) ∧
    (∃ (p : Packet) (s : State), s.AdmitsPers p 48 ∧ p.payload.length = 2 ∧
      (({ port := portCode p.port, big := true, arg := p.target.toNat, data := fieldAt p.payload 0 2 } : PersArg)).arg < 1) ∧
    (∃ (p : Packet) (s : State), s.AdmitsPers p 56 ∧ p.payload.length = 2 ∧
      (({ port := portCode p.port, big := true, arg := p.target.toNat, data := fieldAt p.payload 0 2 } : PersArg)).arg < 256) ∧
    (∃ (p : Packet) (s : State), s.AdmitsPers p 57 ∧ p.payload.length = 0) ∧
    (∃ (p : Packet) (s : State), s.AdmitsPers p 58 ∧ p.payload.length = 0) ∧
    (∃ (p : Packet) (s : State), s.AdmitsPers p 59 ∧ p.payload.length = 2) ∧
    (∃ (p : Packet) (s : State), s.AdmitsPers p 60 ∧ p.payload.length = 2 ∧ (s.persAdmitted p 60).owns (portCode p.port) = true) :=
  ⟨⟨host, takes (by decide)⟩,
   ⟨host, takes (by decide)⟩,
   ⟨s1, takes (by decide), by decide⟩,
   ⟨1, 2, s1, takes (by decide), by decide⟩,
   ⟨1, 2, s1, takes (by decide), by decide⟩,
   ⟨1, 2, s1, takes (by decide), by decide⟩,
   ⟨1, 2, s1, takes (by decide), by decide⟩,
   ⟨1, 0, s1, takes (by decide), by decide⟩,
   ⟨s1, takes (by decide), by decide⟩,
   ⟨1, 2, s1, takes (by decide), by decide⟩,
   ⟨0, 10, s1, takes (by decide), by decide⟩,
   ⟨31, 2, (s1.setPar P.HP_PERS 0 2), takes (by decide), by decide⟩,
   ⟨31, 2, (s1.setPar P.HP_PERS 0 2), takes (by decide), by decide⟩,
   ⟨31, 2, (s1.setPar P.HP_PERS 0 2), takes (by decide), by decide⟩,
   ⟨31, 2, (s1.setPar P.HP_PERS 0 2), takes (by decide), by decide⟩,
   ⟨31, 2, (s1.setPar P.HP_PERS 0 2), takes (by decide), by decide⟩,
   ⟨1, 2, s1, takes (by decide), by decide⟩,
   ⟨s1, takes (by decide)⟩,
   ⟨s1, takes (by decide)⟩,
   ⟨s1, takes (by decide)⟩,
   ⟨s1, takes (by decide), by decide⟩,
   ⟨1, s1, by decide⟩,
   ⟨63, s1, by decide⟩,
   ⟨{ pkt 0 [] with pers := true }, host, admitsPers (by decide), by decide⟩,
   ⟨{ pkt 0 [] with pers := true }, host, admitsPers (by decide), by decide⟩,
   ⟨{ pkt 0 [0, 0] with pers := true }, host, admitsPers (by decide), by decide⟩,
   ⟨{ pkt 0 [0, 0] with pers := true }, host, admitsPers (by decide), by decide⟩,
   ⟨{ pkt 0 [] with pers := true }, host, admitsPers (by decide), by decide⟩,
   ⟨{ pkt 0 [0, 0] with pers := true }, host, admitsPers (by decide), by decide⟩,
   ⟨{ pkt 0 [0, 0] with pers := true }, host, admitsPers (by decide), by decide⟩,
   ⟨{ pkt 0 [0, 0] with pers := true }, host, admitsPers (by decide), by decide⟩,
   ⟨{ pkt 0 [] with pers := true }, host, admitsPers (by decide), by decide⟩,
   ⟨{ pkt 0 [] with pers := true }, host, admitsPers (by decide), by decide⟩,
   ⟨{ pkt 0 [20, 0] with pers := true }, host, admitsPers (by decide), by decide⟩,
   ⟨{ pkt 0 [0, 0] with pers := true }, host, admitsPers (by decide), by decide⟩,
   ⟨{ pkt 0 [0, 0] with pers := true }, host, admitsPers (by decide), by decide⟩,
   ⟨{ pkt 0 [0, 0] with pers := true }, host, admitsPers (by decide), by decide⟩,
   ⟨{ pkt 0 [] with pers := true }, host, admitsPers (by decide), by decide⟩,
   ⟨{ pkt 0 [0, 0] with pers := true }, host, admitsPers (by decide), by decide⟩,
   ⟨{ pkt 0 [0, 0] with pers := true }, host, admitsPers (by decide), by decide⟩,
   ⟨{ pkt 0 [0, 0] with pers := true }, host, admitsPers (by decide), by decide⟩,
   ⟨{ pkt 0 [] with pers := true }, host, admitsPers (by decide), by decide⟩,
   ⟨{ pkt 0 [] with pers := true }, host, admitsPers (by decide), by decide⟩,
   ⟨{ pkt 0 [0, 0] with pers := true }, host, admitsPers (by decide), by decide⟩,
   ⟨{ pkt 0 [0, 0] with pers := true }, host, admitsPers (by decide), by decide⟩⟩

theorem witness_PacketsAreAcceptedOrRefused :
    (∃ (p : Packet) (op : ℕ) (s : State), (nativeOk p op = false ∨ s.hears (portCode p.port) = false)) ∧
    (∃ (p : Packet) (op : ℕ) (r : Rule) (s : State), nativeOk p op = true ∧ s.hears (portCode p.port) = true ∧ r.free = false ∧
      ((s.arrival p op).session (portCode p.port)).isOpen = false) ∧
    (∃ (p : Packet) (op : ℕ) (r : Rule) (s : State), nativeOk p op = true ∧ s.hears (portCode p.port) = true ∧ r.free = false ∧
      ((s.arrival p op).session (portCode p.port)).isOpen = true ∧ p.seq.toNat ≠ ((s.arrival p op).session (portCode
      p.port)).expSeq ∧ (s.arrival p op).awaits (nativeCmd p op) = true) ∧
    (∃ (p : Packet) (op : ℕ) (r : Rule) (x : Answered) (s : State), nativeOk p op = true ∧ s.hears (portCode p.port) = true ∧
      r.free = false ∧ ((s.arrival p op).session (portCode p.port)).isOpen = true ∧ p.seq.toNat ≠ ((s.arrival p op).session
      (portCode p.port)).expSeq ∧ (s.arrival p op).awaits (nativeCmd p op) = false ∧ (s.arrival p op).cached (nativeCmd p op) =
      some x) ∧
    (∃ (p : Packet) (op : ℕ) (r : Rule) (s : State), nativeOk p op = true ∧ s.hears (portCode p.port) = true ∧ r.free = false ∧
      ((s.arrival p op).session (portCode p.port)).isOpen = true ∧ p.seq.toNat ≠ ((s.arrival p op).session (portCode
      p.port)).expSeq ∧ (s.arrival p op).awaits (nativeCmd p op) = false ∧ (s.arrival p op).cached (nativeCmd p op) = none) ∧
    (∃ (p : Packet) (op : ℕ) (r : Rule) (s : State), nativeOk p op = true ∧ s.hears (portCode p.port) = true ∧ (r.free = true ∨
      ((s.arrival p op).session (portCode p.port)).isOpen = true ∧ p.seq.toNat = ((s.arrival p op).session (portCode
      p.port)).expSeq) ∧ 4 ≤ (List.filter (fun w => w.port == (portCode p.port)) (s.arrival p op).hp.waits).length) ∧
    (∃ (p : Packet) (op : ℕ) (r : Rule) (s : State), nativeOk p op = true ∧ s.hears (portCode p.port) = true ∧ (r.free = true ∨
      ((s.arrival p op).session (portCode p.port)).isOpen = true ∧ p.seq.toNat = ((s.arrival p op).session (portCode
      p.port)).expSeq) ∧ (List.filter (fun w => w.port == (portCode p.port)) (s.arrival p op).hp.waits).length < 4 ∧ r.pend = true
      ∧ 4 ≤ ((s.arrival p op).session (portCode p.port)).slots.length) ∧
    (∃ (p : Packet) (op : ℕ) (r : Rule) (s : State), nativeOk p op = true ∧ s.hears (portCode p.port) = true ∧ (r.free = true ∨
      ((s.arrival p op).session (portCode p.port)).isOpen = true ∧ p.seq.toNat = ((s.arrival p op).session (portCode
      p.port)).expSeq) ∧ (List.filter (fun w => w.port == (portCode p.port)) (s.arrival p op).hp.waits).length < 4 ∧ (r.pend = true
      → ((s.arrival p op).session (portCode p.port)).slots.length < 4) ∧ (s.arrival p op).sharedBufs < packetBufs p.payload.length) ∧
    (∃ (p : Packet) (op : ℕ) (r : Rule) (s : State), s.Admits p op r.free r.pend ∧ r.lenOk = false) ∧
    (∃ (p : Packet) (op : ℕ) (r : Rule) (s : State), s.Admits p op r.free r.pend ∧ r.lenOk = true ∧ r.targetOk = false) ∧
    (∃ (p : Packet) (op : ℕ) (r : Rule) (s : State), s.Admits p op r.free r.pend ∧ r.lenOk = true ∧ r.targetOk = true ∧ r.owner =
      true ∧ (s.admitted p op).owns (portCode p.port) = false) ∧
    (∃ (p : Packet) (op : ℕ) (r : Rule) (s : State), s.Admits p op r.free r.pend ∧ r.lenOk = true ∧ r.targetOk = true ∧ (r.owner =
      false ∨ (s.admitted p op).owns (portCode p.port) = true) ∧ r.zeroOk = false) ∧
    (∃ (p : Packet) (s : State), packetOk p = true ∧ s.hears (portCode p.port) = true) ∧
    (∃ (port : HostPort) (seq : BitVec 16) (x : PendSlot) (s : State), s.hopperUp = true ∧ List.find? (fun x => x.seq % 65536 ==
      seq.toNat && decide (x.limit ≤ s.t)) (s.session (portCode port)).slots = some x ∧ x.opcode ≠ Op.mbWrite ∧ s.mboxes = []) ∧
    (∃ (port : HostPort) (s : State), s.hopperUp = true ∧ s.par P.HP_GRPTO ≠ 0 ∧ (s.session (portCode port)).group ≠ [] ∧
      (s.session (portCode port)).groupSet + msTicks (s.par P.HP_GRPTO) ≤ s.t) ∧
    (∃ (port : HostPort) (w : PersWait) (r : ℕ) (rest : List PersWait) (s : State), s.hopperUp = true ∧ s.hp.waits = w :: rest ∧
      w.port = portCode port ∧ w.codes = [] ∧ w.release = some r ∧ r ≤ s.t) :=
  ⟨⟨{ pkt 0 [] with port := .s1 }, 0, up, by decide⟩,
   ⟨pkt 0 [], 4, { lenOk := true, targetOk := true, owner := true, zeroOk := true }, late, by decide⟩,
   ⟨{ pkt 0 [] with seq := 1 }, 4, { lenOk := true, targetOk := true, owner := true, zeroOk := true },
     { host with hp.waits := [{ port := 2, opcode := 4, seq := 1 }] }, by decide⟩,
   ⟨{ pkt 0 [] with seq := 1 }, 4, { lenOk := true, targetOk := true, owner := true, zeroOk := true },
     { seq := 1, opcode := 4, crc := (nativeCmd ({ pkt 0 [] with seq := 1 }) 4).crc, reply := { opcode := 4, flags := 1, seq := 1 } },
     (host.setSession 2
     { isOpen := true, cache := [{ seq := 1, opcode := 4, crc := (nativeCmd ({ pkt 0 [] with seq := 1 }) 4).crc, reply := { opcode := 4, flags := 1, seq := 1 } }] }),
     by decide⟩,
   ⟨{ pkt 0 [] with seq := 1 }, 4, { lenOk := true, targetOk := true, owner := true, zeroOk := true }, host, by decide⟩,
   ⟨pkt 0 [], 4, { lenOk := true, targetOk := true, owner := true, zeroOk := true },
     { host with hp.waits := [{ port := 2, opcode := 4, seq := 0 }, { port := 2, opcode := 4, seq := 0 }, { port := 2, opcode := 4, seq := 0 }, { port := 2, opcode := 4, seq := 0 }] },
     by decide⟩,
   ⟨pkt 0 [], 4, { pend := true, lenOk := true, targetOk := true, owner := true, zeroOk := true }, (host.setSession 2
     { isOpen := true, slots := [{ opcode := 4, seq := 1, start := 0, limit := 9999999999999 }, { opcode := 4, seq := 1, start := 0, limit := 9999999999999 }, { opcode := 4, seq := 1, start := 0, limit := 9999999999999 }, { opcode := 4, seq := 1, start := 0, limit := 9999999999999 }] }),
     by decide⟩,
   ⟨pkt 0 (List.replicate 300 0), 4, { lenOk := true }, { host with pool.retired := 2048 }, by decide⟩,
   ⟨pkt 0 [], 4, { lenOk := false, targetOk := true, owner := true, zeroOk := true }, host, admits (by decide), by
     decide⟩,
   ⟨pkt 0 [], 4, { lenOk := true, targetOk := false, owner := true, zeroOk := true }, host, admits (by decide), by
     decide⟩,
   ⟨pkt 0 [], 4, { lenOk := true, targetOk := true, owner := true, zeroOk := true }, (host.setPar P.HP_OWNER 0 1),
     admits (by decide), by decide⟩,
   ⟨pkt 0 [], 4, { lenOk := true, targetOk := true, owner := true, zeroOk := false }, host, admits (by decide), by
     decide⟩,
   ⟨pkt 0 [], host, by decide⟩,
   ⟨.s2, 1, { opcode := 0x46, seq := 1, start := 0, limit := 5 }, (host.setSession 2
     { isOpen := true, slots := [{ opcode := 0x46, seq := 1, start := 0, limit := 5 }] }), by decide⟩,
   ⟨.s2, ((host.setSession 2 { isOpen := true, group := [{ id := 80, inst := 0, value := 0 }] }).setPar P.HP_GRPTO 0 1), by
     decide⟩,
   ⟨.s2, { port := 2, opcode := 4, seq := 0, release := some 5 }, 5, [],
     { host with hp.waits := [{ port := 2, opcode := 4, seq := 0, release := some 5 }] }, by decide⟩⟩

theorem witness_ExecutedCommandsAreAnswered :
    (∃ (p : Packet) (s : State), s.hp.waits = [] ∧ (s.session (portCode p.port)).isOpen = true ∧ s.result.status ≠
      Status.acceptedPending) ∧
    (∃ (p : Packet) (s : State), s.hp.waits = [] ∧ (s.session (portCode p.port)).isOpen = true ∧ p.broadcast = false ∧ bitOf
      p.flags.toNat 1 = false) ∧
    (∃ (p : Packet) (s : State), s.hp.waits = [] ∧ (s.session (portCode p.port)).isOpen = true ∧ (p.broadcast = true ∨ bitOf
      p.flags.toNat 1 = true ∧ s.result.status = Status.ok)) ∧
    (∃ (p : Packet) (s : State), s.hp.waits = [] ∧ (s.session (portCode p.port)).isOpen = true ∧ s.result.status =
      Status.acceptedPending) :=
  ⟨⟨(pkt 0 []), (let zz : State := { up with hp.waits := [] }; zz.setSession (portCode (pkt 0 []).port)
     { zz.session (portCode (pkt 0 []).port) with isOpen := true }), by decide⟩,
   ⟨(pkt 0 []), (let zz : State := { up with hp.waits := [] }; zz.setSession (portCode (pkt 0 []).port)
     { zz.session (portCode (pkt 0 []).port) with isOpen := true }), by decide⟩,
   ⟨{ pkt 0 [] with flags := 2 }, host, by decide⟩,
   ⟨pkt 0 [], { host with result.status := Status.acceptedPending }, by decide⟩⟩

theorem witness_SerialPortsComplete :
    (∃ (s : State), s.kiln.state = KilnState.hibernate) ∧
    (∃ (s : State), s.alive = true ∧ s.portOn 2 = true ∧ s.kiln.state ≠ KilnState.hibernate ∧ (s.session 2).ready = []) ∧
    (∃ (r : Reply) (rest : List Reply) (s : State), s.alive = true ∧ s.portOn 2 = true ∧ s.kiln.state ≠ KilnState.hibernate ∧
      (s.session 2).ready = r :: rest) ∧
    (∃ (s : State), s.alive = true ∧ s.pwr.step = StartStep.ready ∧ s.portOn 2 = true ∧ s.kiln.state ≠ KilnState.hibernate) ∧
    (∃ (s : State), s.hears 2 = true) ∧
    (∃ (s : State), s.hears 3 = true) ∧
    (∃ (s : State), s.alive = true ∧ s.portOn 3 = true ∧ s.kiln.state ≠ KilnState.hibernate ∧ (s.hp.uAddressed = false ∨ (s.t -
      s.hp.uIdle) * s.uBaud < s.par P.HP_UTURN * 100000000)) ∧
    (∃ (k : ℕ) (s : State), s.alive = true ∧ s.portOn 3 = true ∧ s.kiln.state ≠ KilnState.hibernate ∧ s.hp.uAddressed = true ∧
      s.par P.HP_UTURN * 100000000 ≤ (s.t - s.hp.uIdle) * s.uBaud ∧ k < ((s.session 3).ready).length) ∧
    (∃ (port : HostPort) (s : State), s.hopperUp = true ∧ s.par P.HP_LINKTO (portCode port - 1) ≠ 0 ∧ tblGet 0 s.hp.lastValid
      (portCode port) + msTicks (s.par P.HP_LINKTO (portCode port - 1)) ≤ s.t ∧ s.hp.links.contains (portCode port) = false ∧ port
      ≠ HostPort.e) ∧
    (∃ (port : HostPort) (s : State), s.hopperUp = true ∧ s.par P.HP_LINKTO (portCode port - 1) ≠ 0 ∧ tblGet 0 s.hp.lastValid
      (portCode port) + msTicks (s.par P.HP_LINKTO (portCode port - 1)) ≤ s.t ∧ s.hp.links.contains (portCode port) = true ∧ port ≠
      HostPort.e) ∧
    (∃ (s : State), s.hopperUp = true ∧ s.par P.HP_LINKTO (portCode (HostPort.e) - 1) ≠ 0 ∧ tblGet 0 s.hp.lastValid (portCode
      (HostPort.e)) + msTicks (s.par P.HP_LINKTO (portCode (HostPort.e) - 1)) ≤ s.t ∧ s.hp.links.contains 4 = true) :=
  ⟨⟨{ up with kiln.state := KilnState.hibernate }, by decide⟩,
   ⟨(let zz : State := up; zz.setSession 2 { zz.session 2 with ready := [] }), by decide⟩,
   ⟨{ opcode := 0, flags := 0, seq := 1 }, [], (let zz : State := up; zz.setSession 2
     { zz.session 2 with ready := ({ opcode := 0, flags := 0, seq := 1 } : Reply) :: (([] : List Reply)) }), by decide⟩,
   ⟨{ up with pwr.step := StartStep.ready }, by decide⟩,
   ⟨up, by decide⟩,
   ⟨up, by decide⟩,
   ⟨{ up with hp.uAddressed := false }, by decide⟩,
   ⟨0,
     ({ ((late.setPar P.HP_PORTEN 0 15).setSession 3 { ready := [{ opcode := 4, flags := 1, seq := 0 }] }) with hp.uAddressed := true }),
     by decide⟩,
   ⟨.s2, ((late.setPar P.HP_LINKTO 1 1).setPar P.HP_LINKTO 3 1), by decide⟩,
   ⟨.s2, { ((late.setPar P.HP_LINKTO 1 1).setPar P.HP_LINKTO 3 1) with hp.links := [2, 4] }, by decide⟩,
   ⟨{ ((late.setPar P.HP_LINKTO 1 1).setPar P.HP_LINKTO 3 1) with hp.links := [2, 4] }, by decide⟩⟩

theorem witness_EthernetLinkAndAddressComplete :
    (∃ (s : State), s.hopperUp = true ∧ s.portOn 4 = true ∧ (s.hp.eth).phyUp = true) ∧
    (∃ (s : State), s.hopperUp = true ∧ s.portOn 4 = true ∧ (s.hp.eth).phyMiss < 2) ∧
    (∃ (s : State), s.hopperUp = true ∧ s.portOn 4 = true ∧ 2 ≤ (s.hp.eth).phyMiss) ∧
    (∃ (m : DhcpMessage) (s : State), s.hopperUp = true ∧ s.portOn 4 = true ∧ s.par P.HP_EIPMODE ≠ 0 ∧ m.kind = DhcpKind.offer ∧
      (s.hp.eth).dhcp = DhcpState.selecting) ∧
    (∃ (m : DhcpMessage) (l : Lease) (s : State), s.hopperUp = true ∧ s.portOn 4 = true ∧ s.par P.HP_EIPMODE ≠ 0 ∧ m.kind =
      DhcpKind.ack ∧ ((s.hp.eth).dhcp = DhcpState.requesting ∨ (s.hp.eth).dhcp = DhcpState.renewing ∨ (s.hp.eth).dhcp =
      DhcpState.rebinding) ∧ s.address.1 = m.ip.toNat ∧ l.ip = m.ip.toNat ∧ l.mask = m.mask.toNat ∧ l.gw = m.gw.toNat ∧ l.t1 = s.t
      + m.t1.toNat * 100000000 ∧ l.t2 = s.t + m.t2.toNat * 100000000 ∧ l.expiry = s.t + m.lease.toNat * 100000000) ∧
    (∃ (m : DhcpMessage) (s : State), s.hopperUp = true ∧ s.portOn 4 = true ∧ s.par P.HP_EIPMODE ≠ 0 ∧ m.kind = DhcpKind.nak ∧
      ((s.hp.eth).dhcp = DhcpState.requesting ∨ (s.hp.eth).dhcp = DhcpState.renewing ∨ (s.hp.eth).dhcp = DhcpState.rebinding)) ∧
    (∃ (l : Lease) (s : State), s.hopperUp = true ∧ s.portOn 4 = true ∧ (s.hp.eth).lease = some l ∧ (s.hp.eth).dhcp =
      DhcpState.bound ∧ l.t1 ≤ s.t) ∧
    (∃ (l : Lease) (s : State), s.hopperUp = true ∧ s.portOn 4 = true ∧ (s.hp.eth).lease = some l ∧ (s.hp.eth).dhcp =
      DhcpState.renewing ∧ l.t2 ≤ s.t) ∧
    (∃ (l : Lease) (s : State), s.hopperUp = true ∧ s.portOn 4 = true ∧ (s.hp.eth).lease = some l ∧ l.expiry ≤ s.t) :=
  ⟨⟨({ (late.setPar P.HP_PORTEN 0 15) with hp.eth.phyUp := true }), by decide⟩,
   ⟨up, by decide⟩,
   ⟨({ (late.setPar P.HP_PORTEN 0 15) with hp.eth.phyMiss := 2 }), by decide⟩,
   ⟨{ kind := .offer, ip := 3232235777, mask := 0, gw := 0, t1 := 1, t2 := 2, lease := 3 },
     { ((late.setPar P.HP_PORTEN 0 15).setPar P.HP_EIPMODE 0 1) with hp.eth.dhcp := .selecting }, by decide⟩,
   ⟨{ kind := .ack, ip := 3232235777, mask := 0, gw := 0, t1 := 1, t2 := 2, lease := 3 },
     { ip := 3232235777, mask := 0, gw := 0, t1 := 1000100000000, t2 := 1000200000000, expiry := 1000300000000 },
     { ((late.setPar P.HP_PORTEN 0 15).setPar P.HP_EIPMODE 0 1) with hp.eth.dhcp := .renewing, hp.eth.lease := some { ip := 3232235777, mask := 0, gw := 0, t1 := 5, t2 := 6, expiry := 2000000000000 } },
     by decide⟩,
   ⟨{ kind := .nak, ip := 3232235777, mask := 0, gw := 0, t1 := 1, t2 := 2, lease := 3 },
     { ((late.setPar P.HP_PORTEN 0 15).setPar P.HP_EIPMODE 0 1) with hp.eth.dhcp := .requesting }, by decide⟩,
   ⟨{ ip := 1, mask := 0, gw := 0, t1 := 5, t2 := 6, expiry := 7 },
     { ((late.setPar P.HP_PORTEN 0 15).setPar P.HP_EIPMODE 0 1) with hp.eth.dhcp := .bound, hp.eth.lease := some { ip := 1, mask := 0, gw := 0, t1 := 5, t2 := 6, expiry := 7 } },
     by decide⟩,
   ⟨{ ip := 1, mask := 0, gw := 0, t1 := 5, t2 := 6, expiry := 7 },
     { ((late.setPar P.HP_PORTEN 0 15).setPar P.HP_EIPMODE 0 1) with hp.eth.dhcp := .renewing, hp.eth.lease := some { ip := 1, mask := 0, gw := 0, t1 := 5, t2 := 6, expiry := 7 } },
     by decide⟩,
   ⟨{ ip := 1, mask := 0, gw := 0, t1 := 5, t2 := 6, expiry := 7 },
     { ((late.setPar P.HP_PORTEN 0 15).setPar P.HP_EIPMODE 0 1) with hp.eth.lease := some { ip := 1, mask := 0, gw := 0, t1 := 5, t2 := 6, expiry := 7 } },
     by decide⟩⟩

theorem witness_PtpMessagesAndOffsetsComplete :
    (∃ (a : PtpAnnounce) (s : State), s.hopperUp = true ∧ s.portOn 4 = true ∧ a.domain.toNat ≠ s.par P.HP_PTPCTRL / 256) ∧
    (∃ (y : PtpSync) (s : State), s.hopperUp = true ∧ s.portOn 4 = true ∧ y.domain.toNat ≠ s.par P.HP_PTPCTRL / 256) ∧
    (∃ (u : PtpFollowUp) (s : State), s.hopperUp = true ∧ s.portOn 4 = true ∧ u.domain.toNat ≠ s.par P.HP_PTPCTRL / 256) ∧
    (∃ (d : PtpDelayResp) (s : State), s.hopperUp = true ∧ s.portOn 4 = true ∧ d.domain.toNat ≠ s.par P.HP_PTPCTRL / 256) ∧
    (∃ (m : PtpAnnounce) (g : Foreign) (s : State), s.hopperUp = true ∧ s.portOn 4 = true ∧ m.domain.toNat = s.par P.HP_PTPCTRL /
      256 ∧ (s.hp.ptp).state ≠ PtpState.disabled ∧ (s.hp.ptp).state ≠ PtpState.faulty ∧ (bestForeign (if (List.filter (fun x =>
      !x.port == ({ port := m.port.toNat, rank := m.rank, interval := m.interval, last := s.t } : Foreign).port)
      s.foreignHeard).length < s.foreignHeard.length ∨ s.foreignHeard.length < 4 then (List.filter (fun x => !x.port ==
      ({ port := m.port.toNat, rank := m.rank, interval := m.interval, last := s.t } : Foreign).port) s.foreignHeard) ++
      [({ port := m.port.toNat, rank := m.rank, interval := m.interval, last := s.t } : Foreign)] else s.foreignHeard) = some
      g) ∧ (s.hp.ptp).master = some g.port) ∧
    (∃ (m : PtpAnnounce) (g : Foreign) (s : State), s.hopperUp = true ∧ s.portOn 4 = true ∧ m.domain.toNat = s.par P.HP_PTPCTRL /
      256 ∧ (s.hp.ptp).state ≠ PtpState.disabled ∧ (s.hp.ptp).state ≠ PtpState.faulty ∧ (bestForeign (if (List.filter (fun x =>
      !x.port == ({ port := m.port.toNat, rank := m.rank, interval := m.interval, last := s.t } : Foreign).port)
      s.foreignHeard).length < s.foreignHeard.length ∨ s.foreignHeard.length < 4 then (List.filter (fun x => !x.port ==
      ({ port := m.port.toNat, rank := m.rank, interval := m.interval, last := s.t } : Foreign).port) s.foreignHeard) ++
      [({ port := m.port.toNat, rank := m.rank, interval := m.interval, last := s.t } : Foreign)] else s.foreignHeard) = some
      g) ∧ (s.hp.ptp).master ≠ some g.port ∧ ((s.hp.ptp).state = PtpState.listening ∨ (s.hp.ptp).state = PtpState.uncalibrated)) ∧
    (∃ (m : PtpAnnounce) (g : Foreign) (s : State), s.hopperUp = true ∧ s.portOn 4 = true ∧ m.domain.toNat = s.par P.HP_PTPCTRL /
      256 ∧ (s.hp.ptp).state ≠ PtpState.disabled ∧ (s.hp.ptp).state ≠ PtpState.faulty ∧ (bestForeign (if (List.filter (fun x =>
      !x.port == ({ port := m.port.toNat, rank := m.rank, interval := m.interval, last := s.t } : Foreign).port)
      s.foreignHeard).length < s.foreignHeard.length ∨ s.foreignHeard.length < 4 then (List.filter (fun x => !x.port ==
      ({ port := m.port.toNat, rank := m.rank, interval := m.interval, last := s.t } : Foreign).port) s.foreignHeard) ++
      [({ port := m.port.toNat, rank := m.rank, interval := m.interval, last := s.t } : Foreign)] else s.foreignHeard) = some
      g) ∧ (s.hp.ptp).master ≠ some g.port ∧ (s.hp.ptp).state = PtpState.slave) ∧
    (∃ (m : PtpSync) (s : State), s.hopperUp = true ∧ s.portOn 4 = true ∧ m.domain.toNat = s.par P.HP_PTPCTRL / 256 ∧
      ((s.hp.ptp).state = PtpState.listening ∨ ((s.hp.ptp).state = PtpState.uncalibrated ∨ (s.hp.ptp).state = PtpState.slave) ∧
      (s.hp.ptp).master ≠ some m.port.toNat)) ∧
    (∃ (m : PtpSync) (s : State), s.hopperUp = true ∧ s.portOn 4 = true ∧ m.domain.toNat = s.par P.HP_PTPCTRL / 256 ∧
      ((s.hp.ptp).state = PtpState.uncalibrated ∨ (s.hp.ptp).state = PtpState.slave) ∧ (s.hp.ptp).master = some m.port.toNat ∧
      m.twoStep = true) ∧
    (∃ (m : PtpSync) (s : State), s.hopperUp = true ∧ s.portOn 4 = true ∧ m.domain.toNat = s.par P.HP_PTPCTRL / 256 ∧
      ((s.hp.ptp).state = PtpState.uncalibrated ∨ (s.hp.ptp).state = PtpState.slave) ∧ (s.hp.ptp).master = some m.port.toNat ∧
      m.twoStep = false) ∧
    (∃ (m : PtpFollowUp) (s : State), s.hopperUp = true ∧ s.portOn 4 = true ∧ m.domain.toNat = s.par P.HP_PTPCTRL / 256 ∧
      (s.hp.ptp).state ≠ PtpState.disabled ∧ (s.hp.ptp).state ≠ PtpState.faulty ∧ ((s.hp.ptp).master ≠ some m.port.toNat ∨
      Option.all (fun x => x.1 != m.seq.toNat) (s.hp.ptp).sync = true)) ∧
    (∃ (m : PtpFollowUp) (t2 : ℤ) (c : ℤ) (s : State), s.hopperUp = true ∧ s.portOn 4 = true ∧ m.domain.toNat = s.par P.HP_PTPCTRL
      / 256 ∧ (s.hp.ptp).state ≠ PtpState.disabled ∧ (s.hp.ptp).state ≠ PtpState.faulty ∧ (s.hp.ptp).master = some m.port.toNat ∧
      (s.hp.ptp).sync = some (m.seq.toNat, t2, c)) ∧
    (∃ (s : State), s.hopperUp = true ∧ s.portOn 4 = true ∧ ((s.hp.ptp).syncs = [] ∨ (s.hp.ptp).state ≠ PtpState.uncalibrated ∧
      (s.hp.ptp).state ≠ PtpState.slave)) ∧
    (∃ (t1 : ℤ) (t2 : ℤ) (rest : List (ℤ × ℤ)) (s : State), s.hopperUp = true ∧ s.portOn 4 = true ∧ ((s.hp.ptp).state =
      PtpState.uncalibrated ∨ (s.hp.ptp).state = PtpState.slave) ∧ (s.hp.ptp).syncs = (t1, t2) :: rest) ∧
    (∃ (m : PtpDelayResp) (s : State), s.hopperUp = true ∧ s.portOn 4 = true ∧ m.domain.toNat = s.par P.HP_PTPCTRL / 256 ∧
      (s.hp.ptp).state ≠ PtpState.disabled ∧ (s.hp.ptp).state ≠ PtpState.faulty ∧ ((s.hp.ptp).master ≠ some m.port.toNat ∨
      Option.all (fun x => x.1 != m.seq.toNat) (s.hp.ptp).req = true)) ∧
    (∃ (m : PtpDelayResp) (t3 : ℤ) (t1 : ℤ) (t2 : ℤ) (s : State), s.hopperUp = true ∧ s.portOn 4 = true ∧ m.domain.toNat = s.par
      P.HP_PTPCTRL / 256 ∧ (s.hp.ptp).state ≠ PtpState.disabled ∧ (s.hp.ptp).state ≠ PtpState.faulty ∧ (s.hp.ptp).master = some
      m.port.toNat ∧ (s.hp.ptp).req = some (m.seq.toNat, t3, t1, t2)) ∧
    (∃ (s : State), s.hopperUp = true ∧ s.portOn 4 = true ∧ (s.hp.ptp).master = none) ∧
    (∃ (m : ℕ) (s : State), s.hopperUp = true ∧ s.portOn 4 = true ∧ (s.hp.ptp).master = some m ∧ ((((s.hp.ptp).foreign.any fun f
      => f.port == m && decide (f.last + 3 * logTicks f.interval ≤ s.t)) || decide ((s.hp.ptp).lastSync + 3 * logTicks
      (s.hp.ptp).syncInterval ≤ s.t))) = false) ∧
    (∃ (m : ℕ) (s : State), s.hopperUp = true ∧ s.portOn 4 = true ∧ (s.hp.ptp).master = some m ∧ ((((s.hp.ptp).foreign.any fun f
      => f.port == m && decide (f.last + 3 * logTicks f.interval ≤ s.t)) || decide ((s.hp.ptp).lastSync + 3 * logTicks
      (s.hp.ptp).syncInterval ≤ s.t))) = true ∧ (s.hp.ptp).state = PtpState.listening) ∧
    (∃ (m : ℕ) (s : State), s.hopperUp = true ∧ s.portOn 4 = true ∧ (s.hp.ptp).master = some m ∧ ((((s.hp.ptp).foreign.any fun f
      => f.port == m && decide (f.last + 3 * logTicks f.interval ≤ s.t)) || decide ((s.hp.ptp).lastSync + 3 * logTicks
      (s.hp.ptp).syncInterval ≤ s.t))) = true ∧ (s.hp.ptp).state = PtpState.uncalibrated) ∧
    (∃ (m : ℕ) (s : State), s.hopperUp = true ∧ s.portOn 4 = true ∧ (s.hp.ptp).master = some m ∧ ((((s.hp.ptp).foreign.any fun f
      => f.port == m && decide (f.last + 3 * logTicks f.interval ≤ s.t)) || decide ((s.hp.ptp).lastSync + 3 * logTicks
      (s.hp.ptp).syncInterval ≤ s.t))) = true ∧ (s.hp.ptp).state = PtpState.slave) ∧
    (∃ (s : State), (s.hp.ptp).whole = false) ∧
    (∃ (s : State), (s.hp.ptp).state = PtpState.uncalibrated ∧ (s.hp.ptp).whole = true ∧ (s.hp.ptp).good < 7) ∧
    (∃ (t2 : ℤ) (a : ℤ) (b : ℤ) (s : State), (s.hp.ptp).state = PtpState.slave ∧ (List.drop 15 (s.hp.ptp).syncs).head? = some (a,
      b) ∧ b < t2 ∧ 16 ≤ (s.hp.ptp).syncs.length ∧ (s.hp.ptp).sinceCorr % 16 = 0 ∧ bitOf (s.par P.HP_PTPCTRL) 1 = true ∧
      s.isDegraded Fb.ports 5 = false ∧ s.isFollower = false) ∧
    (∃ (s : State), -100000000 ≤ s.slew ∧ s.slew ≤ 100000000) ∧
    (∃ (s : State), bitOf (s.par P.HP_PTPCTRL) 1 = false) :=
  ⟨⟨{ domain := 9, port := 7, rank := [1], gm := 0, interval := 0 }, (late.setPar P.HP_PORTEN 0 15), by decide⟩,
   ⟨{ domain := 9, port := 7, seq := 1, twoStep := true, origin := 0, correction := 0, interval := 0 }, (late.setPar
     P.HP_PORTEN 0 15), by decide⟩,
   ⟨{ domain := 9, port := 7, seq := 1, origin := 0, correction := 0 }, (late.setPar P.HP_PORTEN 0 15), by decide⟩,
   ⟨{ domain := 9, port := 7, seq := 1, receive := 0, correction := 0, interval := 0 }, (late.setPar P.HP_PORTEN 0 15), by
     decide⟩,
   ⟨{ domain := 0, port := 7, rank := [1], gm := 0, interval := 0 }, { port := 3, rank := [0], interval := 0, last := 5 },
     ({ (late.setPar P.HP_PORTEN 0 15) with hp.ptp := { state := .slave, master := some 3, foreign := [{ port := 3, rank := [0], interval := 0, last := 5 }] } }),
     by decide⟩,
   ⟨{ domain := 0, port := 7, rank := [1], gm := 0, interval := 0 },
     { port := 7, rank := [1], interval := 0, last := 1000000000000 },
     ({ (late.setPar P.HP_PORTEN 0 15) with hp.ptp := { state := .listening, foreign := [{ port := 7, rank := [1], interval := 0, last := 999999999999 }] } }),
     by decide⟩,
   ⟨{ domain := 0, port := 7, rank := [1], gm := 0, interval := 0 },
     { port := 7, rank := [1], interval := 0, last := 1000000000000 },
     ({ (late.setPar P.HP_PORTEN 0 15) with hp.ptp := { state := .slave, foreign := [{ port := 7, rank := [1], interval := 0, last := 999999999999 }] } }),
     by decide⟩,
   ⟨{ domain := 0, port := 7, seq := 1, twoStep := true, interval := 0, correction := 0, origin := 0 },
     ({ (late.setPar P.HP_PORTEN 0 15) with hp.ptp := { state := .slave, master := some 3 } }), by decide⟩,
   ⟨{ domain := 0, port := 7, seq := 1, twoStep := true, interval := 0, correction := 0, origin := 0 },
     ({ (late.setPar P.HP_PORTEN 0 15) with hp.ptp := { state := .slave, master := some 7 } }), by decide⟩,
   ⟨{ domain := 0, port := 7, seq := 1, twoStep := false, interval := 0, correction := 0, origin := 0 },
     ({ (late.setPar P.HP_PORTEN 0 15) with hp.ptp := { state := .slave, master := some 7 } }), by decide⟩,
   ⟨{ domain := 0, port := 7, seq := 1, origin := 0, correction := 0 },
     ({ (late.setPar P.HP_PORTEN 0 15) with hp.ptp := { state := .slave } }), by decide⟩,
   ⟨{ domain := 0, port := 7, seq := 1, correction := 0, origin := 0 }, 2, 3,
     ({ (late.setPar P.HP_PORTEN 0 15) with hp.ptp := { state := .slave, master := some 7, sync := some (1, 2, 3) } }), by
     decide⟩,
   ⟨up, by decide⟩,
   ⟨1, 2, [], ({ (late.setPar P.HP_PORTEN 0 15) with hp.ptp := { state := .slave, syncs := [(1, 2)] } }), by decide⟩,
   ⟨{ domain := 0, port := 7, seq := 1, receive := 0, correction := 0, interval := 0 },
     ({ (late.setPar P.HP_PORTEN 0 15) with hp.ptp := { state := .slave } }), by decide⟩,
   ⟨{ domain := 0, port := 7, seq := 1, correction := 0, receive := 0, interval := 0 }, 2, 3, 4,
     ({ (late.setPar P.HP_PORTEN 0 15) with hp.ptp := { state := .slave, master := some 7, req := some (1, 2, 3, 4) } }), by
     decide⟩,
   ⟨up, by decide⟩,
   ⟨7, ({ (late.setPar P.HP_PORTEN 0 15) with hp.ptp := { state := .slave, master := some 7, lastSync := 1000000000000 } }),
     by decide⟩,
   ⟨7, ({ (late.setPar P.HP_PORTEN 0 15) with hp.ptp := { state := .listening, master := some 7 } }), by decide⟩,
   ⟨7, ({ (late.setPar P.HP_PORTEN 0 15) with hp.ptp := { state := .uncalibrated, master := some 7 } }), by decide⟩,
   ⟨7, ({ (late.setPar P.HP_PORTEN 0 15) with hp.ptp := { state := .slave, master := some 7 } }), by decide⟩,
   ⟨({ (late.setPar P.HP_PORTEN 0 15) with hp.ptp := { state := .slave, whole := false } }), by decide⟩,
   ⟨({ (late.setPar P.HP_PORTEN 0 15) with hp.ptp := { state := .uncalibrated } }), by decide⟩,
   ⟨3, 1, 2, (({ late with hp.ptp := { state := .slave, syncs := List.replicate 16 (1, 2) } }).setPar P.HP_PTPCTRL 0 2), by
     decide⟩,
   ⟨up, by decide⟩,
   ⟨up, by decide⟩⟩

theorem witness_PortParametersComplete :
    (∃ (v : Word) (s : State), s.hopperUp = true ∧ s.resetting Fb.ports = true ∧ v.toNat < 16) ∧
    (∃ (v : Word) (s : State), s.hopperUp = true ∧ 16 ≤ v.toNat) ∧
    (∃ (v : Word) (s : State), s.hopperUp = true ∧ s.resetting Fb.ports = false ∧ v.toNat < 16) ∧
    (∃ (s : State), s.hopperUp = true ∧ (s.hp.eth.eventHeld = false ∨ Option.all (fun t => decide (s.t < t + msTicks (s.par
      P.HP_EEVTMIN))) s.hp.eth.eventAt = true)) ∧
    (∃ (t : ℕ) (s : State), s.hopperUp = true ∧ s.hp.eth.eventHeld = true ∧ s.hp.eth.eventAt = some t ∧ t + msTicks (s.par
      P.HP_EEVTMIN) ≤ s.t) :=
  ⟨⟨15, { late with pwr.blockReset := [(Fb.ports, 2000000000000)] }, by decide⟩,
   ⟨16, { late with pwr.blockReset := [(Fb.ports, 2000000000000)] }, by decide⟩,
   ⟨0, up, by decide⟩,
   ⟨{ up with hp.eth.eventHeld := false }, by decide⟩,
   ⟨0, { { late with hp.eth.eventHeld := true } with hp.eth.eventAt := some (0) }, by decide⟩⟩

theorem witness_MailboxesRelayAndClear :
    (∃ (k : Fin 8) (a : ℕ) (b : ℕ) (m : Message) (s : State), s.hopperUp = true ∧ s.relayPair k.val = (a, b) ∧ (k.val < 4 ∨
      s.fromHost a = true) ∧ (s.mbox a).msg = some m ∧ (s.mbox b).msg = none ∧ s.isSender b Sender.hopper = true) ∧
    (∃ (k : Fin 8) (a : ℕ) (b : ℕ) (m : Message) (s : State), s.hopperUp = true ∧ s.relayPair k.val = (a, b) ∧ (k.val < 4 ∨
      s.fromHost a = true) ∧ (s.mbox a).msg = some m ∧ (s.mbox b).msg = none ∧ s.isSender b Sender.hopper = false) ∧
    (∃ (k : Fin 8) (a : ℕ) (b : ℕ) (m : Message) (d : Message) (s : State), s.hopperUp = true ∧ s.relayPair k.val = (a, b) ∧
      (k.val < 4 ∨ s.fromHost a = true) ∧ (s.mbox a).msg = some m ∧ (s.mbox b).msg = some d ∧ max m.arrival d.arrival + usTicks
      (s.par P.MB_TIMEOUT a) ≤ s.t) ∧
    (∃ (n : Fin 16) (s : State), s.hopperUp = true ∧ s.resetting Fb.streams = false ∧ (s.mbox n.val).msg = none) ∧
    (∃ (n : Fin 16) (m : Message) (s : State), s.hopperUp = true ∧ s.resetting Fb.streams = false ∧ (s.mbox n.val).msg = some m) ∧
    (∃ (a : ℕ) (b : ℕ) (m : Message) (c : ℕ) (s : State), a ≠ b ∧ (s.mbox a).msg = some m ∧ (s.mbox a).pendWrites = [] ∧ c ≠ a ∧ c
      ≠ b) :=
  ⟨⟨0, 8, 0, { payload := [1], sender := 0, gen := 0 }, (late.setMbox 8
     { msg := some { payload := [1], sender := 0, gen := 0 } }), by decide⟩,
   ⟨0, 8, 4, { payload := [1], sender := 0, gen := 0 }, (((late.setMbox 8
     { msg := some { payload := [1], sender := 0, gen := 0 } }).setPar P.MB_ROUTE 0 4).setMbox 8
     { msg := some { payload := [1], sender := 0, gen := 0 } }), by decide⟩,
   ⟨0, 8, 0, { payload := [1], sender := 0, gen := 0 }, { payload := [1], sender := 0, gen := 0 }, ((late.setMbox 8
     { msg := some { payload := [1], sender := 0, gen := 0 } }).setMbox 0
     { msg := some { payload := [1], sender := 0, gen := 0 } }), by decide⟩,
   ⟨0, (let zz : State := up; zz.setMbox ((0 : Fin 16)) { zz.mbox ((0 : Fin 16)) with msg := none }), by decide⟩,
   ⟨0, { payload := [1], sender := 2, gen := 1 }, (let zz : State := up; zz.setMbox ((0 : Fin 16))
     { zz.mbox ((0 : Fin 16)) with msg := some ({ payload := [1], sender := 2, gen := 1 } : Message) }), by decide⟩,
   ⟨3, 4, { payload := [1], sender := 2, gen := 1 }, 5, (late.setMbox 3
     { msg := some { payload := [1], sender := 2, gen := 1 } }), by decide⟩⟩

theorem witness_StreamCommandsComplete :
    (∃ (n : Fin 64) (s : State), s.hopperUp = true ∧ s.resetting Fb.streams = false ∧ (s.ring n.val).state = RingState.disabled ∧
      s.par P.ST_RESV n.val ≤ s.sharedBufs) ∧
    (∃ (n : Fin 64) (s : State), s.hopperUp = true ∧ s.resetting Fb.streams = false ∧ (s.ring n.val).state = RingState.disabled ∧
      s.sharedBufs < s.par P.ST_RESV n.val) ∧
    (∃ (n : Fin 64) (s : State), s.hopperUp = true ∧ s.resetting Fb.streams = false ∧ ((s.ring n.val).state = RingState.enabled ∨
      (s.ring n.val).state = RingState.losing)) ∧
    (∃ (n : Fin 64) (s : State), s.hopperUp = true ∧ s.resetting Fb.streams = false ∧ (s.ring n.val).state = RingState.safe) ∧
    (∃ (n : Fin 64) (tag : BitVec 16) (s : State), s.hopperUp = true ∧ s.resetting Fb.streams = false ∧ ((s.ringsAfter.ring
      n.val).accepts = false ∨ s.ringsAfter.ringRoom n.val (s.ringsAfter.ringRecord n.val false (headWord 49 0 :: BitVec.ofNat 32
      tag.toNat :: stampWords s.angleStamp s.t) 0 0).length ≠ NoRoom.poolEmpty)) ∧
    (∃ (n : Fin 64) (tag : BitVec 16) (s : State), s.hopperUp = true ∧ s.resetting Fb.streams = false ∧ ((s.ringsAfter.ring
      n.val).accepts = true ∧ s.ringsAfter.ringRoom n.val (s.ringsAfter.ringRecord n.val false (headWord 49 0 :: BitVec.ofNat 32
      tag.toNat :: stampWords s.angleStamp s.t) 0 0).length = NoRoom.poolEmpty)) ∧
    (∃ (s : State), s.hopperUp = true ∧ s.resetting Fb.streams = false ∧ (s.pendingC Fb.streams = true ∨ (List.all s.rings fun e
      => !e.2.state == RingState.safe) = true)) ∧
    (∃ (s : State), s.hopperUp = true ∧ s.resetting Fb.streams = false ∧ s.pendingC Fb.streams = false ∧ (List.all s.rings fun e
      => !e.2.state == RingState.safe) = false) ∧
    (∃ (n : Fin 64) (s : State), s.alive = true ∧ (s.ringDue n.val = false ∨ s.kiln.state = KilnState.hibernate)) ∧
    (∃ (n : Fin 64) (s : State), s.alive = true ∧ s.ringDue n.val = true ∧ (List.range n.val).any s.ringDue = false ∧ s.ethReady =
      true ∧ s.streamMac.isSome = true ∧ s.kiln.state ≠ KilnState.hibernate) ∧
    (∃ (s : State), s.pwr.phase = ResetPhase.running) :=
  ⟨⟨0, (let zz : State := up; zz.setRing ((0 : Fin 64)) { zz.ring ((0 : Fin 64)) with state := RingState.disabled }), by
     decide⟩,
   ⟨63, (late.setPar P.ST_RESV 63 4000), by decide⟩,
   ⟨0, (let zz : State := up; zz.setRing ((0 : Fin 64)) { zz.ring ((0 : Fin 64)) with state := RingState.enabled }), by
     decide⟩,
   ⟨0, (let zz : State := up; zz.setRing ((0 : Fin 64)) { zz.ring ((0 : Fin 64)) with state := RingState.safe }), by decide⟩,
   ⟨63, 65535, (late.setRing 63 { state := .enabled }), by decide⟩,
   ⟨63, 65535, (({ late with pool.retired := 2048 }).setRing 63 { state := .enabled }), by decide⟩,
   ⟨(let zz : State := up; zz.setFb (Fb.streams) { zz.fb (Fb.streams) with pendC := true }), by decide⟩,
   ⟨(late.setRing 63 { state := .safe }), by decide⟩,
   ⟨0, up, by decide⟩,
   ⟨63, dgram, by decide⟩,
   ⟨up, by decide⟩⟩

/-- R594: a FAULT entry made later in an edge enters before the edge's WHEEL entry, with its EXT behind it. -/
theorem test_trace_entries_of_an_edge_by_type :
    traceInsert 9 0x04 [.head 0x04 0xED 0 9, .ext 0x04 []] [.head 0x0D 1 0 8, .head 0x0D 3 0 9] =
      [.head 0x0D 1 0 8, .head 0x04 0xED 0 9, .ext 0x04 [], .head 0x0D 3 0 9] := by decide

/-- R451: a marker of the Wheel enters before a sample that was made earlier in the same edge. -/
theorem test_marker_before_sample :
    ((((late.setRing 63 { state := .enabled }).sampleRecord 63 0x100 0 0 1).stampEffect 63 7).recordsEnter.ring 63).words.map
      (fun w => if w.head then w.w.toNat % 2 ^ 14 / 2 ^ 8 else 0) = [0x31, 0, 0, 0, 0, 0, 1] := by decide

theorem witness_RecordsEnterWholeOrNotAtAll :
    (∃ (n : ℕ) (s : State), n < 64 ∧ (s.ring n).accepts = false) ∧
    (∃ (n : ℕ) (s : State), n < 64 ∧ (s.ring n).accepts = true ∧ bitOf (s.par P.ST_CFG n) 6 = false) ∧
    (∃ (n : ℕ) (port : ℕ) (sample : Bool) (words : List Word) (angle : ℕ) (time : ℕ) (master : ℕ) (w : RingWord) (s : State), n <
      64 ∧ ((s.ringEnter n port sample words angle time master).ring n).words.head? = some w) ∧
    (∃ (r : Ring) (most : ℕ) (fuel : ℕ) (w : RingWord), (r.drop (wholeRecords most fuel r.words)).words.head? = some w) ∧
    (∃ (s : State) (a b : RingEntry), s.pool.entries = [a, b] ∧ a.port = 0 ∧ b.port ≠ 1) ∧
    (∃ (s : State) (a b : RingEntry), s.pool.entries = [a, b] ∧ a.port = 1 ∧ b.port = 1 ∧ s.entriesOf 1 = [b, a]) ∧
    (∃ (s : State) (e : RingEntry), s.pool.entries = [e] ∧ e.port < 3 ∧ s.timers = []) :=
  ⟨⟨0, (let zz : State := up; zz.setRing (0) { zz.ring (0) with state := .disabled }), by decide⟩,
   ⟨63, (late.setRing 63 { state := .enabled }), by decide⟩,
   ⟨63, 0, true, [5], 0, 0, 1, { w := 5, time := 1000000000000, head := true }, (late.setRing 63 { state := .enabled }), by
     decide⟩,
   ⟨{ words := [⟨1, 0, true⟩, ⟨2, 0, true⟩] }, 1, 9, ⟨2, 0, true⟩, by decide⟩,
   ⟨(late.stampEffect 63 1).recordMade ⟨0, 2, false, [1], 0, 0, 5⟩, _, _, rfl, rfl, by decide⟩,
   ⟨(late.sampleRecord 5 0x3F00 0 0 0x3F).sampleRecord 5 0x100 0 0 1, _, _, rfl, rfl, rfl, by decide⟩,
   ⟨late.stampEffect 63 1, _, rfl, by decide, by decide⟩⟩

theorem witness_RecordsPendEscalateAndHalt :
    (∃ (a : Raise) (s : State), a.blk < 256 ∧ a.inst < 256 ∧ s.resetting a.blk = true) ∧
    (∃ (a : Raise) (s : State), a.blk < 256 ∧ a.inst < 256 ∧ s.resetting a.blk = false ∧ a.cls = 1 ∧ s.masked a.blk = false ∧
      s.par (fltPar P.FLT_AACK0 a.blk).1 (fltPar P.FLT_AACK0 a.blk).2 ≠ 1 ∧ (s.fb a.blk).pendA = true) ∧
    (∃ (a : Raise) (s : State), a.blk < 256 ∧ a.inst < 256 ∧ s.resetting a.blk = false ∧ a.cls = 1 ∧ s.masked a.blk = false ∧
      s.par (fltPar P.FLT_AACK0 a.blk).1 (fltPar P.FLT_AACK0 a.blk).2 ≠ 1 ∧ (s.fb a.blk).capture = none ∧ (s.fb a.blk).pendA =
      false) ∧
    (∃ (a : Raise) (s : State), a.blk < 256 ∧ a.inst < 256 ∧ s.resetting a.blk = false ∧ a.cls = 4) ∧
    (∃ (a : Raise) (s : State), a.blk < 256 ∧ a.inst < 256 ∧ s.resetting a.blk = false ∧ a.cls < 4 ∧ s.masked a.blk = true) :=
  ⟨⟨{ blk := 63, det := 0, cls := 1 }, { late with pwr.blockReset := [(63, 2000000000000)] }, by decide⟩,
   ⟨{ blk := 63, det := 0, cls := 1 }, (late.setFb 63 { pendA := true }), by decide⟩,
   ⟨{ blk := 63, det := 0, cls := 1 }, late, by decide⟩,
   ⟨{ blk := 63, det := 0, cls := 4 }, late, by decide⟩,
   ⟨{ blk := 0x7F, det := 0, cls := 1 }, (late.setFb 63 { window := .opened [] }), by decide⟩⟩

theorem witness_FaultEventsAndCommandsComplete :
    (∃ (b : BitVec 8) (due : ℕ) (s : State), s.pwr.phase = ResetPhase.running ∧ (s.fb b.toNat).grace = GraceTimer.running due ∧
      due ≤ s.t ∧ s.hopperAccepts = true) ∧
    (∃ (b : BitVec 8) (due : ℕ) (l : List ℕ) (s : State), s.pwr.phase = ResetPhase.running ∧ (s.fb b.toNat).window =
      MaskWindow.closing due l ∧ due ≤ s.t) ∧
    (∃ (b : BitVec 8) (d : BitVec 8) (s : State), s.pwr.phase = ResetPhase.running ∧ (s.episodeOpen b.toNat d.toNat = false ∨
      s.conditionHolds b.toNat d.toNat = true)) ∧
    (∃ (b : BitVec 8) (d : BitVec 8) (s : State), s.pwr.phase = ResetPhase.running ∧ s.episodeOpen b.toNat d.toNat = true ∧
      s.conditionHolds b.toNat d.toNat = false ∧ (¬(228 ≤ b.toNat ∧ b.toNat < 236 ∧ d.toNat = 4))) ∧
    (∃ (s : State), s.pwr.phase = ResetPhase.running ∧ s.hopperUp = true ∧ s.flt.served + msTicks (s.par P.FLT_HPWDT) ≤ s.t) ∧
    (∃ (b : BitVec 8) (k : BitVec 4) (s : State), s.hopperUp = true ∧ s.resetting Fb.faults = false ∧ b.toNat < 248 ∧ (k.toNat = 1
      ∨ k.toNat = 2 ∨ k.toNat = 3) ∧ (s.fb b.toNat).isPending k.toNat = true) ∧
    (∃ (b : BitVec 8) (k : BitVec 4) (s : State), s.hopperUp = true ∧ s.resetting Fb.faults = false ∧ b.toNat < 248 ∧ (k.toNat = 1
      ∨ k.toNat = 2 ∨ k.toNat = 3) ∧ (s.fb b.toNat).isPending k.toNat = false) :=
  ⟨⟨247, 5, (late.setFb 247 { pendB := true, served := 2, grace := .running 5 }), by decide⟩,
   ⟨247, 5, [], (late.setFb 247 { window := .closing 5 [] }), by decide⟩,
   ⟨0, 0, up, by decide⟩,
   ⟨63, 0, (late.setFb 63 { episodes := [{ det := 0, cls := 1 }] }), by decide⟩,
   ⟨late, by decide⟩,
   ⟨247, 1, (late.setFb 247 { pendA := true }), by decide⟩,
   ⟨0, 1, up, by decide⟩⟩

set_option maxRecDepth 100000 in
theorem witness_SyncFramesComplete :
    (∃ (f : List Byte) (s : State), s.slUp = true ∧ s.pwr.phase = ResetPhase.running ∧ frGood f = false ∧ ((s.bump
      P.SL_FRMERR).raiseEpisode Fb.sync 0 1).sl.originates = true) ∧
    (∃ (f : List Byte) (s : State), s.slUp = true ∧ s.pwr.phase = ResetPhase.running ∧ frGood f = false ∧ ((s.bump
      P.SL_FRMERR).raiseEpisode Fb.sync 0 1).sl.originates = false) ∧
    (∃ (f : List Byte) (s : State), s.slUp = true ∧ s.pwr.phase = ResetPhase.running ∧ frGood f = true ∧ bitOf (frByte f 1) 7 =
      true ∧ (s.endEpisode Fb.sync 0).sl.originates = false) ∧
    (∃ (f : List Byte) (s : State), s.slUp = true ∧ s.pwr.phase = ResetPhase.running ∧ frGood f = true ∧ bitOf (frByte f 1) 7 =
      true ∧ (s.endEpisode Fb.sync 0).sl.originates = true) ∧
    (∃ (f : List Byte) (s : State), s.slUp = true ∧ s.pwr.phase = ResetPhase.running ∧ frGood f = true ∧ bitOf (frByte f 1) 7 =
      false ∧ (s.endEpisode Fb.sync 0).sl.originates = true ∧ tblGet none (s.endEpisode Fb.sync 0).sl.flying (frField f 2 2) ≠ some
      (frField f 14 8)) ∧
    (∃ (f : List Byte) (s : State), s.slUp = true ∧ s.pwr.phase = ResetPhase.running ∧ frGood f = true ∧ bitOf (frByte f 1) 7 =
      false ∧ (s.endEpisode Fb.sync 0).sl.originates = true ∧ tblGet none (s.endEpisode Fb.sync 0).sl.flying (frField f 2 2) = some
      (frField f 14 8)) ∧
    (∃ (s : State), s.slUp = true ∧ s.pwr.phase = ResetPhase.running ∧ (s.sl.originates = false ∨ s.t < s.sl.nextFrame)) ∧
    (∃ (s : State), s.slUp = true ∧ s.pwr.phase = ResetPhase.running ∧ s.sl.originates = true ∧ s.sl.nextFrame ≤ s.t ∧
      s.sl.takeDue = false ∧ s.sl.releaseDue = false) :=
  ⟨⟨(List.replicate 49 (0 : Byte)).set 20 1, ({ late with sl.state := .synced, sl.originates := true }), by decide⟩,
   ⟨[], { up with sl.state := .synced }, by decide⟩,
   ⟨(frSeal (128 :: List.replicate 48 (0 : Byte))), ({ late with sl.state := .synced }), by decide⟩,
   ⟨(frSeal (128 :: List.replicate 48 (0 : Byte))), ({ late with sl.state := .synced, sl.originates := true }), by decide⟩,
   ⟨(frSeal (List.replicate 49 (0 : Byte))), ({ late with sl.state := .synced, sl.originates := true }), by decide⟩,
   ⟨(frSeal (List.replicate 49 (0 : Byte))),
     ({ late with sl.state := .synced, sl.originates := true, sl.flying := [(0, some 0)] }), by decide⟩,
   ⟨{ { up with sl.state := .synced } with sl.originates := false }, by decide⟩,
   ⟨{ { { { up with sl.state := .synced } with sl.originates := true } with sl.takeDue := false } with sl.releaseDue := false },
     by decide⟩⟩

theorem witness_RepeatedFramesAreSealed :
    (∃ (f : List Byte) (s : State), f.length = 49 ∧ frByte f 7 = s.slPos) ∧
    (∃ (f : List Byte) (s : State), f.length = 49 ∧ frByte f 7 ≠ s.slPos) :=
  ⟨⟨(List.replicate 49 (0 : Byte)).set 6 0, ({ late with sl.state := .synced }), by decide⟩,
   ⟨(List.replicate 49 (0 : Byte)).set 6 5, ({ late with sl.state := .synced }), by decide⟩⟩

theorem witness_SyncTimersAndCommandsComplete :
    (∃ (s : State), s.slUp = true ∧ s.pwr.phase = ResetPhase.running ∧ s.t - s.sl.lastValid < usTicks (s.par P.SL_LOSSTO)) ∧
    (∃ (s : State), s.slUp = true ∧ s.pwr.phase = ResetPhase.running ∧ s.sl.originates = true ∧ (¬(s.sl.reform = true ∧
      s.sl.reformLeft = 0 ∧ s.sl.closed = true))) ∧
    (∃ (s : State), s.slUp = true ∧ s.pwr.phase = ResetPhase.running ∧ s.sl.originates = true ∧ s.sl.reform = true ∧
      s.sl.reformLeft = 0 ∧ s.sl.closed = true ∧ 8 ≤ s.sl.hops) ∧
    (∃ (s : State), s.slUp = true ∧ s.pwr.phase = ResetPhase.running ∧ s.sl.originates = true ∧ s.sl.reform = true ∧
      s.sl.reformLeft = 0 ∧ s.sl.closed = true ∧ s.sl.hops < 8 ∧
      ({ ((s.setPar P.SL_NDEV 0 (s.sl.hops + 1)).setPar P.SL_POS 0 0) with sl := ({ ((s.setPar P.SL_NDEV 0 (s.sl.hops + 1)).setPar P.SL_POS 0 0).sl with haltSeen := ((s.setPar P.SL_NDEV 0 (s.sl.hops + 1)).setPar P.SL_POS 0 0).anyHalt, reform := false, partnerLost := 0, partnerSeen := false }) }.endEpisode
      Fb.sync 9).par P.SL_ROLECFG < 2) ∧
    (∃ (s : State), s.slUp = true ∧ s.pwr.phase = ResetPhase.running ∧ s.sl.originates = false ∧ (¬(s.sl.forming = true ∧
      s.sl.reform = false ∧ s.sl.framed = true))) ∧
    (∃ (s : State), s.slUp = true ∧ s.pwr.phase = ResetPhase.running ∧ s.sl.originates = false ∧ s.sl.forming = true ∧ s.sl.reform
      = false ∧ s.sl.framed = true ∧ ({ s with sl := { s.sl with forming := false, partnerLost := 0, partnerSeen := false } }).par
      P.SL_ROLECFG < 2) ∧
    (∃ (s : State), s.slUp = true ∧ s.pwr.phase = ResetPhase.running ∧ s.sl.originates = false ∧ s.sl.forming = true ∧ s.sl.reform
      = false ∧ s.sl.framed = true ∧ 2 ≤
      ({ s with sl := { s.sl with forming := false, partnerLost := 0, partnerSeen := false } }).par P.SL_ROLECFG ∧
      ({ s with sl := { s.sl with forming := false, partnerLost := 0, partnerSeen := false } }).par P.SL_NDEV ≤
      ({ s with sl := { s.sl with forming := false, partnerLost := 0, partnerSeen := false } }).partner) ∧
    (∃ (s : State), s.slUp = true ∧ s.pwr.phase = ResetPhase.running ∧ (s.sl.originates = false ∨ s.sl.rivals < 64)) ∧
    (∃ (s : State), s.slUp = true ∧ s.pwr.phase = ResetPhase.running ∧ (s.sl.diverged = false ∨ s.sl.timeDiv = true ∨ s.t <
      s.sl.divergedAt + msTicks (s.par P.SL_CONVT))) ∧
    (∃ (s : State), s.slUp = true ∧ s.pwr.phase = ResetPhase.running ∧ s.sl.diverged = true ∧ s.sl.timeDiv = false ∧
      s.sl.divergedAt + msTicks (s.par P.SL_CONVT) ≤ s.t) ∧
    (∃ (s : State), s.slUp = true ∧ s.pwr.phase = ResetPhase.running ∧ (s.isFollower = false ∨ s.sl.state ≠ SlState.synced ∧
      s.sl.state ≠ SlState.hold)) ∧
    (∃ (s : State), s.slUp = true ∧ s.pwr.phase = ResetPhase.running ∧ (s.sl.state ≠ SlState.hold ∨ s.sl.holdContract = true ∨
      s.sl.holdPair = true ∨ Option.all (fun a => decide (stampSub s.angleStamp a < 2 ^ 24)) s.sl.clearAt = true)) ∧
    (∃ (a : ℕ) (s : State), s.slUp = true ∧ s.pwr.phase = ResetPhase.running ∧ s.sl.state = SlState.hold ∧ s.sl.clearAt = some a ∧
      2 ^ 24 ≤ stampSub s.angleStamp a ∧ s.sl.holdContract = false ∧ s.sl.holdPair = false) ∧
    (∃ (v : Word) (s : State), s.hopperUp = true ∧ s.resetting Fb.sync = true ∧ v.toNat ≤ 1) ∧
    (∃ (v : Word) (s : State), s.hopperUp = true ∧ 2 ≤ v.toNat) ∧
    (∃ (s : State), s.hopperUp = true ∧ s.resetting Fb.sync = false ∧ s.sl.state ≠ SlState.off) ∧
    (∃ (s : State), s.hopperUp = true ∧ s.resetting Fb.sync = false ∧ s.sl.state = SlState.off) ∧
    (∃ (s : State), s.hopperUp = true ∧ s.resetting Fb.sync = false ∧ s.sl.originates = true) ∧
    (∃ (s : State), s.hopperUp = true ∧ s.resetting Fb.sync = false ∧ s.sl.originates = false) ∧
    (∃ (s : State), s.hopperUp = true ∧ s.resetting Fb.sync = false ∧ (s.sl.state ≠ SlState.off ∧ s.isPair = true ∧ s.role =
      Role.active)) ∧
    (∃ (s : State), s.hopperUp = true ∧ s.resetting Fb.sync = false ∧ (¬(s.sl.state ≠ SlState.off ∧ s.isPair = true ∧ s.role =
      Role.active))) ∧
    (∃ (s : State), s.hopperUp = true ∧ s.resetting Fb.sync = false ∧ s.sl.state = SlState.halted ∧ s.pendingC Fb.sync = false ∧
      s.sl.haltSeen = false) ∧
    (∃ (s : State), s.hopperUp = true ∧ s.resetting Fb.sync = false ∧ (s.sl.state ≠ SlState.halted ∨ s.pendingC Fb.sync = true ∨
      s.sl.haltSeen = true)) :=
  ⟨⟨({ late with sl.state := .locking, sl.lastValid := 999999999999 }), by decide⟩,
   ⟨{ { up with sl.state := .synced } with sl.originates := true }, by decide⟩,
   ⟨({ late with sl.state := .synced, sl.originates := true, sl.reform := true, sl.closed := true, sl.hops := 8 }), by decide⟩,
   ⟨{ late with sl.state := .synced, sl.originates := true, sl.reform := true, sl.closed := true, sl.hops := 7 }, by decide⟩,
   ⟨{ { up with sl.state := .synced } with sl.originates := false }, by decide⟩,
   ⟨{ { { { { up with sl.state := .synced } with sl.originates := false } with sl.forming := true } with sl.reform := false } with sl.framed := true },
     by decide⟩,
   ⟨({ late with sl.state := .synced, sl.forming := true, sl.framed := true }).setPar P.SL_ROLECFG 0 2, by decide⟩,
   ⟨{ { up with sl.state := .synced } with sl.originates := false }, by decide⟩,
   ⟨{ { up with sl.state := .synced } with sl.diverged := false }, by decide⟩,
   ⟨{ { { late with sl.state := .synced } with sl.diverged := true } with sl.timeDiv := false }, by decide⟩,
   ⟨{ late with sl.state := .synced, sl.originates := true }, by decide⟩,
   ⟨{ up with sl.state := .synced }, by decide⟩,
   ⟨0, ({ late with sl.state := .hold, sl.clearAt := some 0, eng.pos := 3298534883328 }), by decide⟩,
   ⟨1, { late with pwr.blockReset := [(Fb.sync, 2000000000000)] }, by decide⟩,
   ⟨2, { late with pwr.blockReset := [(Fb.sync, 2000000000000)] }, by decide⟩,
   ⟨{ late with sl.state := .synced }, by decide⟩,
   ⟨{ up with sl.state := SlState.off }, by decide⟩,
   ⟨{ up with sl.originates := true }, by decide⟩,
   ⟨{ up with sl.originates := false }, by decide⟩,
   ⟨(({ late with sl.state := .synced, sl.closed := true }).setPar P.SL_ROLECFG 0 2).setPar P.SL_ROLE 0 2, by decide⟩,
   ⟨up, by decide⟩,
   ⟨{ { up with sl.state := SlState.halted } with sl.haltSeen := false }, by decide⟩,
   ⟨up, by decide⟩⟩

theorem witness_ResetSourcesAndPhasesComplete :
    (∃ (s : State), s.flt.halted = false ∧ s.pwr.phase ≠ ResetPhase.cause ∧ s.pwr.phase ≠ ResetPhase.clock ∧ s.pwr.phase ≠
      ResetPhase.pll) ∧
    (∃ (s : State), s.flt.halted = true) ∧
    (∃ (s : State), s.pwr.phase = ResetPhase.cause ∧ s.pwr.vcore = true ∧ s.pwr.vioA = true ∧ s.pwr.avdd = true) ∧
    (∃ (s : State), s.pwr.phase = ResetPhase.clock) ∧
    (∃ (s : State), s.pwr.phase = ResetPhase.pll) ∧
    (∃ (s : State), s.grist.flashOp = none) ∧
    (∃ (cause : ℕ), cause ≠ 1) :=
  ⟨⟨{ up with flt.halted := false }, by decide⟩,
   ⟨{ up with flt.halted := true }, by decide⟩,
   ⟨{ { { { up with pwr.phase := ResetPhase.cause } with pwr.vcore := true } with pwr.vioA := true } with pwr.avdd := true },
     by decide⟩,
   ⟨{ up with pwr.phase := ResetPhase.clock }, by decide⟩,
   ⟨{ up with pwr.phase := ResetPhase.pll }, by decide⟩,
   ⟨{ up with grist.flashOp := none }, by decide⟩,
   ⟨0, by decide⟩⟩

theorem witness_StartUpStepsComplete :
    (∃ (s : State), s.pwr.phase ≠ ResetPhase.otp ∧ s.pwr.originDue = false) ∧
    (∃ (s : State), s.grist.patchSt = 1) ∧
    (∃ (s : State), (s.grist.patchSt = 1 ∨ s.grist.patchSt = 2)) ∧
    (∃ (s : State), s.pwr.phase = ResetPhase.running ∧ s.hopperUp = true ∧ s.pwr.originDue = false ∧ s.pwr.step =
      StartStep.selfTest) ∧
    (∃ (s : State), s.pwr.phase = ResetPhase.running ∧ s.hopperUp = true ∧ s.pwr.originDue = false ∧ s.pwr.step =
      StartStep.directory) ∧
    (∃ (s : State), s.pwr.phase = ResetPhase.running ∧ s.hopperUp = true ∧ s.pwr.originDue = false ∧ s.pwr.step = StartStep.boot) ∧
    (∃ (s : State), s.pwr.phase = ResetPhase.running ∧ s.pwr.vrefReady = false) ∧
    (∃ (s : State), s.pwr.phase = ResetPhase.running ∧ s.pwr.icalOn = true ∧ s.pwr.icalSettled = false ∧ s.pwr.readyAt + msTicks 1
      ≤ s.t) :=
  ⟨⟨{ up with pwr.originDue := false }, by decide⟩,
   ⟨{ up with grist.patchSt := 1 }, by decide⟩,
   ⟨{ up with grist.patchSt := 1 }, by decide⟩,
   ⟨{ { up with pwr.originDue := false } with pwr.step := StartStep.selfTest }, by decide⟩,
   ⟨{ { up with pwr.originDue := false } with pwr.step := StartStep.directory }, by decide⟩,
   ⟨{ { up with pwr.originDue := false } with pwr.step := StartStep.boot }, by decide⟩,
   ⟨{ up with pwr.vrefReady := false }, by decide⟩,
   ⟨{ { late with pwr.icalOn := true } with pwr.icalSettled := false }, by decide⟩⟩

theorem witness_RestartsAndSupplyDetectorsComplete :
    (∃ (t0 : ℕ) (s : State), s.pwr.hopperDown = some t0 ∧ s.alive = true ∧ s.pwr.step = StartStep.ready) ∧
    (∃ (s : State), s.pwr.hopperDown = none) ∧
    (∃ (v : Word) (s : State), s.hopperUp = true ∧ s.resetting Fb.test = false ∧ valueOk P.TST_BLKRST 0 (v.toNat) = true ∧ bitsOf
      (v.toNat) 16 16 ≠ 23205) ∧
    (∃ (v : Word) (s : State), s.hopperUp = true ∧ s.resetting Fb.test = false ∧ valueOk P.TST_BLKRST 0 (v.toNat) = true ∧ bitsOf
      (v.toNat) 16 16 = 23205 ∧ bitsOf (v.toNat) 8 8 = 0 ∧ (s.tst.testMode = true ∨ Fb.kiln < (v.toNat % 256))) ∧
    (∃ (v : Word) (s : State), s.hopperUp = true ∧ s.resetting Fb.test = false ∧ valueOk P.TST_BLKRST 0 (v.toNat) = true ∧ bitsOf
      (v.toNat) 16 16 = 23205 ∧ bitsOf (v.toNat) 8 8 = 0 ∧ s.tst.testMode = false ∧ (v.toNat % 256) ≤ Fb.kiln ∧ s.resetting
      (v.toNat % 256) = true) ∧
    (∃ (v : Word) (s : State), s.hopperUp = true ∧ s.resetting Fb.test = false ∧ valueOk P.TST_BLKRST 0 (v.toNat) = true ∧ bitsOf
      (v.toNat) 16 16 = 23205 ∧ bitsOf (v.toNat) 8 8 = 0 ∧ s.tst.testMode = false ∧ (v.toNat % 256) ≤ Fb.kiln ∧ s.resetting
      (v.toNat % 256) = false) ∧
    (∃ (b : ℕ), b ≤ Fb.kiln ∧ b ≠ Fb.fabric) ∧
    (∃ (b : BitVec 8) (s : State), s.pwr.phase = ResetPhase.running ∧ b.toNat ≠ Fb.fabric ∧ (tblGet 0 s.pwr.blockReset b.toNat) ≠
      0 ∧ (tblGet 0 s.pwr.blockReset b.toNat) ≤ s.t) :=
  ⟨⟨0, { { up with pwr.hopperDown := some (0) } with pwr.step := StartStep.ready }, by decide⟩,
   ⟨{ up with pwr.hopperDown := none }, by decide⟩,
   ⟨0, up, by decide⟩,
   ⟨1520763135, late, by decide⟩,
   ⟨1520763104, { late with pwr.blockReset := [(224, 2000000000000)] }, by decide⟩,
   ⟨1520763104, late, by decide⟩,
   ⟨0, by decide⟩,
   ⟨63, { late with pwr.blockReset := [(63, 9)] }, by decide⟩⟩

theorem witness_JtagIsolatesAndSelects :
    (∃ (s : State), s.pwr.vcore = true ∧ s.pwr.vioB = true) ∧
    (∃ (s : State), (s.pwr.vcore = false ∨ s.pwr.vioB = false)) ∧
    (∃ (s : State), s.pwr.phase = ResetPhase.running ∧ s.tst.isolated = true ∧ s.tst.ir = 4) ∧
    (∃ (s : State), s.pwr.phase = ResetPhase.running ∧ s.tst.isolated = true ∧ s.tst.ir ≠ 4) ∧
    (∃ (n : ℕ), n < 64) ∧
    (∃ (p : ℕ), p < 18) ∧
    (∃ (p : ℕ), 18 ≤ p ∧ p < 36) ∧
    (∃ (p : ℕ), 36 ≤ p ∧ p < 48) ∧
    (∃ (x : Dedicated) (s : State), (if x.onVioA = true then s.pwr.vioA else s.pwr.vioB) = false) ∧
    (∃ (x : Dedicated) (s : State), s.pwr.vioA = true ∧ s.pwr.vioB = true ∧ x.isInput = true) ∧
    (∃ (s : State), s.pwr.vioA = true ∧ s.pwr.vioB = true ∧ s.pwr.phase ≠ ResetPhase.running) ∧
    (∃ (s : State), s.pwr.vioA = true ∧ s.pwr.vioB = true ∧ s.pwr.phase = ResetPhase.running) ∧
    (∃ (s : State), s.tst.isolated = false) :=
  ⟨⟨{ { up with pwr.vcore := true } with pwr.vioB := true }, by decide⟩,
   ⟨{ up with pwr.vcore := false }, by decide⟩,
   ⟨{ { up with tst.isolated := true } with tst.ir := 4 }, by decide⟩,
   ⟨{ up with tst.isolated := true }, by decide⟩,
   ⟨0, by decide⟩,
   ⟨0, by decide⟩,
   ⟨35, by decide⟩,
   ⟨47, by decide⟩,
   ⟨.irqN, { late with pwr.vioA := false }, by decide⟩,
   ⟨.s1CsN, { late with pwr.vioA := true, pwr.vioB := true }, by decide⟩,
   ⟨{ late with pwr.vioA := true, pwr.vioB := true, pwr.phase := .otp }, by decide⟩,
   ⟨{ { up with pwr.vioA := true } with pwr.vioB := true }, by decide⟩,
   ⟨{ up with tst.isolated := false }, by decide⟩⟩

theorem witness_TestAndTraceComplete :
    (∃ (s : State), s.tst.testMode = false) ∧
    (∃ (s : State), s.tst.testMode = true ∧ s.tst.testLast + msTicks (s.par P.TST_TESTTO) ≤ s.t) ∧
    (∃ (s : State), s.hopperUp = true ∧ s.resetting Fb.test = false ∧ s.tst.running = false) ∧
    (∃ (s : State), s.hopperUp = true ∧ s.resetting Fb.test = false ∧ s.tst.running = true) ∧
    (∃ (s : State), s.pwr.phase = ResetPhase.running ∧ s.tst.fifo = []) ∧
    (∃ (e : TraceEntry) (rest : List TraceEntry) (s : State), s.pwr.phase = ResetPhase.running ∧ s.tst.fifo = e :: rest ∧
      s.tst.buffer.length < s.traceDepth) ∧
    (∃ (e : TraceEntry) (rest : List TraceEntry) (s : State), s.pwr.phase = ResetPhase.running ∧ s.tst.fifo = e :: rest ∧
      s.traceDepth ≤ s.tst.buffer.length ∧ s.tst.buffer ≠ [] ∧ s.par P.TST_TRCMODE ≠ 1) :=
  ⟨⟨{ up with tst.testMode := false }, by decide⟩,
   ⟨{ late with tst.testMode := true }, by decide⟩,
   ⟨{ up with tst.running := false }, by decide⟩,
   ⟨{ up with tst.running := true }, by decide⟩,
   ⟨{ up with tst.fifo := [] }, by decide⟩,
   ⟨.bad, [], { late with tst.fifo := [.bad] }, by decide⟩,
   ⟨.bad, [], { late with tst.fifo := [.bad], tst.buffer := [.bad], tst.retired := 4095 }, by decide⟩⟩

theorem witness_StepTakesTheFrontCommand :
    (∃ (s : State), s.pending = [] ∧ s.pwr.phase ≠ ResetPhase.running) :=
  ⟨{ late with pwr.phase := .clock }, by decide⟩



theorem witness_StoppedDevicesIgnoreHostsAndBlocks :
    (∃ (s : State), (s.pwr.phase ≠ ResetPhase.running ∨ s.flt.halted = true)) ∧
    (∃ (s : State), s.hopperUp = false) ∧
    (∃ (s : State), s.alive = false) ∧
    (∃ (s : State), s.pwr.phase ≠ ResetPhase.running) :=
  ⟨⟨{ up with flt.halted := true }, by decide⟩,
   ⟨{ late with flt.halted := true }, by decide⟩,
   ⟨{ late with flt.halted := true }, by decide⟩,
   ⟨{ late with pwr.phase := .clock }, by decide⟩⟩

theorem witness_ResetLeavesTheTablesValues :
    (∃ (n : ℕ), State.reset.owns n = true) :=
  ⟨0, by decide⟩

theorem witness_TimeCountsByTheSlew :
    (∃ (s : State), s.slew = 0 ∧ s.slewPart < 1000000000000) ∧
    (∃ (s : State), s.slewPart + s.slew.natAbs < 1000000000000) ∧
    (∃ (s : State), s.slewPart < 1000000000000 ∧ s.slew.natAbs ≤ 1000000000000) :=
  ⟨⟨up, by decide⟩,
   ⟨up, by decide⟩,
   ⟨up, by decide⟩⟩

/-! ### Hypotheses that name an earlier state, or a value the device fixes outside the spec -/

set_option maxRecDepth 100000 in
/-- Clauses of the sync frames' statement that follow a frame: the two ways the next state is told apart. -/
theorem witness_SyncFramesComplete_followed :
    (∃ (f : List Byte) (s v w : State), s.slUp = true ∧ s.pwr.phase = ResetPhase.running ∧ frGood f = true ∧
      bitOf (frByte f 1) 7 = false ∧ (s.endEpisode Fb.sync 0).sl.originates = false ∧
      v = ((s.endEpisode Fb.sync 0).repeatFrame f).takeRing f ∧ v.sl.state ≠ SlState.search ∧ w = v.frameBoundary) :=
  ⟨frSeal (List.replicate 49 (0 : Byte)), { late with sl.state := .synced }, _, _, by decide, by decide, by decide, by decide,
   by decide, rfl, by decide, rfl⟩

theorem witness_ResetSourcesAndPhasesComplete_supply :
    ∃ (rail : Fin 3) (s u : State), s.pwr.phase ≠ ResetPhase.cause ∧ exec (Instr.supplyDrop rail) s = Host.Outcome.next u :=
  ⟨0, late, _, by decide, rfl⟩

theorem witness_HaltStaysLatched :
    (∃ s t : State, HaltLatched s ∧ step s = .next t) ∧ (∃ (n : Nat) (s t : State), HaltLatched s ∧ Reaches n s t) ∧
    (∃ s : State, s.flt.halted = true ∧ s.pwr.phase = .running) ∧
    (∃ s : State, s.flt.halted = true ∧ s.pwr.vcore = true ∧ s.pwr.vioB = true) :=
  ⟨⟨{ late with flt.halted := true }, _, ⟨rfl, rfl⟩, rfl⟩, ⟨1, { late with flt.halted := true }, _, ⟨rfl, rfl⟩, _, rfl, rfl⟩,
   ⟨{ late with flt.halted := true }, by decide⟩, ⟨{ late with flt.halted := true, pwr.vcore := true, pwr.vioB := true }, by decide⟩⟩

theorem witness_SettledStatesEndTheirEdgeUnchanged :
    (∃ s0 s : State, Settled s0 s) ∧
    (∃ s0 s : State, s.pwr.phase ≠ .running ∧ s.pending = s0.pending ∧ s0.flt.halted = false) :=
  ⟨⟨late, late, by constructor <;> first | rfl | decide | (intro p; rfl)⟩,
   ⟨late, { late with pwr.phase := .clock }, by decide, rfl, rfl⟩⟩

theorem witness_NoTraceEventOutlivesItsEdge :
    (∃ s t : State, TraceTaken s ∧ step s = .next t) ∧ (∃ (n : Nat) (s t : State), TraceTaken s ∧ Reaches n s t) :=
  ⟨⟨{ late with pending := [.recdata] }, _, fun _ => rfl, rfl⟩, ⟨1, late, _, fun _ => rfl, _, rfl, rfl⟩⟩

theorem witness_EthernetLinkAndAddressComplete_static :
    (∃ s u : State, s.hopperUp = true ∧ s.portOn 4 = true ∧ s.hp.eth.phyUp = false ∧ s.par P.HP_EIPMODE = 0 ∧ s.par P.HP_EIP = 0 ∧
      u = ({ s with hp.eth.phyUp := true } : State).endEpisode Fb.ports 7 ∧ u.par P.HP_EIPMODE = 0 ∧ u.par P.HP_EIP = 0) ∧
    (∃ s u : State, s.hopperUp = true ∧ s.portOn 4 = true ∧ s.hp.eth.phyUp = false ∧ 
      u = ({ s with hp.eth.phyUp := true } : State).endEpisode Fb.ports 7 ∧ u.par P.HP_EIPMODE = 0 ∧ u.par P.HP_EIP ≠ 0) :=
  ⟨⟨((late.setPar P.HP_PORTEN 0 15).setPar P.HP_EIPMODE 0 0).setPar P.HP_EIP 0 0, _, by decide, by decide, by decide, by decide, by decide, rfl, by decide, by decide⟩,
   ⟨((late.setPar P.HP_PORTEN 0 15).setPar P.HP_EIPMODE 0 0).setPar P.HP_EIP 0 5, _, by decide, by decide, by decide, rfl, by decide, by decide⟩⟩

theorem witness_StreamCommandsComplete_due :
    ∃ (n : Fin 64) (s : State), s.alive = true ∧ s.ringDue n.val = true ∧ (List.range n.val).any s.ringDue = false ∧
      s.ethReady = true ∧ s.streamMac.isSome = true :=
  ⟨63, dgram, by decide, by decide, by decide, by decide, by decide⟩

theorem witness_PacketsAreAcceptedOrRefused_mailbox :
    ∃ (s : State) (x : PendSlot) (n : Nat) (m : Mailbox), s.hopperUp = true ∧
      List.find? (fun x => x.seq % 65536 == 1 && decide (x.limit ≤ s.t)) (s.session 2).slots = some x ∧ x.opcode = Op.mbWrite ∧
      s.mboxes = [(n, m)] ∧ ({ msg := m.msg, pendWrites := m.pendWrites.filter (fun w => !(w.port == 2 && w.seq == x.seq)) } :
      Mailbox) ≠ {} :=
  ⟨{ host with sessions := [(2, { isOpen := true, slots := [{ opcode := Op.mbWrite, seq := 1, start := 0, limit := 5 }] })]
               mboxes := [(3, { msg := some { payload := [1], sender := 0, gen := 0 }
                                pendWrites := [{ port := 2, seq := 1, data := [] }] })] },
   { opcode := Op.mbWrite, seq := 1, start := 0, limit := 5 }, 3,
   { msg := some { payload := [1], sender := 0, gen := 0 }, pendWrites := [{ port := 2, seq := 1, data := [] }] },
   by decide, by decide, by decide, rfl, by decide⟩

/-- The rivals' comparison of a forming ring, over whatever UID the device holds. -/
theorem witness_SyncTimersAndCommandsComplete_rivals :
    (∃ s : State, s.slUp = true ∧ s.pwr.phase = .running ∧ s.sl.originates = true ∧ 64 ≤ s.sl.rivals ∧ s.sl.rivalUid = s.uidByte) ∧
    (∃ s : State, s.slUp = true ∧ s.pwr.phase = .running ∧ s.sl.originates = true ∧ 64 ≤ s.sl.rivals ∧ s.uidByte < s.sl.rivalUid) :=
  ⟨⟨{ late with sl.state := .synced, sl.originates := true, sl.rivals := 64, sl.rivalUid := bitsOf Config.otpUid.toNat 0 8 },
    rfl, rfl, rfl, by decide, rfl⟩,
   ⟨{ late with sl.state := .synced, sl.originates := true, sl.rivals := 64, sl.rivalUid := bitsOf Config.otpUid.toNat 0 8 + 1 },
    rfl, rfl, rfl, by decide, Nat.lt_succ_self _⟩⟩

/-- The same where the rival is lower, of a device whose UID's first byte is not 0. -/
theorem witness_SyncTimersAndCommandsComplete_lower (h : 0 < bitsOf Config.otpUid.toNat 0 8) (pair : Bool) :
    ∃ s : State, s.slUp = true ∧ s.pwr.phase = .running ∧ s.sl.originates = true ∧ 64 ≤ s.sl.rivals ∧ s.sl.rivalUid < s.uidByte ∧
      s.isPair = pair := by
  cases pair
  · exact ⟨{ late with sl.state := .synced, sl.originates := true, sl.rivals := 64 }, rfl, rfl, rfl, by decide, h, by decide⟩
  · exact ⟨({ late with sl.state := .synced, sl.originates := true, sl.rivals := 64 } : State).setPar P.SL_ROLECFG 0 2, rfl, rfl,
      rfl, by decide, h, by decide⟩

/-- A host that writes a block RAM the plane gives it, of a plane that gives one. -/
theorem witness_FabricClocksAndObeysCommands_host (plane : Mem) (r : Fin 24) (h : Config.planeHostRam plane r.val = true) :
    ∃ s : State, s.hopperUp = true ∧ s.resetting Fb.fabric = false ∧ s.fab.live.loaded = true ∧
      Config.planeHostRam s.fab.live.bytes r.val = true ∧ s.fabClocked = false :=
  ⟨{ late with fab.state := .safe, fab.live.loaded := true, fab.live.bytes := plane }, rfl, rfl, rfl, h, rfl⟩

/-- A factory-test challenge answered, of a first challenge whose answer is the 16 bytes R588 gives it. -/
theorem witness_KilnSyncAndTestPacketsAreAnswered_challenge (h : (testAnswer 0).length = 16) :
    ∃ (s : State) (p : Packet), s.Admits p 163 false false ∧ (s.admitted p 163).owns (portCode p.port) = true ∧
      p.payload.length = 16 ∧ p.target = 0 ∧ (s.admitted p 163).tst.challenge = some 0 ∧
      (s.admitted p 163).t ≤ (s.admitted p 163).tst.challengeTime + msTicks 1000 ∧ p.payload = testAnswer 0 := by
  refine ⟨{ host with tst.challenge := some 0, tst.challengeTime := 1000000000000 }, pkt 0 (testAnswer 0),
   ⟨rfl, ?_, .inr ⟨rfl, rfl⟩, ?_, nofun, ?_⟩, rfl, h, rfl, rfl, ?_, rfl⟩
  · show State.hears _ 2 = true; decide
  · exact (by decide : 0 < 4)
  · exact Nat.le_trans (m := 64) (by show packetBufs (testAnswer 0).length ≤ 64; rw [h]; decide) (by decide)
  · exact (by decide : 1000000000000 ≤ 1000000000000 + msTicks 1000)

/-- The end of a device reset in its OTP phase, with no error found. -/
theorem witness_StartUpStepsComplete_otp :
    ∃ (s v w : State), s.pwr.phase = .otp ∧
      v = ({ s with pwr := { s.pwr with
        phase := .running, originDue := false, supplyAtReset := b2n s.pwr.avpos + 2 * b2n s.pwr.avneg } } : State).raise
        Fb.supply 0 1 s.pwr.cause ∧
      w = { v with pwr := { v.pwr with keyReset := v.pwr.keyState } } ∧ w.pwr.cause = 1 :=
  ⟨{ late with pwr.phase := .otp, pwr.cause := 1 }, _, _, rfl, rfl, rfl, by decide⟩

/-- Clauses that name a state on the way to the next one: a quadrature edge in TRACK and in COAST. -/
theorem witness_PositionEventsMoveTheAngle_edge (k : QuadStep) (hk : k ≠ .both) :
    (∃ (s u v : State) (d : Int) (times : List Nat), s.pwr.phase = .running ∧ s.resetting Fb.wheel = false ∧
      s.par P.WH_SRC = 0 ∧ s.eng.state ≠ .stopped ∧ k ≠ .both ∧
      d = (if (k = .forward) = (s.par P.WH_QDIR = 1) then -(s.quadInc : Int) else s.quadInc) ∧
      times = (s.t :: s.eng.edgeTimes).take 65 ∧ v = s.setEng { s.eng with edgeTimes := times } ∧
      s.eng.state = .track ∧ u = v.positionEvent (posAdd s.eng.interp.pPrev d) s.t) ∧
    (∃ (s u v : State) (times : List Nat), s.pwr.phase = .running ∧ s.resetting Fb.wheel = false ∧ s.par P.WH_SRC = 0 ∧
      s.eng.state ≠ .stopped ∧ k ≠ .both ∧ times = (s.t :: s.eng.edgeTimes).take 65 ∧
      v = s.setEng { s.eng with edgeTimes := times } ∧ s.eng.state = .coast ∧ u = v.setEng { v.eng with lastEvent := s.t }) :=
  ⟨⟨{ (late.setPar P.WH_SRC 0 0) with eng.state := .track }, _, _, _, _, rfl, by decide, by decide, by decide, hk, rfl, rfl, rfl, rfl, rfl⟩,
   ⟨{ (late.setPar P.WH_SRC 0 0) with eng.state := .coast }, _, _, _, rfl, by decide, by decide, by decide, hk, rfl, rfl, rfl, rfl⟩⟩

/-- RESUME of an input cell: it settles anew, within an input mode, or is set up in the mode that a swap has left it. -/
theorem witness_CellAndComparatorCommandsComplete_resume :
    (∃ (n : Fin 64) (s u v : State), s.hopperUp = true ∧ s.resetting (Fb.cell n.val) = false ∧ (s.cell n.val).state = .safe ∧
      s.pendingC (Fb.cell n.val) = false ∧ u = (s.setCell n.val { s.cell n.val with state := .active }).cellTake n.val ∧
      (s.cell n.val).modeDue = false ∧ isInputMode (u.par P.AC_MODE n.val) = true ∧ v = u.startSettling n.val 10000) ∧
    (∃ (n : Fin 64) (s u v : State), s.hopperUp = true ∧ s.resetting (Fb.cell n.val) = false ∧ (s.cell n.val).state = .safe ∧
      s.pendingC (Fb.cell n.val) = false ∧ u = (s.setCell n.val { s.cell n.val with state := .active }).cellTake n.val ∧
      (s.cell n.val).modeDue = true ∧ v = u.cellSetUp n.val) :=
  ⟨⟨63, (late.setCell 63 { state := .safe }).setPar P.AC_MODE 63 1, _, _, by decide, by decide, by decide, by decide, rfl,
    by decide, by decide, rfl⟩,
   ⟨63, (late.setCell 63 { state := .safe, modeDue := true }).setPar P.AC_MODE 63 1, _, _, by decide, by decide, by decide,
    by decide, rfl, by decide, rfl⟩⟩

/-- A sampling edge of a comparator that runs, and of one in HELD whose cell has settled. -/
theorem witness_ThresholdsLoadAndComparatorsSample_edge (x : TapSample) :
    (∃ (n : Fin 64) (s u v w : State), s.alive = true ∧ s.cmpRuns n.val = true ∧
      (s.cmp n.val).phase + s.par P.CMP_DIV n.val ≤ s.t ∧
      u = (s.setCmp n.val { s.cmp n.val with tap := x }).cmpBoundary n.val ∧ (u.cmp n.val).state ≠ .held ∧
      (u.cmp n.val).feed u.t = none ∧ v = u ∧ w = v.setCmp n.val { v.cmp n.val with
        phase := v.t
        pipe := if (v.cmp n.val).state = .held ∧ v.cellSettling n.val = true then []
          else (v.cmpRaw n.val :: (v.cmp n.val).pipe).take 3 } ∧ (s.cmp n.val).state ≠ .held) ∧
    (∃ (n : Fin 64) (s u v : State), s.alive = true ∧ s.cmpRuns n.val = true ∧
      (s.cmp n.val).phase + s.par P.CMP_DIV n.val ≤ s.t ∧
      u = (s.setCmp n.val { s.cmp n.val with tap := x }).cmpBoundary n.val ∧ (u.cmp n.val).state = .held ∧
      u.cellSettling n.val = false ∧ (u.cmp n.val).passed = some (true, false) ∧
      v = ((u.setCmp n.val { u.cmp n.val with
        state := if (u.cmp n.val).heldArmed = true then .armed else .disarmed, reload := true }).cmpPush n.val true
        false).cmpDeliver n.val ∧ (s.cmp n.val).state = .held) :=
  ⟨⟨63, late.setCmp 63 { state := .armed }, _, _, _, by decide, by decide, by decide, rfl, nofun, rfl, rfl, rfl, nofun⟩,
   ⟨63, (late.setCmp 63 { state := .held, pipe := [(true, false), (true, false), (true, false)] }).setCell 63
      { state := .active }, _, _, by decide, by decide, by decide, rfl, rfl, rfl, rfl, rfl, by decide⟩⟩

/-- A conversion in service that does not end in time: its entry starts again, with a READY spare or without. -/
theorem witness_SarSlotsStartAndFinishConversions_timeout (ready : Bool) :
    ∃ (g : Fin 4) (i : Fin 5) (c : Conv) (s w u : State) (x y : Group), s.alive = true ∧
      ((s.group g.val).slice i.val).conv = some c ∧ ((s.group g.val).slice i.val).state = .live ∧
      c.start + 120 ≤ 2 * s.t + 1 ∧ w = s.sarGiveUp g.val i.val ∧
      x = (w.group g.val).setSlice i.val { (s.group g.val).slice i.val with
        state := .withdrawn, conv := none, ready := false, calNext := false } ∧
      y = { x with restart := x.restart ++ [c] } ∧ c.kind = .entry 0 ∧ u = (w.setGroup g.val y).raise (Fb.sar g.val) 6 2 ∧
      y.spare = if ready then some 4 else none := by
  cases ready
  · exact ⟨3, 0, { kind := .entry 0, word := 0, start := 0 }, late.setGroup 3 { state := .running, slices := [(0, {
      conv := some { kind := .entry 0, word := 0, start := 0 } }), (4, { state := .withdrawn })] }, _, _, _, _, by decide, by decide, by decide,
      by decide, rfl, rfl, rfl, rfl, rfl, by decide⟩
  · exact ⟨3, 0, { kind := .entry 0, word := 0, start := 0 }, late.setGroup 3 { state := .running, slices := [(0, {
      conv := some { kind := .entry 0, word := 0, start := 0 } }), (4, { state := .spare, ready := true })] }, _, _, _, _, by decide,
      by decide, by decide, by decide, rfl, rfl, rfl, rfl, rfl, by decide⟩

/-- No valid frame within `SL_LOSSTO`, and within twice that, of a standby that leads now and of a follower. -/
theorem witness_SyncTimersAndCommandsComplete_loss :
    (∃ (s u : State) (lead : Prop), s.slUp = true ∧ s.pwr.phase = .running ∧
      usTicks (s.par P.SL_LOSSTO) ≤ s.t - s.sl.lastValid ∧
      (lead ↔ s.sl.state = .synced ∧ s.role = Role.standby ∧ s.slPos ≤ 1 ∧ s.isPair = true) ∧ lead ∧
      u = s.takeOver.dropStaging ∧ s.t - s.sl.lastValid < 2 * usTicks (s.par P.SL_LOSSTO)) ∧
    (∃ (s u : State) (lead : Prop), s.slUp = true ∧ s.pwr.phase = .running ∧
      (lead ↔ s.sl.state = .synced ∧ s.role = Role.standby ∧ s.slPos ≤ 1 ∧ s.isPair = true) ∧ ¬ lead ∧ u = s.dropStaging ∧
      2 * usTicks (s.par P.SL_LOSSTO) ≤ s.t - s.sl.lastValid ∧ u.sl.state = .locking) ∧
    (∃ (s u : State) (lead : Prop), s.slUp = true ∧ s.pwr.phase = .running ∧
      (lead ↔ s.sl.state = .synced ∧ s.role = Role.standby ∧ s.slPos ≤ 1 ∧ s.isPair = true) ∧ ¬ lead ∧ u = s.dropStaging ∧
      2 * usTicks (s.par P.SL_LOSSTO) ≤ s.t - s.sl.lastValid ∧ u.sl.state = .synced) :=
  ⟨⟨((({ late with sl := { state := .synced, lastValid := 999999994000 } }).setPar P.SL_LOSSTO 0 60).setPar P.SL_ROLE 0
      Role.standby).setPar P.SL_ROLECFG 0 2, _, _, by decide, by decide, by decide, Iff.rfl, by decide, rfl, by decide⟩,
   ⟨{ late with sl := { state := .locking } }, _, _, by decide, by decide, Iff.rfl, by decide, rfl, by decide, by decide⟩,
   ⟨{ late with sl := { state := .synced } }, _, _, by decide, by decide, Iff.rfl, by decide, rfl, by decide, by decide⟩⟩

/-- Hashes differ at a follower: while an image loads, in a running device and in one that idles. -/
theorem witness_SyncTimersAndCommandsComplete_hash :
    (∃ (s : State) (lasts quiet : Prop), s.slUp = true ∧ s.pwr.phase = .running ∧ s.isFollower = true ∧ s.sl.state = .synced ∧
      (lasts ↔ ∃ a, s.sl.pairAt = some a ∧ s.par P.SL_HASHCYC * 2 ^ 24 ≤ stampSub s.angleStamp a) ∧ ¬ lasts ∧
      (quiet ↔ s.grist.state = .idle ∧ bitOf (tblGet {} s.sl.peers 0).b4 6 = false) ∧
      ¬ quiet) ∧
    (∃ (s v : State) (lasts : Prop), s.slUp = true ∧ s.pwr.phase = .running ∧ s.isFollower = true ∧ s.sl.state = .synced ∧
      (lasts ↔ ∃ a, s.sl.pairAt = some a ∧ s.par P.SL_HASHCYC * 2 ^ 24 ≤ stampSub s.angleStamp a) ∧ lasts ∧
      v = { s with sl := { s.sl with holdPair := true, state := .hold, clearAt := some s.angleStamp } } ∧
      v.kiln.state = .run) ∧
    (∃ (s v : State) (lasts quiet : Prop), s.slUp = true ∧ s.pwr.phase = .running ∧ s.isFollower = true ∧ s.sl.state = .synced ∧
      (lasts ↔ ∃ a, s.sl.pairAt = some a ∧ s.par P.SL_HASHCYC * 2 ^ 24 ≤ stampSub s.angleStamp a) ∧ ¬ lasts ∧
      (quiet ↔ s.grist.state = .idle ∧ bitOf (tblGet {} s.sl.peers 0).b4 6 = false) ∧
      v = { s with sl := { s.sl with holdHash := true, state := .hold, clearAt := some s.angleStamp } } ∧
      quiet ∧ v.kiln.state = .idle) :=
  ⟨⟨{ late with sl := { state := .synced }, grist := { state := .loading } }, _, _, by decide, by decide, by decide, by decide,
    Iff.rfl, (by rintro ⟨_, h, _⟩; cases h), Iff.rfl, by decide⟩,
   ⟨({ late with sl := { state := .synced, pairAt := some 0 } } : State).setPar
      P.SL_HASHCYC 0 0, _, _, by decide, by decide, by decide, by decide, Iff.rfl, ⟨0, rfl, by decide⟩, rfl, rfl⟩,
   ⟨{ late with sl := { state := .synced }, kiln := { state := .idle } }, _, _, _, by decide, by decide, by decide, by decide,
    Iff.rfl, (by rintro ⟨_, h, _⟩; cases h), Iff.rfl, rfl, ⟨rfl, by decide⟩, rfl⟩⟩

/-- A running fabric with this plane, and a word of block RAM `r` whose bytes' ninth bits differ as `bad` says. -/
def hostRam (plane : Mem) (r : Fin 24) (bad : BitVec 4) : State :=
  { late with fab := { state := .run, live := { loaded := true, bytes := plane }, ram := [(512 * r.val, some (0, bad))] } }

theorem hostRam_address (plane : Mem) (r : Fin 24) (bad : BitVec 4) : (hostRam plane r bad).par P.FAB_RAMADR r.val = 0 := by
  revert r; intro r; show late.par P.FAB_RAMADR r.val = 0; revert r; decide

/-- Host access of a block RAM that the plane gives the host, of a plane that gives one: read, and written with the clock
running. -/
theorem witness_FabricClocksAndObeysCommands_ram (plane : Mem) (r : Fin 24) (h : Config.planeHostRam plane r.val = true) :
    (∀ bad : BitVec 4, ∃ s : State, s.hopperUp = true ∧ s.resetting Fb.fabric = false ∧ s.fab.live.loaded = true ∧
      Config.planeHostRam s.fab.live.bytes r.val = true ∧ (s.ramCell r.val (s.par P.FAB_RAMADR r.val)).2 = bad) ∧
    (∃ s : State, s.hopperUp = true ∧ s.resetting Fb.fabric = false ∧ s.fab.live.loaded = true ∧
      Config.planeHostRam s.fab.live.bytes r.val = true ∧ s.fabClocked = true) :=
  ⟨fun bad => ⟨hostRam plane r bad, rfl, rfl, rfl, h, by rw [hostRam_address]; simp [hostRam, State.ramCell, tblGet]⟩,
   ⟨hostRam plane r 0, rfl, rfl, rfl, h, rfl⟩⟩

end Sys2Proof.Tests
end

section
/-! Encoder edges and position events at the angle engine (R26, R27, R34). -/

namespace Sys2Proof.Machine

/-! ### Rows at the angle engine's source -/

/-- An event at the source acts while the device runs and the Wheel is not being reset (R569). -/
theorem State.sourceEvent_running {s : State} (f : State → State) (hp : s.pwr.phase = .running)
    (hr : s.resetting Fb.wheel = false) : s.sourceEvent f = f s := if_pos ⟨hp, hr⟩

theorem exec_quadEdge (s : State) (k : QuadStep) :
    exec (.quadEdge k) s = .next (s.finish (s.sourceEvent (fun s => s.quadEdge k))) := rfl

/-! ### What a position event leaves -/

theorem State.positionEvent_t (s : State) (p : BitVec 64) (t : Nat) : (s.positionEvent p t).t = s.t := by
  obtain ⟨_, _, _, _, _, _, _, -, -, h⟩ := s.positionEvent_shape p t
  rw [h]; rfl

/-- A wake request sets no parameter but `KL_LASTWAKE`. -/
theorem State.requestWake_par (s : State) (n : Nat) {id inst : Nat} (h : paramKey id inst ≠ paramKey P.KL_LASTWAKE 0) :
    (s.requestWake n).par id inst = s.par id inst := by
  simp only [State.requestWake]
  split
  · split
    · exact State.par_setPar_ne _ _ h
    · split
      · exact State.par_setPar_ne _ _ h
      · rfl
  · rfl

theorem State.moveTo_par (s : State) (p : BitVec 64) {id inst : Nat} (h : paramKey id inst ≠ paramKey P.KL_LASTWAKE 0) :
    (s.moveTo p).par id inst = s.par id inst := by
  simp only [State.moveTo]
  split
  · exact State.requestWake_par _ 1 h
  · rfl

theorem State.direction_par (s : State) (d : Int) (id inst : Nat) : (s.direction d).par id inst = s.par id inst := by
  obtain ⟨_, _, h⟩ := s.direction_shape d
  rw [h]; rfl

theorem State.interpError_par (s : State) (p : BitVec 64) (t : Nat) {id inst : Nat}
    (h : paramKey id inst ≠ paramKey P.WH_INTERR 0) : (s.interpError p t).par id inst = s.par id inst := by
  simp only [State.interpError]
  split
  · exact State.par_setPar_ne _ _ h
  · rfl

/-- A position event sets no parameter but `WH_INTERR`, and `KL_LASTWAKE` by a wake it brings. -/
theorem State.positionEvent_par (s : State) (p : BitVec 64) (t : Nat) {id inst : Nat}
    (hi : paramKey id inst ≠ paramKey P.WH_INTERR 0) (hw : paramKey id inst ≠ paramKey P.KL_LASTWAKE 0) :
    (s.positionEvent p t).par id inst = s.par id inst := by
  simp only [State.positionEvent]
  split
  · rw [State.requestWake_par _ 2 hw, State.direction_par, State.moveTo_par _ p hw]
    exact s.interpError_par p t hi
  · rw [State.direction_par, State.moveTo_par _ p hw]
    exact s.interpError_par p t hi

/-! ### Edges -/

/-- A double edge is a source error (R27). -/
theorem State.quadEdge_both {s : State} (hsrc : s.par P.WH_SRC = 0) (hst : s.eng.state ≠ .stopped) :
    s.quadEdge .both = s.sourceError := by
  simp [State.quadEdge, hsrc, hst]

/-- The signed increment of an edge in direction `k` (R26). -/
theorem State.quadInc_signed (s : State) (k : QuadStep) :
    (if (k == .forward) != (s.par P.WH_QDIR == 1) then (s.quadInc : Int) else -(s.quadInc : Int)) =
      if (k = .forward) = (s.par P.WH_QDIR = 1) then -(s.quadInc : Int) else s.quadInc := by
  by_cases hf : k = .forward <;> by_cases hq : s.par P.WH_QDIR = 1 <;> simp [hf, hq]

/-- A single edge is timed, it moves the angle outside COAST and HOLD, and too many edges are a loss (R26, Table 2.1). -/
theorem State.quadEdge_single {s v u : State} {k : QuadStep} {d : Int} {times : List Nat} (hk : k ≠ .both)
    (hsrc : s.par P.WH_SRC = 0) (hst : s.eng.state ≠ .stopped)
    (hd : d = if (k = .forward) = (s.par P.WH_QDIR = 1) then -(s.quadInc : Int) else s.quadInc)
    (ht : times = (s.t :: s.eng.edgeTimes).take 65) (hv : v = s.setEng { s.eng with edgeTimes := times })
    (hu : u = if s.eng.state = .coast ∨ s.eng.state = .hold then v.eventSeen
      else v.positionEvent (posAdd s.eng.interp.pPrev d) s.t) :
    s.quadEdge k = if times.length = 65 ∧ s.t - nthD s.t times 64 < 320 then u.engLoss else u := by
  have hvt : v.t = s.t := by rw [hv]; rfl
  have hut : u.t = s.t := by
    rw [hu]; split
    · exact hvt
    · rw [State.positionEvent_t, hvt]
  have hrun : s.quadEdge k = if times.length = 65 ∧ u.t - nthD u.t times 64 < 320 then u.engLoss else u := by
    rw [← s.quadInc_signed k] at hd
    subst hu hv ht hd
    cases k with
    | both => exact absurd rfl hk
    | forward | reverse => exact if_neg (not_or.mpr ⟨not_not.mpr hsrc, hst⟩)
  rw [hrun, hut]

/-- Settles O1: an edge acts as `quadEdge_both` and `quadEdge_single` say, and a position event's effect is its shape, with the
two parameters it can set. -/
theorem positionEventsMoveTheAngle : Obligations.PositionEventsMoveTheAngle := by
  unfold Obligations.PositionEventsMoveTheAngle
  refine ⟨fun s k hp hr hsrc hst => ⟨?_, ?_⟩, fun s u p t h => ?_⟩
  · rintro rfl
    rw [exec_quadEdge, State.sourceEvent_running _ hp hr, State.quadEdge_both hsrc hst]
  · intro hk d times v u hd ht hv hu
    have hu' : u = if s.eng.state = .coast ∨ s.eng.state = .hold then v.eventSeen
        else v.positionEvent (posAdd s.eng.interp.pPrev d) s.t := by
      rcases hu with ⟨hs | hs, rfl⟩ | ⟨hs, rfl⟩
      · simp [hs]
      · simp [hs]
      · rw [if_pos hs, hv]; rfl
    rw [exec_quadEdge, State.sourceEvent_running _ hp hr, State.quadEdge_single hk hsrc hst hd ht hv hu']
  · have hpar (id inst : Nat) (hinst : inst < 256) (hi : id ≠ P.WH_INTERR ∨ inst ≠ 0) (hw : id ≠ P.KL_LASTWAKE ∨ inst ≠ 0) :=
      s.positionEvent_par p t (paramKey_ne hinst (by decide) hi) (paramKey_ne hinst (by decide) hw)
    obtain ⟨i, r, f, k, q, tr, d, hp, ht, hs⟩ := s.positionEvent_shape p t
    rw [hs] at hpar
    rw [h, hs]
    exact ⟨rfl, hp, ht, rfl, rfl, rfl, rfl, rfl, rfl, rfl, rfl, rfl, rfl, rfl, rfl, rfl, rfl, rfl, rfl, rfl,
      fun id inst _ => hpar id inst⟩

end Sys2Proof.Machine
end

section
/-! Source errors, losses and the limits of the angle engine (R27, R28, R33, R52, R53). -/

namespace Sys2Proof.Machine

theorem exec_reverseLimit (s : State) : exec .reverseLimit s = .next (s.finish (s.sourceEvent (fun s => s.revLimit))) := rfl
theorem exec_zmiss (s : State) : exec .zmiss s = .next (s.finish (s.sourceEvent (fun s => s.zMiss))) := rfl
theorem exec_coastLimit (s : State) : exec .coastLimit s = .next (s.finish (s.sourceEvent (fun s => s.coastLimit))) := rfl
theorem exec_holdRelease (s : State) : exec .holdRelease s = .next (s.finish (s.sourceEvent (fun s => s.holdRelease))) := rfl
theorem exec_standstillTimeout (s : State) :
    exec .standstillTimeout s = .next (s.finish (s.sourceEvent (fun s => s.standstill))) := rfl

/-- A loss moves neither the angle nor the position the next edge counts from, and sets no parameter. -/
theorem State.engLoss_frame (s : State) : s.engLoss.eng.pos = s.eng.pos ∧
    s.engLoss.eng.interp.pPrev = s.eng.interp.pPrev ∧ s.engLoss.params = s.params := by
  simp only [State.engLoss]
  generalize (if s.lossLevel = true then none else some s.t) = l
  split
  · exact ⟨rfl, rfl, rfl⟩
  · obtain ⟨f, t, h⟩ := (s.setEng { s.eng with lossFree := l }).raiseEpisode_shape Fb.wheel 7 2 0 0
    rw [h]
    split
    · split <;> exact ⟨rfl, rfl, rfl⟩
    · exact ⟨rfl, rfl, rfl⟩

/-- A source error leaves the angle and the position the next edge counts from, and of the parameters counts `WH_SRCERR`. -/
theorem State.sourceError_frame (s : State) : s.sourceError.eng.pos = s.eng.pos ∧
    s.sourceError.eng.interp.pPrev = s.eng.interp.pPrev ∧ s.sourceError.params = (s.bump P.WH_SRCERR).params := by
  simp only [State.sourceError]
  split
  · split
    · exact State.engLoss_frame _
    · exact ⟨rfl, rfl, rfl⟩
  · exact ⟨rfl, rfl, rfl⟩

/-- A counter that has been raised reads as its saturated sum. -/
theorem State.par_bump (s : State) (id inst n : Nat) : (s.bump id inst n).par id inst = satAdd (s.par id inst) n := by
  rw [State.bump, State.par_setPar, Nat.mod_eq_of_lt]
  simp only [satAdd]
  split <;> omega

/-- Settles O2: a double edge is a source error, whose frame leaves the angle and counts one error. -/
theorem doubleEdgesAreSourceErrors : Obligations.DoubleEdgesAreSourceErrors := by
  unfold Obligations.DoubleEdgesAreSourceErrors
  intro s hp hr hsrc hst
  obtain ⟨hpos, hprev, hpar⟩ := s.sourceError_frame
  refine ⟨?_, hpos, hprev, ?_⟩
  · rw [exec_quadEdge, State.sourceEvent_running _ hp hr, State.quadEdge_both hsrc hst]
  · rw [State.par, hpar]
    exact s.par_bump P.WH_SRCERR 0 1

/-- Settles O4: each limit's operation is its effect under the condition that the statement names. -/
theorem angleLimitsTakeEffect : Obligations.AngleLimitsTakeEffect := by
  unfold Obligations.AngleLimitsTakeEffect
  intro s hp hr
  refine ⟨fun hz => ?_, fun hlim ht hb => ?_, fun hc hd => ?_, fun hh hl => ?_, fun hs hsrc hstall => ?_⟩
  · rw [exec_zmiss, State.sourceEvent_running _ hp hr, State.zMiss, if_pos hz]
  · have hrev : s.revLimit = s.raiseEpisode Fb.wheel 3 2 := if_pos ⟨hlim, ht, hb⟩
    rw [exec_reverseLimit, State.sourceEvent_running _ hp hr, hrev]
  · rw [exec_coastLimit, State.sourceEvent_running _ hp hr, State.coastLimit, if_pos ⟨hc, hd⟩]
  · rw [exec_holdRelease, State.sourceEvent_running _ hp hr, State.holdRelease, if_pos ⟨hh, hl⟩]
  · rw [exec_standstillTimeout, State.sourceEvent_running _ hp hr, State.standstill, if_pos ⟨hs, hsrc, hstall⟩]

end Sys2Proof.Machine
end

section
/-! SSI frames (R29, R30). -/

namespace Sys2Proof.Machine

theorem exec_ssiFrame (s : State) (data : BitVec 32) (startHigh endLow : Bool) :
    exec (.ssiFrame data startHigh endLow) s =
      .next (s.finish (s.sourceEvent (fun s => s.ssiFrame data.toNat startHigh endLow))) := rfl

/-- Without a loss condition an update only notes since when the source has been free of one. -/
theorem State.lossUpdate_free (s : State) (h : s.lossLevel = false) :
    ∃ l, s.lossUpdate = s.setEng { s.eng with lossFree := l } := by
  simp only [State.lossUpdate, h]
  split
  · exact ⟨s.eng.lossFree, rfl⟩
  · split
    · exact absurd ‹false = true› Bool.false_ne_true
    · split
      · exact ⟨_, rfl⟩
      · exact ⟨s.eng.lossFree, rfl⟩

/-- With the SSI source the loss level is that of three bad frames (Table 2.1). -/
theorem State.lossLevel_ssi {s : State} (hsrc : s.par P.WH_SRC = 1) : s.lossLevel = decide (3 ≤ s.eng.ssiBad) := by
  simp [State.lossLevel, hsrc]

/-- The position of a frame lies too far from the last frame's (R30). -/
def State.ssiJump (s : State) (p : Nat) : Bool :=
  match s.eng.ssiFrame with
  | none => false
  | some q => decide (s.par P.WH_SSIJMP * 2 ^ 8 < (BitVec.ofNat 24 p - BitVec.ofNat 24 q).toInt.natAbs)

theorem State.ssiJump_eq_any (s : State) (p : Nat) : s.ssiJump p = s.eng.ssiFrame.any (fun q =>
    decide (s.par P.WH_SSIJMP * 2 ^ 8 < (BitVec.ofNat 24 p - BitVec.ofNat 24 q).toInt.natAbs)) := by
  rw [State.ssiJump]
  cases s.eng.ssiFrame <;> rfl

/-- The displacement of a frame from the last valid one's position (R29). -/
def ssiMoved (prev : Option Nat) (p : Nat) : Int :=
  match prev with
  | none => 0
  | some q => (BitVec.ofNat 24 p - BitVec.ofNat 24 q).toInt * 2 ^ 16

/-- What a valid SSI frame, noted in `u`, does with a displacement `d` in each state of the engine (Table 2.2). -/
def State.ssiMove (u : State) (d : Int) : State :=
  match u.eng.state with
  | .unref | .coast => u.reference u.zofsPos (some (d, u.t))
  | .track => u.positionEvent (posAdd u.eng.interp.pPrev d) u.t
  | _ => u

/-- A frame that fails a check of R30 is counted, and is a source error; one that passes is noted, and moves the angle. -/
theorem State.ssiFrame_eq {s : State} (data : Nat) {p : Nat} (startHigh endLow : Bool) (hsrc : s.par P.WH_SRC = 1)
    (hst : s.eng.state ≠ .stopped) (hp : p = s.ssiPosition data) :
    s.ssiFrame data startHigh endLow =
      if startHigh = false ∨ endLow = false ∨ s.ssiJump p = true then
        ((s.setEng { s.eng with ssiFrame := some p, ssiBad := s.eng.ssiBad + 1 }).sourceError).lossUpdate
      else (s.setEng { s.eng with ssiFrame := some p, ssiBad := 0, ssiPos := some p }).lossUpdate.ssiMove
        (ssiMoved s.eng.ssiPos p) := by
  have hrun : ¬ (s.par P.WH_SRC ≠ 1 ∨ s.eng.state = .stopped) := not_or.mpr ⟨not_not.mpr hsrc, hst⟩
  rw [State.ssiFrame, if_neg hrun, ← hp]
  rfl

/-- Settles O5: the two cases are those of `ssiFrame_eq`; a valid frame is noted, which with the SSI source is no loss, and moves the
angle as `ssiMove` says. -/
theorem ssiFramesAreCheckedAndApplied : Obligations.SsiFramesAreCheckedAndApplied := by
  unfold Obligations.SsiFramesAreCheckedAndApplied
  intro s data startHigh endLow p jump hp hr hsrc hst hpos hjump
  rw [exec_ssiFrame, State.sourceEvent_running _ hp hr]
  rw [← State.ssiJump_eq_any] at hjump
  refine ⟨fun hbad => ?_, fun hgood u hu d hfirst hnext => ?_⟩
  · rw [State.ssiFrame_eq _ _ _ hsrc hst hpos, ← hjump, if_pos]
    simpa only [Bool.and_eq_false_iff, Bool.not_eq_false', or_assoc] using hbad
  · have hd : ssiMoved s.eng.ssiPos p = d := by
      cases hq : s.eng.ssiPos with
      | none => exact (hfirst hq).symm
      | some q => exact (hnext q hq).symm
    obtain ⟨l, hl⟩ := State.lossUpdate_free
      (s.setEng { s.eng with ssiFrame := some p, ssiBad := 0, ssiPos := some p }) (State.lossLevel_ssi hsrc)
    have hstate : u.eng.state = s.eng.state := by rw [hu, hl]; rfl
    have ht : u.t = s.t := by rw [hu, hl]; rfl
    have hprev : u.eng.interp.pPrev = s.eng.interp.pPrev := by rw [hu, hl]; rfl
    simp only [Bool.and_eq_true, Bool.not_eq_true'] at hgood
    obtain ⟨⟨rfl, rfl⟩, hj⟩ := hgood
    rw [State.ssiFrame_eq _ _ _ hsrc hst hpos, ← hjump, if_neg (by simp [hj]), ← hu, hd, ← ht, ← hprev, ← hstate]
    refine ⟨?_, fun h => ?_, fun h => ?_⟩
    · rintro (h | h) <;> simp only [State.ssiMove, h]
    · simp only [State.ssiMove, h]
    · simp only [State.ssiMove, h]

end Sys2Proof.Machine
end

section
/-! Commands of the Wheel and of its time queues, and urgent requests (R51, R60, R112). -/

namespace Sys2Proof.Machine

theorem exec_whCtrlRun (s : State) : exec .whCtrlRun s = .next (s.finish (s.hostWrite P.WH_CTRL 0 1)) := rfl
theorem exec_whCtrlStop (s : State) : exec .whCtrlStop s = .next (s.finish (s.hostWrite P.WH_CTRL 0 2)) := rfl
theorem exec_whCtrlReref (s : State) : exec .whCtrlReref s = .next (s.finish (s.hostWrite P.WH_CTRL 0 3)) := rfl
theorem exec_whCtrlClearCounters (s : State) :
    exec .whCtrlClearCounters s = .next (s.finish (s.hostWrite P.WH_CTRL 0 4)) := rfl
theorem exec_whTqctlEnable (s : State) (q : Fin 16) :
    exec (.whTqctlEnable q) s = .next (s.finish (s.hostWrite P.WH_TQCTL q.val 1)) := rfl
theorem exec_whTqctlDisable (s : State) (q : Fin 16) :
    exec (.whTqctlDisable q) s = .next (s.finish (s.hostWrite P.WH_TQCTL q.val 2)) := rfl
theorem exec_whTqctlClear (s : State) (q : Fin 16) :
    exec (.whTqctlClear q) s = .next (s.finish (s.hostWrite P.WH_TQCTL q.val 3)) := rfl
theorem exec_urgentRequestDispatch (s : State) (n : Fin 64) :
    exec (.urgentRequestDispatch n) s = .next (s.finish (s.urgentDispatch n.val)) := rfl

/-! ### `WH_CTRL` -/

/-- RUN is refused while class C is pending (R470). -/
theorem State.whRun_pendingC {s : State} (h : s.pendingC Fb.wheel = true) : s.whRun = s.answer Status.notPermitted :=
  if_pos h

/-- The engine as RUN starts it: afresh in UNREF (R60). -/
def Engine.started (e : Engine) (t : Nat) : Engine :=
  { e with
    state := .unref, reverse := false, standstill := false, referenced := false, travel := 0, zMark := none,
    errTravel := [], edgeTimes := [], ssiFrame := none, ssiBad := 0, scBad := 0, mainsSilent := false,
    mainsRise := none, mainsBad := 0, fromHold := false, lossFree := some t }

/-- RUN of a stopped engine starts it; with the VIRTUAL source it is a reference event too. -/
theorem State.whRun_stopped {s u : State} (hc : s.pendingC Fb.wheel = false) (hs : s.eng.state = .stopped)
    (hu : u = ((s.setEng (s.eng.started s.t)).interpFresh).lossUpdate) :
    s.whRun = (if (s.par P.WH_SRC == 4) = true then u.reference u.zofsPos none else u).done := by
  subst hu
  simp only [State.whRun, hc, hs]
  rfl

/-- In UNREF RUN is the reference event of the VIRTUAL source, and is refused with any other. -/
theorem State.whRun_unref {s : State} (hc : s.pendingC Fb.wheel = false) (hs : s.eng.state = .unref) :
    s.whRun = if (s.par P.WH_SRC == 4) = true then (s.reference s.zofsPos none).done else s.answer Status.notPermitted := by
  simp only [State.whRun, hc, hs]
  rfl

/-- RUN is refused outside STOPPED and UNREF. -/
theorem State.whRun_refused {s : State} (h1 : s.eng.state ≠ .stopped) (h2 : s.eng.state ≠ .unref) :
    s.whRun = s.answer Status.notPermitted := by
  rw [State.whRun]
  split
  · rfl
  · cases hs : s.eng.state with
    | stopped => exact absurd hs h1
    | unref => exact absurd hs h2
    | track | coast | hold => rfl

/-! ### `WH_TQCTL` -/

/-- A write at the reserved TQ15 is refused (R422). -/
theorem State.hostWrite_tq15_reserved {s : State} {v : Nat} (hup : s.hopperUp = true) (hr : s.resetting Fb.wheel = false)
    (hv : valueOk P.WH_TQCTL 15 v = true) (hq : s.tq15Reserved = true) : s.hostWrite P.WH_TQCTL 15 v = s.answer Status.notPermitted := by
  have hown : s.ownCheck P.WH_TQCTL 15 v = Status.notPermitted := by simp [State.ownCheck, hq]
  refine State.hostWrite_refused hup ?_ (by decide)
  rw [← hown]
  exact State.writeCheck_own (d := ⟨P.WH_TQCTL, .cmd, 16, .each [], .spans [(1, 3)]⟩) rfl (.inr rfl) (by decide) hv hr

/-! ### Urgent requests -/

/-- The dispatcher's URGENT_CONV on a comparator's request (R112). -/
theorem State.urgentDispatch_eq {s : State} {n : Nat} (ha : s.wheelActs = true) (hc : (s.cmp n).urgent = true) {u : State}
    {w : BitVec 64} (hu : u = s.setCmp n { s.cmp n with urgent := false, urgLost := false })
    (hw : w = actWord Act.urgentConv true 0 (s.par P.CMP_URGDST n) n) :
    s.urgentDispatch n =
      if u.isGated (codeBlock (actOwner w)) then u.gateHit (codeBlock (actOwner w)) { master := 6, access := 3 }
      else if u.actSkips w then u.bump P.WH_SKIPCNT
      else if actTarget w < 4 then u.sarUrgent (actTarget w) n { master := 6, access := 3 }
      else u.icUrgent (actTarget w - 0x10) n := by
  subst hu hw
  have hrun : (s.wheelActs && (s.cmp n).urgent) = true := by rw [ha, hc]; rfl
  exact if_pos hrun

/-! ### The obligation -/

/-- A write of `WH_CTRL` that the command layer takes runs the command of its code (Table 2.8). -/
theorem exec_whCtrl_commands (s : State) (hup : s.hopperUp = true) (hr : s.resetting Fb.wheel = false) :
    exec .whCtrlRun s = .next (s.finish s.whRun) ∧ exec .whCtrlStop s = .next (s.finish s.whStop) ∧
    exec .whCtrlReref s = .next (s.finish s.whReref) ∧ exec .whCtrlClearCounters s = .next (s.finish s.whClear) := by
  rw [exec_whCtrlRun, exec_whCtrlStop, exec_whCtrlReref, exec_whCtrlClearCounters, State.hostWrite_WH_CTRL hup rfl hr,
    State.hostWrite_WH_CTRL hup rfl hr, State.hostWrite_WH_CTRL hup rfl hr, State.hostWrite_WH_CTRL hup rfl hr]
  exact ⟨rfl, rfl, rfl, rfl⟩

/-- Settles O7: the commands are writes that the command layer takes, and each acts as its law above says. -/
theorem wheelAndTimeQueueCommandsComplete : Obligations.WheelAndTimeQueueCommandsComplete := by
  unfold Obligations.WheelAndTimeQueueCommandsComplete
  refine ⟨fun s hup hr => ?_, fun s q hup hr => ⟨fun hq => ?_, fun hq15 hq => ?_⟩, fun s n u w d ha hc hu hw hd => ?_⟩
  · obtain ⟨hrun, hstop, hreref, hclear⟩ := exec_whCtrl_commands s hup hr
    refine ⟨fun hpc hst u hu => ⟨fun hsrc => ?_, fun hsrc => ?_⟩, fun hpc hst hsrc => ?_, fun hpc => ?_, fun h1 h2 => ?_,
      hstop, fun hst => ?_, fun hst => ?_, hclear⟩
    · rw [hrun, State.whRun_stopped hpc hst hu, if_neg (by simpa using hsrc)]
    · rw [hrun, State.whRun_stopped hpc hst hu, if_pos (by simpa using hsrc)]
    · rw [hrun, State.whRun_unref hpc hst, if_pos (by simpa using hsrc)]
    · rw [hrun, State.whRun_pendingC hpc]
    · rw [hrun, State.whRun_refused h1 h2]
    · rw [hreref, State.whReref, if_pos hst]
    · rw [hreref, State.whReref, if_neg hst]
  · rw [exec_whTqctlEnable, exec_whTqctlDisable, exec_whTqctlClear, State.hostWrite_WH_TQCTL hup q.isLt rfl hr hq,
      State.hostWrite_WH_TQCTL hup q.isLt rfl hr hq, State.hostWrite_WH_TQCTL hup q.isLt rfl hr hq]
    exact ⟨rfl, rfl, rfl⟩
  · rw [exec_whTqctlEnable, exec_whTqctlDisable, exec_whTqctlClear, hq15, State.hostWrite_tq15_reserved hup hr rfl hq,
      State.hostWrite_tq15_reserved hup hr rfl hq, State.hostWrite_tq15_reserved hup hr rfl hq]
    exact ⟨rfl, rfl, rfl⟩
  · rw [exec_urgentRequestDispatch, State.urgentDispatch_eq ha hc hu hw, ← hd]
    refine ⟨fun hg => ?_, fun hg hs => ?_, fun hg hs ht => ?_, fun hg hs ht => ?_⟩
    · rw [if_pos hg]
    · rw [hg, hs]; rfl
    · rw [hg, hs, if_pos ht]; rfl
    · rw [hg, hs, if_neg (Nat.not_lt.mpr ht)]; rfl

end Sys2Proof.Machine
end

section
/-! Packets of the Wheel and of the converters (Tables 12.10 and 12.11). -/

namespace Sys2Proof.Machine

/-! ### The rules of packets -/

theorem targetOk_of_zero {p : Packet} (h : p.target = 0) : (p.target.toNat == 0) = true := by rw [h]; rfl

/-- A list's length is right where its count says so. -/
theorem counted_lenOk {p : Packet} {n : Nat} (h : p.payload.length = 4 + n) :
    (decide (4 ≤ p.payload.length) && p.payload.length == 4 + n) = true := by
  simp [h]

/-! ### What the Wheel's commands do -/

/-- A post of a good word in an open queue enters a store that has room (R42). -/
theorem State.runPost_stored {s : State} {p : Packet} {k : Nat} (hk : placeAt p.payload 0 = some k)
    (hb : s.placeBarred k = false) (hw : actStatus (BitVec.ofNat 64 (fieldAt p.payload 4 8)) = Status.ok)
    (hf : s.freeEntries ≠ 0) {r : Nat × State} (hr : r = s.post (BitVec.ofNat 64 (fieldAt p.payload 4 8)) k .none false) :
    s.runPost p = r.2.done (leBytes 4 r.1 ++ r.2.stampBytes) := by
  subst hr
  simp [State.runPost, postRecord, State.postStatus, hk, hb, hw, hf]

/-- A post that a full store cannot hold is refused with POSTFULL (Table 2.7). -/
theorem State.runPost_full {s : State} {p : Packet} {k : Nat} (hk : placeAt p.payload 0 = some k)
    (hb : s.placeBarred k = false) (hw : actStatus (BitVec.ofNat 64 (fieldAt p.payload 4 8)) = Status.ok)
    (hf : s.freeEntries = 0) : s.runPost p = s.postFull := by
  simp [State.runPost, postRecord, State.postStatus, hk, hb, hw, hf]

theorem State.runCancel_found {s : State} {p : Packet} {x : Action} (h : s.actionAt (fieldAt p.payload 0 4) = some x) :
    s.runCancel p = (s.unpost (fieldAt p.payload 0 4)).done := by
  simp [State.runCancel, h]

theorem State.runCancel_none {s : State} {p : Packet} (h : s.actionAt (fieldAt p.payload 0 4) = none) :
    s.runCancel p = s.answer Status.badTarget := by
  simp [State.runCancel, h]

theorem State.runClearQueue_open {s : State} {p : Packet} {k : Nat} (hk : placeAt p.payload 0 = some k)
    (hb : s.placeBarred k = false) : s.runClearQueue p = (s.unpostAll (fun x => x.place == k)).done
      (leBytes 4 (s.wheel.store.filter (fun e => e.2.place == k)).length) := by
  simp [State.runClearQueue, hk, hb]

/-- A queue is read in order of posting, from the entry asked for, and the entries that the check keeps are returned (R46). -/
theorem State.runReadQueue_place {s u : State} {p : Packet} {ecc : List StoreError} {k : Nat}
    {read out : List (Nat × Action)} (hk : placeAt p.payload 0 = some k)
    (hread : read = ((s.queueEntries k).drop (fieldAt p.payload 4 2)).take 84)
    (hu : u = read.foldl (fun v e => v.storeCheck ecc e.1) s) (hout : out = read.filter (fun e => (u.actionAt e.1).isSome)) :
    s.runReadQueue p ecc = u.done (leBytes 2 (min (u.queueEntries k).length 65535) ++ leBytes 2 out.length ++
      out.flatMap (fun e => leBytes 4 (e.1 + 2 ^ 31 * b2n (isGristAct e.2) + 2 ^ 30 * b2n (isBankB e.2)) ++
        leBytes 8 e.2.word.toNat)) := by
  subst hout hu hread
  simp only [State.runReadQueue, hk]

theorem State.runReadAction_found {s u : State} {p : Packet} {ecc : List StoreError} {x : Action}
    (hu : u = s.storeCheck ecc (fieldAt p.payload 0 4)) (h : u.actionAt (fieldAt p.payload 0 4) = some x) :
    s.runReadAction p ecc = u.done (placeBytes x.place ++ leBytes 8 x.word.toNat ++
      leBytes 4 (b2n (isGristAct x) + 2 * b2n (isBankB x))) := by
  subst hu
  simp only [State.runReadAction, h]

theorem State.runReadAction_none {s u : State} {p : Packet} {ecc : List StoreError}
    (hu : u = s.storeCheck ecc (fieldAt p.payload 0 4)) (h : u.actionAt (fieldAt p.payload 0 4) = none) :
    s.runReadAction p ecc = u.answer Status.badTarget := by
  subst hu
  simp only [State.runReadAction, h]

theorem State.runWaitBin_range {s : State} {p : Packet} (h1 : 1 ≤ fieldAt p.payload 4 4) (h2 : fieldAt p.payload 4 4 ≤ 60000) :
    s.runWaitBin p = s.answer Status.acceptedPending := if_neg (by omega)

/-! ### What the converters' commands do -/

theorem State.lastReply_some (s : State) (k : Nat) {o : Option LastRecord} {x : LastRecord} (h : o = some x) :
    s.lastReply k o = s.done (leBytes 4 x.word.toNat ++ leBytes 6 x.angle ++ leBytes 8 x.time) := by
  subst h; rfl

theorem State.runReadResult_entry {s : State} {p : Packet} {x : LastRecord} (ht : p.target.toNat < 192)
    (h : tblGet none (s.group (p.target.toNat / 48)).last (p.target.toNat % 48) = some x) :
    s.runReadResult p = s.done (leBytes 4 x.word.toNat ++ leBytes 6 x.angle ++ leBytes 8 x.time) :=
  (if_pos ht).trans (s.lastReply_some _ h)

theorem State.runReadResult_ic {s : State} {p : Packet} {x : LastRecord} (ht : 0x100 ≤ p.target.toNat)
    (h : (s.ic (p.target.toNat - 0x100)).last = some x) :
    s.runReadResult p = s.done (leBytes 4 x.word.toNat ++ leBytes 6 x.angle ++ leBytes 8 x.time) :=
  (if_neg (by simp only [packetTarget]; omega)).trans (s.lastReply_some _ h)

theorem State.runScanLoad_range {s : State} {p : Packet} (h1 : 1 ≤ fieldAt p.payload 1 1)
    (h2 : fieldAt p.payload 0 1 + fieldAt p.payload 1 1 ≤ 48) : s.runScanLoad p =
      s.loadWords p (P.SAR_G0SCAN + packetTarget p) (fieldAt p.payload 0 1) (fieldAt p.payload 1 1) 4 :=
  if_neg (by simp only [byte0]; omega)

theorem State.runScanRead_range {s : State} {p : Packet} (h1 : 1 ≤ fieldAt p.payload 1 1)
    (h2 : fieldAt p.payload 0 1 + fieldAt p.payload 1 1 ≤ 48) : s.runScanRead p =
      s.readMany (packetPort p) ((List.range (fieldAt p.payload 1 1)).map (fun k =>
        (P.SAR_G0SCAN + packetTarget p, fieldAt p.payload 0 1 + k))) :=
  if_neg (by simp only [byte0]; omega)

/-! ### Admitted packets -/

/-- An admitted packet of an opcode whose steps 8 and 9 pass executes as the command does. -/
theorem State.next_native {s a b : State} {p : Packet} {op : Nat} {r : Rule} {run : State → State} (ha : a = s.admitted p op)
    (h : s.Admits p op r.free r.pend) (hl : r.lenOk = true) (ht : r.targetOk = true)
    (ho : r.owner = true → a.owns (portCode p.port) = true) (hz : r.zeroOk = true) (hrun : run a = b) :
    (.next (s.finish (s.native p op r run)) : Host.Outcome State Fault Refusal) =
      .next (s.finish (b.executed p op r.limit r.arg)) := by
  subst ha
  rw [State.native_admits h hl ht ho hz, hrun]

variable {s a b : State} {p : Packet}

theorem postAction_admitted (ha : a = s.admitted p 0x30) (h : s.Admits p 0x30 false false)
    (ho : a.owns (portCode p.port) = true) (hl : p.payload.length = 12) (ht : p.target = 0) (hrun : a.runPost p = b) :
    exec (.postAction p) s = .next (s.finish (b.executed p 0x30)) :=
  State.next_native ha h (beq_iff_eq.mpr hl) (targetOk_of_zero ht) (fun _ => ho) rfl hrun

theorem postMulti_admitted (ha : a = s.admitted p 0x33) (h : s.Admits p 0x33 false false)
    (ho : a.owns (portCode p.port) = true) (hl : p.payload.length = 4 + 12 * fieldAt p.payload 0 2) (ht : p.target = 0)
    (hz : fieldAt p.payload 2 2 = 0) : exec (.postMulti p) s = .next (s.finish ((a.runPostMulti p).executed p 0x33)) :=
  State.next_native ha h (counted_lenOk hl) (targetOk_of_zero ht) (fun _ => ho) (beq_iff_eq.mpr hz) rfl

theorem cancelAction_admitted (ha : a = s.admitted p 0x31) (h : s.Admits p 0x31 false false)
    (ho : a.owns (portCode p.port) = true) (hl : p.payload.length = 4) (ht : p.target = 0) (hrun : a.runCancel p = b) :
    exec (.cancelAction p) s = .next (s.finish (b.executed p 0x31)) :=
  State.next_native ha h (beq_iff_eq.mpr hl) (targetOk_of_zero ht) (fun _ => ho) rfl hrun

theorem clearQueue_admitted (ha : a = s.admitted p 0x32) (h : s.Admits p 0x32 false false)
    (ho : a.owns (portCode p.port) = true) (hl : p.payload.length = 4) (ht : p.target = 0) (hrun : a.runClearQueue p = b) :
    exec (.clearQueue p) s = .next (s.finish (b.executed p 0x32)) :=
  State.next_native ha h (beq_iff_eq.mpr hl) (targetOk_of_zero ht) (fun _ => ho) rfl hrun

theorem readQueue_admitted {ecc : List StoreError} (ha : a = s.admitted p 0x34) (h : s.Admits p 0x34 false false)
    (hl : p.payload.length = 8) (ht : p.target = 0) (hz : fieldAt p.payload 6 2 = 0) (hrun : a.runReadQueue p ecc = b) :
    exec (.readQueue p ecc) s = .next (s.finish (b.executed p 0x34)) :=
  State.next_native ha h (beq_iff_eq.mpr hl) (targetOk_of_zero ht) nofun (beq_iff_eq.mpr hz) hrun

theorem readAction_admitted {ecc : List StoreError} (ha : a = s.admitted p 0x35) (h : s.Admits p 0x35 false false)
    (hl : p.payload.length = 4) (ht : p.target = 0) (hrun : a.runReadAction p ecc = b) :
    exec (.readAction p ecc) s = .next (s.finish (b.executed p 0x35)) :=
  State.next_native ha h (beq_iff_eq.mpr hl) (targetOk_of_zero ht) nofun rfl hrun

theorem getAngle_admitted (ha : a = s.admitted p 0x36) (h : s.Admits p 0x36 false false) (hl : p.payload = [])
    (ht : p.target = 0) : exec (.getAngle p) s = .next (s.finish (a.runGetAngle.executed p 0x36)) :=
  State.next_native ha h (List.isEmpty_iff.mpr hl) (targetOk_of_zero ht) nofun rfl rfl

theorem waitBin_admitted (ha : a = s.admitted p 0x37) (h : s.Admits p 0x37 false true) (hl : p.payload.length = 8)
    (ht : p.target = 0) (hz : fieldAt p.payload 2 2 = 0) (hrun : a.runWaitBin p = b) :
    exec (.waitBin p) s =
      .next (s.finish (b.executed p 0x37 (msTicks (fieldAt p.payload 4 4)) (fieldAt p.payload 0 2))) :=
  State.next_native ha h (beq_iff_eq.mpr hl) (targetOk_of_zero ht) nofun (beq_iff_eq.mpr hz) hrun

theorem readResult_admitted (ha : a = s.admitted p 0x40) (h : s.Admits p 0x40 false false) (hl : p.payload.length = 0)
    (ht : packetTarget p < 192 ∨ 0x100 ≤ packetTarget p ∧ packetTarget p ≤ 0x107) (hrun : a.runReadResult p = b) :
    exec (.readResult p) s = .next (s.finish (b.executed p 0x40)) :=
  State.next_native ha h (beq_iff_eq.mpr hl) (by simpa using ht) nofun rfl hrun

theorem readLane_admitted (ha : a = s.admitted p 0x41) (h : s.Admits p 0x41 false false) (hl : p.payload.length = 0)
    (ht : p.target.toNat < 32)
    (hrun : a.lastReply (0x200 + packetTarget p) (a.lane (packetTarget p)).last = b) :
    exec (.readLane p) s = .next (s.finish (b.executed p 0x41)) :=
  State.next_native ha h (beq_iff_eq.mpr hl) (decide_eq_true ht) nofun rfl hrun

theorem scanLoad_admitted (ha : a = s.admitted p 0x42) (h : s.Admits p 0x42 false false)
    (ho : a.owns (portCode p.port) = true) (hl : p.payload.length = 4 + 4 * fieldAt p.payload 1 1)
    (ht : p.target.toNat < 4) (hz : fieldAt p.payload 2 2 = 0) (hrun : a.runScanLoad p = b) :
    exec (.scanLoad p) s = .next (s.finish (b.executed p 0x42)) :=
  State.next_native ha h (counted_lenOk hl) (decide_eq_true ht) (fun _ => ho) (beq_iff_eq.mpr hz) hrun

theorem scanRead_admitted (ha : a = s.admitted p 0x45) (h : s.Admits p 0x45 false false) (hl : p.payload.length = 4)
    (ht : p.target.toNat < 4) (hz : fieldAt p.payload 2 2 = 0) (hrun : a.runScanRead p = b) :
    exec (.scanRead p) s = .next (s.finish (b.executed p 0x45)) :=
  State.next_native ha h (beq_iff_eq.mpr hl) (decide_eq_true ht) nofun (beq_iff_eq.mpr hz) hrun

theorem coefLoad_admitted (ha : a = s.admitted p 0x43) (h : s.Admits p 0x43 false false)
    (ho : a.owns (portCode p.port) = true) (hl : p.payload.length = 128) (ht : p.target.toNat < 4) :
    exec (.coefLoad p) s = .next (s.finish ((a.loadWords p (P.FL_CU0 + packetTarget p) 0 32 0).executed p 0x43)) :=
  State.next_native ha h (beq_iff_eq.mpr hl) (decide_eq_true ht) (fun _ => ho) rfl rfl

theorem coefRead_admitted (ha : a = s.admitted p 0x44) (h : s.Admits p 0x44 false false) (hl : p.payload.length = 0)
    (ht : p.target.toNat < 4) : exec (.coefRead p) s = .next (s.finish
      ((a.readMany (packetPort p) ((List.range 32).map (fun k => (P.FL_CU0 + packetTarget p, k)))).executed p 0x44)) :=
  State.next_native ha h (beq_iff_eq.mpr hl) (decide_eq_true ht) nofun rfl rfl

end Sys2Proof.Machine
end

section
/-! What the clauses on admitted packets rest on comes together (Tables 12.10 and 12.11). -/

namespace Sys2Proof.Machine

/-- Settles O29: each row's packet, admitted, runs its command, whose effect is the law above for the clause's case. -/
theorem wheelAndConverterPacketsAreAnswered : Obligations.WheelAndConverterPacketsAreAnswered := by
  unfold Obligations.WheelAndConverterPacketsAreAnswered
  rintro s p _ _ rfl rfl
  refine ⟨fun a ha k w r h ho hl ht hk hb hw hst hf hr => ?_, fun a ha k h ho hl ht hk hb hst hf => ?_,
    fun a ha h ho hl ht hz => postMulti_admitted ha h ho hl ht hz, fun a ha x h ho hl ht hx => ?_,
    fun a ha h ho hl ht hx => ?_, fun a ha k h ho hl ht hk hb => ?_, fun a ha ecc h hl ht hz => ?_,
    fun a ha ecc k read out u h hl ht hz hk hread hu hout => ?_, fun a ha ecc u h hl ht hu => ⟨fun x hx => ?_, fun hx => ?_⟩,
    fun a ha h hl ht => getAngle_admitted ha h hl ht, fun a ha h hl ht hz h1 h2 => ?_, fun a ha x h hl ht hx => ?_,
    fun a ha x h hl h1 h2 hx => ?_, fun a ha x h hl ht hx => ?_, fun a ha h ho hl ht hz h1 h2 => ?_,
    fun a ha h hl ht hz h1 h2 => ?_, fun a ha h ho hl ht => coefLoad_admitted ha h ho hl ht,
    fun a ha h hl ht => coefRead_admitted ha h hl ht⟩
  · subst hw
    exact postAction_admitted ha h ho hl ht (State.runPost_stored hk hb hst hf hr)
  · exact postAction_admitted ha h ho hl ht (State.runPost_full hk hb hst hf)
  · exact cancelAction_admitted ha h ho hl ht (State.runCancel_found hx)
  · exact cancelAction_admitted ha h ho hl ht (State.runCancel_none hx)
  · exact clearQueue_admitted ha h ho hl ht (State.runClearQueue_open hk hb)
  · exact readQueue_admitted ha h hl ht hz rfl
  · exact readQueue_admitted ha h hl ht hz (State.runReadQueue_place hk hread hu hout)
  · exact readAction_admitted ha h hl ht (State.runReadAction_found hu hx)
  · exact readAction_admitted ha h hl ht (State.runReadAction_none hu hx)
  · exact waitBin_admitted ha h hl ht hz (State.runWaitBin_range h1 h2)
  · exact readResult_admitted ha h hl (.inl ht) (State.runReadResult_entry ht hx)
  · exact readResult_admitted ha h hl (.inr ⟨h1, h2⟩) (State.runReadResult_ic h1 hx)
  · exact readLane_admitted ha h hl ht (State.lastReply_some _ _ hx)
  · exact scanLoad_admitted ha h ho hl ht hz (State.runScanLoad_range h1 h2)
  · exact scanRead_admitted ha h hl ht hz (State.runScanRead_range h1 h2)

end Sys2Proof.Machine
end

section
/-! Evaluation steps and time queues (R37–R50). -/

namespace Sys2Proof.Machine

theorem exec_evaluationStep (s : State) (ecc : List StoreError) :
    exec (.evaluationStep ecc) s = .next (s.finish (s.evaluationStep ecc)) := rfl
theorem exec_timeQueueDue (s : State) (q : Fin 16) (ecc : List StoreError) :
    exec (.timeQueueDue q ecc) s = .next (s.finish (s.timeQueueDue q.val ecc)) := rfl

/-! ### When a step runs -/

/-- Bins ahead of the high-water mark start a step (R38). -/
theorem State.evaluationStep_run {s : State} (ecc : List StoreError) (hf : s.stepFree = true) (hn : 0 < s.binsAhead) :
    s.evaluationStep ecc = s.evalStep ecc :=
  if_pos (by simp [hf, hn])

theorem State.mem_dueQueues {s : State} {q : Nat} :
    q ∈ s.dueQueues ↔ q < 16 ∧ (s.queue q).enabled = true ∧ (s.queue q).due ≤ s.t := by
  simp [State.dueQueues]

theorem State.dueQueues_nodup (s : State) : s.dueQueues.Nodup := List.nodup_range.filter _

/-- A due queue starts a step (R49). -/
theorem State.timeQueueDue_run {s : State} {q : Nat} (ecc : List StoreError) (hf : s.stepFree = true) (hq : q ∈ s.dueQueues) :
    s.timeQueueDue q ecc = s.evalStep ecc :=
  if_pos (by simp [hf, hq])

/-- A step is one pass: live values, bins counted, every action dispatched, lateness noted, and the step's end. -/
theorem State.evalStep_eq {s u t : State} {ecc : List StoreError} {n : Nat} {qs : List Nat} {run : StepRun}
    (hu : u = s.takeLive Fb.wheel) (hn : n = u.binsAhead) (hqs : qs = u.dueQueues)
    (hrun : run = (u.firings n qs).foldl (fun (x : StepRun) f => x.fire ecc f) { s := u.advanceBins n })
    (ht : t = if run.late = true ∧ run.s.eng.lateEpisode = false then run.s.raise Fb.wheel 1 1 else run.s) :
    s.evalStep ecc = (t.setEng { t.eng with lateEpisode := run.late }).stepEnd u n qs := by
  have hlate : t = if run.late then (if run.s.eng.lateEpisode then run.s else run.s.raise Fb.wheel 1 1) else run.s := by
    rw [ht]
    cases run.late <;> cases run.s.eng.lateEpisode <;> rfl
  subst hlate hrun hqs hn hu
  rfl

/-! ### A step that reads no action -/

theorem State.takeLive_of_pend_nil {s : State} (b : Nat) (h : s.pend = []) : s.takeLive b = s := by
  simp [State.takeLive, h]

theorem State.advanceBins_of_none {s : State} (n : Int) (hc : s.cells = []) (hi : s.ics = []) : s.advanceBins n = s := by
  simp [State.advanceBins, State.rampAll, State.icAdvance, hc, hi]

theorem State.firings_of_store_nil {s : State} (n : Nat) (qs : List Nat) (h : s.wheel.store = []) : s.firings n qs = [] := by
  simp [State.firings, queueOrder, sortBy, h]

/-- With no live value, ramp, converter or action a step is its end alone, and it is not late. -/
theorem State.evalStep_of_idle {s : State} (hw : s.wheel.store = []) (hp : s.pend = []) (hc : s.cells = []) (hi : s.ics = []) :
    s.evalStep [] = (s.setEng { s.eng with lateEpisode := false }).stepEnd s s.binsAhead s.dueQueues := by
  have hrun : StepRun.mk s 0 false = (s.firings s.binsAhead s.dueQueues).foldl (fun (x : StepRun) f => x.fire [] f)
      { s := s.advanceBins s.binsAhead } := by
    rw [State.firings_of_store_nil _ _ hw, State.advanceBins_of_none _ hc hi, List.foldl_nil]
  have hlate : s = if (StepRun.mk s 0 false).late = true ∧ s.eng.lateEpisode = false then s.raise Fb.wheel 1 1 else s :=
    (if_neg (fun h => Bool.false_ne_true h.1)).symm
  exact State.evalStep_eq (run := StepRun.mk s 0 false) (s.takeLive_of_pend_nil Fb.wheel hp).symm rfl rfl hrun hlate

/-! ### Time queues that fire -/

/-- The queue `x` after it has fired in a step at `t`: due by whole periods later, or disabled (R49, R50). -/
def TimeQueue.fired (x : TimeQueue) (per t : Nat) : TimeQueue :=
  if per = 0 then { x with enabled := false }
  else { x with due := (x.due + per + (if x.due + per ≤ t then (t - (x.due + per)) / per + 1 else 0) * per) % 2 ^ 64 }

@[simp] theorem State.setQueue_queue_same (s : State) (q : Nat) (x : TimeQueue) : (s.setQueue q x).queue q = x :=
  tblGet_tblSet_same _ _ _ _

theorem State.setQueue_queue_ne (s : State) {q r : Nat} (x : TimeQueue) (h : r ≠ q) : (s.setQueue q x).queue r = s.queue r :=
  tblGet_tblSet_ne _ _ _ _ h

/-- A queue that fires changes the queues' table and `WH_LATECNT`, and so no period. -/
theorem State.queueFired_shape (s : State) (q : Nat) : ∃ p, s.queueFired q =
    { s.setQueue q ((s.queue q).fired (s.par P.WH_TQPER q) s.t) with params := p } ∧
    ∀ i, i < 256 → bankGet p P.WH_TQPER i = s.par P.WH_TQPER i := by
  simp only [State.queueFired, TimeQueue.fired]
  split
  · exact ⟨_, rfl, fun _ _ => rfl⟩
  · exact ⟨_, rfl, fun i hi => State.par_setPar_ne _ _ (paramKey_ne hi (by decide) (.inl (by decide)))⟩

/-- Queues that fire change the queues' table and parameters, and nothing else. -/
theorem State.queuesFired_shape (s : State) (qs : List Nat) : ∃ w p, qs.foldl State.queueFired s =
    { s with wheel := { s.wheel with queues := w }, params := p } := by
  induction qs generalizing s with
  | nil => exact ⟨_, _, rfl⟩
  | cons q qs ih =>
    obtain ⟨p1, h1, -⟩ := s.queueFired_shape q
    obtain ⟨w, p, h⟩ := ih (s.queueFired q)
    exact ⟨w, p, by rw [List.foldl_cons, h, h1]; rfl⟩

/-- A queue outside those that fire stays as it is. -/
theorem State.queuesFired_queue_of_not_mem {s : State} {qs : List Nat} {q : Nat} (h : q ∉ qs) :
    (qs.foldl State.queueFired s).queue q = s.queue q := by
  induction qs generalizing s with
  | nil => rfl
  | cons r qs ih =>
    obtain ⟨p, hr, -⟩ := s.queueFired_shape r
    rw [List.foldl_cons, ih (List.not_mem_of_not_mem_cons h), hr]
    exact s.setQueue_queue_ne _ (List.ne_of_not_mem_cons h)

/-- Each queue of those that fire does so once. -/
theorem State.queuesFired_queue {s : State} {qs : List Nat} {q : Nat} (hn : qs.Nodup) (hq : q ∈ qs) (hlt : q < 256) :
    (qs.foldl State.queueFired s).queue q = (s.queue q).fired (s.par P.WH_TQPER q) s.t := by
  induction qs generalizing s with
  | nil => cases hq
  | cons r qs ih =>
    obtain ⟨hr, hn⟩ := List.nodup_cons.mp hn
    obtain ⟨p, hs, hper⟩ := s.queueFired_shape r
    rw [List.foldl_cons]
    by_cases h : q = r
    · subst h
      rw [State.queuesFired_queue_of_not_mem hr, hs]
      exact s.setQueue_queue_same q _
    · have hkept : (s.queueFired r).queue q = s.queue q := by rw [hs]; exact s.setQueue_queue_ne _ h
      have hpar : (s.queueFired r).par P.WH_TQPER q = s.par P.WH_TQPER q := by rw [hs]; exact hper q hlt
      have ht : (s.queueFired r).t = s.t := by rw [hs]; rfl
      rw [ih hn ((List.mem_cons.mp hq).resolve_left h), hkept, hpar, ht]

/-- A one-shot queue that has fired is disabled (R49). -/
theorem TimeQueue.fired_oneShot (x : TimeQueue) (t : Nat) : x.fired 0 t = { x with enabled := false } := rfl

/-- A periodic queue that has fired is due again by whole periods, after the step (R50). -/
theorem TimeQueue.fired_periodic (x : TimeQueue) {per : Nat} (t : Nat) (h : 0 < per) : ∃ k,
    x.fired per t = { x with due := (x.due + (k + 1) * per) % 2 ^ 64 } ∧ t < x.due + (k + 1) * per := by
  have hdue (k : Nat) : x.due + (k + 1) * per = x.due + per + k * per := by ring
  refine ⟨if x.due + per ≤ t then (t - (x.due + per)) / per + 1 else 0, ?_, ?_⟩
  · rw [hdue, TimeQueue.fired, if_neg h.ne']
  · rw [hdue]
    split
    · have hlt := Nat.lt_mul_div_succ (t - (x.due + per)) h
      rw [Nat.mul_comm] at hlt
      omega
    · omega

/-! ### The end of a step -/

/-- No session has a command that waits for a bin. -/
theorem State.waitBins_of_sessions_nil {s : State} (n : Nat) (h : s.sessions = []) : s.waitBins n = s := by
  simp [State.waitBins, State.session, tblGet, h]

theorem State.coalesce_shape (s : State) (n : Nat) :
    ∃ o d, s.coalesce n = { s with eng := { s.eng with overspeed := o }, todo := d } := by
  simp only [State.coalesce]
  repeat' split
  all_goals exact ⟨_, _, rfl⟩

/-- The end of a step that meets no waiting command, changeover or snapshot bin sets the high-water mark and notes the step
(R37, R39); of the Wheel it changes what the queues that fire do. -/
theorem State.stepEnd_shape {s s0 : State} {n : Nat} {qs : List Nat} (hs : s.sessions = [])
    (hstart : s0.crossings n (s0.par P.GR_STARTBIN) = []) (hsnap : s0.crossings n (s0.par P.SL_SNAPBIN) = []) :
    ∃ o p d, s.stepEnd s0 n qs = { s with
      eng := { s.eng with
        overspeed := o, hwm := if n = 0 then s.eng.hwm else binOf s0.eng.pos
        firstCrossed := if n = 0 then s.eng.firstCrossed else none, lastStep := some s.t }
      wheel := (qs.foldl State.queueFired s).wheel, params := p, todo := d } := by
  obtain ⟨w, p, hq⟩ := s.queuesFired_shape qs
  generalize hv : qs.foldl State.queueFired s = v at hq ⊢
  have hwait : (if n = 0 then v else v.waitBins n) = v := by
    split
    · rfl
    · exact State.waitBins_of_sessions_nil n (by rw [hq]; exact hs)
  obtain ⟨o, d, hc⟩ := v.coalesce_shape n
  simp only [State.stepEnd, hv, hwait, hstart, hsnap, hc, List.foldl_nil, List.isEmpty_nil, if_true]
  rw [hq]
  exact ⟨o, _, d, rfl⟩

/-! ### The obligation -/

/-- Settles O6: a step is the pass of `evalStep_eq`; where it reads no action it is its end alone, whose shape gives what it
leaves, and a queue that is due fires in it once. -/
theorem evaluationStepsRunAndAdvance : Obligations.EvaluationStepsRunAndAdvance := by
  unfold Obligations.EvaluationStepsRunAndAdvance
  refine ⟨fun s ecc hf u t n qs run hu hn hqs hrun ht => ⟨fun hb => ?_, fun q hen hdue => ?_⟩,
    fun s hf hw hp hc hi hs hstart hsnap => ?_⟩
  · rw [exec_evaluationStep, State.evaluationStep_run ecc hf hb, State.evalStep_eq hu hn hqs hrun ht]
  · rw [exec_timeQueueDue, State.timeQueueDue_run ecc hf (State.mem_dueQueues.mpr ⟨q.isLt, hen, hdue⟩),
      State.evalStep_eq hu hn hqs hrun ht]
  · obtain ⟨o, p, d, hend⟩ := State.stepEnd_shape (s := s.setEng { s.eng with lateEpisode := false }) (qs := s.dueQueues)
      hs hstart hsnap
    rw [← State.evalStep_of_idle hw hp hc hi] at hend
    refine ⟨fun hb => ⟨_, by rw [exec_evaluationStep, State.evaluationStep_run [] hf hb], ?_⟩, fun q hen hdue => ?_⟩
    · rw [hend]
      refine ⟨if_neg hb.ne', if_neg hb.ne', rfl, rfl, rfl, fun hq => ?_, rfl, rfl, rfl, rfl⟩
      simp only [hq]
      rfl
    · have hq : q.val ∈ s.dueQueues := State.mem_dueQueues.mpr ⟨q.isLt, hen, hdue⟩
      have hfired : (s.evalStep []).queue q.val = (s.queue q.val).fired (s.par P.WH_TQPER q.val) s.t := by
        rw [hend]
        exact State.queuesFired_queue s.dueQueues_nodup hq (q.isLt.trans (by decide))
      refine ⟨_, by rw [exec_timeQueueDue, State.timeQueueDue_run [] hf hq], ?_⟩
      rw [hfired, hend]
      refine ⟨rfl, rfl, fun hb => ⟨if_pos hb, if_pos hb⟩, fun hper => ?_, fun hper => ?_, ?_, rfl, rfl, rfl, rfl⟩
      · rw [hper, TimeQueue.fired_oneShot]
      · obtain ⟨k, hk, hlt⟩ := (s.queue q.val).fired_periodic s.t hper
        rw [hk]
        exact ⟨k, hen, rfl, hlt⟩
      · obtain ⟨w, p, hqs⟩ := (s.setEng { s.eng with lateEpisode := false }).queuesFired_shape s.dueQueues
        simp only [hqs]
        exact hw

end Sys2Proof.Machine
end

section
/-! Settling and the detectors of a cell (R68–R70, Table 3.6). -/

namespace Sys2Proof.Machine

theorem exec_settlingEnd (s : State) (n : Fin 64) :
    exec (.settlingEnd n) s = .next (s.finish (s.blockEvent (fun s => s.settlingEnd n.val))) := rfl
theorem exec_ovr (s : State) (n : Fin 64) : exec (.ovr n) s = .next (s.finish (s.liveEvent (fun s => s.ovr n.val))) := rfl
theorem exec_inclamp (s : State) (n : Fin 64) :
    exec (.inclamp n) s = .next (s.finish (s.liveEvent (fun s => s.cellDetect n.val 1 1 isInputMode))) := rfl
theorem exec_openin (s : State) (n : Fin 64) : exec (.openin n) s =
    .next (s.finish (s.liveEvent (fun s => if s.burnoutOn n.val then s.cellDetect n.val 2 2 isInputMode else s))) := rfl
theorem exec_excflt (s : State) (n : Fin 64) :
    exec (.excflt n) s = .next (s.finish (s.liveEvent (fun s => s.cellDetect n.val 3 2 isExciteMode))) := rfl
theorem exec_outopen (s : State) (n : Fin 64) :
    exec (.outopen n) s = .next (s.finish (s.liveEvent (fun s => s.cellDetect n.val 4 2 (· == 6)))) := rfl
theorem exec_outlim (s : State) (n : Fin 64) (bad : Bool) : exec (.outlim n bad) s = .next (s.finish
    (s.liveEvent (fun s => { s with flt := { s.flt with logBad := bad } }.cellDetect n.val 5 3 (· == 5)))) := rfl
theorem exec_hvrail (s : State) (n : Fin 64) : exec (.hvrail n) s = .next (s.finish
    (s.liveEvent (fun s => s.cellDetect n.val 6 3 (fun m => m == 3 || isOutputMode m)))) := rfl

/-- A block's event acts outside resets and Halt (R481, R570). -/
theorem State.blockEvent_alive {s : State} (f : State → State) (h : s.alive = true) : s.blockEvent f = f s := if_pos h

/-- An event that reaches the device acts while it runs (R570). -/
theorem State.liveEvent_running {s : State} (f : State → State) (h : s.pwr.phase = .running) : s.liveEvent f = f s := if_pos h

/-- At the end of its settling time a cell that settles, itself or its readback, is ACTIVE (R69, R70). -/
theorem State.settlingEnd_due {s : State} {n e : Nat} (he : (s.cell n).settleEnd = some e) (ht : e ≤ s.t)
    (hst : (s.cell n).state = .settling ∨ (s.cell n).state = .active) :
    s.settlingEnd n = s.setCell n { s.cell n with state := .active, settleEnd := none, seqDue := true } := by
  simp only [State.settlingEnd, he]
  exact if_pos ⟨ht, hst⟩

/-- A detector that the cell's mode admits records at the start of its episode (Table 3.6). -/
theorem State.cellDetect_admitted {s : State} {n : Nat} {applies : Nat → Bool} (det cls : Nat) (hoff : (s.cell n).state ≠ .off)
    (hm : applies (s.par P.AC_MODE n) = true) : s.cellDetect n det cls applies = s.raiseEpisode (Fb.cell n) det cls :=
  if_pos ⟨hoff, hm⟩

/-- OVR is counted and recorded at the start of its episode (Table 3.6). -/
theorem State.ovr_starts {s : State} {n : Nat} (hoff : (s.cell n).state ≠ .off) (hg : (s.cell n).state ≠ .gated)
    (he : s.episodeOpen (Fb.cell n) 0 = false) : s.ovr n = (s.bump P.AC_OVRCNT n).raiseEpisode (Fb.cell n) 0 1 :=
  if_neg (by simp [hoff, hg, he])

/-- The burnout source is on in IN-DIFF and IN-BRIDGE with `AC_BURNOUT` at 1 (R68). -/
theorem State.burnoutOn_iff {s : State} {n : Nat} :
    s.burnoutOn n = true ↔ s.par P.AC_BURNOUT n = 1 ∧ (s.par P.AC_MODE n = 2 ∨ s.par P.AC_MODE n = 4) := by
  simp [State.burnoutOn]

/-- A cell whose burnout source is on is in an input mode (R68). -/
theorem State.isInputMode_of_burnoutOn {s : State} {n : Nat} (h : s.burnoutOn n = true) :
    isInputMode (s.par P.AC_MODE n) = true := by
  obtain ⟨-, hm | hm⟩ := State.burnoutOn_iff.mp h <;> rw [hm] <;> rfl

/-- Settles O9: `settlingEnd_due` for the end of settling; each detector's row is the detector where the mode admits it. -/
theorem settlingAndCellDetectorsAct : Obligations.SettlingAndCellDetectorsAct := by
  unfold Obligations.SettlingAndCellDetectorsAct
  refine ⟨fun s n e ha he ht hst => ?_, fun s n hp hoff => ⟨fun hg he => ?_, fun hm => ?_, fun hm hb => ?_, fun hm => ?_,
    fun hm => ?_, fun hm bad => ?_, fun hm => ?_⟩⟩
  · rw [exec_settlingEnd, State.blockEvent_alive _ ha, State.settlingEnd_due he ht hst]
  · rw [exec_ovr, State.liveEvent_running _ hp, State.ovr_starts hoff hg he]
  · rw [exec_inclamp, State.liveEvent_running _ hp, State.cellDetect_admitted 1 1 hoff hm]
  · have hon : s.burnoutOn n.val = true := State.burnoutOn_iff.mpr ⟨hb, hm⟩
    rw [exec_openin, State.liveEvent_running _ hp, if_pos hon,
      State.cellDetect_admitted 2 2 hoff (State.isInputMode_of_burnoutOn hon)]
  · rw [exec_excflt, State.liveEvent_running _ hp, State.cellDetect_admitted 3 2 hoff hm]
  · rw [exec_outopen, State.liveEvent_running _ hp, State.cellDetect_admitted 4 2 hoff (by simpa using hm)]
  · have hm' : (s.par P.AC_MODE n.val == 5) = true := by simpa using hm
    rw [exec_outlim, State.liveEvent_running _ hp,
      State.cellDetect_admitted (s := { s with flt := { s.flt with logBad := bad } }) 5 3 hoff hm']
  · rw [exec_hvrail, State.liveEvent_running _ hp, State.cellDetect_admitted 6 3 hoff (by simpa using hm)]

end Sys2Proof.Machine
end

section
/-! Output codes: writes of `AC_OUT`, and codes that come into force (R73–R75, R374–R376). -/

namespace Sys2Proof.Machine

/-! ### Writes of `AC_OUT` -/

theorem exec_acOutWrite (s : State) (n : Fin 64) (v : Word) :
    exec (.acOutWrite n v) s = .next (s.finish (s.hostWrite P.AC_OUT n.val v.toNat)) := rfl

/-- `AC_OUT` in the parameter table. -/
def acOutDef : ParamDef := ⟨P.AC_OUT, .rwLive, 64, .all 0x8000, .spans [(0, 65535)]⟩

/-- `AC_OUT` takes codes of 16 bits. -/
theorem valueOk_AC_OUT (inst v : Nat) : valueOk P.AC_OUT inst v = decide (v < 65536) := by
  have h : valueOk P.AC_OUT inst v = (inSpans [(0, 65535)] v && true) := rfl
  rw [h, Bool.eq_iff_iff]
  simp [inSpans]
  omega

/-- A cell's state and mode decide whether it takes a write of `AC_OUT` (R74). -/
theorem State.ownCheck_AC_OUT (s : State) (n v : Nat) : s.ownCheck P.AC_OUT n v =
    if (s.cell n).state = .safe then Status.faultState
    else if isOutputMode (s.par P.AC_MODE n) then Status.ok else Status.notPermitted := rfl

/-- A write of `AC_OUT` that the cell takes waits for the cell's sample boundary (R376). -/
theorem State.hostWrite_AC_OUT {s : State} {n v : Nat} (hup : s.hopperUp = true) (hn : n < 64) (hv : v < 65536)
    (hr : s.resetting (Fb.cell n) = false) (ho : s.ownCheck P.AC_OUT n v = Status.ok) :
    s.hostWrite P.AC_OUT n v = (s.cellAccept n P.AC_OUT v).done :=
  State.hostWrite_live (d := acOutDef) rfl hup rfl hn (by simpa [valueOk_AC_OUT] using hv) hr ho rfl

/-- A write of `AC_OUT` that the cell does not take is answered with the status that says why (R374). -/
theorem State.hostWrite_AC_OUT_refused {s : State} {n v : Nat} (hup : s.hopperUp = true) (hn : n < 64) (hv : v < 65536)
    (hr : s.resetting (Fb.cell n) = false) (ho : s.ownCheck P.AC_OUT n v ≠ Status.ok) :
    s.hostWrite P.AC_OUT n v = s.answer (s.ownCheck P.AC_OUT n v) :=
  State.hostWrite_refused hup
    (State.writeCheck_own (d := acOutDef) rfl (.inl rfl) hn (by simpa [valueOk_AC_OUT] using hv) hr) ho

/-- A code above 16 bits is refused (R374). -/
theorem State.hostWrite_AC_OUT_range {s : State} {n v : Nat} (hup : s.hopperUp = true) (hn : n < 64) (hv : 65536 ≤ v) :
    s.hostWrite P.AC_OUT n v = s.answer Status.outOfRange :=
  State.hostWrite_refused hup
    (State.writeCheck_range (d := acOutDef) rfl nofun hn (by simpa [valueOk_AC_OUT] using hv)) (by decide)

/-! ### Codes that come into force -/

/-- The first record of an episode is asked for (R466). -/
theorem State.raiseEpisode_todo {s : State} {b d : Nat} (k v i : Nat) (h : s.episodeOpen b d = false) :
    (s.raiseEpisode b d k v i).todo =
      s.todo ++ [{ blk := b, det := d, cls := k, addr := stateAddr b i, value := v, inst := i }] := by
  simp only [State.raiseEpisode, State.askEpisode, h]
  rfl

/-- A code within the limits comes into force as it is, and ends CLAMP's episode (R73). -/
theorem State.setCode_within {s : State} {n v : Nat} (hlo : s.par P.AC_OUTMIN n ≤ v) (hhi : v ≤ s.par P.AC_OUTMAX n) :
    s.setCode n v = (s.setCell n { s.cell n with code := BitVec.ofNat 16 v }).endEpisode (Fb.cell n) 7 := by
  simp only [State.setCode, Nat.not_lt.mpr hlo, Nat.not_lt.mpr hhi, if_false, if_true]

/-- A code beyond a limit comes into force as that limit, and is recorded once an episode (R73). -/
theorem State.setCode_clamped {s : State} {n v : Nat} (hlim : s.par P.AC_OUTMIN n ≤ s.par P.AC_OUTMAX n)
    (h : v < s.par P.AC_OUTMIN n ∨ s.par P.AC_OUTMAX n < v) :
    s.setCode n v = (s.setCell n { s.cell n with
      code := BitVec.ofNat 16 (max (s.par P.AC_OUTMIN n) (min v (s.par P.AC_OUTMAX n))) }).raiseEpisode (Fb.cell n) 7 1 := by
  rcases h with h | h
  · have hc : max (s.par P.AC_OUTMIN n) (min v (s.par P.AC_OUTMAX n)) = s.par P.AC_OUTMIN n := by omega
    simp only [State.setCode, h, if_true, hc, h.ne']
    rfl
  · have hc : max (s.par P.AC_OUTMIN n) (min v (s.par P.AC_OUTMAX n)) = s.par P.AC_OUTMAX n := by omega
    have hlo : ¬ v < s.par P.AC_OUTMIN n := by omega
    simp only [State.setCode, h, hlo, if_true, if_false, hc, h.ne]

/-- Cell `c` after an output is set to code `v`: the code, no ramp, the driver on (R74, R75). -/
def Cell.outputSet (c : Cell) (v : Nat) : Cell := { c with code := BitVec.ofNat 16 v, ramp := none, drive := .code }

/-- A code set at an output changes the cell, its clamped code in force, and the cell's CLAMP episode and record. -/
theorem State.outSet_shape (s : State) (n v : Nat) (hlim : s.par P.AC_OUTMIN n ≤ s.par P.AC_OUTMAX n) : ∃ f t,
    s.outSet n v = { s.setCell n ((s.cell n).outputSet (max (s.par P.AC_OUTMIN n) (min v (s.par P.AC_OUTMAX n)))) with
      flt := f, todo := t } ∧
    (s.par P.AC_OUTMIN n ≤ v → v ≤ s.par P.AC_OUTMAX n → t = s.todo) ∧
    (v < s.par P.AC_OUTMIN n ∨ s.par P.AC_OUTMAX n < v → s.episodeOpen (Fb.cell n) 7 = false →
      t = s.todo ++ [{ blk := Fb.cell n, det := 7, cls := 1, addr := stateAddr (Fb.cell n) 0 }]) := by
  by_cases h : v < s.par P.AC_OUTMIN n ∨ s.par P.AC_OUTMAX n < v
  · generalize hc : max (s.par P.AC_OUTMIN n) (min v (s.par P.AC_OUTMAX n)) = c
    obtain ⟨f, t, hs⟩ := (s.setCell n { s.cell n with code := BitVec.ofNat 16 c }).raiseEpisode_shape (Fb.cell n) 7 1 0 0
    refine ⟨f, t, ?_, fun _ _ => by omega, fun _ he => ?_⟩
    · rw [State.outSet, State.setCode_clamped hlim h, hc, hs]
      simp [Cell.outputSet, State.setCell, State.cell]
    · have ht := State.raiseEpisode_todo (s := s.setCell n { s.cell n with code := BitVec.ofNat 16 c }) 1 0 0 he
      rw [hs] at ht
      exact ht
  · obtain ⟨hlo, hhi⟩ : s.par P.AC_OUTMIN n ≤ v ∧ v ≤ s.par P.AC_OUTMAX n := by omega
    have hc : max (s.par P.AC_OUTMIN n) (min v (s.par P.AC_OUTMAX n)) = v := by omega
    obtain ⟨f, hs⟩ := (s.setCell n { s.cell n with code := BitVec.ofNat 16 v }).endEpisode_shape (Fb.cell n) 7
    refine ⟨f, s.todo, ?_, fun _ _ => rfl, fun h' => absurd h' h⟩
    rw [State.outSet, State.setCode_within hlo hhi, hc, hs]
    simp [Cell.outputSet, State.setCell, State.cell]

end Sys2Proof.Machine
end

section
/-! What cells drive, read back and show their comparators (R61, R65, R72, R87, R92, R98). -/

namespace Sys2Proof

/-- The value of a fraction. -/
def Frac.value (f : Frac) : Rat := (f.num : Rat) / f.den

end Sys2Proof

namespace Sys2Proof.Machine

theorem fracAdd_value {x y : Frac} (hx : x.den ≠ 0) (hy : y.den ≠ 0) : (fracAdd x y).value = x.value + y.value := by
  have hx' : (x.den : Rat) ≠ 0 := Nat.cast_ne_zero.mpr hx
  have hy' : (y.den : Rat) ≠ 0 := Nat.cast_ne_zero.mpr hy
  simp only [Frac.value, fracAdd]
  push_cast
  field_simp

/-- The PGIA output is the signal, scaled by what stands before the PGIA and by the gain (Table 3.1, R65). -/
theorem Front.out_value (f : Front) (x : Int) :
    (f.out x).value = (f.signal x).value * (pathScale f.mode).value * f.gain.value := by
  simp only [Front.out, Frac.value]
  push_cast
  rw [mul_div_mul_comm, mul_div_mul_comm]

/-- A quarter of OUT-V's voltage is read back (R87). -/
theorem pathScale_outV : (pathScale 5).value = 1 / 4 := by norm_num [pathScale, Frac.value]

/-- OUT-I's current is read back across 100 Ω (R87). -/
theorem pathScale_outI : (pathScale 6).value = 100 := by norm_num [pathScale, Frac.value]

/-- The gain of R65. -/
theorem State.pgiaGain_value (s : State) (n : Nat) :
    (s.pgiaGain n).value = 2 ^ s.par P.AC_GAIN n * (1 + 3 / 100 * (s.parI P.AC_TRIM n : Rat) / 512) := by
  simp only [State.pgiaGain, Frac.value]
  push_cast
  ring

/-- While it drives its code a running cell's driver delivers it (R72). -/
theorem State.cellDrive_code {s : State} {n : Nat} (hp : s.pwr.phase = .running) (hi : s.tst.isolated = false)
    (hs : s.isStandby = false) (ha : (s.cell n).state = .active) (hd : (s.cell n).drive = .code) : s.cellDrive n = .code := by
  simp [State.cellDrive, hp, hi, hs, ha, hd]

/-- A driving OUT-V cell's voltage in nV (R72). -/
theorem State.driven_outV {s : State} {n : Nat} (hm : s.par P.AC_MODE n = 5) (hd : s.cellDrive n = .code) :
    (Frac.mk (s.driven n) 65536).value = (-10 + 20 * ((s.cell n).code.toNat : Rat) / 65536) * 10 ^ 9 := by
  simp only [State.driven, hd, hm, Frac.value, outVolts]
  simp
  ring

/-- A driving OUT-I cell's current in nA (R72). -/
theorem State.driven_outI {s : State} {n : Nat} (hm : s.par P.AC_MODE n = 6) (hd : s.cellDrive n = .code) :
    (Frac.mk (s.driven n) 65536).value =
      if (s.cell n).code.toNat ≤ 60000 then 400 * ((s.cell n).code.toNat : Rat) else 24 * 10 ^ 6 := by
  have hdriven : s.driven n = 65536 * outCurrent (s.cell n).code.toNat := by simp [State.driven, hd, hm]
  rw [hdriven, Frac.value, outCurrent, currentCode]
  split
  · rename_i h
    rw [Nat.min_eq_left h]
    push_cast
    ring
  · rename_i h
    rw [Nat.min_eq_right (by omega)]
    norm_num

/-- A cell in an output mode shows what it drives and what the load adds (R72, R87). -/
theorem State.front_signal_output {s : State} {n : Nat} (hm : s.par P.AC_MODE n = 5 ∨ s.par P.AC_MODE n = 6) (x : Int) :
    ((s.front n).signal x).value = (Frac.mk (s.driven n) 65536).value + x := by
  have h : (s.front n).signal x = fracAdd ⟨s.driven n, 65536⟩ ⟨x, 1⟩ := by
    rcases hm with hm | hm <;> simp [State.front, Front.signal, hm]
  rw [h, fracAdd_value (Nat.succ_ne_zero 65535) one_ne_zero]
  simp [Frac.value]

/-- The PGIA output of a cell (Table 3.1, R65). -/
theorem State.front_out_value (s : State) (n : Nat) (x : Int) : ((s.front n).out x).value = ((s.front n).signal x).value *
    (pathScale (s.par P.AC_MODE n)).value * (2 ^ s.par P.AC_GAIN n * (1 + 3 / 100 * (s.parI P.AC_TRIM n : Rat) / 512)) := by
  rw [Front.out_value, ← s.pgiaGain_value n]
  rfl

/-- An OFF cell shows its comparator 0 V (R88). -/
theorem State.tapVolts_off {s : State} {n : Nat} (hm : s.par P.AC_MODE n = 0) (x : TapSample) : (s.tapVolts n x).num = 0 := by
  simp [State.tapVolts, Front.out, Front.signal, State.front, hm]

/-- No threshold of an unsigned tap lies below 0 V (R98). -/
theorem State.tapAbove_off {s : State} {n : Nat} (hm : s.par P.AC_MODE n = 0) (x : TapSample) (t : Nat) :
    s.tapAbove n x t = false := by
  have hthr : 0 ≤ thrVolts (isSignedMode (s.par P.AC_MODE n)) t * (s.tapVolts n x).den := by
    rw [hm]
    exact Int.mul_nonneg (Int.mul_nonneg (by decide) (Int.natCast_nonneg t)) (Int.natCast_nonneg _)
  simp only [State.tapAbove, State.tapVolts_off hm, decide_eq_false_iff_not]
  exact not_lt.mpr hthr

/-! ### The ends of the converter's span -/

theorem clampInt_of_ge {lo hi x : Int} (h : lo ≤ hi) (hx : hi ≤ x) : clampInt lo hi x = hi := by
  rw [clampInt]
  split_ifs <;> omega

theorem clampInt_of_le {lo hi x : Int} (h : lo ≤ hi) (hx : x ≤ lo) : clampInt lo hi x = lo := by
  rw [clampInt]
  split_ifs <;> omega

/-- The count of an ideal converter, from its zero, over a span of `w` (R132, R167). -/
theorem fracFloor_scaled (v : Frac) (k : Int) (w : Nat) :
    fracFloor (fracDiv (fracMul v k) w) = v.num * k / ((v.den : Int) * w) := by
  simp [fracFloor, fracDiv, fracMul]

theorem spanPlace_above_iff {signed : Bool} {v : Frac} : spanPlace signed v = .above ↔ (cfs : Int) * v.den < v.num := by
  by_cases h : (cfs : Int) * v.den < v.num
  · simp [spanPlace, h]
  · rw [spanPlace, if_neg h]
    generalize (if signed then -(cfs : Int) * v.den else 0) = lo
    split <;> simp [h]

theorem lt_of_spanPlace_below {signed : Bool} {v : Frac} (h : spanPlace signed v = .below) :
    v.num < if signed then -(cfs : Int) * v.den else 0 := by
  by_contra hn
  rw [spanPlace, if_neg hn] at h
  split at h <;> simp at h

/-- Above the span a count lies past the last code (R92). -/
theorem adcCode_above {bits : Nat} {signed : Bool} {v : Frac} (hd : 0 < v.den) (hb : 0 < bits)
    (h : spanPlace signed v = .above) : adcCode bits signed v 0 = 2 ^ bits - 1 := by
  have hv := spanPlace_above_iff.mp h
  have hw : (0 : Int) < v.den * cfs := Int.mul_pos (Int.natCast_pos.mpr hd) (by decide)
  have hpow : (0 : Int) < 2 ^ bits := by positivity
  have hhalf := (mul_pow_sub_one hb.ne' (2 : Int)).symm
  have hscaled : 2 ^ bits * ((cfs : Int) * v.den) ≤ 2 ^ bits * v.num := Int.mul_le_mul_of_nonneg_left hv.le hpow.le
  have htop : ((2 ^ bits - 1 : Int)).toNat = 2 ^ bits - 1 := by simp [Int.toNat_pow_of_nonneg]
  rw [adcCode, ← htop, add_zero, fracFloor_scaled]
  congr 1
  refine clampInt_of_ge (by omega) ?_
  cases signed with
  | false =>
    have hcount : (2 : Int) ^ bits ≤ v.num * 2 ^ bits / ((v.den : Int) * cfs) :=
      (Int.le_ediv_iff_mul_le hw).mpr (by linarith)
    simp only [Bool.false_eq_true, if_false]
    omega
  | true =>
    have hcount : (2 : Int) ^ (bits - 1) ≤ v.num * 2 ^ bits / ((v.den : Int) * (2 * cfs : Nat)) := by
      refine (Int.le_ediv_iff_mul_le (by push_cast; linarith)).mpr ?_
      push_cast
      rw [hhalf] at hscaled ⊢
      linarith
    simp only [if_true]
    omega

/-- Below the span a count lies before the first code (R92). -/
theorem adcCode_below {bits : Nat} {signed : Bool} {v : Frac} (hd : 0 < v.den) (hb : 0 < bits)
    (h : spanPlace signed v = .below) : adcCode bits signed v 0 = 0 := by
  have hv := lt_of_spanPlace_below h
  have hw : (0 : Int) < v.den * cfs := Int.mul_pos (Int.natCast_pos.mpr hd) (by decide)
  have hpow : (0 : Int) < 2 ^ bits := by positivity
  have hhalf := (mul_pow_sub_one hb.ne' (2 : Int)).symm
  have hscaled := Int.mul_le_mul_of_nonneg_left hv.le hpow.le
  rw [adcCode, add_zero, fracFloor_scaled, ← Int.toNat_zero]
  congr 1
  refine clampInt_of_le (by omega) ?_
  cases signed with
  | false =>
    have hcount : v.num * 2 ^ bits / ((v.den : Int) * cfs) ≤ 0 :=
      Int.ediv_le_of_le_mul hw (by simp only [Bool.false_eq_true, if_false] at hscaled; linarith)
    simp only [Bool.false_eq_true, if_false]
    omega
  | true =>
    have hcount : v.num * 2 ^ bits / ((v.den : Int) * (2 * cfs : Nat)) ≤ -2 ^ (bits - 1) := by
      refine Int.ediv_le_of_le_mul (by push_cast; linarith) ?_
      simp only [if_true] at hscaled
      push_cast
      rw [hhalf] at hscaled ⊢
      linarith
    simp only [if_true]
    omega

/-! ### The obligation -/

/-- Settles O10: a write of `AC_OUT` is taken or refused by the cell's own check; a code set has the shape of `outSet_shape`; a
driving cell's PGIA output is its signal scaled; past an end of the span a count lies past the end's code. -/
theorem outputWritesClampAndComeInForce : Obligations.OutputWritesClampAndComeInForce := by
  unfold Obligations.OutputWritesClampAndComeInForce
  refine ⟨fun s n v hup hr => ?_, fun s n v hv hmax hlim => ?_, fun s n => ⟨fun c hp hi hs ha hdr hc x g hg => ?_,
    fun hm x t => State.tapAbove_off hm x t, fun signed v bits hd hb => ⟨adcCode_above hd hb, adcCode_below hd hb⟩,
    State.burnoutOn_iff⟩⟩
  · rw [exec_acOutWrite]
    refine ⟨fun hv hst hm => ?_, fun hv hst => ?_, fun hv hst hm => ?_, fun hv => ?_⟩
    · have ho : s.ownCheck P.AC_OUT n.val v.toNat = Status.ok := by rw [State.ownCheck_AC_OUT, if_neg hst, if_pos hm]
      rw [State.hostWrite_AC_OUT hup n.isLt hv hr ho]
    · have ho : s.ownCheck P.AC_OUT n.val v.toNat = Status.faultState := by rw [State.ownCheck_AC_OUT, if_pos hst]
      rw [State.hostWrite_AC_OUT_refused hup n.isLt hv hr (by rw [ho]; decide), ho]
    · have ho : s.ownCheck P.AC_OUT n.val v.toNat = Status.notPermitted := by
        rw [State.ownCheck_AC_OUT, if_neg hst, if_neg (by simp [hm])]
      rw [State.hostWrite_AC_OUT_refused hup n.isLt hv hr (by rw [ho]; decide), ho]
    · rw [State.hostWrite_AC_OUT_range hup n.isLt hv]
  · obtain ⟨f, t, hs, hin, hout⟩ := s.outSet_shape n.val v hlim
    have hcell : (s.outSet n.val v).cell n.val =
        (s.cell n.val).outputSet (max (s.par P.AC_OUTMIN n.val) (min v (s.par P.AC_OUTMAX n.val))) := by
      rw [hs]
      exact s.cell_setCell n.val _
    rw [hcell, hs]
    refine ⟨?_, rfl, rfl, rfl, fun m hm => State.cell_setCell_ne s _ hm, hin, hout, rfl, rfl, rfl, rfl, rfl, rfl⟩
    rw [Cell.outputSet, BitVec.toNat_ofNat]
    omega
  · have hdrive := State.cellDrive_code hp hi hs ha hdr
    have hout := s.front_out_value n.val x
    rw [← hg] at hout
    refine ⟨fun hm => ?_, fun hm => ?_⟩
    · rwa [State.front_signal_output (.inl hm), State.driven_outV hm hdrive, hc, hm, pathScale_outV, mul_one_div] at hout
    · rwa [State.front_signal_output (.inr hm), State.driven_outI hm hdrive, hc, hm, pathScale_outI] at hout

end Sys2Proof.Machine
end

section
/-! Commands of the cells and of the comparators (R82, R92, R95, R105–R108, R116, R117). -/

namespace Sys2Proof.Machine

theorem exec_acCtrlResume (s : State) (n : Fin 64) :
    exec (.acCtrlResume n) s = .next (s.finish (s.hostWrite P.AC_CTRL n.val 1)) := rfl
theorem exec_acCtrlClearCounters (s : State) (n : Fin 64) :
    exec (.acCtrlClearCounters n) s = .next (s.finish (s.hostWrite P.AC_CTRL n.val 2)) := rfl
theorem exec_cmpCtrlEnable (s : State) (n : Fin 64) :
    exec (.cmpCtrlEnable n) s = .next (s.finish (s.hostWrite P.CMP_CTRL n.val 1)) := rfl
theorem exec_cmpCtrlDisable (s : State) (n : Fin 64) :
    exec (.cmpCtrlDisable n) s = .next (s.finish (s.hostWrite P.CMP_CTRL n.val 2)) := rfl
theorem exec_cmpCtrlArm (s : State) (n : Fin 64) :
    exec (.cmpCtrlArm n) s = .next (s.finish (s.hostWrite P.CMP_CTRL n.val 3)) := rfl
theorem exec_cmpCtrlDisarm (s : State) (n : Fin 64) :
    exec (.cmpCtrlDisarm n) s = .next (s.finish (s.hostWrite P.CMP_CTRL n.val 4)) := rfl
theorem exec_cmpCtrlResume (s : State) (n : Fin 64) :
    exec (.cmpCtrlResume n) s = .next (s.finish (s.hostWrite P.CMP_CTRL n.val 5)) := rfl
theorem exec_cmpCtrlClearCounters (s : State) (n : Fin 64) :
    exec (.cmpCtrlClearCounters n) s = .next (s.finish (s.hostWrite P.CMP_CTRL n.val 6)) := rfl

/-! ### `AC_CTRL` -/

/-- A write of `AC_CTRL` that the command layer takes runs the command of its code (R95). -/
theorem exec_acCtrl_commands {s : State} (n : Fin 64) (hup : s.hopperUp = true) (hr : s.resetting (Fb.cell n.val) = false) :
    exec (.acCtrlResume n) s = .next (s.finish (s.acResume n.val)) ∧
    exec (.acCtrlClearCounters n) s = .next (s.finish (s.acClear n.val)) := by
  rw [exec_acCtrlResume, exec_acCtrlClearCounters, State.hostWrite_AC_CTRL hup n.isLt rfl hr,
    State.hostWrite_AC_CTRL hup n.isLt rfl hr]
  exact ⟨rfl, rfl⟩

/-- An excitation mode is no input mode (Table 3.1). -/
theorem isInputMode_eq_false_of_isExciteMode {m : Nat} (h : isExciteMode m = true) : isInputMode m = false := by
  simp only [isExciteMode, Bool.or_eq_true, beq_iff_eq] at h
  rcases h with rfl | rfl <;> rfl

/-- The state once RESUME has taken cell `n` out of SAFE, from one with the accepted writes in force; `due` says whether a change of
mode waits (R78, R82, R92). -/
def State.cellResumed (s : State) (n : Nat) (due : Bool) : State :=
  if due then s.cellSetUp n
  else if isInputMode (s.par P.AC_MODE n) then s.startSettling n 10000
  else if isExciteMode (s.par P.AC_MODE n) then s.setCell n { s.cell n with drive := .excite }
  else s

/-- RESUME of a cell in SAFE whose class C fault is acknowledged (R470). -/
theorem State.acResume_safe {s u : State} {n : Nat} (hst : (s.cell n).state = .safe) (hc : s.pendingC (Fb.cell n) = false)
    (hu : u = (s.setCell n { s.cell n with state := .active }).cellTake n) :
    s.acResume n = ((u.cellResumed n (s.cell n).modeDue).openWindow (Fb.cell n)).done := by
  subst hu
  exact if_pos ⟨hst, hc⟩

/-- RESUME is refused outside SAFE, and while class C is pending (R92, R470). -/
theorem State.acResume_refused {s : State} {n : Nat} (h : (s.cell n).state ≠ .safe ∨ s.pendingC (Fb.cell n) = true) :
    s.acResume n = s.answer Status.notPermitted :=
  if_neg (by rintro ⟨hst, hc⟩; simp [hst, hc] at h)

/-! ### `CMP_CTRL` -/

/-- A write of `CMP_CTRL` that the command layer takes runs the command of its code (R117). -/
theorem exec_cmpCtrl_commands {s : State} (n : Fin 64) (hup : s.hopperUp = true) (hr : s.resetting (Fb.cmp n.val) = false) :
    exec (.cmpCtrlEnable n) s = .next (s.finish (s.cmpEnable n.val)) ∧
    exec (.cmpCtrlDisable n) s = .next (s.finish (s.cmpDisable n.val)) ∧
    exec (.cmpCtrlArm n) s = .next (s.finish (s.cmpCtrlArm n.val)) ∧
    exec (.cmpCtrlDisarm n) s = .next (s.finish (s.cmpCtrlDisarm n.val)) ∧
    exec (.cmpCtrlResume n) s = .next (s.finish (s.cmpResume n.val)) ∧
    exec (.cmpCtrlClearCounters n) s = .next (s.finish (s.cmpClear n.val)) := by
  have hwrite (v : Nat) (hv : valueOk P.CMP_CTRL n.val v = true) : s.hostWrite P.CMP_CTRL n.val v = s.cmpCtrl n.val v :=
    State.hostWrite_CMP_CTRL hup n.isLt hv hr
  rw [exec_cmpCtrlEnable, exec_cmpCtrlDisable, exec_cmpCtrlArm, exec_cmpCtrlDisarm, exec_cmpCtrlResume,
    exec_cmpCtrlClearCounters, hwrite 1 rfl, hwrite 2 rfl, hwrite 3 rfl, hwrite 4 rfl, hwrite 5 rfl, hwrite 6 rfl]
  exact ⟨rfl, rfl, rfl, rfl, rfl, rfl⟩

/-- ARM of a DISARMED comparator arms it with its coefficients as they stand (R100, R106). -/
theorem State.cmpCtrlArm_disarmed {s : State} {n : Nat} (h : (s.cmp n).state = .disarmed) : s.cmpCtrlArm n =
    (((s.cmpTakeCoefs n).setCmp n { (s.cmpTakeCoefs n).cmp n with state := .armed }).cmpDeliver n).done := by
  simp only [State.cmpCtrlArm, State.cmpArm, h, if_true, State.cmpToArmed]

/-- DISARM of an ARMED comparator (R106). -/
theorem State.cmpCtrlDisarm_armed {s : State} {n : Nat} (h : (s.cmp n).state = .armed) :
    s.cmpCtrlDisarm n = ((s.setCmp n { s.cmp n with state := .disarmed }).cmpDeliver n).done := by
  simp only [State.cmpCtrlDisarm, State.cmpArm, h, Bool.false_eq_true, if_false, State.cmpToDisarmed]

/-- ARM in HELD makes it return to ARMED (R106, R108). -/
theorem State.cmpCtrlArm_held {s : State} {n : Nat} (h : (s.cmp n).state = .held) : s.cmpCtrlArm n =
    ((s.cmpTakeCoefs n).setCmp n { (s.cmpTakeCoefs n).cmp n with heldArmed := true }).done := by
  simp only [State.cmpCtrlArm, State.cmpArm, h, if_true]

/-- DISARM in HELD makes it return to DISARMED (R106, R108). -/
theorem State.cmpCtrlDisarm_held {s : State} {n : Nat} (h : (s.cmp n).state = .held) :
    s.cmpCtrlDisarm n = (s.setCmp n { s.cmp n with heldArmed := false }).done := by
  simp only [State.cmpCtrlDisarm, State.cmpArm, h, Bool.false_eq_true, if_false]

/-- RESUME takes a comparator out of SAFE once its class C fault is acknowledged (R105, R470). -/
theorem State.cmpResume_safe {s : State} {n : Nat} (hst : (s.cmp n).state = .safe) (hc : s.pendingC (Fb.cmp n) = false) :
    s.cmpResume n = ((((s.cmpRestart n).cmpBoundary n).cmpHoldIfSettling n).openWindow (Fb.cmp n)).done :=
  if_pos ⟨hst, hc⟩

theorem State.cmpResume_pendingC {s : State} {n : Nat} (hc : s.pendingC (Fb.cmp n) = true) :
    s.cmpResume n = s.answer Status.notPermitted :=
  if_neg (by simp [hc])

/-! ### The obligation -/

/-- Settles O11: the commands are writes that the command layer takes; RESUME of a cell is `cellResumed` in each of its cases, and
a comparator's command acts or is refused by the comparator's state. -/
theorem cellAndComparatorCommandsComplete : Obligations.CellAndComparatorCommandsComplete := by
  unfold Obligations.CellAndComparatorCommandsComplete
  refine ⟨fun s n hup hr => ?_, fun s n hup hr => ?_⟩
  · obtain ⟨hresume, hclear⟩ := exec_acCtrl_commands n hup hr
    refine ⟨fun hst hc u v m hu hm hv => ?_, fun h => ?_, hclear⟩
    · have hv' : u.cellResumed n.val (s.cell n.val).modeDue = v := by
        subst hm
        rcases hv with ⟨hd, rfl⟩ | ⟨hd, hi, rfl⟩ | ⟨hd, he, rfl⟩ | ⟨hd, hi, he, rfl⟩
        · simp [State.cellResumed, hd]
        · simp [State.cellResumed, hd, hi]
        · simp [State.cellResumed, hd, isInputMode_eq_false_of_isExciteMode he, he]
        · simp [State.cellResumed, hd, hi, he]
      rw [hresume, State.acResume_safe hst hc hu, hv']
    · rw [hresume, State.acResume_refused h]
  · obtain ⟨henable, hdisable, harm, hdisarm, hresume, hclear⟩ := exec_cmpCtrl_commands n hup hr
    rw [henable, hdisable, harm, hdisarm, hresume, hclear]
    refine ⟨fun hst => ⟨?_, ?_, ?_, ?_⟩, fun hst => ?_, fun hst => ⟨?_, ?_⟩, fun hst => ⟨?_, ?_⟩, fun hst => ⟨?_, ?_⟩,
      fun hst => ⟨?_, ?_, ?_, fun hc => ?_, fun hc => ?_⟩, rfl⟩
    -- DISABLED
    · rw [State.cmpEnable, hst]
    · rw [State.cmpDisable, if_pos hst]
    · rw [State.cmpCtrlArm, hst]
    · rw [State.cmpCtrlDisarm, hst]
    -- not DISABLED
    · rw [State.cmpDisable, if_neg hst]
    -- DISARMED
    · rw [State.cmpCtrlArm_disarmed hst]
    · rw [State.cmpCtrlDisarm, hst]
    -- ARMED
    · rw [State.cmpCtrlDisarm_armed hst]
    · rw [State.cmpCtrlArm, hst]
    -- HELD
    · rw [State.cmpCtrlArm_held hst]
    · rw [State.cmpCtrlDisarm_held hst]
    -- SAFE
    · rw [State.cmpEnable, hst]
    · rw [State.cmpCtrlArm, hst]
    · rw [State.cmpCtrlDisarm, hst]
    · rw [State.cmpResume_safe hst hc]
    · rw [State.cmpResume_pendingC hc]

end Sys2Proof.Machine
end

section
/-! Samples fed to the filters, the mode logic and delivered edges of a comparator (R102, R104, R107, R109–R112). -/

namespace Sys2Proof.Machine

/-! ### What a delivered edge leaves -/

theorem State.tmNote_shape (s : State) (n kind : Nat) : ∃ q, s.tmNote n kind = { s with timers := q } := ⟨_, rfl⟩

theorem State.tmInput_shape (s : State) (n src : Nat) (rising : Bool) :
    ∃ q, s.tmInput n src rising = { s with timers := q } := by
  simp only [State.tmInput]
  split
  · exact s.tmNote_shape n _
  · exact ⟨_, rfl⟩

/-- A change of the delivered output sets it, and can be captured by the comparator's timer (R109). -/
theorem State.cmpWire_shape (s : State) (n : Nat) (level : Bool) :
    ∃ q, s.cmpWire n level = { s.setCmp n { s.cmp n with delivered := level } with timers := q } :=
  State.tmInput_shape _ n 0 level

/-- From `s` to `u` only comparator `n` may have changed, and not in its output, its filtered bits and its count of edges. -/
structure State.SameOutput (s u : State) (n : Nat) : Prop where
  others : ∀ m, m ≠ n → u.cmp m = s.cmp m
  delivered : (u.cmp n).delivered = (s.cmp n).delivered
  upper : (u.cmp n).upper = (s.cmp n).upper
  lower : (u.cmp n).lower = (s.cmp n).lower
  edgeCount : u.par P.CMP_EDGECNT n = s.par P.CMP_EDGECNT n

namespace State.SameOutput

theorem refl (s : State) (n : Nat) : s.SameOutput s n := ⟨fun _ _ => rfl, rfl, rfl, rfl, rfl⟩

theorem trans {s u v : State} {n : Nat} (h : s.SameOutput u n) (g : u.SameOutput v n) : s.SameOutput v n :=
  ⟨fun m hm => (g.others m hm).trans (h.others m hm), g.delivered.trans h.delivered, g.upper.trans h.upper,
    g.lower.trans h.lower, g.edgeCount.trans h.edgeCount⟩

/-- What leaves the comparators and the values in force leaves the output. -/
theorem of_eq {s u : State} {n : Nat} (hc : u.cmps = s.cmps) (hp : u.params = s.params) : s.SameOutput u n := by
  have hcmp (m : Nat) : u.cmp m = s.cmp m := by rw [State.cmp, hc]; rfl
  refine ⟨fun m _ => hcmp m, ?_, ?_, ?_, ?_⟩
  · rw [hcmp]
  · rw [hcmp]
  · rw [hcmp]
  · rw [State.par, hp]; rfl

theorem setPar (s : State) (v : Nat) {n id inst : Nat} (h : paramKey P.CMP_EDGECNT n ≠ paramKey id inst) :
    s.SameOutput (s.setPar id inst v) n :=
  ⟨fun _ _ => rfl, rfl, rfl, rfl, State.par_setPar_ne _ v h⟩

theorem setCmp {s : State} {n : Nat} {c : Comparator} (hd : c.delivered = (s.cmp n).delivered)
    (hu : c.upper = (s.cmp n).upper) (hl : c.lower = (s.cmp n).lower) : s.SameOutput (s.setCmp n c) n := by
  refine ⟨fun m hm => State.cmp_setCmp_ne _ c hm, ?_, ?_, ?_, rfl⟩
  · rw [State.cmp_setCmp, hd]
  · rw [State.cmp_setCmp, hu]
  · rw [State.cmp_setCmp, hl]

theorem cmpUrgent (s : State) {n : Nat} (hn : n < 256) : s.SameOutput (s.cmpUrgent n) n := by
  have hlost : s.SameOutput (s.bump P.CMP_URGLOST n) n := setPar s _ (paramKey_ne hn hn (.inl (by decide)))
  simp only [State.cmpUrgent]
  split
  · split
    · split
      · exact hlost
      · have hmark : (s.bump P.CMP_URGLOST n).SameOutput
            ((s.bump P.CMP_URGLOST n).setCmp n { s.cmp n with urgLost := true }) n := setCmp rfl rfl rfl
        exact (hlost.trans hmark).trans (of_eq rfl rfl)
    · exact setCmp rfl rfl rfl
  · exact refl s n

theorem requestWake (s : State) {n : Nat} (hn : n < 256) (src : Nat) : s.SameOutput (s.requestWake src) n := by
  have hcmp (m : Nat) : (s.requestWake src).cmp m = s.cmp m := by
    obtain ⟨_, _, _, h⟩ := s.requestWake_shape src
    rw [h]; rfl
  exact ⟨fun m _ => hcmp m, by rw [hcmp], by rw [hcmp], by rw [hcmp],
    s.requestWake_par src (paramKey_ne hn (by decide) (.inl (by decide)))⟩

/-- An event brings its sticky bit, a wake request and an urgent request, and leaves the output (R110–R112). -/
theorem cmpEvent (s : State) {n : Nat} (hn : n < 256) : s.SameOutput (s.cmpEvent n) n := by
  have hbit : s.SameOutput (s.setBit P.CMP_EVENT n 0) n := setPar s _ (paramKey_ne hn hn (.inl (by decide)))
  simp only [State.cmpEvent]
  split
  · exact (hbit.trans (requestWake _ hn 0)).trans (cmpUrgent _ hn)
  · exact hbit.trans (cmpUrgent _ hn)

theorem cmpChatter (s : State) (n : Nat) : s.SameOutput (s.cmpChatter n) n := by
  have hedges (l : List Nat) : s.SameOutput (s.setCmp n { s.cmp n with edges := l }) n := setCmp rfl rfl rfl
  simp only [State.cmpChatter]
  split
  · obtain ⟨_, _, h⟩ := State.raiseEpisode_shape (s.setCmp n { s.cmp n with edges := _ }) (Fb.cmp n) 2 1 0 0
    exact (hedges _).trans (of_eq (by rw [h]) (by rw [h]))
  · obtain ⟨_, h⟩ := State.endEpisode_shape (s.setCmp n { s.cmp n with edges := _ }) (Fb.cmp n) 2
    exact (hedges _).trans (of_eq (by rw [h]) (by rw [h]))

/-- A delivered edge sets the output and counts; what follows leaves both (R109). -/
theorem cmpEdge (s : State) {n : Nat} (hn : n < 256) (level : Bool) :
    ((s.cmpWire n level).bump P.CMP_EDGECNT n).SameOutput (s.cmpEdge n level) n := by
  simp only [State.cmpEdge]
  split
  · exact (cmpEvent _ hn).trans (cmpChatter _ n)
  · exact cmpChatter _ n

end State.SameOutput

/-- A delivered edge sets the comparator's output, adds one to `CMP_EDGECNT`, and leaves the filtered bits and every other
comparator (R109). -/
theorem State.cmpEdge_output (s : State) {n : Nat} (hn : n < 256) (level : Bool) :
    ((s.cmpEdge n level).cmp n).delivered = level ∧ ((s.cmpEdge n level).cmp n).upper = (s.cmp n).upper ∧
    ((s.cmpEdge n level).cmp n).lower = (s.cmp n).lower ∧
    (s.cmpEdge n level).par P.CMP_EDGECNT n = satAdd (s.par P.CMP_EDGECNT n) 1 ∧
    ∀ m, m ≠ n → (s.cmpEdge n level).cmp m = s.cmp m := by
  have h := SameOutput.cmpEdge s hn level
  obtain ⟨q, hw⟩ := s.cmpWire_shape n level
  have hcmp (m : Nat) : ((s.cmpWire n level).bump P.CMP_EDGECNT n).cmp m =
      (s.setCmp n { s.cmp n with delivered := level }).cmp m := by rw [hw]; rfl
  have hself := (hcmp n).trans (State.cmp_setCmp ..)
  refine ⟨?_, ?_, ?_, ?_, fun m hm => ?_⟩
  · rw [h.delivered, hself]
  · rw [h.upper, hself]
  · rw [h.lower, hself]
  · rw [h.edgeCount, State.par_bump, hw]; rfl
  · rw [h.others m hm, hcmp, State.cmp_setCmp_ne _ _ hm]

/-! ### The sample and the mode logic -/

/-- HYSTERESIS from filters just loaded goes by the bits' levels; the rest as R104 tells the modes apart. -/
theorem modeLogic_eq (mode : Nat) (fresh u l uPrev lPrev held : Bool) :
    modeLogic mode fresh u l uPrev lPrev held =
      if mode = 0 then u
      else if mode = 1 then l && !u
      else if fresh = true then u || l && held
      else if u != uPrev && l != lPrev then u
      else if u != uPrev && u then true
      else if l != lPrev && !l then false
      else held := by
  have hfresh : (if u then true else if l then held else false) = (u || l && held) := by
    cases u <;> cases l <;> rfl
  rw [modeLogic, hfresh]

/-- An ARMED comparator's target is its filtered output once a sample has entered the filters (Table 4.2). -/
theorem State.cmpTarget_cmpPush_armed {s : State} {n : Nat} (h : (s.cmp n).state = .armed) (u l : Bool) :
    (s.cmpPush n u l).cmpTarget n = ((s.cmpPush n u l).cmp n).filtered := by
  have hst : ((s.cmpPush n u l).cmp n).state = .armed := by rw [State.cmpPush, State.cmp_setCmp]; exact h
  have hfree : ((s.cmpPush n u l).cmp n).freeze = false := by rw [State.cmpPush, State.cmp_setCmp]; rfl
  simp [State.cmpTarget, hst, hfree]

/-- Settles O13: the sample enters the filters by `Comparator.push`; where the output changes, `cmpEdge_output` tells what the
delivered edge leaves. -/
theorem deliveredOutputFollowsTheFilters : Obligations.DeliveredOutputFollowsTheFilters := by
  unfold Obligations.DeliveredOutputFollowsTheFilters
  intro s x n u l c hu hl o hc hst hx hhu hhl ho
  subst hc
  have hself : (s.cmpPush n.val u l).cmp n.val = (s.cmp n.val).push (s.par P.CMP_MAJ n.val) (s.par P.CMP_MODE n.val)
      (s.par P.CMP_POL n.val == 1) u l := State.cmp_setCmp ..
  have hupper : ((s.cmpPush n.val u l).cmp n.val).upper = majority hu := by rw [hself, hhu]; rfl
  have hlower : ((s.cmpPush n.val u l).cmp n.val).lower = majority hl := by rw [hself, hhl]; rfl
  have hsame : ((s.cmpPush n.val u l).cmp n.val).delivered = (s.cmp n.val).delivered := by rw [hself]; rfl
  have hothers (m : Nat) (hm : m ≠ n.val) : (s.cmpPush n.val u l).cmp m = s.cmp m := State.cmp_setCmp_ne _ _ hm
  have htarget : (s.cmpPush n.val u l).cmpTarget n.val = o := by
    rw [State.cmpTarget_cmpPush_armed hst, hself, ho, hhu, hhl, ← modeLogic_eq]
    rfl
  rw [State.cmpDeliver, htarget, hsame] at hx
  by_cases heq : (s.cmp n.val).delivered = o
  · rw [if_pos heq] at hx
    subst hx
    exact ⟨hsame.trans heq, hupper, hlower, fun _ => rfl, fun hne => absurd heq.symm hne, hothers⟩
  · rw [if_neg heq] at hx
    subst hx
    obtain ⟨hdel, hup, hlow, hcount, hrest⟩ := (s.cmpPush n.val u l).cmpEdge_output (by omega : n.val < 256) o
    refine ⟨hdel, hup.trans hupper, hlow.trans hlower, fun h => absurd h.symm heq, fun _ hlt => ?_,
      fun m hm => (hrest m hm).trans (hothers m hm)⟩
    rw [hcount, State.cmpPush, State.setCmp_par, satAdd, if_pos (by omega)]

end Sys2Proof.Machine
end

section
/-! Threshold loads, sampling edges and the checks of a comparator (R97–R102, R107–R111, Table 4.5). -/

namespace Sys2Proof.Machine

theorem exec_cmpThrWrite (s : State) (n : Fin 64) (v : Word) :
    exec (.cmpThrWrite n v) s = .next (s.finish (s.hostWrite P.CMP_THR n.val v.toNat)) := rfl
theorem exec_crossingAtTheTap (s : State) (n : Fin 64) (x : TapSample) :
    exec (.crossingAtTheTap n x) s = .next (s.finish (s.liveEvent (fun s => s.setTap n.val x))) := rfl
theorem exec_deliveredEdge (s : State) (n : Fin 64) (x : TapSample) :
    exec (.deliveredEdge n x) s = .next (s.finish (s.blockEvent (fun s => s.cmpEdgeRow n.val x))) := rfl
theorem exec_heldRelease (s : State) (n : Fin 64) (x : TapSample) :
    exec (.heldRelease n x) s = .next (s.finish (s.blockEvent (fun s => s.cmpReleaseRow n.val x))) := rfl
theorem exec_blankEnd (s : State) (n : Fin 64) :
    exec (.blankEnd n) s = .next (s.finish (s.blockEvent (fun s => s.cmpBlankEnd n.val))) := rfl
theorem exec_dacchk (s : State) (n : Fin 64) :
    exec (.dacchk n) s = .next (s.finish (s.liveEvent (fun s => s.dacCheck n.val))) := rfl
theorem exec_sclk (s : State) (n : Fin 64) :
    exec (.sclk n) s = .next (s.finish (s.liveEvent (fun s => s.sampleClockLost n.val))) := rfl

/-! ### Writes of `CMP_THR` -/

/-- `CMP_THR` in the parameter table. -/
def cmpThrDef : ParamDef := ⟨P.CMP_THR, .rwLive, 64, .all 0xFFF0000, .bits 0x0FFF0FFF⟩

/-- A comparator's mode decides whether it takes thresholds that are out of order (R99). -/
theorem State.ownCheck_CMP_THR (s : State) (n v : Nat) : s.ownCheck P.CMP_THR n v =
    if thrOutOfOrder (s.par P.CMP_MODE n) v = true then Status.outOfRange else Status.ok := by
  by_cases h : thrOutOfOrder (s.par P.CMP_MODE n) v = true <;> simp [State.ownCheck, h]

/-- Thresholds in order wait for the first sampling edge (R97, R376). -/
theorem State.hostWrite_CMP_THR {s : State} {n v : Nat} (hup : s.hopperUp = true) (hn : n < 64)
    (hv : valueOk P.CMP_THR n v = true) (hr : s.resetting (Fb.cmp n) = false)
    (ho : thrOutOfOrder (s.par P.CMP_MODE n) v = false) :
    s.hostWrite P.CMP_THR n v = ((s.acceptLive P.CMP_THR n v).cmpBoundary n).done :=
  State.hostWrite_live (d := cmpThrDef) rfl hup rfl hn hv hr (by simp [State.ownCheck_CMP_THR, ho]) rfl

/-- Thresholds out of order are refused in WINDOW and HYSTERESIS (R99). -/
theorem State.hostWrite_CMP_THR_refused {s : State} {n v : Nat} (hup : s.hopperUp = true) (hn : n < 64)
    (hv : valueOk P.CMP_THR n v = true) (hr : s.resetting (Fb.cmp n) = false)
    (ho : thrOutOfOrder (s.par P.CMP_MODE n) v = true) : s.hostWrite P.CMP_THR n v = s.answer Status.outOfRange := by
  have hcheck : s.writeCheck P.CMP_THR n v = (Status.outOfRange, 0) := by
    rw [State.writeCheck_own (d := cmpThrDef) rfl (.inl rfl) hn hv hr, State.ownCheck_CMP_THR, if_pos ho]
  exact State.hostWrite_refused hup hcheck (by decide)

/-- A threshold load sets the thresholds, and of the comparator its coefficients and its blanking (R97, R100). -/
theorem State.cmpLoadThr_cmp (s : State) (n w : Nat) : (s.cmpLoadThr n w).cmp n =
    { s.cmp n with
      coefL := s.coef 4 (2 * n), coefU := s.coef 4 (2 * n + 1)
      blankEnd := some (s.t + 10), blankRaw := (s.cmp n).pipe.head? } := by
  simp only [State.cmpLoadThr, State.cmpTakeCoefs, State.cmp_setCmp]
  rfl

theorem State.cmpLoadThr_cmp_ne (s : State) {n m : Nat} (w : Nat) (h : m ≠ n) : (s.cmpLoadThr n w).cmp m = s.cmp m := by
  simp only [State.cmpLoadThr, State.cmpTakeCoefs]
  rw [State.cmp_setCmp_ne _ _ h, State.cmp_setCmp_ne _ _ h, State.setPar_cmp]

/-! ### Sampling edges -/

/-- HELD is left for the state it holds, with filters loaded from the sample that has passed, once the cell has settled
(R108). -/
theorem State.cmpFeed_released {s : State} {n : Nat} {a b : Bool} (hst : (s.cmp n).state = .held)
    (hset : s.cellSettling n = false) (hp : (s.cmp n).passed = some (a, b)) :
    s.cmpFeed n = ((s.setCmp n { s.cmp n with
      state := if (s.cmp n).heldArmed = true then .armed else .disarmed, reload := true }).cmpPush n a b).cmpDeliver n := by
  simp only [State.cmpFeed, hst, hset, hp]

/-- Outside such a release the filters take what `Comparator.feed` gives them (R100, R102, R108). -/
theorem State.cmpFeed_fed {s : State} {n : Nat} {a b : Bool}
    (h : (s.cmp n).state ≠ .held ∨ s.cellSettling n = true ∨ (s.cmp n).passed = none)
    (hf : (s.cmp n).feed s.t = some (a, b)) : s.cmpFeed n = (s.cmpPush n a b).cmpDeliver n := by
  simp only [State.cmpFeed, hf]
  split
  case h_1 hst hset hp => simp [hst, hset, hp] at h
  case h_2 => rfl

/-- With nothing to feed the filters stay as they are. -/
theorem State.cmpFeed_unfed {s : State} {n : Nat}
    (h : (s.cmp n).state ≠ .held ∨ s.cellSettling n = true ∨ (s.cmp n).passed = none)
    (hf : (s.cmp n).feed s.t = none) : s.cmpFeed n = s := by
  simp only [State.cmpFeed, hf]
  split
  case h_1 hst hset hp => simp [hst, hset, hp] at h
  case h_2 => rfl

/-- A sampling edge feeds the filters, notes its time and takes a raw sample, which a comparator in HELD drops while its cell
settles (R101, R102, R108). -/
theorem State.cmpSample_eq {s v : State} {n : Nat} (h : s.cmpFeed n = v) : s.cmpSample n = v.setCmp n { v.cmp n with
    phase := v.t
    pipe := if (v.cmp n).state = .held ∧ v.cellSettling n = true then [] else (v.cmpRaw n :: (v.cmp n).pipe).take 3 } := by
  subst h
  rfl

/-- A sampling edge that is due is taken, after its sample boundary (R48, R101). -/
theorem State.cmpClock_due {s : State} {n : Nat} (hr : s.cmpRuns n = true) (ht : (s.cmp n).phase + s.par P.CMP_DIV n ≤ s.t) :
    s.cmpClock n = (s.cmpBoundary n).cmpSample n := if_pos ⟨hr, ht⟩

/-- The tap's signal decides neither whether the comparator runs nor when its sampling edge is due. -/
theorem State.setTap_cmpClock_due {s : State} {n : Nat} (x : TapSample) (hr : s.cmpRuns n = true)
    (ht : (s.cmp n).phase + s.par P.CMP_DIV n ≤ s.t) :
    (s.setTap n x).cmpClock n = ((s.setTap n x).cmpBoundary n).cmpSample n :=
  State.cmpClock_due (by simpa [State.cmpRuns, State.setTap] using hr) (by simpa [State.setTap] using ht)

theorem State.setTap_state (s : State) (n : Nat) (x : TapSample) : ((s.setTap n x).cmp n).state = (s.cmp n).state := by
  rw [State.setTap, State.cmp_setCmp]

/-- DELIVERED_EDGE is the sampling edge of a comparator outside HELD (R109). -/
theorem State.cmpEdgeRow_of_not_held {s : State} {n : Nat} (x : TapSample) (h : (s.cmp n).state ≠ .held) :
    s.cmpEdgeRow n x = (s.setTap n x).cmpClock n := if_neg (by rwa [State.setTap_state])

/-- HELD_RELEASE is the sampling edge of a comparator in HELD (R108). -/
theorem State.cmpReleaseRow_of_held {s : State} {n : Nat} (x : TapSample) (h : (s.cmp n).state = .held) :
    s.cmpReleaseRow n x = (s.setTap n x).cmpClock n := if_pos (by rwa [State.setTap_state])

/-! ### Blanking and detectors -/

/-- A block that acts is one of a device that runs (R481, R570). -/
theorem State.running_of_alive {s : State} (h : s.alive = true) : s.pwr.phase = .running := by
  simp only [State.alive, Bool.and_eq_true, beq_iff_eq] at h
  exact h.1

/-- Blanking ends at its time (R100). -/
theorem State.cmpBlankEnd_due {s : State} {n e : Nat} (he : (s.cmp n).blankEnd = some e) (ht : e ≤ s.t) :
    s.cmpBlankEnd n = s.setCmp n { s.cmp n with blankEnd := none } := by
  simp only [State.cmpBlankEnd, he]
  exact if_pos ht

/-! ### The obligation -/

/-- Settles O12: a write of `CMP_THR` is taken or refused by its order; a due sampling edge is the boundary, `cmpFeed` in the
clause's case, and the raw sample; blanking ends and the checks record where their conditions hold. -/
theorem thresholdsLoadAndComparatorsSample : Obligations.ThresholdsLoadAndComparatorsSample := by
  unfold Obligations.ThresholdsLoadAndComparatorsSample
  refine ⟨fun s n v hup hr hv => ⟨fun ho => ?_, fun ho => ?_, fun w hw => ?_⟩, fun s n x ha => ⟨?_, ?_, ?_, ?_, ?_⟩⟩
  · rw [exec_cmpThrWrite, State.hostWrite_CMP_THR hup n.isLt hv hr ho]
  · rw [exec_cmpThrWrite, State.hostWrite_CMP_THR_refused hup n.isLt hv hr ho]
  · have hpar : (s.cmpLoadThr n.val w).par P.CMP_THR n.val = w := by
      simp only [State.cmpLoadThr, State.cmpTakeCoefs, State.setCmp_par, State.par_setPar, Nat.mod_eq_of_lt hw]
    rw [State.cmpLoadThr_cmp]
    exact ⟨hpar, rfl, rfl, rfl, fun m hm => s.cmpLoadThr_cmp_ne w hm⟩
  · rw [exec_crossingAtTheTap, State.liveEvent_running _ (State.running_of_alive ha), State.setTap]
  · intro hrun hdue u v w hu hv hw
    have hfeed : u.cmpFeed n.val = v := by
      rcases hv with ⟨hst, hset, a, b, hp, rfl⟩ | ⟨hstay, ⟨hf, rfl⟩ | ⟨a, b, hf, rfl⟩⟩
      · exact State.cmpFeed_released hst hset hp
      · exact State.cmpFeed_unfed hstay hf
      · exact State.cmpFeed_fed hstay hf
    have hclock : (s.setTap n.val x).cmpClock n.val = w := by
      rw [State.setTap_cmpClock_due x hrun hdue, State.setTap, ← hu, State.cmpSample_eq hfeed, hw]
    refine ⟨fun hst => ?_, fun hst => ?_⟩
    · rw [exec_deliveredEdge, State.blockEvent_alive _ ha, State.cmpEdgeRow_of_not_held x hst, hclock]
    · rw [exec_heldRelease, State.blockEvent_alive _ ha, State.cmpReleaseRow_of_held x hst, hclock]
  · intro e he ht
    rw [exec_blankEnd, State.blockEvent_alive _ ha, State.cmpBlankEnd_due he ht]
  · intro hst
    rw [exec_dacchk, State.liveEvent_running _ (State.running_of_alive ha), State.dacCheck, if_neg hst]
  · intro hrun
    rw [exec_sclk, State.liveEvent_running _ (State.running_of_alive ha), State.sampleClockLost, if_pos hrun]

end Sys2Proof.Machine
end

section
/-! Captures, records, triggers and commands of the timers (R109, R229–R233, R241, R245). -/

namespace Sys2Proof.Machine

theorem exec_timerCapture (s : State) (n : Fin 64) :
    exec (.timerCapture n) s = .next (s.finish (s.blockEvent (fun s => s.timerCapture n.val))) := rfl
theorem exec_timerCompare (s : State) (n : Fin 64) :
    exec (.timerCompare n) s = .next (s.finish (s.blockEvent (fun s => s.timerCompare n.val))) := rfl
theorem exec_timerTrigger (s : State) (n : Fin 64) :
    exec (.timerTrigger n) s = .next (s.finish (s.blockEvent (fun s => s.timerTrigger n.val))) := rfl
theorem exec_tmCtrlStart (s : State) (n : Fin 64) :
    exec (.tmCtrlStart n) s = .next (s.finish (s.hostWrite P.TM_CTRL n.val 1)) := rfl
theorem exec_tmCtrlStop (s : State) (n : Fin 64) :
    exec (.tmCtrlStop n) s = .next (s.finish (s.hostWrite P.TM_CTRL n.val 2)) := rfl
theorem exec_tmCtrlResume (s : State) (n : Fin 64) :
    exec (.tmCtrlResume n) s = .next (s.finish (s.hostWrite P.TM_CTRL n.val 3)) := rfl
theorem exec_tmCtrlClearCounters (s : State) (n : Fin 64) :
    exec (.tmCtrlClearCounters n) s = .next (s.finish (s.hostWrite P.TM_CTRL n.val 4)) := rfl
theorem exec_tmCtrlTrig (s : State) (n : Fin 64) :
    exec (.tmCtrlTrig n) s = .next (s.finish (s.hostWrite P.TM_CTRL n.val 5)) := rfl
theorem exec_tmLastangRead (s : State) (n : Fin 64) :
    exec (.tmLastangRead n) s = .next (s.finish (s.hostRead P.TM_LASTANG n.val)) := rfl

/-! ### Captures -/

/-- `TM_EDGE` selects an edge of the level given: both edges, or those of its direction (R229). -/
def tmSelects (edge : Nat) (rising : Bool) : Bool := edge == 2 || (edge == 0 && rising) || (edge == 1 && !rising)

theorem tmSelects_of_edge {edge : Nat} {rising : Bool} (h : edge = 2 ∨ edge = if rising = true then 0 else 1) :
    tmSelects edge rising = true := by
  rcases h with rfl | rfl
  · rfl
  · cases rising <;> rfl

theorem not_tmSelects_of_other_edge {edge : Nat} {rising : Bool} (h : edge = if rising = true then 1 else 0) :
    tmSelects edge rising = false := by
  subst h
  cases rising <;> rfl

/-- A selected edge of the input of a timer that captures is noted (R229, R230). -/
theorem State.tmInput_selected {s : State} {n src : Nat} {rising : Bool} (hst : (s.timer n).state = .run)
    (hrun : s.timersStop = false) (hm : s.par P.TM_MODE n = 1) (hsrc : s.par P.TM_CAPSRC n = src)
    (he : tmSelects (s.par P.TM_EDGE n) rising = true) :
    s.tmInput n src rising = s.tmNote n (if rising = true then 0 else 1) := if_pos ⟨hst, hrun, hm, hsrc, he⟩

/-- An edge that is not selected leaves the timer (R229). -/
theorem State.tmInput_ignored {s : State} {n : Nat} (src : Nat) {rising : Bool}
    (he : tmSelects (s.par P.TM_EDGE n) rising = false) : s.tmInput n src rising = s :=
  if_neg fun ⟨_, _, _, _, hsel⟩ => absurd (hsel.symm.trans he) (by decide)

/-! ### Records -/

theorem State.tmRecord_last {s : State} {n : Nat} (r : CapRec) (h : bitOf (s.par P.TM_DST n) 6 = false) :
    s.tmRecord n r = s.setTimer n { s.timer n with last := (r.angle, r.time) } := if_pos h

/-- A record takes its place in a FIFO that has one free (R231, R232). -/
theorem State.tmRecord_placed {s : State} {n : Nat} (r : CapRec) (h : bitOf (s.par P.TM_DST n) 6 = true)
    (hf : (s.timer n).fifo.length < 4) : s.tmRecord n r = (s.bump P.TM_CAPCNT n).setTimer n { s.timer n with
      last := (r.angle, r.time), evt := 1, seq := ((s.timer n).seq + 1) % 256
      fifo := (s.timer n).fifo ++ [{ r with seq := (((s.timer n).seq + 1) % 256 + 255) % 256 }] } :=
  (if_neg (by simp [h])).trans (if_neg (Nat.not_le.mpr hf))

/-- A record that finds the FIFO full is counted and recorded as lost (R232). -/
theorem State.tmRecord_lost {s : State} {n : Nat} (r : CapRec) (h : bitOf (s.par P.TM_DST n) 6 = true)
    (hf : 4 ≤ (s.timer n).fifo.length) : s.tmRecord n r = (((s.bump P.TM_CAPCNT n).setTimer n { s.timer n with
      last := (r.angle, r.time), evt := 1, seq := ((s.timer n).seq + 1) % 256 }).bump P.TM_CAPLOST n).raiseEpisode
        (Fb.timer n) 0 1 :=
  (if_neg (by simp [h])).trans (if_pos hf)

/-! ### Triggers -/

/-- A count that has reached neither compare value goes on (Table 8.2). -/
theorem State.tmMatch_none {s : State} {n : Nat} (ha : (s.timer n).cnt ≠ s.par P.TM_CMPA n)
    (hb : (s.timer n).cnt ≠ s.par P.TM_CMPB n) : s.tmMatch n = s := by
  simp only [State.tmMatch, ha, if_false, hb]

/-- A count that reaches `TM_CMPA` alone is noted (Table 8.2). -/
theorem State.tmMatch_cmpa {s : State} {n : Nat} (ha : (s.timer n).cnt = s.par P.TM_CMPA n)
    (hb : (s.timer n).cnt ≠ s.par P.TM_CMPB n) : s.tmMatch n = s.tmNote n 2 := by
  have hb' : (s.timer n).cnt ≠ (s.tmNote n 2).par P.TM_CMPB n := hb
  simp only [State.tmMatch, if_pos ha, if_neg hb']

/-- A count that reaches `TM_CMPB` alone is noted and ends the run (Table 8.2). -/
theorem State.tmMatch_cmpb {s : State} {n : Nat} (ha : (s.timer n).cnt ≠ s.par P.TM_CMPA n)
    (hb : (s.timer n).cnt = s.par P.TM_CMPB n) :
    s.tmMatch n = (s.tmNote n 3).setTimer n { (s.tmNote n 3).timer n with active := false } := by
  simp only [State.tmMatch, if_neg ha, if_pos hb]

/-- A capture or compare is noted with the count and the dual stamp of its edge (R230). -/
theorem State.tmNote_eq {s : State} {n c a t : Nat} {due : List CapRec} (kind : Nat) (hcnt : (s.timer n).cnt = c)
    (hdue : (s.timer n).due = due) (ha : s.angleStamp = a) (ht : s.t = t) :
    s.tmNote n kind = s.setTimer n { s.timer n with due := due ++ [⟨kind, 0, c, a, t⟩] } := by
  subst hcnt hdue ha ht
  rfl

theorem State.tmTriggers_iff {s : State} {n : Nat} :
    s.tmTriggers n = true ↔ (s.timer n).state = .run ∧ s.par P.TM_MODE n = 3 ∧ s.timersStop = false := by
  simp [State.tmTriggers, and_assoc]

/-- A due trigger that the timer does not take is spent (R229). -/
theorem State.timerTrigger_spent {s : State} {n : Nat} (hd : (s.timer n).trigDue = true)
    (h : (s.timer n).state ≠ .run ∨ s.par P.TM_MODE n ≠ 3 ∨ s.timersStop = true) :
    s.timerTrigger n = s.setTimer n { s.timer n with trigDue := false } := by
  have hno : ¬ (s.setTimer n { s.timer n with trigDue := false }).tmTriggers n = true := by
    rw [State.tmTriggers_iff, State.timer_setTimer]
    rintro ⟨hst, hm, hrun⟩
    rcases h with h | h | h
    · exact h hst
    · exact h hm
    · exact absurd (h.symm.trans hrun) (by decide)
  exact (if_pos hd).trans (if_neg hno)

/-- A due trigger of a ONESHOT timer in RUN starts its count from 0, and the compare values are looked at there (R229). -/
theorem State.timerTrigger_taken {s : State} {n : Nat} (hd : (s.timer n).trigDue = true) (hst : (s.timer n).state = .run)
    (hm : s.par P.TM_MODE n = 3) (hrun : s.timersStop = false) : s.timerTrigger n =
      (s.setTimer n { s.timer n with trigDue := false, cnt := 0, phase := 0, active := true }).tmMatch n := by
  have htake : (s.setTimer n { s.timer n with trigDue := false }).tmTriggers n = true := by
    rw [State.tmTriggers_iff, State.timer_setTimer]
    exact ⟨hst, hm, hrun⟩
  refine ((if_pos hd).trans (if_pos htake)).trans ?_
  rw [State.tmTrigger, State.timer_setTimer, State.setTimer_setTimer]

/-! ### `TM_CTRL` and `TM_LASTANG` -/

/-- A write of `TM_CTRL` that the command layer takes runs the command of its code (R245). -/
theorem exec_tmCtrl_commands {s : State} (n : Fin 64) (hup : s.hopperUp = true) (hr : s.resetting (Fb.timer n.val) = false) :
    exec (.tmCtrlStart n) s = .next (s.finish (s.tmStart n.val)) ∧
    exec (.tmCtrlStop n) s = .next (s.finish (s.tmStop n.val)) ∧
    exec (.tmCtrlResume n) s = .next (s.finish (s.tmResume n.val)) ∧
    exec (.tmCtrlClearCounters n) s = .next (s.finish (s.tmClear n.val)) ∧
    exec (.tmCtrlTrig n) s = .next (s.finish (s.tmTrig n.val)) := by
  have hwrite (v : Nat) (hv : valueOk P.TM_CTRL n.val v = true) : s.hostWrite P.TM_CTRL n.val v = s.tmCtrl n.val v :=
    State.hostWrite_TM_CTRL hup n.isLt hv hr
  rw [exec_tmCtrlStart, exec_tmCtrlStop, exec_tmCtrlResume, exec_tmCtrlClearCounters, exec_tmCtrlTrig,
    hwrite 1 rfl, hwrite 2 rfl, hwrite 3 rfl, hwrite 4 rfl, hwrite 5 rfl]
  exact ⟨rfl, rfl, rfl, rfl, rfl⟩

/-- RESUME takes a timer out of SAFE once its fault and the fabric's are acknowledged (Table 8.5, R470). -/
theorem State.tmResume_safe {s : State} {n : Nat} (hst : (s.timer n).state = .safe) (hc : s.pendingC (Fb.timer n) = false)
    (hf : s.pendingC Fb.fabric = false) : s.tmResume n =
      ((s.setTimer n { s.timer n with state := .run, phase := 0 }).openWindow (Fb.timer n)).done := if_pos ⟨hst, hc, hf⟩

theorem State.tmResume_refused {s : State} {n : Nat} (hst : (s.timer n).state ≠ .safe) :
    s.tmResume n = s.answer Status.notPermitted := if_neg fun ⟨h, _⟩ => hst h

/-- TRIG starts a ONESHOT run (R229). -/
theorem State.tmTrig_taken {s : State} {n : Nat} (hst : (s.timer n).state = .run) (hm : s.par P.TM_MODE n = 3)
    (hrun : s.timersStop = false) : s.tmTrig n = (s.tmTrigger n).done := if_pos (State.tmTriggers_iff.mpr ⟨hst, hm, hrun⟩)

/-- TRIG in RUN is refused in another mode (R648). -/
theorem State.tmTrig_refused {s : State} {n : Nat} (hst : (s.timer n).state = .run) (hm : s.par P.TM_MODE n ≠ 3) :
    s.tmTrig n = s.answer Status.notPermitted := by
  have hno : ¬ s.tmTriggers n = true := fun h => by
    obtain ⟨-, h3, -⟩ := State.tmTriggers_iff.mp h
    exact hm h3
  rw [State.tmTrig, if_neg hno, hst]
  rfl

/-- A read of `TM_LASTANG` that the command layer takes answers the last capture's angle and latches its stamp (R233). -/
theorem State.hostRead_TM_LASTANG {s : State} {n : Nat} (hup : s.hopperUp = true) (hn : n < 64)
    (hr : s.resetting (Fb.timer n) = false) : s.hostRead P.TM_LASTANG n =
      (s.setTimer n { s.timer n with latch := some (s.timer n).last }).done (leBytes 4 ((s.timer n).last.1 % 2 ^ 24)) := by
  have hexists : paramExists P.TM_LASTANG n = true := decide_eq_true hn
  have hstatus : s.readStatus P.TM_LASTANG n = Status.ok := by
    have howner : s.resetting (ownerOf P.TM_LASTANG n) = false := hr
    simp only [State.readStatus, hexists, howner]
    rfl
  have hitems : s.readItems 0 [(P.TM_LASTANG, n)] =
      ([((s.tmLastAng n).2.timer n).last.1 % 2 ^ 24], (s.tmLastAng n).2) := rfl
  rw [State.hostRead, if_pos hup, State.readParam, hstatus, if_neg (not_not.mpr rfl), hitems]
  simp only [State.tmLastAng, State.timer_setTimer]
  rfl

/-! ### The obligation -/

/-- Settles O19: a capture input's edge is noted where it is selected; records go as the destination and the FIFO allow; a trigger
taken looks at the compare values at 0; a command acts or is refused by the timer's state and mode. -/
theorem timersCaptureRunAndObey : Obligations.TimersCaptureRunAndObey := by
  unfold Obligations.TimersCaptureRunAndObey
  refine ⟨fun s n ha => ⟨fun level hst hrun hm hsrc => ⟨fun he => ?_, fun he => ?_⟩,
    fun r => ⟨fun h => ?_, fun h hf => ?_, fun h hf => ?_⟩, fun caps cmps hcaps hcmps => ⟨?_, ?_⟩,
    fun hd => ⟨fun hst hm hrun u hu => ?_, fun h => ?_⟩⟩, fun s n hup hr => ?_⟩
  -- captures
  · exact State.tmInput_selected (s := s.setCmp n.val { s.cmp n.val with delivered := level }) hst hrun hm hsrc
      (tmSelects_of_edge he)
  · exact State.tmInput_ignored (s := s.setCmp n.val { s.cmp n.val with delivered := level }) 0
      (not_tmSelects_of_other_edge he)
  -- records
  · exact State.tmRecord_last r h
  · exact State.tmRecord_placed r h hf
  · exact State.tmRecord_lost r h hf
  · rw [exec_timerCapture, State.blockEvent_alive _ ha, State.timerCapture, hcaps, hcmps]
  · rw [exec_timerCompare, State.blockEvent_alive _ ha, State.timerCompare, State.tmRecords, hcaps, hcmps]
  -- triggers
  · have hcnt : (u.timer n.val).cnt = 0 := by rw [hu, State.timer_setTimer]
    have hcmp (id : Nat) : (u.timer n.val).cnt = u.par id n.val ↔ s.par id n.val = 0 := by
      rw [hcnt, hu, State.setTimer_par, eq_comm]
    have hnote (kind : Nat) : u.tmNote n.val kind = u.setTimer n.val { u.timer n.val with
        due := (s.timer n.val).due ++ [⟨kind, 0, 0, s.angleStamp, s.t⟩] } :=
      State.tmNote_eq kind hcnt (by rw [hu, State.timer_setTimer]) (by rw [hu]; rfl) (by rw [hu, State.setTimer_t])
    rw [exec_timerTrigger, State.blockEvent_alive _ ha, State.timerTrigger_taken hd hst hm hrun, ← hu]
    refine ⟨fun hca hcb => ?_, fun hca hcb => ?_, fun hca hcb => ?_⟩
    · rw [State.tmMatch_none (mt (hcmp _).mp hca) (mt (hcmp _).mp hcb)]
    · rw [State.tmMatch_cmpa ((hcmp _).mpr hca) (mt (hcmp _).mp hcb), hnote]
    · rw [State.tmMatch_cmpb (mt (hcmp _).mp hca) ((hcmp _).mpr hcb), hnote, State.timer_setTimer, State.setTimer_setTimer]
  · rw [exec_timerTrigger, State.blockEvent_alive _ ha, State.timerTrigger_spent hd h]
  -- commands
  · obtain ⟨hstart, hstop, hresume, hclear, htrig⟩ := exec_tmCtrl_commands n hup hr
    rw [hstart, hstop, hresume, hclear, htrig, exec_tmLastangRead, State.hostRead_TM_LASTANG hup n.isLt hr]
    refine ⟨fun hst => ?_, fun hst => ?_, fun hst => ?_, fun hst => ?_, fun hst => ?_, fun hst => ?_,
      fun hst hc hf => ?_, fun hst => ?_, rfl, fun hst hm hrun => ?_, fun hst hm => ?_, rfl⟩
    · rw [State.tmStart, hst]
    · rw [State.tmStart, hst]; rfl
    · rw [State.tmStart, hst]; rfl
    · rw [State.tmStop, hst]
    · rw [State.tmStop, hst]; rfl
    · rw [State.tmStop, hst]; rfl
    · rw [State.tmResume_safe hst hc hf]
    · rw [State.tmResume_refused hst]
    · rw [State.tmTrig_taken hst hm hrun]
    · rw [State.tmTrig_refused hst hm]

end Sys2Proof.Machine
end

section
/-! Slot boundaries, conversions and late slices of the SAR groups (R118, R119, R121, R124, R129, R136, R141, R150, R152). -/

namespace Sys2Proof.Machine

theorem exec_slotBoundary (s : State) (g : Fin 4) (half : Bool) :
    exec (.slotBoundary g half) s = .next (s.finish (s.blockEvent (fun s => s.slotBoundary g.val half))) := rfl
theorem exec_conversionComplete (s : State) (g : Fin 4) (i : Fin 5) (x : Sampled) (parity : Bool) :
    exec (.conversionComplete g i x parity) s =
      .next (s.finish (s.blockEvent (fun s => s.conversionComplete g.val i.val x parity))) := rfl
theorem exec_sliceTimeout (s : State) (g : Fin 4) (i : Fin 5) :
    exec (.sliceTimeout g i) s = .next (s.finish (s.blockEvent (fun s => s.sliceTimeout g.val i.val))) := rfl
theorem exec_sarclk (s : State) (g : Fin 4) :
    exec (.sarclk g) s = .next (s.finish (s.liveEvent (fun s => s.sarClk g.val))) := rfl

/-! ### Slot boundaries -/

/-- A slot boundary at least 125 ns after the last takes what waits for it, in the order of R150, and starts what is due in a group
that converts and that Kiln does not hold back (R119, R121, R150). -/
theorem State.slotBoundary_due {s u v : State} {g now5 : Nat} {half : Bool} (hst : ∀ w : Bool, (s.group g).state ≠ .gated w)
    (hnow : now5 = 2 * s.t + b2n half) (hlast : ∀ l : Nat, (s.group g).lastSlot = some l → l + 25 ≤ now5)
    (hu : u = ((s.setGroup g { s.group g with lastSlot := some now5, oldSys := [], oldPairs := [] }).takeLive
      (Fb.sar g)).sarRefUpdate g) (hv : v = (u.sarSwap g).sarListCmds g) :
    s.slotBoundary g half = if (v.group g).serves = true ∧ v.sarHeldBack g = false then
      (v.sarRotate g now5 (v.sarRotates g now5 (s.group g).swapDue)).serveSlot g now5
        ((v.sarRotates g now5 (s.group g).swapDue).map Prod.fst)
      else v := by
  subst hnow hu hv
  dsimp only [State.slotBoundary]
  split
  next w hw => exact absurd hw (hst w)
  next =>
    refine if_neg ?_
    split
    next l hl => simpa using hlast l hl
    next => exact Bool.false_ne_true

/-! ### What a slot starts -/

variable {s : State} {g now5 : Nat} {came : Option Nat}

/-- An urgent conversion that waits is started before all else (R136, R150). -/
theorem State.serveSlot_urgent {i cell : Nat} {r q : List Nat} (hu : (s.group g).urgent = cell :: q)
    (hf : (s.group g).free = i :: r) : s.serveSlot g now5 came =
      (s.setGroup g { s.group g with urgent := q }).startConv g i .urgent (urgentWord cell (s.par P.SAR_URGDST g)) now5 := by
  simp only [State.serveSlot, hu, hf]

/-- The start of the entry in place `k` of the active list, alone or with its successor, on the slices `free`, and the step of the
pass; with too few of them the slot is skipped (R119, R124, R125). -/
def State.startDue (s : State) (g now5 k : Nat) (free : List Nat) : State :=
  let e := listFirst (s.listWord g) + k
  let word := s.scanEntry g e
  if scanSim word = true ∧ k + 1 < listLength (s.listWord g) then
    match free with
    | i :: j :: _ =>
      let s := s.startConv g i (.entry e) word now5
      (s.startConv g j (.entry (e + 1)) (s.scanEntry g (e + 1)) now5).listStep g 2 now5
    | _ => s.skipSlot g
  else
    match free with
    | i :: _ => (s.startConv g i (.entry e) word now5).listStep g 1 now5
    | [] => s.skipSlot g

/-- With nothing urgent and nothing to restart, a slot starts the entry that is due (R119, R124, R150). -/
theorem State.serveSlot_due {k : Nat} (hu : (s.group g).urgent = []) (hr : (s.group g).restart = [])
    (hd : s.listDue g now5 = some k) : s.serveSlot g now5 came = s.startDue g now5 k ((s.group g).freeFor came) := by
  simp only [State.serveSlot, hu, hr, hd]
  rfl

/-- An entry without SIM, or the list's last, starts alone (R124, R125). -/
theorem State.startDue_alone {k i : Nat} {r : List Nat} (h : scanSim (s.scanEntry g (listFirst (s.listWord g) + k)) = false ∨
    listLength (s.listWord g) ≤ k + 1) : s.startDue g now5 k (i :: r) =
      (s.startConv g i (.entry (listFirst (s.listWord g) + k)) (s.scanEntry g (listFirst (s.listWord g) + k)) now5).listStep
        g 1 now5 := by
  refine if_neg fun ⟨hsim, hlt⟩ => ?_
  rcases h with h | h
  · exact absurd (hsim.symm.trans h) (by decide)
  · exact absurd hlt (Nat.not_lt.mpr h)

/-- An entry marked SIM starts with its successor on two slices (R125). -/
theorem State.startDue_pair {k i j : Nat} {r : List Nat} (hsim : scanSim (s.scanEntry g (listFirst (s.listWord g) + k)) = true)
    (hlt : k + 1 < listLength (s.listWord g)) {u : State}
    (hu : u = s.startConv g i (.entry (listFirst (s.listWord g) + k)) (s.scanEntry g (listFirst (s.listWord g) + k)) now5) :
    s.startDue g now5 k (i :: j :: r) = (u.startConv g j (.entry (listFirst (s.listWord g) + k + 1))
      (u.scanEntry g (listFirst (s.listWord g) + k + 1)) now5).listStep g 2 now5 := by
  subst hu
  exact if_pos ⟨hsim, hlt⟩

/-- With no free slice the slot is skipped (R119). -/
theorem State.startDue_skipped (k : Nat) : s.startDue g now5 k [] = s.bump P.SAR_SKIPSLOT g := by
  simp only [State.startDue, ite_self, State.skipSlot]

/-! ### Conversions that end -/

/-- A conversion whose 500 ns have passed leaves its slice and gives its result (R118). -/
theorem State.conversionComplete_due {u : State} {i : Nat} {c : Conv} (x : Sampled) (parity : Bool)
    (hu : u = s.sarSampleSlice g i) (hc : ((u.group g).slice i).conv = some c) (ht : c.start + 100 ≤ 2 * u.t + 1) :
    s.conversionComplete g i x parity =
      (u.setGroup g ((u.group g).setSlice i { (u.group g).slice i with conv := none })).sarResult g c x parity := by
  simp only [State.conversionComplete, ← hu, hc]
  exact if_neg (Nat.not_lt.mpr ht)

/-- What a withdrawn slice was converting starts again, whatever it was for (R136, R152). -/
def Group.startAgain (x : Group) (c : Conv) : Group :=
  match c.kind with
  | .entry _ => { x with restart := x.restart ++ [c] }
  | .urgent => { x with urgent := scanSrc c.word :: x.urgent }
  | .syscal => { x with syscal := { x.syscal with started := x.syscal.started - 1 } }

/-- The spare, where the group has one, enters service (R152). -/
def State.spareEnters (s : State) (g : Nat) : Option Nat → State
  | some sp => s.enterService g sp
  | none => s

/-- A live slice that has not completed within 600 ns is withdrawn and recorded, and the spare enters service (R152). -/
theorem State.sliceTimeout_late {w u : State} {i : Nat} {c : Conv} {y : Group} (hc : ((s.group g).slice i).conv = some c)
    (hl : ((s.group g).slice i).state = .live) (ht : c.start + 120 ≤ 2 * s.t + 1) (hw : w = s.sarGiveUp g i)
    (hy : y = ((w.group g).setSlice i { (s.group g).slice i with
      state := .withdrawn, conv := none, ready := false, calNext := false }).startAgain c)
    (hu : u = (w.setGroup g y).raise (Fb.sar g) 6 2) :
    s.sliceTimeout g i = (u.spareEnters g y.spare).noSlice g := by
  subst hu hy hw
  simp only [State.sliceTimeout, hc]
  refine (if_pos ⟨hl, ht⟩).trans ?_
  rfl

/-! ### The obligation -/

/-- Settles O14: a due slot boundary, a conversion that ends and a slice that is late act as their laws above say, and a slot starts
what `serveSlot_urgent` and `serveSlot_due` say. -/
theorem sarSlotsStartAndFinishConversions : Obligations.SarSlotsStartAndFinishConversions := by
  unfold Obligations.SarSlotsStartAndFinishConversions
  refine ⟨fun s g ha => ⟨fun half now5 u v hst hnow hlast hu hv => ?_, fun i x parity u c hu hc ht => ?_,
    fun i c w u x y hc hl ht hw hx hy hu => ?_, ?_⟩, fun s g now5 came => ⟨fun i cell r q hu hf => ?_,
    fun k first hu hr hd hfirst => ?_⟩⟩
  · have hslot := State.slotBoundary_due hst hnow hlast hu hv
    refine ⟨fun hs hb rot hrot => ?_, fun h => ?_⟩
    · rw [exec_slotBoundary, State.blockEvent_alive _ ha, hslot, if_pos ⟨hs, hb⟩, hrot]
    · have hno : ¬ ((v.group g.val).serves = true ∧ v.sarHeldBack g.val = false) := by
        rcases h with h | h <;> simp [h]
      rw [exec_slotBoundary, State.blockEvent_alive _ ha, hslot, if_neg hno]
  · rw [exec_conversionComplete, State.blockEvent_alive _ ha, State.conversionComplete_due x parity hu hc ht]
  · have hlate := State.sliceTimeout_late hc hl ht hw (hy.trans (by subst hx; rfl)) hu
    refine ⟨fun sp hsp => ?_, fun hsp => ?_⟩
    · rw [exec_sliceTimeout, State.blockEvent_alive _ ha, hlate, hsp]; rfl
    · rw [exec_sliceTimeout, State.blockEvent_alive _ ha, hlate, hsp]; rfl
  · rw [exec_sarclk, State.liveEvent_running _ (State.running_of_alive ha), State.sarClk]
  · exact State.serveSlot_urgent hu hf
  · subst hfirst
    rw [State.serveSlot_due hu hr hd]
    refine ⟨fun i r hf h => ?_, fun i j r hf hsim hlt => ?_, fun hf => ?_⟩
    · rw [hf, State.startDue_alone h]
    · rw [hf, State.startDue_pair hsim hlt rfl]
    · rw [hf, State.startDue_skipped]

end Sys2Proof.Machine
end

section
/-! Commands of the SAR groups (R130, R155, R264, R380, R470, R648). -/

namespace Sys2Proof.Machine

theorem exec_sarCtrlStart (s : State) (g : Fin 4) (list : Fin 16) :
    exec (.sarCtrlStart g list) s = .next (s.finish (s.hostWrite P.SAR_CTRL g.val (1 + 256 * list.val))) := rfl
theorem exec_sarCtrlStop (s : State) (g : Fin 4) :
    exec (.sarCtrlStop g) s = .next (s.finish (s.hostWrite P.SAR_CTRL g.val 2)) := rfl
theorem exec_sarCtrlResume (s : State) (g : Fin 4) :
    exec (.sarCtrlResume g) s = .next (s.finish (s.hostWrite P.SAR_CTRL g.val 3)) := rfl
theorem exec_sarCtrlClearCounters (s : State) (g : Fin 4) :
    exec (.sarCtrlClearCounters g) s = .next (s.finish (s.hostWrite P.SAR_CTRL g.val 4)) := rfl

/-- `SAR_CTRL` takes START with each list. -/
theorem valueOk_SAR_CTRL_start (inst : Nat) (list : Fin 16) : valueOk P.SAR_CTRL inst (1 + 256 * list.val) = true := by
  have hadmits : ∀ l : Fin 16, (RangeSpec.command 4 0xFFF).admits 0 (1 + 256 * l.val) = true := by decide
  have hval : valueOk P.SAR_CTRL inst (1 + 256 * list.val) =
      ((RangeSpec.command 4 0xFFF).admits 0 (1 + 256 * list.val) && true) := rfl
  rw [hval, hadmits list]
  rfl

/-- START carries its list beside its code (R155). -/
theorem State.sarCtrl_start (s : State) (g : Nat) (list : Fin 16) :
    s.sarCtrl g (1 + 256 * list.val) = s.sarStartCmd g list.val := by
  have hcode : bitsOf (1 + 256 * list.val) 0 8 = 1 := by simp only [bitsOf]; omega
  have hlist : bitsOf (1 + 256 * list.val) 8 4 = list.val := by simp only [bitsOf]; omega
  simp only [State.sarCtrl, hcode, hlist, if_true]

/-- A write of `SAR_CTRL` that the command layer takes runs the command of its code (R155). -/
theorem exec_sarCtrl_commands {s : State} (g : Fin 4) (hup : s.hopperUp = true) (hr : s.resetting (Fb.sar g.val) = false) :
    (∀ list : Fin 16, exec (.sarCtrlStart g list) s = .next (s.finish (s.sarStartCmd g.val list.val))) ∧
    exec (.sarCtrlStop g) s = .next (s.finish (s.sarCtrlStop g.val)) ∧
    exec (.sarCtrlResume g) s = .next (s.finish (s.sarCtrlResume g.val)) ∧
    exec (.sarCtrlClearCounters g) s = .next (s.finish (s.sarClear g.val)) := by
  have hwrite (v : Nat) (hv : valueOk P.SAR_CTRL g.val v = true) : s.hostWrite P.SAR_CTRL g.val v = s.sarCtrl g.val v :=
    State.hostWrite_SAR_CTRL hup g.isLt hv hr
  refine ⟨fun list => ?_, ?_, ?_, ?_⟩
  · rw [exec_sarCtrlStart, hwrite _ (valueOk_SAR_CTRL_start _ list), State.sarCtrl_start]
  · rw [exec_sarCtrlStop, hwrite 2 rfl]; rfl
  · rw [exec_sarCtrlResume, hwrite 3 rfl]; rfl
  · rw [exec_sarCtrlClearCounters, hwrite 4 rfl]; rfl

variable {s : State} {g : Nat}

/-- A START that Kiln's budget holds is the group's own (R264). -/
theorem State.sarStartCmd_held {l : Nat} (hb : s.budgetOk (0x08 + g) (s.sarExtra g l) = true) :
    s.sarStartCmd g l = s.sarCtrlStart g l := if_pos hb

/-- A START that Kiln's budget does not hold is deferred (R264). -/
theorem State.sarStartCmd_deferred {l : Nat} (hb : s.budgetOk (0x08 + g) (s.sarExtra g l) = false) :
    s.sarStartCmd g l = (s.bump P.KL_BDREFUSE).answer Status.budgetDeferred := if_neg (by simp [hb])

/-- START of a group that converts waits for its next slot boundary (R130). -/
theorem State.sarCtrlStart_serving (l : Nat) (h : (s.group g).state = .stopped ∨ (s.group g).state = .running) :
    s.sarCtrlStart g l = (s.setGroup g { s.group g with cmds := (s.group g).cmds ++ [.start l] }).done := by
  rcases h with h | h <;> simp only [State.sarCtrlStart, h, State.sarQueueCmd]

/-- STOP of a group that runs, or is about to, waits for its next slot boundary (R130). -/
theorem State.sarCtrlStop_taken (h : (s.group g).state = .running ∨ (s.group g).state = .gated true ∨
    (s.group g).state = .stopped ∧ (s.group g).cmds ≠ []) :
    s.sarCtrlStop g = (s.setGroup g { s.group g with cmds := (s.group g).cmds ++ [.stop] }).done := by
  rcases h with h | h | ⟨h, hc⟩
  · simp only [State.sarCtrlStop, h, State.sarQueueCmd]
  · simp only [State.sarCtrlStop, h, State.sarQueueCmd]
  · simp only [State.sarCtrlStop, h, if_neg (mt List.isEmpty_iff.mp hc), State.sarQueueCmd]

/-- STOP of a group that neither runs nor is about to is refused (R648). -/
theorem State.sarCtrlStop_refused
    (h : (s.group g).state = .gated false ∨ (s.group g).state = .stopped ∧ (s.group g).cmds = []) :
    s.sarCtrlStop g = s.answer Status.notPermitted := by
  rcases h with h | ⟨h, hc⟩
  · simp only [State.sarCtrlStop, h]
  · simp only [State.sarCtrlStop, h, hc, List.isEmpty_nil, if_true]

/-- RESUME takes a group out of SAFE once its class C fault is acknowledged (Table 5.7, R470). -/
theorem State.sarCtrlResume_safe (hst : (s.group g).state = .safe) (hc : s.pendingC (Fb.sar g) = false) :
    s.sarCtrlResume g = ((s.setGroup g { s.group g with state := .stopped }).openWindow (Fb.sar g)).done := if_pos ⟨hst, hc⟩

theorem State.sarCtrlResume_refused (hst : (s.group g).state ≠ .safe) :
    s.sarCtrlResume g = s.answer Status.notPermitted := if_neg fun ⟨h, _⟩ => hst h

/-- Settles O15: the commands are writes that the command layer takes; START passes Kiln's budget first, and each command acts or is
refused by the group's state. -/
theorem sarCommandsComplete : Obligations.SarCommandsComplete := by
  unfold Obligations.SarCommandsComplete
  intro s g hup hr
  obtain ⟨hstart, hstop, hresume, hclear⟩ := exec_sarCtrl_commands g hup hr
  rw [hstop, hresume, hclear]
  refine ⟨fun l hb hst => ?_, fun l was hb hst => ?_, fun l hb => ?_, fun l hb hst => ?_, fun h => ?_, fun h => ?_, fun hst => ?_,
    fun hst hc => ?_, fun hst => ?_, fun hg => ?_, fun hg => ?_⟩
  -- START
  · rw [hstart, State.sarStartCmd_held hb, State.sarCtrlStart_serving _ hst]
  · rw [hstart, State.sarStartCmd_held hb, State.sarCtrlStart, hst]; rfl
  · rw [hstart, State.sarStartCmd_deferred hb]
  · rw [hstart, State.sarStartCmd_held hb, State.sarCtrlStart, hst]
  -- STOP
  · rw [State.sarCtrlStop_taken h]
  · rw [State.sarCtrlStop_refused h]
  · rw [State.sarCtrlStop, hst]
  -- RESUME
  · rw [State.sarCtrlResume_safe hst hc]
  · rw [State.sarCtrlResume_refused hst]
  -- clearing of counters
  · rw [State.sarClear, if_neg hg]
  · rw [State.sarClear, if_pos hg]

end Sys2Proof.Machine
end

section
/-! System calibration and reference buffers (R121, R135, R144, R145, R147, R169, Tables 5.8 and 6.6). -/

namespace Sys2Proof.Machine

theorem exec_syscalClear (s : State) (g : Fin 4) (cell : Fin 64) : exec (.syscalClear (.ctrl g cell)) s =
    .next (s.finish (s.hostWrite P.SAR_SYSCAL g.val (cell.val + 256 * 0))) := rfl
theorem exec_syscalZero (s : State) (g : Fin 4) (cell : Fin 64) : exec (.syscalZero (.ctrl g cell)) s =
    .next (s.finish (s.hostWrite P.SAR_SYSCAL g.val (cell.val + 256 * 1))) := rfl
theorem exec_syscalFull (s : State) (g : Fin 4) (cell : Fin 64) : exec (.syscalFull (.ctrl g cell)) s =
    .next (s.finish (s.hostWrite P.SAR_SYSCAL g.val (cell.val + 256 * 2))) := rfl
theorem exec_syscalApply (s : State) (g : Fin 4) (cell : Fin 64) : exec (.syscalApply (.ctrl g cell)) s =
    .next (s.finish (s.hostWrite P.SAR_SYSCAL g.val (cell.val + 256 * 3))) := rfl
theorem exec_syscalDone (s : State) (g : Fin 4) :
    exec (.syscalDone g) s = .next (s.finish (s.blockEvent (fun s => s.syscalDone g.val))) := rfl
theorem exec_syscalTimeout (s : State) (g : Fin 4) :
    exec (.syscalTimeout g) s = .next (s.finish (s.blockEvent (fun s => s.syscalTimeout g.val))) := rfl
theorem exec_refsetElapsed_sar (s : State) (g : Fin 4) :
    exec (.refsetElapsed (.sar g)) s = .next (s.finish (s.blockEvent (fun s => s.sarRefSettled g.val))) := rfl
theorem exec_refsetElapsed_ic (s : State) :
    exec (.refsetElapsed .ic) s = .next (s.finish (s.blockEvent (fun s => s.icRefSettled))) := rfl
theorem exec_refoot_sar (s : State) (g : Fin 4) :
    exec (.refoot (.sar g)) s = .next (s.finish (s.liveEvent (fun s => s.sarRefOot g.val))) := rfl
theorem exec_refoot_ic (s : State) : exec (.refoot .ic) s = .next (s.finish (s.liveEvent (fun s => s.icRefOot))) := rfl

/-! ### Writes of `SAR_SYSCAL` -/

/-- `SAR_SYSCAL` takes each step of each cell. -/
theorem valueOk_SAR_SYSCAL (inst : Nat) (cell : Fin 64) (k : Fin 4) :
    valueOk P.SAR_SYSCAL inst (cell.val + 256 * k.val) = true := by
  have hadmits : ∀ (c : Fin 64) (k : Fin 4), (RangeSpec.bits 0x33F).admits 0 (c.val + 256 * k.val) = true := by decide
  have hval : valueOk P.SAR_SYSCAL inst (cell.val + 256 * k.val) =
      ((RangeSpec.bits 0x33F).admits 0 (cell.val + 256 * k.val) && true) := rfl
  rw [hval, hadmits cell k]
  rfl

/-- Step `k` of `SAR_SYSCAL` at group `g` (R144). -/
def State.sysStep (s : State) (g cell : Nat) : Fin 4 → State
  | 0 => s.sysClear g cell
  | 1 => s.sysStepCmd g cell false
  | 2 => s.sysStepCmd g cell true
  | 3 => s.sysApply g cell

/-- A write of `SAR_SYSCAL` that the command layer takes runs the step it names on the cell it names (R144). -/
theorem State.hostWrite_sysStep {s : State} (g : Fin 4) (cell : Fin 64) (k : Fin 4) (hup : s.hopperUp = true)
    (hr : s.resetting (Fb.sar g.val) = false) :
    s.hostWrite P.SAR_SYSCAL g.val (cell.val + 256 * k.val) = s.sysStep g.val cell.val k := by
  have hcell : bitsOf (cell.val + 256 * k.val) 0 6 = cell.val := by simp only [bitsOf]; omega
  have hstep : bitsOf (cell.val + 256 * k.val) 8 2 = k.val := by simp only [bitsOf]; omega
  rw [State.hostWrite_SAR_SYSCAL hup g.isLt (valueOk_SAR_SYSCAL _ cell k) hr]
  simp only [State.sysCalWrite, hcell, hstep]
  match k with
  | 0 | 1 | 2 | 3 => rfl

/-- The rows of `SAR_SYSCAL`, where the command layer takes their writes. -/
theorem exec_sysCal_commands {s : State} (g : Fin 4) (cell : Fin 64) (hup : s.hopperUp = true)
    (hr : s.resetting (Fb.sar g.val) = false) :
    exec (.syscalClear (.ctrl g cell)) s = .next (s.finish (s.sysClear g.val cell.val)) ∧
    exec (.syscalZero (.ctrl g cell)) s = .next (s.finish (s.sysStepCmd g.val cell.val false)) ∧
    exec (.syscalFull (.ctrl g cell)) s = .next (s.finish (s.sysStepCmd g.val cell.val true)) ∧
    exec (.syscalApply (.ctrl g cell)) s = .next (s.finish (s.sysApply g.val cell.val)) := by
  have h0 : s.hostWrite P.SAR_SYSCAL g.val (cell.val + 256 * 0) = _ := State.hostWrite_sysStep g cell 0 hup hr
  have h1 : s.hostWrite P.SAR_SYSCAL g.val (cell.val + 256 * 1) = _ := State.hostWrite_sysStep g cell 1 hup hr
  have h2 : s.hostWrite P.SAR_SYSCAL g.val (cell.val + 256 * 2) = _ := State.hostWrite_sysStep g cell 2 hup hr
  have h3 : s.hostWrite P.SAR_SYSCAL g.val (cell.val + 256 * 3) = _ := State.hostWrite_sysStep g cell 3 hup hr
  rw [exec_syscalClear, exec_syscalZero, exec_syscalFull, exec_syscalApply, h0, h1, h2, h3]
  exact ⟨rfl, rfl, rfl, rfl⟩

/-! ### Steps -/

variable {s : State} {g cell : Nat}

/-- CLEAR gives the cell unity coefficients, which the groups take at their next slot boundary (R121, R147). -/
theorem State.sysClear_idle (hb : (s.group g).syscal.busy = false) : s.sysClear g cell =
    (((((((s.sysCell g cell).sarKeepSys cell).setPar P.SAR_SYSOFS cell 0).setPar P.SAR_SYSGAIN cell (2 ^ 30)).sarCalCell
      cell).setPar P.SAR_SYSST g 2).done) := if_neg (by simp [hb])

/-- ZERO or FULL starts a step of 256 conversions, for which Kiln powers a gated group (R144). -/
theorem State.sysStepCmd_started {u : State} (full : Bool) (hb : (s.group g).syscal.busy = false)
    (hbudget : s.budgetOk (0x08 + g) s.sysExtra = true) (hst : (s.group g).state ≠ .safe)
    (hu : u = (if (s.group g).serves = true then s else s.powerUp (Fb.sar g)).sysCell g cell) :
    s.sysStepCmd g cell full = ((u.setGroup g { u.group g with syscal := { (u.group g).syscal with
      busy := true, full := full, started := 0, done := 0, sum := 0, failed := false, since := u.t } }).setPar
        P.SAR_SYSST g 1).answer Status.acceptedPending := by
  have hb' : ¬ (s.group g).syscal.busy = true := by simp [hb]
  subst hu
  rw [State.sysStepCmd, if_neg hb', if_pos hbudget]
  exact (if_neg hb').trans (if_neg hst)

/-- APPLY with both means of the cell, a span of at least 256 codes and a gain of 0.5 to 2 writes offset and gain (R147). -/
theorem State.sysApply_written {z f zt : Nat} {num : Int} (hb : (s.group g).syscal.busy = false)
    (hz : (s.group g).syscal.zero = some z) (hf : (s.group g).syscal.fullMean = some f) (hc : (s.group g).syscal.cell = cell)
    (hzt : zt = if isSignedMode (s.par P.AC_MODE cell) then 2048 else 0) (hlt : z < f)
    (hnum : num = 64 * ((s.par P.SAR_SYSFS cell : Int) - zt) * 2 ^ 30) (hspan : 16384 ≤ f - z)
    (hlo : ((f - z) * 2 ^ 30 : Nat) ≤ 2 * num) (hhi : num ≤ (2 * (f - z) * 2 ^ 30 : Nat)) :
    s.sysApply g cell = (((((s.sarKeepSys cell).setParI P.SAR_SYSOFS cell ((z : Int) - 64 * zt)).setPar P.SAR_SYSGAIN cell
      (min (openDivI 8 num (f - z)) (2 ^ 31 - 1)).toNat).sarCalCell cell).setPar P.SAR_SYSST g 2).done := by
  have hpos : ¬ (f : Int) - z < 0 := by omega
  have hden : ((f : Int) - z).natAbs = f - z := by omega
  have hgood : ¬ (f - z < 16384 ∨ 2 * num < ((f - z) * 2 ^ 30 : Nat) ∨ (2 * (f - z) * 2 ^ 30 : Nat) < num) := by omega
  simp only [State.sysApply, hb, hz, hf, hc, ← hzt, ← hnum, if_neg hpos, hden, if_neg hgood, ne_eq, not_true_eq_false, if_false,
    Bool.false_eq_true]

/-- A step in progress refuses each other one (R144). -/
theorem State.sysStep_busy (cell : Nat) (hb : (s.group g).syscal.busy = true) :
    s.sysClear g cell = s.answer Status.busyLocked ∧ (∀ full : Bool, s.sysStepCmd g cell full = s.answer Status.busyLocked) ∧
    s.sysApply g cell = s.answer Status.busyLocked := ⟨if_pos hb, fun _ => if_pos hb, if_pos hb⟩

/-- A conversion with STL or SAT fails the step (R145). -/
theorem State.syscalDone_failed (hb : (s.group g).syscal.busy = true) (hf : (s.group g).syscal.failed = true) :
    s.syscalDone g = s.sysComplete g 5 Status.faultState := (if_neg (by simp [hb])).trans (if_pos hf)

/-- 256 conversions complete the step, whose mean is stored as its kind says (R144). -/
theorem State.syscalDone_complete (hb : (s.group g).syscal.busy = true) (hf : (s.group g).syscal.failed = false)
    (hd : 256 ≤ (s.group g).syscal.done) : s.syscalDone g = (s.setGroup g { s.group g with syscal :=
      if (s.group g).syscal.full = true then
        { (s.group g).syscal with fullMean := some (openDiv 7 (s.group g).syscal.sum 4) }
      else { (s.group g).syscal with zero := some (openDiv 7 (s.group g).syscal.sum 4) } }).sysComplete g 2 Status.ok :=
  (if_neg (by simp [hb])).trans ((if_neg (by simp [hf])).trans (if_pos hd))

/-- A step that has not completed by `CAL_TIMEOUT` fails and is recorded (R145). -/
theorem State.syscalTimeout_late (hb : (s.group g).syscal.busy = true) (hd : (s.group g).syscal.done < 256)
    (ht : (s.group g).syscal.since + msTicks (s.par P.CAL_TIMEOUT) ≤ s.t) :
    s.syscalTimeout g = (s.sysComplete g 4 Status.timeout).raise (Fb.sar g) 3 1 := if_pos ⟨hb, hd, ht⟩

/-! ### Reference buffers -/

/-- A group's REFBUF is ready 2.0 ms after its enable (R135). -/
theorem State.sarRefSettled_due {t0 : Nat} (h : (s.group g).refOn = some t0) (ht : t0 + msTicks 2 ≤ s.t) :
    s.sarRefSettled g = s.setGroup g { s.group g with refReady := true } := by
  simp only [State.sarRefSettled, h]
  exact if_pos ht

/-- The shared REFBUF is ready 2.0 ms after its enable (R169). -/
theorem State.icRefSettled_due {t0 : Nat} (h : s.mains.refOn = some t0) (ht : t0 + msTicks 2 ≤ s.t) :
    s.icRefSettled = { s with mains := { s.mains with refReady := true } } := by
  simp only [State.icRefSettled, h]
  exact if_pos ht

/-- A host that can send commands is one of a device whose blocks act. -/
theorem State.alive_of_hopperUp (h : s.hopperUp = true) : s.alive = true := by
  simp only [State.hopperUp, Bool.and_eq_true] at h
  exact h.1.1

/-! ### The obligation -/

/-- Settles O16: the steps are writes that the command layer takes; each starts, writes or is refused, and ends, as its law above
says; a REFBUF becomes ready and is recorded by whose it is. -/
theorem systemCalibrationAndReferencesComplete : Obligations.SystemCalibrationAndReferencesComplete := by
  unfold Obligations.SystemCalibrationAndReferencesComplete
  refine ⟨fun s g cell hup hr => ?_, fun s ha => ⟨fun g t0 h ht => ?_, fun t0 h ht => ?_, fun g h => ?_, fun h => ?_⟩⟩
  · have ha := State.alive_of_hopperUp hup
    obtain ⟨hclear, hzero, hfull, happly⟩ := exec_sysCal_commands g cell hup hr
    rw [hclear, hzero, hfull, happly, exec_syscalDone, exec_syscalTimeout, State.blockEvent_alive _ ha,
      State.blockEvent_alive _ ha]
    refine ⟨fun hb => ⟨?_, fun full u hbudget hst hu => ?_, fun z f zt num hz hf hc hzt hlt hnum hspan hlo hhi => ?_⟩,
      fun hb => ?_⟩
    · rw [State.sysClear_idle hb]
    · rw [← State.sysStepCmd_started full hb hbudget hst hu]
      cases full
      · exact hzero
      · exact hfull
    · rw [State.sysApply_written hb hz hf hc hzt hlt hnum hspan hlo hhi]
    · obtain ⟨hc, hs, hp⟩ := State.sysStep_busy cell.val hb
      rw [hc, hs, hs, hp]
      refine ⟨rfl, rfl, rfl, rfl, fun hf => ?_, fun hf hd hk => ?_, fun hf hd hk => ?_, fun hd ht => ?_⟩
      · rw [State.syscalDone_failed hb hf]
      · rw [State.syscalDone_complete hb hf hd, hk]; rfl
      · rw [State.syscalDone_complete hb hf hd, if_pos hk]
      · rw [State.syscalTimeout_late hb hd ht]
  · rw [exec_refsetElapsed_sar, State.blockEvent_alive _ ha, State.sarRefSettled_due h ht]
  · rw [exec_refsetElapsed_ic, State.blockEvent_alive _ ha, State.icRefSettled_due h ht]
  · rw [exec_refoot_sar, State.liveEvent_running _ (State.running_of_alive ha), State.sarRefOot, if_pos h]
  · rw [exec_refoot_ic, State.liveEvent_running _ (State.running_of_alive ha), State.icRefOot, if_pos h]

end Sys2Proof.Machine
end

section
/-! Mains crossings, their silence and the encoder-fault pin (R161, R162, R541, Tables 2.1, 6.2 and 6.3). -/

namespace Sys2Proof.Machine

theorem exec_mainsZeroCrossing (s : State) (rising : Bool) : exec (.mainsZeroCrossing rising) s =
    .next (s.finish ((s.liveEvent (fun s => s.mainsCross rising)).sourceEvent (fun s => s.engMains rising))) := rfl
theorem exec_mainsTimeout (s : State) : exec .mainsTimeout s = .next (s.finish (s.liveEvent (fun s =>
    if s.mainsQuiet then (if s.resetting Fb.wheel then s.mainsLost else s.mainsLost.engMainsSilent) else s))) := rfl
theorem exec_encfltPinChange (s : State) (p : Fin 48) (level : Bool) :
    exec (.encfltPinChange p level) s = .next (s.finish (s.liveEvent (fun s => s.encfltPinChange p.val level))) := rfl

variable {s : State}

/-! ### Entry into HELD -/

/-- Steps that only ask for records, one after the other, only ask for records. -/
theorem State.foldl_todo {α : Type} {f : State → α → State}
    (hf : ∀ (u : State) (a : α), ∃ d, f u a = { u with todo := d }) (l : List α) (u : State) :
    ∃ d, l.foldl f u = { u with todo := d } := by
  induction l generalizing u with
  | nil => exact ⟨_, rfl⟩
  | cons a l ih =>
    obtain ⟨d, h⟩ := hf u a
    obtain ⟨d', h'⟩ := ih (f u a)
    exact ⟨d', by rw [List.foldl_cons, h', h]⟩

/-- What entry into HELD records of converter `i`: MAINSLOST, where it runs in MAINS mode (R162). -/
def State.mainsLostAt (s : State) (i : Nat) : State :=
  let mode := if (s.ic i).phase = .waiting then s.par P.IC_MODE i else (s.ic i).mode
  if (s.ic i).state = .running ∧ mode = 0 then s.raise (Fb.ic i) 3 2 else s

theorem State.mainsLostAt_shape (s : State) (i : Nat) : ∃ d, s.mainsLostAt i = { s with todo := d } := by
  rw [State.mainsLostAt]
  generalize (if (s.ic i).phase = .waiting then s.par P.IC_MODE i else (s.ic i).mode) = mode
  split <;> exact ⟨_, rfl⟩

/-- The lock as it enters HELD (Table 6.2). -/
def State.heldLock (s : State) : MainsLock :=
  { s.mains with state := .held, heldSum := s.mainsEstimate.1, heldCount := s.mainsEstimate.2, run := [] }

theorem State.mainsHeld_eq (s : State) : s.mainsHeld =
    (List.range 8).foldl State.mainsLostAt ({ s with mains := s.heldLock }.bump P.IC_MLOSSCNT) := rfl

/-- Entry into HELD changes the lock, counts, and asks for records (R162). -/
theorem State.mainsHeld_shape (s : State) : ∃ m p d, s.mainsHeld = { s with mains := m, params := p, todo := d } := by
  obtain ⟨d, h⟩ := State.foldl_todo (f := State.mainsLostAt) State.mainsLostAt_shape (List.range 8)
    ({ s with mains := s.heldLock }.bump P.IC_MLOSSCNT)
  exact ⟨_, _, d, s.mainsHeld_eq.trans h⟩

/-! ### Crossings at the lock -/

section
variable {m : MainsLock} {t0 p : Nat}
  (hm : m = { s.mains with lastAny := some s.t, state := if s.mains.state = .nolock then .acquire else s.mains.state })
include hm

/-- A falling crossing is only noted (R161). -/
theorem State.mainsCross_falling : s.mainsCross false = { s with mains := m } := by
  subst hm; rfl

/-- The first rising crossing begins the first period (R161). -/
theorem State.mainsCross_first (h : s.mains.lastRise = none) :
    s.mainsCross true = { s with mains := { m with lastRise := some s.t } } := by
  subst hm
  simp only [State.mainsCross, h, Bool.true_eq_false, if_false]

/-- An accepted period counts, and the fourth that agrees with those before it locks (R161, Table 6.3). -/
theorem State.mainsCross_accepted (h : s.mains.lastRise = some t0) (hp : p = s.t - t0) (ha : periodAccepted p = true) :
    s.mainsCross true = { s with mains := { m with
      lastRise := some s.t, periods := (p :: s.mains.periods).take 16, run := (p :: s.mains.run).take 4, rejected := 0
      state := if (m.state = LockState.acquire ∨ m.state = LockState.held) ∧ periodsAgree ((p :: s.mains.run).take 4) = true then
        LockState.locked else m.state } } := by
  subst hm hp
  simp only [State.mainsCross, h, ha, Bool.true_eq_false, if_false, if_true, Bool.and_eq_true, Bool.or_eq_true, beq_iff_eq]

/-- A rejected period starts the run anew, and the second in a row unlocks (Table 6.3). -/
theorem State.mainsCross_rejected {u : State} (h : s.mains.lastRise = some t0) (hp : p = s.t - t0) (ha : periodAccepted p = false)
    (hu : u = { s with mains := { m with lastRise := some s.t, run := [], rejected := s.mains.rejected + 1 } }) :
    s.mainsCross true = if s.mains.state = .locked ∧ 1 ≤ s.mains.rejected then u.mainsHeld else u := by
  have hlocked : (if s.mains.state = .nolock then LockState.acquire else s.mains.state) = .locked ↔ s.mains.state = .locked := by
    cases s.mains.state <;> decide
  subst hm hp hu
  simp only [State.mainsCross, h, ha, Bool.true_eq_false, Bool.false_eq_true, if_false, hlocked, Nat.succ_le_succ_iff]

end

/-! ### Crossings at the device -/

/-- A crossing changes the lock, which may then enter HELD. -/
theorem State.mainsCross_shape (s : State) (rising : Bool) :
    ∃ m u, u = { s with mains := m } ∧ (s.mainsCross rising = u ∨ s.mainsCross rising = u.mainsHeld) := by
  cases rising with
  | false => exact ⟨_, _, rfl, .inl (State.mainsCross_falling rfl)⟩
  | true =>
    cases h : s.mains.lastRise with
    | none => exact ⟨_, _, rfl, .inl (State.mainsCross_first rfl h)⟩
    | some t0 =>
      cases ha : periodAccepted (s.t - t0) with
      | true => exact ⟨_, _, rfl, .inl (State.mainsCross_accepted rfl h rfl ha)⟩
      | false =>
        rw [State.mainsCross_rejected rfl h rfl ha rfl]
        split
        · exact ⟨_, _, rfl, .inr rfl⟩
        · exact ⟨_, _, rfl, .inl rfl⟩

/-- A crossing at the lock resets nothing and ends no reset. -/
theorem State.mainsCross_resets (s : State) (rising : Bool) :
    (s.mainsCross rising).t = s.t ∧ (s.mainsCross rising).pwr = s.pwr := by
  obtain ⟨m, u, rfl, h | h⟩ := s.mainsCross_shape rising
  · rw [h]; exact ⟨rfl, rfl⟩
  · obtain ⟨m', p, d, h'⟩ := State.mainsHeld_shape { s with mains := m }
    rw [h, h']; exact ⟨rfl, rfl⟩

/-- A crossing reaches the lock, and then the engine of a Wheel that is not being reset. -/
theorem exec_mainsZeroCrossing_running (rising : Bool) (hp : s.pwr.phase = .running) (hr : s.resetting Fb.wheel = false) :
    exec (.mainsZeroCrossing rising) s = .next (s.finish ((s.mainsCross rising).engMains rising)) := by
  obtain ⟨ht, hw⟩ := s.mainsCross_resets rising
  rw [exec_mainsZeroCrossing, State.liveEvent_running _ hp, State.sourceEvent_running]
  · rw [hw]; exact hp
  · rw [State.resetting, ht, hw]; exact hr

/-! ### Silence and the pin -/

/-- Silence for 15 ms reaches the lock, and the engine of a Wheel that is not being reset. -/
theorem exec_mainsTimeout_quiet (hp : s.pwr.phase = .running) (hr : s.resetting Fb.wheel = false) (hq : s.mainsQuiet = true) :
    exec .mainsTimeout s = .next (s.finish s.mainsLost.engMainsSilent) := by
  rw [exec_mainsTimeout, State.liveEvent_running _ hp, if_pos hq, hr]; rfl

/-- Settles O8: a crossing passes the lock, by its kind and its period, and then the engine; a silence falls back by the lock's
state; a pin acts by its function. -/
theorem mainsCrossingsAndEncoderFaultAct : Obligations.MainsCrossingsAndEncoderFaultAct := by
  unfold Obligations.MainsCrossingsAndEncoderFaultAct
  refine ⟨fun s m hp hr hm => ⟨?_, fun h => ?_, fun t0 p h hper => ⟨fun ha run hrun => ?_, fun ha u hu => ?_⟩,
    fun hq => ⟨fun h => ?_, fun h => ?_, fun h => ?_⟩⟩, fun s p level hp => ⟨fun hf => ?_, fun hf => ?_⟩⟩
  -- crossings
  · rw [exec_mainsZeroCrossing_running _ hp hr, State.mainsCross_falling hm]
  · rw [exec_mainsZeroCrossing_running _ hp hr, State.mainsCross_first hm h]
  · rw [exec_mainsZeroCrossing_running _ hp hr, State.mainsCross_accepted hm h hper ha, hrun]
  · rw [exec_mainsZeroCrossing_running _ hp hr, State.mainsCross_rejected hm h hper ha hu]
  -- silence
  · rw [exec_mainsTimeout_quiet hp hr hq, State.mainsLost, h]
  · rw [exec_mainsTimeout_quiet hp hr hq, State.mainsLost, h]
  · rcases h with h | h <;> rw [exec_mainsTimeout_quiet hp hr hq, State.mainsLost, h]
  -- the pin
  · rw [exec_encfltPinChange, State.liveEvent_running _ hp, State.encfltPinChange, if_pos hf]
  · rw [exec_encfltPinChange, State.liveEvent_running _ hp, State.encfltPinChange, if_neg hf]

end Sys2Proof.Machine
end

section
/-! Integrations, their overheads and what a delivered result holds (R61, R65, R92, R156–R160, R166–R169, R176). -/

namespace Sys2Proof.Machine

theorem exec_integrationEnd (s : State) (i : Fin 8) :
    exec (.integrationEnd i) s = .next (s.finish (s.blockEvent (fun s => s.integrationEnd i.val))) := rfl
theorem exec_cycleWindowTimeout (s : State) (i : Fin 8) :
    exec (.cycleWindowTimeout i) s = .next (s.finish (s.blockEvent (fun s => s.cycleTimeout i.val))) := rfl
theorem exec_overheadTimeout (s : State) (i : Fin 8) :
    exec (.overheadTimeout i) s = .next (s.finish (s.blockEvent (fun s => s.overheadTimeout i.val))) := rfl
theorem exec_overheadEnd (s : State) (i : Fin 8) (x : Integrated) (parity : Bool) : exec (.overheadEnd i x parity) s =
    .next (s.finish (s.blockEvent (fun s => (s.overheadEnd i.val x parity).calOverheadOver i.val))) := rfl

variable {s : State} {i : Nat}

/-! ### Ends of windows -/

/-- A complete window ends with its stamp, its length and its front end's mean (R157, R158). -/
theorem State.integrationEnd_done {u : State} (h : s.icWindowDone i = true) (hu : u = s.icWatch i) :
    s.integrationEnd i = (u.setIc i { u.ic i with
      phase := .overhead, stop := u.t, angle := u.angleStamp, time := u.t, discard := false
      front := u.icFront i }).setPar P.IC_TLEN i (u.t - (u.ic i).start) := by
  subst hu
  exact if_pos h

/-- A CYCLE window that has lasted `IC_CYCMAX` is given up, counted and recorded (R160). -/
theorem State.cycleTimeout_late (hp : (s.ic i).phase = .window) (hm : (s.ic i).mode = 1) (hd : s.icWindowDone i = false)
    (ht : (s.ic i).start + msTicks (s.par P.IC_CYCMAX i) ≤ s.t) :
    s.cycleTimeout i = ((s.icEndWindow i true).bump P.IC_CYCTO i).raise (Fb.ic i) 1 1 := if_pos ⟨hp, hm, hd, ht⟩

/-- An overhead of 1.2 ms is recorded (Table 6.6). -/
theorem State.overheadTimeout_late (hst : (s.ic i).state = .running) (hp : (s.ic i).phase = .overhead)
    (ht : (s.ic i).stop + 120000 ≤ s.t) : s.overheadTimeout i = s.raise (Fb.ic i) 5 3 := if_pos ⟨hst, hp, ht⟩

/-! ### Results -/

/-- The slot whose previous result a result replaces, 4 for an urgent one (R169). -/
def IntConv.resultSlot (c : IntConv) : Nat := if c.urgent then 4 else c.slot

/-- The data of a result of the value `v` of the front end (R61, R65, R92, R167, R169). -/
def IntConv.resultData (c : IntConv) (signed : Bool) (v : Frac) (err : Int) : Int :=
  let value := (icResult c signed (adcCode 18 signed v err)).1
  if c.refOff then 0
  else if c.stale then signedOf 32 (tblGet 0 c.prev c.resultSlot)
  else if signed then spanEnd min18 max18 value (spanPlace signed v)
  else spanEnd 0 262143 value (spanPlace signed v)

/-- Whether a result carries SAT (R169). -/
def IntConv.resultSat (c : IntConv) (signed : Bool) (v : Frac) (x : Integrated) : Bool :=
  (x.overSpan || x.limit || c.sat || spanPlace signed v != .within) || (icResult c signed (adcCode 18 signed v x.err)).2

/-- The flags of a result (R169). -/
def IntConv.resultFlags (c : IntConv) (sat xck dfr : Bool) : Nat :=
  flagIf c.stale Flag.stl ||| flagIf sat Flag.sat ||| flagIf (c.rnr || c.refOff) Flag.rnr ||| flagIf xck Flag.xck
    ||| flagIf (c.calOwn || c.calCell) Flag.cal ||| flagIf (c.seq || c.cellSeq) Flag.seq ||| flagIf dfr Flag.dfr

/-- The result of the integration under way is formed, checked, kept as its slot's and delivered (R167–R169, R175). -/
def State.icResultDue (s : State) (i : Nat) (x : Integrated) (parity : Bool) : State :=
  let c := s.ic i
  let signed := isSignedMode (s.par P.AC_MODE c.cell)
  let v := c.front.out x.signal
  let data := c.resultData signed v x.err
  let k := s.icCheck i data
  let d := k.2.takeDfr (0x10 + i)
  let u := if c.urgent then d.2.bump P.IC_URGCNT i else d.2
  let u := u.setIc i { u.ic i with prev := tblSet 0 c.prev c.resultSlot (wrapTo 32 data) }
  (u.setParI P.IC_RESULT i data).icDeliver i data (c.resultFlags (c.resultSat signed v x) k.1 d.1) parity

/-- What follows an overhead: the converter stops, or the next integration starts (R157, R160, R166). -/
def State.icGoesOn (s : State) (i : Nat) : State :=
  let c := s.ic i
  if c.state ≠ .running then s
  else if c.nextSlot.isNone ∧ (c.stopDue ∨ (c.discard = false ∧ (c.once ∨ c.urgent))) then
    (s.setIc i { c with state := .stopped, phase := .waiting, stopDue := false, urgent := false }).icSwap i
  else
    (s.setIc i { c with stopDue := false }).icBegin i (if c.discard ∧ c.urgent ∧ c.nextSlot.isNone then some c.cell else none)

/-- An overhead of 1 ms ends with the result, or without one where the window was given up (R157, R160). -/
theorem State.overheadEnd_due (x : Integrated) (parity : Bool) (hst : (s.ic i).state = .running)
    (hp : (s.ic i).phase = .overhead) (ht : (s.ic i).stop + msTicks 1 ≤ s.t) :
    s.overheadEnd i x parity =
      (if (s.ic i).discard then s.icGiveUp i else s.icResultDue i x parity).icGoesOn i := if_pos ⟨hst, hp, ht⟩

/-! ### After an overhead -/

/-- A converter without a next slot stops where a stop is asked for, or its result was the only one (R166). -/
theorem State.icGoesOn_stops (hst : (s.ic i).state = .running) (hn : (s.ic i).nextSlot = none)
    (h : (s.ic i).stopDue = true ∨ (s.ic i).discard = false ∧ ((s.ic i).once = true ∨ (s.ic i).urgent = true)) :
    s.icGoesOn i = (s.setIc i
      { s.ic i with state := .stopped, phase := .waiting, stopDue := false, urgent := false }).icSwap i := by
  have hrun : ¬ (s.ic i).state ≠ .running := not_not.mpr hst
  exact (if_neg hrun).trans (if_pos ⟨by rw [hn]; rfl, h⟩)

/-- After a window given up a converter to which no stop is due integrates again, the urgent cell where it was urgent (R160). -/
theorem State.icGoesOn_again (hst : (s.ic i).state = .running) (hn : (s.ic i).nextSlot = none) (hs : (s.ic i).stopDue = false)
    (hd : (s.ic i).discard = true) : s.icGoesOn i = (s.setIc i { s.ic i with stopDue := false }).icBegin i
      (if (s.ic i).urgent = true then some (s.ic i).cell else none) := by
  simp [State.icGoesOn, hst, hn, hs, hd]

/-- A converter with a next slot goes on with it (R165). -/
theorem State.icGoesOn_next (hst : (s.ic i).state = .running) (hn : (s.ic i).nextSlot ≠ none) :
    s.icGoesOn i = (s.setIc i { s.ic i with stopDue := false }).icBegin i none := by
  simp [State.icGoesOn, hst, hn]

/-! ### Windows given up -/

/-- Giving an integration up keeps what decides how the converter goes on. -/
theorem State.icGiveUp_keeps (s : State) (i : Nat) : ((s.icGiveUp i).ic i).state = (s.ic i).state ∧
    ((s.icGiveUp i).ic i).nextSlot = (s.ic i).nextSlot ∧ ((s.icGiveUp i).ic i).stopDue = (s.ic i).stopDue ∧
    ((s.icGiveUp i).ic i).discard = (s.ic i).discard ∧ ((s.icGiveUp i).ic i).urgent = (s.ic i).urgent ∧
    ((s.icGiveUp i).ic i).cell = (s.ic i).cell := by
  simp only [State.icGiveUp]
  split
  · exact ⟨rfl, rfl, rfl, rfl, rfl, rfl⟩
  · split
    · simp only [State.setCell_ic, State.ic_setIc, and_self]
    · simp only [State.ic_setIc, and_self]

/-- The overhead after a window given up gives no result: the converter stops or integrates again (R160). -/
theorem State.overheadEnd_discarded {w : State} (x : Integrated) (parity : Bool) (hst : (s.ic i).state = .running)
    (hp : (s.ic i).phase = .overhead) (ht : (s.ic i).stop + msTicks 1 ≤ s.t) (hd : (s.ic i).discard = true)
    (hw : w = s.icGiveUp i) :
    ((s.ic i).nextSlot = none → (s.ic i).stopDue = true → s.overheadEnd i x parity =
      (w.setIc i { w.ic i with state := .stopped, phase := .waiting, stopDue := false, urgent := false }).icSwap i) ∧
    ((s.ic i).nextSlot = none → (s.ic i).stopDue = false → s.overheadEnd i x parity =
      (w.setIc i { w.ic i with stopDue := false }).icBegin i (if (s.ic i).urgent = true then some (s.ic i).cell else none)) ∧
    ((s.ic i).nextSlot ≠ none → s.overheadEnd i x parity = (w.setIc i { w.ic i with stopDue := false }).icBegin i none) := by
  obtain ⟨hst', hn', hs', hd', hu', hc'⟩ := s.icGiveUp_keeps i
  rw [State.overheadEnd_due x parity hst hp ht, if_pos hd]
  subst hw
  rw [← hst'] at hst
  rw [← hd'] at hd
  rw [← hn', ← hs', ← hu', ← hc']
  exact ⟨fun hn hs => State.icGoesOn_stops hst hn (.inl hs), fun hn hs => State.icGoesOn_again hst hn hs hd,
    fun hn => State.icGoesOn_next hst hn⟩

/-! ### What a delivered result leaves -/

theorem bitOf_eq_testBit (x k : Nat) : bitOf x k = x.testBit k := by
  rw [bitOf, Nat.testBit_eq_decide_div_mod_eq]; rfl

theorem bitOf_or (x y k : Nat) : bitOf (x ||| y) k = (bitOf x k || bitOf y k) := by
  simp only [bitOf_eq_testBit, Nat.testBit_or]

theorem bitOf_flagIf (c : Bool) (f k : Nat) : bitOf (flagIf c f) k = (c && bitOf f k) := by
  cases c <;> simp [flagIf, bitOf]

/-- STL, SAT and RNR stand in bits 7, 6 and 4 (Table 1.7). -/
theorem IntConv.resultFlags_bits (c : IntConv) (sat xck dfr : Bool) : bitOf (c.resultFlags sat xck dfr) 7 = c.stale ∧
    bitOf (c.resultFlags sat xck dfr) 6 = sat ∧ bitOf (c.resultFlags sat xck dfr) 4 = (c.rnr || c.refOff) := by
  simp only [IntConv.resultFlags, bitOf_or, bitOf_flagIf]
  simp [bitOf, Flag.stl, Flag.sat, Flag.rnr, Flag.xck, Flag.cal, Flag.seq, Flag.dfr]

theorem State.par_setParI (s : State) (id inst : Nat) (v : Int) : (s.setParI id inst v).par id inst = wrapTo 32 v := by
  rw [State.setParI, State.par_setPar, Nat.mod_eq_of_lt]
  simp only [wrapTo]; omega

/-- A result that enters neither lane nor stream is the converter's last record (R168). -/
theorem State.icDeliver_alone (data : Int) (flags : Nat) (parity : Bool) (hl : dstLane (s.ic i).dst = none)
    (hr : dstStream (s.ic i).dst = none) : s.icDeliver i data flags parity = s.setIc i { s.ic i with
      last := some ⟨sampleWord data (if (s.ic i).urgent = true then 0x30 else 0x38 + i) flags,
        (s.ic i).angle, (s.ic i).time⟩ } := by
  simp only [State.icDeliver, hl, hr]

/-- The converter `c`, number `i`, after the result `data` with its flags (R168, R169). -/
def IntConv.withResult (c : IntConv) (i : Nat) (data : Int) (flags : Nat) : IntConv :=
  { c with
    prev := tblSet 0 c.prev c.resultSlot (wrapTo 32 data)
    last := some ⟨sampleWord data (if c.urgent = true then 0x30 else 0x38 + i) flags, c.angle, c.time⟩ }

/-- A result that is not cross-checked, owes no DFR and enters neither lane nor stream changes its converter and parameters,
among them `IC_RESULT` (R168). -/
theorem State.icResultDue_alone {signed : Bool} {v : Frac} {data : Int} (x : Integrated) (parity : Bool)
    (hx : bitOf (s.ic i).xcsel 0 = false) (hl : dstLane (s.ic i).dst = none) (hr : dstStream (s.ic i).dst = none)
    (hdfr : s.kiln.dfrOwed = []) (hsign : signed = isSignedMode (s.par P.AC_MODE (s.ic i).cell))
    (hv : v = (s.ic i).front.out x.signal) (hdata : data = (s.ic i).resultData signed v x.err) :
    ∃ p, bankGet p P.IC_RESULT i = wrapTo 32 data ∧ s.icResultDue i x parity = { s with params := p }.setIc i
      ((s.ic i).withResult i data ((s.ic i).resultFlags ((s.ic i).resultSat signed v x) false false)) := by
  have hcheck : s.icCheck i data = (false, s) := if_pos hx
  have howed : s.takeDfr (0x10 + i) = (false, s) := by rw [State.takeDfr, hdfr]; rfl
  obtain ⟨u, hu, p, hp⟩ : ∃ u, u = (if (s.ic i).urgent then s.bump P.IC_URGCNT i else s) ∧
      ∃ p, u = { s with params := p } := by
    split <;> exact ⟨_, rfl, _, rfl⟩
  have hic : u.ic i = s.ic i := by rw [hp]; rfl
  refine ⟨(u.setParI P.IC_RESULT i data).params, u.par_setParI P.IC_RESULT i data, ?_⟩
  have hdue : s.icResultDue i x parity =
      ((u.setParI P.IC_RESULT i data).setIc i
        { s.ic i with prev := tblSet 0 (s.ic i).prev (s.ic i).resultSlot (wrapTo 32 data) }).icDeliver i data
        ((s.ic i).resultFlags ((s.ic i).resultSat signed v x) false false) parity := by
    simp only [State.icResultDue, ← hsign, ← hv, ← hdata, hcheck, howed, ← hu, hic]; rfl
  rw [hdue, State.icDeliver_alone, State.ic_setIc, State.setIc_setIc, hp]
  · rfl
  · rw [State.ic_setIc]; exact hl
  · rw [State.ic_setIc]; exact hr

/-- Such a result of a converter that stops, and for which no bank swap waits, changes nothing beside it but parameters
(R166, R168). -/
theorem State.overheadEnd_stops {signed : Bool} {v : Frac} {data : Int} (x : Integrated) (parity : Bool)
    (hst : (s.ic i).state = .running) (hp : (s.ic i).phase = .overhead) (ht : (s.ic i).stop + msTicks 1 ≤ s.t)
    (hd : (s.ic i).discard = false) (hx : bitOf (s.ic i).xcsel 0 = false) (hn : (s.ic i).nextSlot = none)
    (hstop : (s.ic i).stopDue = true ∨ (s.ic i).once = true ∨ (s.ic i).urgent = true) (hswap : (s.ic i).swapDue = false)
    (hl : dstLane (s.ic i).dst = none) (hr : dstStream (s.ic i).dst = none) (hdfr : s.kiln.dfrOwed = [])
    (hsign : signed = isSignedMode (s.par P.AC_MODE (s.ic i).cell)) (hv : v = (s.ic i).front.out x.signal)
    (hdata : data = (s.ic i).resultData signed v x.err) :
    ∃ p, bankGet p P.IC_RESULT i = wrapTo 32 data ∧ s.overheadEnd i x parity = { s with params := p }.setIc i
      { (s.ic i).withResult i data ((s.ic i).resultFlags ((s.ic i).resultSat signed v x) false false) with
        state := .stopped, phase := .waiting, stopDue := false, urgent := false } := by
  obtain ⟨p, hpar, hres⟩ := State.icResultDue_alone x parity hx hl hr hdfr hsign hv hdata
  have hic := congrArg (State.ic · i) hres
  simp only [State.ic_setIc] at hic
  refine ⟨p, hpar, ?_⟩
  rw [State.overheadEnd_due x parity hst hp ht, if_neg (by simp [hd]), State.icGoesOn_stops, State.icSwap, if_pos, hic, hres,
    State.setIc_setIc]
  · rw [State.ic_setIc, hic]; exact hswap
  · rw [hic]; exact hst
  · rw [hic]; exact hn
  · rw [hic]; exact hstop.imp_right fun h => ⟨hd, h⟩

end Sys2Proof.Machine
end

section
/-! Commands of the integrating converters (R164–R166, R179, R264, R380, R470, R648). -/

namespace Sys2Proof.Machine

theorem exec_icCtrlStart (s : State) (i : Fin 8) (slot : Fin 4) :
    exec (.icCtrlStart i slot) s = .next (s.finish (s.hostWrite P.IC_CTRL i.val (1 + 256 * slot.val))) := rfl
theorem exec_icCtrlStop (s : State) (i : Fin 8) :
    exec (.icCtrlStop i) s = .next (s.finish (s.hostWrite P.IC_CTRL i.val 2)) := rfl
theorem exec_icCtrlResume (s : State) (i : Fin 8) :
    exec (.icCtrlResume i) s = .next (s.finish (s.hostWrite P.IC_CTRL i.val 3)) := rfl
theorem exec_icCtrlClearCounters (s : State) (i : Fin 8) :
    exec (.icCtrlClearCounters i) s = .next (s.finish (s.hostWrite P.IC_CTRL i.val 4)) := rfl

/-- `IC_CTRL` takes START with each slot. -/
theorem valueOk_IC_CTRL_start (inst : Nat) (slot : Fin 4) : valueOk P.IC_CTRL inst (1 + 256 * slot.val) = true := by
  have hadmits : ∀ k : Fin 4, (RangeSpec.command 4 0x3FF).admits 0 (1 + 256 * k.val) = true := by decide
  have hval : valueOk P.IC_CTRL inst (1 + 256 * slot.val) =
      ((RangeSpec.command 4 0x3FF).admits 0 (1 + 256 * slot.val) && true) := rfl
  rw [hval, hadmits slot]
  rfl

/-- START carries its slot beside its code (R179). -/
theorem State.icCtrl_start (s : State) (i : Nat) (slot : Fin 4) : s.icCtrl i (1 + 256 * slot.val) = s.icStartCmd i slot.val := by
  have hcode : bitsOf (1 + 256 * slot.val) 0 8 = 1 := by simp only [bitsOf]; omega
  have hslot : bitsOf (1 + 256 * slot.val) 8 2 = slot.val := by simp only [bitsOf]; omega
  simp only [State.icCtrl, hcode, hslot, if_true]

/-- A write of `IC_CTRL` that the command layer takes runs the command of its code (R179). -/
theorem exec_icCtrl_commands {s : State} (i : Fin 8) (hup : s.hopperUp = true) (hr : s.resetting (Fb.ic i.val) = false) :
    (∀ slot : Fin 4, exec (.icCtrlStart i slot) s = .next (s.finish (s.icStartCmd i.val slot.val))) ∧
    exec (.icCtrlStop i) s = .next (s.finish (s.icCtrlStop i.val)) ∧
    exec (.icCtrlResume i) s = .next (s.finish (s.icCtrlResume i.val)) ∧
    exec (.icCtrlClearCounters i) s = .next (s.finish (s.icClear i.val)) := by
  have hwrite (v : Nat) (hv : valueOk P.IC_CTRL i.val v = true) : s.hostWrite P.IC_CTRL i.val v = s.icCtrl i.val v :=
    State.hostWrite_IC_CTRL hup i.isLt hv hr
  refine ⟨fun slot => ?_, ?_, ?_, ?_⟩
  · rw [exec_icCtrlStart, hwrite _ (valueOk_IC_CTRL_start _ slot), State.icCtrl_start]
  · rw [exec_icCtrlStop, hwrite 2 rfl]; rfl
  · rw [exec_icCtrlResume, hwrite 3 rfl]; rfl
  · rw [exec_icCtrlClearCounters, hwrite 4 rfl]; rfl

variable {s : State} {i : Nat}

/-! ### START and STOP -/

/-- A START that Kiln's budget holds is the converter's own (R264). -/
theorem State.icStartCmd_held {slot : Nat} (hb : s.budgetOk (0x10 + i) (s.icExtra i) = true) :
    s.icStartCmd i slot = s.icCtrlStart i slot := if_pos hb

/-- A START that Kiln's budget does not hold is deferred (R264). -/
theorem State.icStartCmd_deferred {slot : Nat} (hb : s.budgetOk (0x10 + i) (s.icExtra i) = false) :
    s.icStartCmd i slot = (s.bump P.KL_BDREFUSE).answer Status.budgetDeferred := if_neg (by simp [hb])

/-- START of a stopped converter begins an integration at once (R165). -/
theorem State.icCtrlStart_stopped (slot : Fin 4) (hst : (s.ic i).state = .stopped) : s.icCtrlStart i slot.val =
    ((s.setIc i { s.ic i with nextSlot := some slot.val, stopDue := false, byAction := false }).icBegin i none).done := by
  simp only [State.icCtrlStart, State.icConvStart, hst, if_neg (Nat.not_lt.mpr (Nat.le_of_lt_succ slot.isLt))]
  rfl

/-- START of a running converter names its next slot (R165). -/
theorem State.icCtrlStart_running (slot : Fin 4) (hst : (s.ic i).state = .running) : s.icCtrlStart i slot.val =
    (s.setIc i { s.ic i with nextSlot := some slot.val, stopDue := false, byAction := false }).done := by
  simp only [State.icCtrlStart, State.icConvStart, hst, if_neg (Nat.not_lt.mpr (Nat.le_of_lt_succ slot.isLt))]
  rfl

/-- STOP lets an integration in progress complete (R166). -/
theorem State.icCtrlStop_integrating (hst : (s.ic i).state = .running) (hp : (s.ic i).phase ≠ .waiting) :
    s.icCtrlStop i = (s.setIc i { s.ic i with stopDue := true, nextSlot := none }).done := by
  simp only [State.icCtrlStop, State.icConvStop, hst, if_true, if_neg hp]

/-- STOP of a converter that waits for TRACK stops it at once (R159, R166). -/
theorem State.icCtrlStop_waiting (hst : (s.ic i).state = .running) (hp : (s.ic i).phase = .waiting) : s.icCtrlStop i =
    (s.setIc i { s.ic i with state := .stopped, stopDue := false, nextSlot := none, urgent := false }).done := by
  simp only [State.icCtrlStop, State.icConvStop, hst, if_true, if_pos hp]

/-- RESUME takes a converter out of SAFE once its class C fault is acknowledged (Table 6.5, R470). -/
theorem State.icCtrlResume_safe (hst : (s.ic i).state = .safe) (hc : s.pendingC (Fb.ic i) = false) : s.icCtrlResume i =
    ((s.setIc i { s.ic i with state := .stopped, phase := .waiting }).openWindow (Fb.ic i)).done := if_pos ⟨hst, hc⟩

/-! ### The obligation -/

/-- Settles O17: a window and an overhead end as their laws above say; a result alone changes what `overheadEnd_stops` says; the
commands are writes that the command layer takes, and each acts or is refused by the converter's state. -/
theorem integrationsAndTheirCommandsComplete : Obligations.IntegrationsAndTheirCommandsComplete := by
  unfold Obligations.IntegrationsAndTheirCommandsComplete
  refine ⟨fun s i ha => ?_, fun s i x parity sign c v value data hc hst hp ht hd hx hn hstop hswap hl hr hdfr hsign hv hval
    hdata => ?_, fun s i hup hr => ?_⟩
  · rw [exec_integrationEnd, exec_cycleWindowTimeout, exec_overheadTimeout, State.blockEvent_alive _ ha,
      State.blockEvent_alive _ ha, State.blockEvent_alive _ ha]
    have hover (x : Integrated) (parity : Bool) : exec (.overheadEnd i x parity) s =
        .next (s.finish ((s.overheadEnd i.val x parity).calOverheadOver i.val)) := by
      rw [exec_overheadEnd, State.blockEvent_alive _ ha]
    refine ⟨fun h u hu => ?_, fun hp hm hd ht => ?_, fun hst hp ht => ?_, fun x parity w hst hp ht hd hw => ?_, hover⟩
    · rw [State.integrationEnd_done h hu]
    · rw [State.cycleTimeout_late hp hm hd ht]
    · rw [State.overheadTimeout_late hst hp ht]
    · obtain ⟨hstop, hagain, hnext⟩ := State.overheadEnd_discarded x parity hst hp ht hd hw
      rw [hover]
      exact ⟨fun hn hs => by rw [hstop hn hs], fun hn hs => by rw [hagain hn hs], fun hn => by rw [hnext hn]⟩
  · subst hc hval
    obtain ⟨p, hpar, hend⟩ := State.overheadEnd_stops x parity hst hp ht hd hx hn hstop hswap hl hr hdfr hsign hv hdata
    obtain ⟨hstl, hsat, hrnr⟩ := (s.ic i.val).resultFlags_bits ((s.ic i.val).resultSat sign v x) false false
    rw [hend]
    refine ⟨hpar, ?_, ⟨_, ?_, fun h => hstl.trans h, fun h => ?_, fun h => ?_⟩, fun j hj => State.ic_setIc_ne _ _ hj,
      rfl, rfl, rfl, rfl⟩
    · rw [State.ic_setIc]
    · rw [State.ic_setIc]; rfl
    · rw [hrnr, h, Bool.or_true]
    · rw [hsat]
      rcases h with h | h | h <;> simp [IntConv.resultSat, h]
  · obtain ⟨hstart, hstop, hresume, hclear⟩ := exec_icCtrl_commands i hup hr
    rw [hstop, hresume, hclear]
    refine ⟨fun slot hb => ?_, fun slot hb => ?_, fun hst hp => ?_, fun hst hp => ?_, fun hst => ?_, fun hst => ?_,
      fun hst hc => ?_, fun hi => ?_, fun hi => ?_⟩
    -- START
    · rw [hstart, State.icStartCmd_held hb]
      refine ⟨fun hst => ?_, fun hst => ?_, fun hst => ?_, fun hst => ?_⟩
      · rw [State.icCtrlStart_stopped slot hst]
      · rw [State.icCtrlStart_running slot hst]
      · rw [State.icCtrlStart, hst]
      · rw [State.icCtrlStart, hst]
    · rw [hstart, State.icStartCmd_deferred hb]
    -- STOP
    · rw [State.icCtrlStop_integrating hst hp]
    · rw [State.icCtrlStop_waiting hst hp]
    · rw [State.icCtrlStop, hst]
    · rw [State.icCtrlStop, hst]
    -- RESUME
    · rw [State.icCtrlResume_safe hst hc]
    -- clearing of counters
    · rw [State.icClear, if_neg hi]
    · rw [State.icClear, if_pos hi]

end Sys2Proof.Machine
end

section
/-! Outputs, events and commands of the filter lanes (R185, R201, R204, R205, R213, R216, R470, R648). -/

namespace Sys2Proof.Machine

theorem exec_laneOutput (s : State) (n : Fin 32) :
    exec (.laneOutput n) s = .next (s.finish (s.blockEvent (fun s => s.laneOutput n.val))) := rfl
theorem exec_angleBlockTimeout (s : State) (n : Fin 32) :
    exec (.angleBlockTimeout n) s = .next (s.finish (s.blockEvent (fun s => s.laneBlockTimeout n.val))) := rfl
theorem exec_laneStall (s : State) (n : Fin 32) :
    exec (.laneStall n) s = .next (s.finish (s.liveEvent (fun s => s.laneStall n.val))) := rfl
theorem exec_flCtrlResume (s : State) (n : Fin 32) :
    exec (.flCtrlResume n) s = .next (s.finish (s.hostWrite P.FL_CTRL n.val 1)) := rfl
theorem exec_flCtrlRestart (s : State) (n : Fin 32) :
    exec (.flCtrlRestart n) s = .next (s.finish (s.hostWrite P.FL_CTRL n.val 2)) := rfl
theorem exec_flCtrlClearCounters (s : State) (n : Fin 32) :
    exec (.flCtrlClearCounters n) s = .next (s.finish (s.hostWrite P.FL_CTRL n.val 3)) := rfl
theorem exec_flDcmWrite (s : State) (n : Fin 32) (v : Word) :
    exec (.flDcmWrite n v) s = .next (s.finish (s.hostWrite P.FL_DCM n.val v.toNat)) := rfl

variable {s : State} {n : Nat}

/-! ### Outputs -/

/-- Where no job is owed DFR, none is paid (R262). -/
theorem State.takeDfr_none_owed (job : Nat) (h : s.kiln.dfrOwed = []) : s.takeDfr job = (false, s) := by
  rw [State.takeDfr, h]; rfl

/-- The data of an output and whether it saturated: a resolver's word leaves as it is, any other is formatted (R204). -/
def State.laneData (s : State) (n : Nat) (o : LaneOut) : Int × Bool :=
  if o.direct = true then (o.value, false) else laneFormat (s.parI P.FL_OSHIFT n) o.value

/-- The word of an output, with the flags it was formed with, those of the inputs and SAT (R205). -/
def State.laneWord (s : State) (n : Nat) (o : LaneOut) : Word :=
  sampleWord (s.laneData n o).1 n (o.flags ||| (s.lane n).inFlags ||| flagIf (s.laneData n o).2 Flag.sat ||| 0)

/-- The output has left the lane: it is the last record, and counts (R205). -/
def State.laneOutputLeft (s : State) (n : Nat) (o : LaneOut) (rest : List LaneOut) : State :=
  (s.setLane n { s.lane n with
    outs := rest, inFlags := 0, last := some ⟨s.laneWord n o, o.angle, o.time⟩ }).bump P.FL_OUTCNT n

/-- The count of outputs leaves the destination. -/
theorem State.laneOutputLeft_dst (o : LaneOut) (rest : List LaneOut) (hn : n < 32) :
    (s.laneOutputLeft n o rest).par P.FL_DST n = s.par P.FL_DST n := by
  have hkey : paramKey P.FL_DST n ≠ paramKey P.FL_OUTCNT n := paramKey_ne (by omega) (by omega) (.inl (by decide))
  rw [State.laneOutputLeft, State.bump, State.par_setPar_ne _ _ hkey, State.setLane_par]

/-- The oldest output leaves the lane, and enters the stream of `FL_DST` where that is enabled (R205). -/
theorem State.laneOutput_oldest {o : LaneOut} {rest : List LaneOut} (hn : n < 32) (ho : (s.lane n).outs = o :: rest)
    (hdfr : s.kiln.dfrOwed = []) : s.laneOutput n =
      if bitOf (s.par P.FL_DST n) 6 = true then
        (s.laneOutputLeft n o rest).sampleRecord (bitsOf (s.par P.FL_DST n) 0 6) (s.laneWord n o) o.angle o.time (0x20 + n)
      else s.laneOutputLeft n o rest := by
  rw [← State.laneOutputLeft_dst o rest hn]
  simp only [State.laneOutput, ho, State.takeDfr_none_owed _ hdfr]
  rfl

/-! ### Events -/

/-- The block that the angle left 2 µs ago, with no input since, is closed (R201). -/
theorem State.laneBlockTimeout_due {t0 : Nat} (hl : (s.lane n).left = some t0) (hst : (s.lane n).state = .run)
    (ht : max t0 (s.lane n).lastIn + usTicks 2 ≤ s.t) : s.laneBlockTimeout n = s.laneCloseBlock n := by
  simp only [State.laneBlockTimeout, hl]
  exact if_pos ⟨hst, ht⟩

/-- A lane that takes inputs records its stall in class C (R213). -/
theorem State.laneStall_taking (h : (s.lane n).state = .run ∨ (s.lane n).state = .priming) :
    s.laneStall n = s.raise (Fb.lane n) 6 3 := if_pos h

/-! ### `FL_CTRL` and `FL_DCM` -/

/-- A write of `FL_CTRL` that the command layer takes runs the command of its code (R216). -/
theorem exec_flCtrl_commands (n : Fin 32) (hup : s.hopperUp = true) (hr : s.resetting (Fb.lane n.val) = false) :
    exec (.flCtrlResume n) s = .next (s.finish (s.laneCtrlResume n.val)) ∧
    exec (.flCtrlRestart n) s = .next (s.finish (s.laneCtrlRestart n.val)) ∧
    exec (.flCtrlClearCounters n) s = .next (s.finish (s.laneClear n.val)) := by
  have hwrite (v : Nat) (hv : valueOk P.FL_CTRL n.val v = true) : s.hostWrite P.FL_CTRL n.val v = s.flCtrl n.val v :=
    State.hostWrite_FL_CTRL hup n.isLt hv hr
  rw [exec_flCtrlResume, exec_flCtrlRestart, exec_flCtrlClearCounters, hwrite 1 rfl, hwrite 2 rfl, hwrite 3 rfl]
  exact ⟨rfl, rfl, rfl⟩

/-- RESUME primes a lane out of SAFE once its class C fault is acknowledged (Table 7.6, R470). -/
theorem State.laneCtrlResume_safe (hst : (s.lane n).state = .safe) (hc : s.pendingC (Fb.lane n) = false) :
    s.laneCtrlResume n = ((s.lanePrime n).openWindow (Fb.lane n)).done := if_pos ⟨hst, hc⟩

/-- RESUME is refused outside SAFE, and while a class C fault waits (R470). -/
theorem State.laneCtrlResume_refused (h : (s.lane n).state ≠ .safe ∨ s.pendingC (Fb.lane n) = true) :
    s.laneCtrlResume n = s.answer Status.notPermitted := by
  refine if_neg fun ⟨hst, hc⟩ => ?_
  rcases h with h | h
  · exact h hst
  · exact absurd (h.symm.trans hc) (by decide)

/-- `FL_DCM` in the parameter table. -/
def flDcmDef : ParamDef := ⟨P.FL_DCM, .rwLive, 32, .all 0, .spans [(-2147483648, 2147483647)]⟩

/-- `FL_DCM` takes every value: its range is that of a signed word. -/
theorem valueOk_FL_DCM (inst : Nat) (v : Word) : valueOk P.FL_DCM inst v.toNat = true := by
  have hval : valueOk P.FL_DCM inst v.toNat = (inSpans [(-2147483648, 2147483647)] v.toNat && true) := rfl
  have hspan : -2147483648 ≤ signedOf 32 v.toNat ∧ signedOf 32 v.toNat ≤ 2147483647 := by
    simp only [signedOf]; omega
  rw [hval]
  simp [inSpans, hspan]

/-- A value for `FL_DCM` waits for the lane's boundary (R185, R376). -/
theorem State.hostWrite_FL_DCM (v : Word) (hup : s.hopperUp = true) (hn : n < 32) (hr : s.resetting (Fb.lane n) = false) :
    s.hostWrite P.FL_DCM n v.toNat = (s.acceptLive P.FL_DCM n v.toNat).done :=
  State.hostWrite_live (d := flDcmDef) rfl hup rfl hn (valueOk_FL_DCM n v) hr rfl rfl

/-! ### The obligation -/

/-- Settles O18: the oldest output leaves as `laneOutput_oldest` says; a due block closes and a stall records; the commands are
writes that the command layer takes, and each acts or is refused by the lane's state. -/
theorem laneOutputsAndCommandsComplete : Obligations.LaneOutputsAndCommandsComplete := by
  unfold Obligations.LaneOutputsAndCommandsComplete
  refine ⟨fun s n o rest r w u ha ho hdfr hr hw hu => ?_, fun s n => ⟨fun t0 ha hl hst ht => ?_, fun hp h => ?_,
    fun hup hreset => ?_⟩⟩
  · subst hr hw hu
    rw [exec_laneOutput, State.blockEvent_alive _ ha, State.laneOutput_oldest n.isLt ho hdfr]
    refine ⟨fun hdst => ?_, fun hdst => ?_⟩
    · rw [if_neg (by simp [hdst])]; rfl
    · rw [if_pos hdst]; rfl
  · rw [exec_angleBlockTimeout, State.blockEvent_alive _ ha, State.laneBlockTimeout_due hl hst ht]
  · rw [exec_laneStall, State.liveEvent_running _ hp, State.laneStall_taking h]
  · obtain ⟨hresume, hrestart, hclear⟩ := exec_flCtrl_commands n hup hreset
    rw [hresume, hrestart, hclear]
    refine ⟨fun hst hc => ?_, fun h => ?_, fun h => ?_, fun hst => ?_, fun h => ?_, rfl, fun v => ?_⟩
    -- RESUME
    · rw [State.laneCtrlResume_safe hst hc]
    · rw [State.laneCtrlResume_refused h]
    -- RESTART
    · rcases h with hst | hst <;> rw [State.laneCtrlRestart, hst]
    · rw [State.laneCtrlRestart, hst]
    · rcases h with hst | hst <;> rw [State.laneCtrlRestart, hst]
    -- a value for `FL_DCM`
    · rw [exec_flDcmWrite, State.hostWrite_FL_DCM v hup n.isLt hreset]

end Sys2Proof.Machine
end

section
/-! The fabric's clock edges and watchers, the host's access of its block RAMs, `FAB_CTRL` and the mailbox ports (R217–R221, R227,
R234, R235, R238, R240, R242, R245). -/

namespace Sys2Proof.Machine

theorem exec_fabricClockEdge (s : State) (e : FabEdge) : exec (.fabricClockEdge e) s = .next (s.finish
    (s.blockEvent (fun s => if s.fclkComes then (s.firstDrive true).fabricClockEdge e else s))) := rfl
theorem exec_configScrub (s : State) (bad : Bool) :
    exec (.configScrub bad) s = .next (s.finish (s.liveEvent (fun s => s.configScrub bad))) := rfl
theorem exec_fclkLoss (s : State) : exec .fclkLoss s = .next (s.finish (s.liveEvent (fun s => s.fclkLoss))) := rfl
theorem exec_fabRamdatRead (s : State) (r : Fin 24) :
    exec (.fabRamdatAccess r none) s = .next (s.finish (s.hostRead P.FAB_RAMDAT r.val)) := rfl
theorem exec_fabRamdatWrite (s : State) (r : Fin 24) (w : Word) :
    exec (.fabRamdatAccess r (some w)) s = .next (s.finish (s.hostWrite P.FAB_RAMDAT r.val w.toNat)) := rfl
theorem exec_fabCtrlResume (s : State) : exec .fabCtrlResume s = .next (s.finish (s.hostWrite P.FAB_CTRL 0 1)) := rfl
theorem exec_fabCtrlClearCounters (s : State) :
    exec .fabCtrlClearCounters s = .next (s.finish (s.hostWrite P.FAB_CTRL 0 2)) := rfl
theorem exec_fabCtrlReinit (s : State) : exec .fabCtrlReinit s = .next (s.finish (s.hostWrite P.FAB_CTRL 0 3)) := rfl
theorem exec_fabricMbPost (s : State) (k : Fin 4) (payload : List Byte) :
    exec (.fabricMbPost k payload) s = .next (s.finish (s.blockEvent (fun s => s.fabPost k.val payload))) := rfl
theorem exec_fabricMbTake (s : State) (k : Fin 4) :
    exec (.fabricMbTake k) s = .next (s.finish (s.blockEvent (fun s => s.fabTake k.val))) := rfl

variable {s v : State}

/-! ### FCLK edges -/

/-- The fabric at an FCLK edge up to its swap: the edge is counted, accepted values come into force, and pulses move on
(R218, R224, R240). -/
def State.fabArrived (s : State) (e : FabEdge) : State :=
  ((({ s with fab := { s.fab with edges := s.fab.edges + 1, quiet := 0 } } : State).ramUpsets
    e.upsets).takeLive Fb.fabric).fabPulseStep

/-- A due swap of a corrupt shadow plane is given up and recorded (R242). -/
def State.fabSwapRefused (s : State) : State :=
  ({ s with fab := { s.fab with swapDue := false } } : State).raise Fb.fabric 3 2

theorem State.fabSwapRefused_state (s : State) : s.fabSwapRefused.fab.state = s.fab.state := rfl

/-- The fabric after a swap that is due: taken, or given up where the shadow plane is corrupt (R234, R242). -/
def State.fabSwapDone (s : State) (e : FabEdge) : State :=
  if s.fab.swapDue then if e.shadowBad then s.fabSwapRefused else s.fabSwap else s

/-- The fabric after its user logic had the edge, clocked in RUN alone (R235). -/
def State.fabClocksIn (s : State) (e : FabEdge) (swapped : Bool) : State :=
  if s.fab.state = .run then s.fabClock e swapped else s.fabRamWrites []

theorem State.fabClocksIn_run {e : FabEdge} {swapped : Bool} (h : s.fab.state = .run) :
    s.fabClocksIn e swapped = s.fabClock e swapped := if_pos h

theorem State.fabClocksIn_other {e : FabEdge} {swapped : Bool} (h : s.fab.state ≠ .run) :
    s.fabClocksIn e swapped = s.fabRamWrites [] := if_neg h

/-- An FCLK edge takes accepted values, then a due swap, then clocks the user logic under the plane now in force (R240). -/
theorem State.fabEdge_comes {e : FabEdge} (hc : s.fclkComes = true) (hv : v = s.fabArrived e) :
    s.fabEdge e = (v.fabSwapDone e).fabClocksIn e (v.fab.swapDue && !e.shadowBad) := by
  subst hv
  exact if_neg (by simp [hc])

/-- An FCLK edge with no swap due clocks under the plane as it was. -/
theorem State.fabEdge_unswapped {e : FabEdge} (hc : s.fclkComes = true) (hv : v = s.fabArrived e)
    (hd : v.fab.swapDue = false) : s.fabEdge e = v.fabClocksIn e false := by
  simp [State.fabEdge_comes hc hv, State.fabSwapDone, hd]

/-- An FCLK edge with a swap due clocks under the plane that comes into force (R235). -/
theorem State.fabEdge_swapped {e : FabEdge} (hc : s.fclkComes = true) (hv : v = s.fabArrived e)
    (hd : v.fab.swapDue = true) (hb : e.shadowBad = false) : s.fabEdge e = v.fabSwap.fabClocksIn e true := by
  simp [State.fabEdge_comes hc hv, State.fabSwapDone, hd, hb]

/-- An FCLK edge with a swap to a corrupt plane due records it and clocks under the plane as it was (R242). -/
theorem State.fabEdge_refused {e : FabEdge} (hc : s.fclkComes = true) (hv : v = s.fabArrived e)
    (hd : v.fab.swapDue = true) (hb : e.shadowBad = true) : s.fabEdge e = v.fabSwapRefused.fabClocksIn e false := by
  simp [State.fabEdge_comes hc hv, State.fabSwapDone, hd, hb]

/-- Without a corrupt swap the grist block has no part in an edge. -/
theorem State.fabricClockEdge_sound {e : FabEdge} (h : s.fab.swapDue = false ∨ e.shadowBad = false) :
    s.fabricClockEdge e = s.fabEdge e := by
  refine if_neg ?_
  rcases h with h | h <;> simp [h]

/-- The host's swap that a corrupt shadow plane stops waits again (R242, R338). -/
theorem State.fabricClockEdge_corrupt_host {e : FabEdge} {w : State} (hc : s.fclkComes = true) (hd : s.fab.swapDue = true)
    (hb : e.shadowBad = true) (hw : s.fabEdge e = w) (hh : tblGet 0 w.grist.waiting 0xC0 = 2) :
    s.fabricClockEdge e = (w.setGrist { w.grist with
      waiting := tblErase w.grist.waiting 0xC0, pend := w.grist.pend ++ [0xC0]
      swapped := w.grist.swapped.filter (fun c => !(c == 0xC0)) }).toggleLive 0xC0 := by
  subst hw
  exact (if_pos (by simp [hc, hd, hb])).trans (if_pos (by simp [hh]))

/-- An FCLK edge that comes makes the pins' first valid drive, and then reaches the fabric (R218). -/
theorem exec_fabricClockEdge_comes {u : State} (e : FabEdge) (ha : s.alive = true) (hc : s.fclkComes = true)
    (hu : u = s.firstDrive true) : exec (.fabricClockEdge e) s = .next (s.finish (u.fabricClockEdge e)) := by
  rw [exec_fabricClockEdge, State.blockEvent_alive _ ha, if_pos hc, hu]

/-- No edge comes while the clock is stopped, or beyond the selected rate (R217, R218). -/
theorem exec_fabricClockEdge_absent (e : FabEdge) (ha : s.alive = true) (hc : s.fclkComes = false) :
    exec (.fabricClockEdge e) s = .next (s.finish s) := by
  rw [exec_fabricClockEdge, State.blockEvent_alive _ ha, hc]; rfl

/-! ### Watchers -/

/-- A scrub that is due counts, and its verdict opens or ends the episode of CFGCRC (R242). -/
theorem State.configScrub_due {u : State} (bad : Bool) (hst : s.fab.state = .run ∨ s.fab.state = .safe)
    (hk : s.kiln.state ≠ .hibernate) (ht : s.fab.scrubAt + msTicks 1 ≤ s.t)
    (hu : u = ({ s with fab := { s.fab with scrubAt := s.t, scrubOk := !bad } } : State).bump P.FAB_SCRUB) :
    s.configScrub bad = if bad = true
      then u.askEpisode { blk := Fb.fabric, det := 4, cls := 3, access := 1, form := 1, addr := 7 * 2 ^ 28 }
      else u.endEpisode Fb.fabric 4 := by
  subst hu
  exact if_pos ⟨hst, hk, ht⟩

/-- A clock that stays away for 100 ns in RUN is a fault of class C (Table 8.6). -/
theorem State.fclkLoss_quiet (hst : s.fab.state = .run) (hk : s.kiln.state ≠ .hibernate) (hq : 10 ≤ s.fab.quiet) :
    s.fclkLoss = s.raise Fb.fabric 5 3 := if_pos ⟨hst, hk, hq⟩

/-! ### Host access of a block RAM -/

/-- `FAB_RAMDAT` in the parameter table. -/
def fabRamdatDef : ParamDef := ⟨P.FAB_RAMDAT, .rwLive, 24, .each [], .spans [(0, 4294967295)]⟩

/-- `FAB_RAMDAT` takes every word. -/
theorem valueOk_FAB_RAMDAT (inst : Nat) (w : Word) : valueOk P.FAB_RAMDAT inst w.toNat = true := by
  have hval : valueOk P.FAB_RAMDAT inst w.toNat = (inSpans [(0, 4294967295)] w.toNat && true) := rfl
  have hspan : w.toNat ≤ 4294967295 := by omega
  rw [hval]
  simp [inSpans, hspan]

/-- The host may access a block RAM of a loaded plane that gives it the port (R220). -/
theorem State.readStatus_FAB_RAMDAT {r : Nat} (hn : r < 24) (hr : s.resetting Fb.fabric = false) :
    s.readStatus P.FAB_RAMDAT r =
      if s.fab.live.loaded = false ∨ Config.planeHostRam s.fab.live.bytes r = false then Status.notPermitted else Status.ok := by
  have hexists : paramExists P.FAB_RAMDAT r = true := decide_eq_true hn
  have howner : s.resetting (ownerOf P.FAB_RAMDAT r) = false := hr
  simp [State.readStatus, hexists, howner]

section
variable {u : State} {r a : Nat} (ha : a = s.par P.FAB_RAMADR r) (hu : u = s.setPar P.FAB_RAMADR r ((a + 1) % 512))
include ha hu

/-- A host's read of a word with its parity right clears the line's error and moves the address on (R219, R220). -/
theorem State.ramRead_sound (port : Nat) (hb : (s.ramCell r a).2 = 0) : s.ramRead port r =
    { u with fab := { u.fab with ramperr := u.fab.ramperr &&& ~~~ BitVec.ofNat 24 (2 ^ r) } } := by
  subst hu ha
  simp [State.ramRead, hb]

/-- A host's read of a word with a wrong ninth bit shows the line's error and is recorded (R219, R220). -/
theorem State.ramRead_parity (port : Nat) (hb : (s.ramCell r a).2 ≠ 0) : s.ramRead port r =
    ({ u with fab := { u.fab with ramperr := u.fab.ramperr ||| BitVec.ofNat 24 (2 ^ r) } } : State).ramParity port r a := by
  subst hu ha
  have hbad : ((s.ramCell r (s.par P.FAB_RAMADR r)).2 != 0) = true := bne_iff_ne.mpr hb
  simp only [State.ramRead, hbad]
  rfl

variable (hl : s.fab.live.loaded = true) (hp : Config.planeHostRam s.fab.live.bytes r = true)
include hl hp

/-- With the clock stopped a host's word is written at once, after those that waited (R220, R221). -/
theorem State.ramWrite_stopped (w : Word) (hc : s.fabClocked = false) :
    s.ramWrite r w = ((u.fabRamWrites []).setRamWord r a w).done := by
  subst hu ha
  simp [State.ramWrite, hl, hp, hc]

/-- With the clock running a host's word waits for the next FCLK edge (R221). -/
theorem State.ramWrite_waits (w : Word) (hc : s.fabClocked = true) : s.ramWrite r w =
    ({ u with fab := { u.fab with
      hostWrites := tblInsert (tblErase u.fab.hostWrites (512 * r + a)) (512 * r + a) w } } : State).done := by
  subst hu ha
  simp [State.ramWrite, hl, hp, hc]

end

/-- A read of a block RAM while no plane is loaded is refused (R220). -/
theorem State.hostRead_FAB_RAMDAT_unloaded {r : Nat} (hup : s.hopperUp = true) (hn : r < 24)
    (hr : s.resetting Fb.fabric = false) (hl : s.fab.live.loaded = false) :
    s.hostRead P.FAB_RAMDAT r = s.answer Status.notPermitted := by
  have hstatus : s.readStatus P.FAB_RAMDAT r = Status.notPermitted := by
    rw [State.readStatus_FAB_RAMDAT hn hr, if_pos (.inl hl)]
  rw [State.hostRead, if_pos hup, State.readParam, hstatus]
  rfl

section
variable {r : Nat} (hn : r < 24) (hr : s.resetting Fb.fabric = false) (hl : s.fab.live.loaded = true)
  (hp : Config.planeHostRam s.fab.live.bytes r = true)
include hn hr hl hp

theorem State.readStatus_FAB_RAMDAT_ok : s.readStatus P.FAB_RAMDAT r = Status.ok := by
  rw [State.readStatus_FAB_RAMDAT hn hr, if_neg (by simp [hl, hp])]

/-- A read of a block RAM answers the word at its address (R220). -/
theorem State.hostRead_FAB_RAMDAT (hup : s.hopperUp = true) : s.hostRead P.FAB_RAMDAT r =
    (s.ramRead 0 r).done (leBytes 4 (s.ramWord r (s.par P.FAB_RAMADR r)).toNat) := by
  have hitems : s.readItems 0 [(P.FAB_RAMDAT, r)] =
      ([(s.ramWord r (s.par P.FAB_RAMADR r)).toNat], s.ramRead 0 r) := rfl
  rw [State.hostRead, if_pos hup, State.readParam, State.readStatus_FAB_RAMDAT_ok hn hr hl hp,
    if_neg (not_not.mpr rfl), hitems]
  rfl

/-- A write of a block RAM acts as the fabric has it (R220). -/
theorem State.hostWrite_FAB_RAMDAT (hup : s.hopperUp = true) (w : Word) :
    s.hostWrite P.FAB_RAMDAT r w.toNat = (s.ramWrite r w).done := by
  have hlive : s.liveWrite P.FAB_RAMDAT r w.toNat = s.ramWrite r (BitVec.ofNat 32 w.toNat) := rfl
  rw [State.hostWrite_live (d := fabRamdatDef) rfl hup rfl hn (valueOk_FAB_RAMDAT r w) hr
    (State.readStatus_FAB_RAMDAT_ok hn hr hl hp) rfl, hlive, BitVec.ofNat_toNat, BitVec.setWidth_eq]

end

/-! ### `FAB_CTRL` and the mailbox ports -/

/-- A write of `FAB_CTRL` that the command layer takes runs the command of its code (R245). -/
theorem exec_fabCtrl_commands (hup : s.hopperUp = true) (hr : s.resetting Fb.fabric = false) :
    exec .fabCtrlResume s = .next (s.finish s.fabResume) ∧ exec .fabCtrlClearCounters s = .next (s.finish s.fabClear) ∧
    exec .fabCtrlReinit s = .next (s.finish s.fabReinit) := by
  have hwrite (c : Nat) (hc : valueOk P.FAB_CTRL 0 c = true) : s.hostWrite P.FAB_CTRL 0 c = s.fabCtrl c :=
    State.hostWrite_FAB_CTRL hup hc hr
  rw [exec_fabCtrlResume, exec_fabCtrlClearCounters, exec_fabCtrlReinit, hwrite 1 rfl, hwrite 2 rfl, hwrite 3 rfl]
  exact ⟨rfl, rfl, rfl⟩

/-- RESUME starts the fabric anew out of SAFE once its class C fault is acknowledged (R238, R470). -/
theorem State.fabResume_safe (hst : s.fab.state = .safe) (hc : s.pendingC Fb.fabric = false) : s.fabResume =
    ((({ s with fab := { s.fab with
      state := .run, quiet := 0, ffs := Config.planeInit s.fab.live.bytes } } : State).mbParties
        [.fabric]).openWindow Fb.fabric).done := if_pos ⟨hst, hc⟩

theorem State.fabResume_refused (hst : s.fab.state ≠ .safe) : s.fabResume = s.answer Status.notPermitted :=
  if_neg fun ⟨h, _⟩ => hst h

/-- A sender's message enters an EMPTY mailbox (R433). -/
theorem State.mbPost_empty {n code : Nat} (payload : List Byte) (o : Origin) (hs : s.isSender n code = true)
    (hm : (s.mbox n).msg = none) : s.mbPost n code payload o = (true, s.mbFill n (s.newMessage code payload)) := by
  simp [State.mbPost, hs, hm]

/-- The fabric in RUN posts to an EMPTY mailbox of its own (R227). -/
theorem State.fabPost_empty {k : Nat} (payload : List Byte) (hst : s.fab.state = .run)
    (hs : s.isSender (8 + k) Sender.fabric = true) (hm : (s.mbox (8 + k)).msg = none) :
    s.fabPost k payload = s.mbFill (8 + k) (s.newMessage Sender.fabric payload) := by
  simp [State.fabPost, hst, State.mbPost_empty payload _ hs hm]

/-- The fabric in RUN takes a message, and its mailbox empties (R227, R434). -/
theorem State.fabTake_full {k : Nat} {m : Message} (hst : s.fab.state = .run) (hm : (s.mbox (12 + k)).msg = some m) :
    s.fabTake k = ((s.setMbox (12 + k) { s.mbox (12 + k) with msg := none }).setPar P.MB_DSTAT (12 + k) 2).mbEmptied
      (12 + k) := by
  rw [State.fabTake, if_pos hst, State.mbTake, hm]

/-! ### The obligation -/

/-- Settles O20: an edge that comes clocks the fabric under the plane its swap leaves; the watchers act on their conditions; a
block RAM the host may access is read or written at its address; `FAB_CTRL` acts or is refused by the fabric's state, and the
mailbox ports post and take. -/
theorem fabricClocksAndObeysCommands : Obligations.FabricClocksAndObeysCommands := by
  unfold Obligations.FabricClocksAndObeysCommands
  refine ⟨fun s ha => ⟨fun e hc => exec_fabricClockEdge_absent e ha hc, fun e u v hcs hu hc hv => ?_,
    fun bad hst hk ht u hu => ?_, fun hst hk hq => ?_⟩, fun s hup hr => ?_⟩
  -- edges
  · rw [exec_fabricClockEdge_comes e ha hcs hu]
    refine ⟨fun hdu hd => ?_, fun _ hd hb hst => ?_, fun hdu hd hb hst w hw hh => ?_⟩
    · rw [State.fabricClockEdge_sound (.inl hdu), State.fabEdge_unswapped hc hv hd]
      exact ⟨fun hst => by rw [State.fabClocksIn_run hst], fun hst => by rw [State.fabClocksIn_other hst]⟩
    · rw [State.fabricClockEdge_sound (.inr hb), State.fabEdge_swapped hc hv hd hb, State.fabClocksIn_run hst]
    · have hedge : u.fabEdge e = w := by
        rw [State.fabEdge_refused hc hv hd hb, State.fabClocksIn_run (v.fabSwapRefused_state.trans hst), hw]; rfl
      rw [State.fabricClockEdge_corrupt_host hc hdu hb hedge hh]
  -- watchers
  · rw [exec_configScrub, State.liveEvent_running _ (State.running_of_alive ha), State.configScrub_due bad hst hk ht hu]
  · rw [exec_fclkLoss, State.liveEvent_running _ (State.running_of_alive ha), State.fclkLoss_quiet hst hk hq]
  · obtain ⟨hresume, hclear, hreinit⟩ := exec_fabCtrl_commands hup hr
    rw [hresume, hclear, hreinit]
    refine ⟨fun r a u hl hp ha hu => ⟨fun hb => ?_, fun hb => ?_, fun w hc => ?_, fun w hc => ?_⟩, fun r hl => ?_,
      fun hst hc => ?_, fun hst => ?_, rfl, fun hst => ?_, fun hst => ?_, fun k payload ha hst hs hm => ?_,
      fun k m ha hst hm => ?_⟩
    -- block RAMs
    · rw [exec_fabRamdatRead, State.hostRead_FAB_RAMDAT r.isLt hr hl hp hup, State.ramRead_sound ha hu 0 hb, ← ha]
    · rw [exec_fabRamdatRead, State.hostRead_FAB_RAMDAT r.isLt hr hl hp hup, State.ramRead_parity ha hu 0 hb, ← ha]
    · rw [exec_fabRamdatWrite, State.hostWrite_FAB_RAMDAT r.isLt hr hl hp hup, State.ramWrite_stopped ha hu hl hp w hc]; rfl
    · rw [exec_fabRamdatWrite, State.hostWrite_FAB_RAMDAT r.isLt hr hl hp hup, State.ramWrite_waits ha hu hl hp w hc]; rfl
    · rw [exec_fabRamdatRead, State.hostRead_FAB_RAMDAT_unloaded hup r.isLt hr hl]
    -- `FAB_CTRL`
    · rw [State.fabResume_safe hst hc]
    · rw [State.fabResume_refused hst]
    · rw [State.fabReinit, hst]
    · rw [State.fabReinit, hst]
    -- mailbox ports
    · rw [exec_fabricMbPost, State.blockEvent_alive _ ha, State.fabPost_empty payload hst hs hm]
    · rw [exec_fabricMbTake, State.blockEvent_alive _ ha, State.fabTake_full hst hm]

end Sys2Proof.Machine
end

section
/-! Commands of calibration and coefficients a host writes (R264, R285, R304, R306, R309). -/

namespace Sys2Proof.Machine

theorem exec_calCtrlStart (s : State) : exec (.calCtrlStart none) s = .next (s.finish (s.hostWrite P.CAL_CTRL 0 1)) := rfl
theorem exec_calCtrlAbort (s : State) : exec (.calCtrlAbort none) s = .next (s.finish (s.hostWrite P.CAL_CTRL 0 2)) := rfl
theorem exec_calCtrlCommit (s : State) : exec (.calCtrlCommit none) s = .next (s.finish (s.hostWrite P.CAL_CTRL 0 3)) := rfl
theorem exec_calCtrlRetrig (s : State) : exec .calCtrlRetrig s = .next (s.finish (s.hostWrite P.CAL_CTRL 0 4)) := rfl
theorem exec_calCtrlClearCounters (s : State) :
    exec .calCtrlClearCounters s = .next (s.finish (s.hostWrite P.CAL_CTRL 0 5)) := rfl
theorem exec_calCoefWrite_gain (s : State) (v : Word) :
    exec (.calCoefWrite true v) s = .next (s.finish (s.hostWrite P.CAL_CGAIN 0 v.toNat)) := rfl
theorem exec_calCoefWrite_offset (s : State) (v : Word) :
    exec (.calCoefWrite false v) s = .next (s.finish (s.hostWrite P.CAL_COFS 0 v.toNat)) := rfl

variable {s : State}

/-! ### `CAL_CTRL` -/

/-- A write of `CAL_CTRL` that the command layer takes runs the command of its code (R309). -/
theorem exec_calCtrl_commands (hup : s.hopperUp = true) (hr : s.resetting Fb.cal = false) :
    exec (.calCtrlStart none) s = .next (s.finish s.calStartCmd) ∧
    exec (.calCtrlAbort none) s = .next (s.finish s.calAbort) ∧
    exec (.calCtrlCommit none) s = .next (s.finish s.calCommit) ∧
    exec .calCtrlRetrig s = .next (s.finish s.calRetrig) ∧
    exec .calCtrlClearCounters s = .next (s.finish s.calClear) := by
  have hwrite (v : Nat) (hv : valueOk P.CAL_CTRL 0 v = true) : s.hostWrite P.CAL_CTRL 0 v = s.calCtrl v :=
    State.hostWrite_CAL_CTRL hup hv hr
  rw [exec_calCtrlStart, exec_calCtrlAbort, exec_calCtrlCommit, exec_calCtrlRetrig, exec_calCtrlClearCounters,
    hwrite 1 rfl, hwrite 2 rfl, hwrite 3 rfl, hwrite 4 rfl, hwrite 5 rfl]
  exact ⟨rfl, rfl, rfl, rfl, rfl⟩

/-- Without a run one is requested, where Kiln's budget admits it (R264, R285). -/
theorem State.calStartCmd_admitted (hi : s.cal.state = .idle) (hb : s.budgetOk 0x18 s.calExtra = true) : s.calStartCmd =
    ({ s with cal := { s.cal with state := .pending, admitted := false, stopped := false } } : State).done := by
  rw [State.calStartCmd, if_neg (not_not.mpr hi), if_pos hb, State.calStart, if_pos hi, State.calRequest, if_pos hi]

/-- A run that is requested or under way is not started again (R285). -/
theorem State.calStartCmd_busy (hi : s.cal.state ≠ .idle) : s.calStartCmd = s.answer Status.busyLocked := if_pos hi

/-- A run beyond Kiln's budget is refused, and counted (R264). -/
theorem State.calStartCmd_deferred (hi : s.cal.state = .idle) (hb : s.budgetOk 0x18 s.calExtra = false) :
    s.calStartCmd = (s.bump P.KL_BDREFUSE).answer Status.budgetDeferred := by
  rw [State.calStartCmd, if_neg (not_not.mpr hi), hb]; rfl

theorem State.calCommit_idle (hi : s.cal.state = .idle) :
    s.calCommit = (s.commitStaging.setParI P.CAL_TREF 0 s.tNow).done := if_pos hi

theorem State.calCommit_busy (hi : s.cal.state ≠ .idle) : s.calCommit = s.answer Status.busyLocked := if_neg hi

/-- RETRIG takes triggering up again, once the class B fault that suspended it is acknowledged (R306). -/
theorem State.calRetrig_suspended (ht : s.cal.trigOff = true) (hb : (s.fb Fb.cal).pendB = false) :
    s.calRetrig = ({ s with cal := { s.cal with trigOff := false, resLost := false } } : State).done := if_pos ⟨ht, hb⟩

/-- RETRIG is refused while triggering is not suspended (R648). -/
theorem State.calRetrig_triggering (ht : s.cal.trigOff = false) : s.calRetrig = s.answer Status.notPermitted :=
  if_neg (by simp [ht])

/-! ### `CAL_CGAIN` and `CAL_COFS` -/

/-- A pair staged for the item of `key` (R304). -/
def State.staged (s : State) (key : Nat) (p : CoefPair) : State :=
  { s with cal := { s.cal with staging := tblInsert (tblErase s.cal.staging key) key p } }

/-- For an item with nothing staged a half is staged beside the other half in force (R304). -/
theorem State.coefWrite_unstaged {kind idx : Nat} (g : Option Nat) (o : Option Int) (hi : s.cal.state = .idle)
    (hs : s.cal.staging.find? (fun e => e.1 == coefKey kind idx) = none) : s.coefWrite kind idx g o =
      (s.staged (coefKey kind idx) ⟨g.getD (s.coef kind idx).g, o.getD (s.coef kind idx).o, s.tNow⟩).done := by
  rw [State.coefWrite, if_pos hi]
  simp only [hs]
  rfl

/-- Outside a run a coefficient has no condition of its own (R304). -/
theorem State.ownCheck_coef {id : Nat} (v : Nat) (hid : id = P.CAL_CGAIN ∨ id = P.CAL_COFS) (hi : s.cal.state = .idle) :
    s.ownCheck id 0 v = Status.ok := by
  rcases hid with rfl | rfl <;> simp [State.ownCheck, hi]

/-- A gain that the command layer takes is staged for the item of `CAL_CSEL` (R304). -/
theorem State.hostWrite_CAL_CGAIN {v : Nat} (hup : s.hopperUp = true) (hr : s.resetting Fb.cal = false)
    (hi : s.cal.state = .idle) (hv : valueOk P.CAL_CGAIN 0 v = true) : s.hostWrite P.CAL_CGAIN 0 v =
      (s.coefWrite (s.par P.CAL_CSEL / 4096) (s.par P.CAL_CSEL % 4096) (some v) none).done :=
  State.hostWrite_live (d := ⟨P.CAL_CGAIN, .rwLive, 1, .each [], .spans [(1006632960, 1140850687)]⟩) rfl hup rfl Nat.one_pos
    hv hr (State.ownCheck_coef v (.inl rfl) hi) rfl

/-- An offset that the command layer takes is staged for the item of `CAL_CSEL` (R304). -/
theorem State.hostWrite_CAL_COFS {v : Nat} (hup : s.hopperUp = true) (hr : s.resetting Fb.cal = false)
    (hi : s.cal.state = .idle) (hv : valueOk P.CAL_COFS 0 v = true) : s.hostWrite P.CAL_COFS 0 v =
      (s.coefWrite (s.par P.CAL_CSEL / 4096) (s.par P.CAL_CSEL % 4096) none (some (signedOf 32 v))).done :=
  State.hostWrite_live (d := ⟨P.CAL_COFS, .rwLive, 1, .each [], .spans [(-32768, 32767)]⟩) rfl hup rfl Nat.one_pos
    hv hr (State.ownCheck_coef v (.inr rfl) hi) rfl

/-! ### The obligation -/

/-- Settles O24: the commands are writes that the command layer takes, and each acts or is refused by calibration's state; a
coefficient is staged beside the other half in force. -/
theorem calibrationCommandsComplete : Obligations.CalibrationCommandsComplete := by
  unfold Obligations.CalibrationCommandsComplete
  intro s hup hr
  obtain ⟨hstart, habort, hcommit, hretrig, hclear⟩ := exec_calCtrl_commands hup hr
  rw [hstart, hcommit, hretrig]
  refine ⟨fun hi hb => ?_, fun hi => ?_, fun hi hb => ?_, habort, fun hi => ?_, fun hi => ?_, fun ht hb => ?_, fun ht => ?_,
    hclear, ?_⟩
  -- START
  · rw [State.calStartCmd_admitted hi hb]
  · rw [State.calStartCmd_busy hi]
  · rw [State.calStartCmd_deferred hi hb]
  -- COMMIT
  · rw [State.calCommit_idle hi]
  · rw [State.calCommit_busy hi]
  -- RETRIG
  · rw [State.calRetrig_suspended ht hb]
  · rw [State.calRetrig_triggering ht]
  -- a coefficient
  · rintro v _ _ _ rfl hi hs rfl rfl
    refine ⟨fun hv => ?_, fun hv => ?_⟩
    · rw [exec_calCoefWrite_gain, State.hostWrite_CAL_CGAIN hup hr hi hv, State.coefWrite_unstaged _ _ hi hs]; rfl
    · rw [exec_calCoefWrite_offset, State.hostWrite_CAL_COFS hup hr hi hv, State.coefWrite_unstaged _ _ hi hs]; rfl

end Sys2Proof.Machine
end

section
/-! Packets of Kiln, of the sync link, and of test and trace (Tables 12.15 to 12.17). -/

namespace Sys2Proof.Machine

variable {s a b u : State} {p : Packet} {k : Nat}

/-! ### What Kiln's commands do -/

/-- A packet whose selecting byte is the row's is of no other row. -/
theorem otherRow_selected (n lo hi : Nat) (h : fieldAt p.payload 0 1 = k) : otherRow p n lo hi k = false := by
  simp [otherRow, byte0, h]

theorem State.runKilnJobs_range (h1 : 1 ≤ fieldAt p.payload 0 1) (h2 : fieldAt p.payload 0 1 ≤ 127)
    (h3 : p.target.toNat + fieldAt p.payload 0 1 ≤ 256) : s.runKilnJobs p =
      s.done ((List.range (fieldAt p.payload 0 1)).flatMap (fun k => s.jobBytes (p.target.toNat + k))) :=
  if_neg (by simp only [byte0, packetTarget]; omega)

/-- A power command acts as a write of `KL_CTRL`, and answers the state it leaves (R265). -/
theorem State.runKilnPower_command (h : fieldAt p.payload 0 1 = k) (h1 : 1 ≤ k) (h4 : k ≤ 4) (hr : s.resetting Fb.kiln = false)
    (hu : u = s.klHostCtrl k) : s.runKilnPower p =
      if u.result.status = Status.ok then u.done (leBytes 1 u.kiln.state.code) else u := by
  subst h hu
  rw [State.runKilnPower, if_neg (by simp only [byte0]; omega), State.unlessReset, hr]
  rfl

/-! ### What the sync link's commands do -/

theorem State.runSlRole_release (h2 : 2 ≤ fieldAt p.payload 0 1) (h3 : fieldAt p.payload 0 1 ≤ 3) (hp : s.isPair = true)
    (ho : s.sl.state ≠ .off) (hr : s.role = Role.active) : s.runSlRole p = (s.setSl { s.sl with
      releaseDue := true, roleWait := s.sl.roleWait ++ [(portCode p.port, p.seq.toNat)] }).answer Status.acceptedPending :=
  (if_neg (Nat.not_lt.mpr h3)).trans (if_pos ⟨h2, hp, ho, hr⟩)

/-- SL_ROLE takes only the roles of a pair member, 2 and 3 (R526). -/
theorem State.runSlRole_refused (h : fieldAt p.payload 0 1 < 2) : s.runSlRole p = s.answer Status.notPermitted := by
  have h2 : ¬ 2 ≤ byte0 p := Nat.not_le.mpr h
  have h3 : ¬ 3 < byte0 p := by omega
  simp [State.runSlRole, h2, h3]

theorem State.runSlCopy_paired (hp : s.isPair = true) (hr : s.role = Role.active) (hs : s.sl.state = .synced)
    (hv : s.partnerRec.valid = true) (hh : s.partnerRec.hold = false) : s.runSlCopy p =
      (s.setSl { s.sl with copyDue := s.sl.copyDue ++ [(portCode p.port, p.seq.toNat)] }).answer Status.acceptedPending :=
  if_pos (by simp [hp, hr, hs, hv, hh])

theorem State.runTakeover_standby (h : s.mayTakeOver = true) : s.runTakeover p = (s.setSl { s.sl with
    takeDue := true, takeWait := s.sl.takeWait ++ [(portCode p.port, p.seq.toNat)] }).answer Status.acceptedPending := if_pos h

theorem State.runTakeover_refused (h : s.mayTakeOver = false) : s.runTakeover p = s.answer Status.notPermitted :=
  if_neg (by simp [h])

/-! ### What the test and trace commands do -/

theorem State.runTraceCtrl_command (h : fieldAt p.payload 0 1 = k) (h1 : 1 ≤ k) (h3 : k ≤ 3) :
    s.runTraceCtrl p = (s.setPar P.TST_TRCMASK 0 (fieldAt p.payload 4 4)).tstCtrl k := by
  subst h
  exact if_neg (by simp only [byte0]; omega)

theorem State.runTraceRead_range (h1 : 1 ≤ fieldAt p.payload 0 1) (h2 : fieldAt p.payload 0 1 ≤ 63)
    (h3 : p.target.toNat + fieldAt p.payload 0 1 ≤ s.tst.buffer.length) : s.runTraceRead p none =
      s.done (((s.tst.buffer.drop p.target.toNat).take (fieldAt p.payload 0 1)).flatMap TraceEntry.bytes) :=
  if_neg (by simp only [byte0, packetTarget]; omega)

/-- With the pin low, and fewer than three failures, a fresh challenge is answered (R588). -/
theorem State.runTestEnter_challenge {c : Nat} (hf : s.par P.TST_AUTHFAIL < 3) (hl : s.tst.testLock = false)
    (hu : u = { s with tst := { s.tst with testPinN := false } }) (hc : c = (Config.challenge u.fresh).toNat) :
    s.runTestEnter true =
      ({ u.nextFresh with tst := { u.tst with challenge := some c, challengeTime := u.t } } : State).done (leBytes 8 c) := by
  subst hc hu
  refine if_neg ?_
  rintro (h | h | h)
  · cases h
  · exact absurd hf (Nat.not_lt.mpr h)
  · exact absurd (hl.symm.trans h) Bool.false_ne_true

/-- With the pin high entry is refused, and traced (R588, Table 20.2). -/
theorem State.runTestEnter_pinHigh : s.runTestEnter false =
    (({ s with tst := { s.tst with testPinN := true } } : State).trace 0x0C 2).answer Status.notPermitted := by
  rw [State.runTestEnter, if_pos (.inl rfl)]; rfl

/-- The right answer within 1 s enters factory test mode (R588). -/
theorem State.runTestResponse_right {c : Nat} (hc : s.tst.challenge = some c) (ht : s.t ≤ s.tst.challengeTime + msTicks 1000)
    (hp : p.payload = testAnswer c)
    (hu : u = { s with tst := { s.tst with challenge := none, testMode := true, testPort := portCode p.port, testLast := s.t } }) :
    s.runTestResponse p = (((u.bump P.TST_TESTCNT).raise Fb.test 4 1).trace 0x0C 1).done := by
  subst hu
  simp only [State.runTestResponse, hc]
  exact if_pos ⟨ht, hp⟩

theorem State.runTestResponse_unasked (hc : s.tst.challenge = none) : s.runTestResponse p = s.testFails := by
  simp only [State.runTestResponse, hc]

theorem State.runTestExit_on (h : s.tst.testMode = true) : s.runTestExit = s.testEnd.done := if_pos h

theorem State.runTestExit_off (h : s.tst.testMode = false) : s.runTestExit = s.answer Status.notPermitted :=
  if_neg (by simp [h])

/-- In factory test mode a detector of the block asks for its record (R590). -/
theorem State.runInject_detector {b j : Nat} {r : Raise} (hm : s.tst.testMode = true)
    (hd : detClass p.target.toNat (fieldAt p.payload 0 1) = some k) (hb : b = p.target.toNat)
    (hr : r = { blk := b, det := fieldAt p.payload 0 1, cls := k, master := 5, addr := stateAddr b 0, injected := true,
                inst := j }) (hj : j = if b = Fb.faults then 1 else 0) :
    s.runInject p = ((s.setPar P.TST_INJLAST 0 (b + 256 * fieldAt p.payload 0 1)).ask r).done := by
  subst hr hj hb
  simp only [State.runInject, hm, packetTarget, byte0, hd]
  rfl

/-- In factory test mode a memory's bytes are read within its size (R591). -/
theorem State.runMemRead_range (hm : s.tst.testMode = true) (h1 : 1 ≤ fieldAt p.payload 4 2) (h2 : fieldAt p.payload 4 2 ≤ 1020)
    (h3 : fieldAt p.payload 0 4 % 2 ^ 28 + fieldAt p.payload 4 2 ≤ memSize (fieldAt p.payload 0 4 / 2 ^ 28)) :
    s.runMemRead p = s.nextFresh.done ((List.range (fieldAt p.payload 4 2)).map (fun i =>
      s.memByte s.fresh (fieldAt p.payload 0 4 / 2 ^ 28) (fieldAt p.payload 0 4 % 2 ^ 28 + i))) :=
  (if_neg (by simp [hm])).trans (if_neg (by omega))

theorem State.runMemRead_off (h : s.tst.testMode = false) : s.runMemRead p = s.answer Status.notPermitted := if_pos h

/-! ### Admitted packets -/

theorem kilnReport_admitted (ha : a = s.admitted p 0x80) (h : s.Admits p 0x80 false false) (hl : p.payload = [])
    (ht : p.target = 0) :
    exec (.kilnReport p) s = .next (s.finish ((a.done (slice a.kiln.report 0 64)).executed p 0x80)) :=
  State.next_native ha h (List.isEmpty_iff.mpr hl) (targetOk_of_zero ht) nofun rfl rfl

theorem kilnJobs_admitted (ha : a = s.admitted p 0x81) (h : s.Admits p 0x81 false false) (hl : p.payload.length = 4)
    (hz : fieldAt p.payload 1 3 = 0) (ht : p.target.toNat < 256) (hrun : a.runKilnJobs p = b) :
    exec (.kilnJobs p) s = .next (s.finish (b.executed p 0x81)) :=
  State.next_native ha h (beq_iff_eq.mpr hl) (decide_eq_true ht) nofun (beq_iff_eq.mpr hz) hrun

/-- KILN_POWER with the command that its row names: it acts on `KL_CTRL`, and answers the state it leaves (R265). -/
theorem State.next_opKilnPower (ha : a = s.admitted p 0x82) (h : s.Admits p 0x82 false false)
    (ho : a.owns (portCode p.port) = true) (hl : p.payload.length = 4) (ht : p.target = 0) (hz : fieldAt p.payload 1 3 = 0)
    (hk : fieldAt p.payload 0 1 = k) (h1 : 1 ≤ k) (h4 : k ≤ 4) (hr : a.resetting Fb.kiln = false) (hu : u = a.klHostCtrl k) :
    (.next (s.finish (s.opKilnPower p k)) : Host.Outcome State Fault Refusal) = .next (s.finish
      ((if u.result.status = Status.ok then u.done (leBytes 1 u.kiln.state.code) else u).executed p 0x82)) := by
  rw [State.opKilnPower, otherRow_selected 4 1 4 hk]
  exact State.next_native ha h (beq_iff_eq.mpr hl) (targetOk_of_zero ht) (fun _ => ho) (beq_iff_eq.mpr hz)
    (State.runKilnPower_command hk h1 h4 hr hu)

theorem slStatus_admitted (ha : a = s.admitted p 0x90) (h : s.Admits p 0x90 false false) (hl : p.payload = [])
    (ht : p.target = 0) : exec (.slStatus p) s = .next (s.finish (a.runSlStatus.executed p 0x90)) :=
  State.next_native ha h (List.isEmpty_iff.mpr hl) (targetOk_of_zero ht) nofun rfl rfl

theorem slRole_admitted (ha : a = s.admitted p 0x91) (h : s.Admits p 0x91 false true) (ho : a.owns (portCode p.port) = true)
    (hl : p.payload.length = 4) (ht : p.target = 0) (hz : fieldAt p.payload 1 3 = 0) (hrun : a.runSlRole p = b) :
    exec (.slRole p) s = .next (s.finish (b.executed p 0x91 (msTicks 100))) :=
  State.next_native ha h (beq_iff_eq.mpr hl) (targetOk_of_zero ht) (fun _ => ho) (beq_iff_eq.mpr hz) hrun

theorem slCopy_admitted (ha : a = s.admitted p 0x92) (h : s.Admits p 0x92 false true) (ho : a.owns (portCode p.port) = true)
    (hl : p.payload = []) (ht : p.target = 0) (hrun : a.runSlCopy p = b) :
    exec (.slCopy p) s = .next (s.finish (b.executed p 0x92 (msTicks (s.par P.HP_PENDMAX)))) :=
  State.next_native ha h (List.isEmpty_iff.mpr hl) (targetOk_of_zero ht) (fun _ => ho) rfl hrun

theorem slTakeover_admitted (ha : a = s.admitted p 0x93) (h : s.Admits p 0x93 false true)
    (ho : a.owns (portCode p.port) = true) (hl : p.payload = []) (ht : p.target = 0) (hrun : a.runTakeover p = b) :
    exec (.slTakeover p) s = .next (s.finish (b.executed p 0x93 (msTicks 100))) :=
  State.next_native ha h (List.isEmpty_iff.mpr hl) (targetOk_of_zero ht) (fun _ => ho) rfl hrun

theorem testEnter_admitted {pinLow : Bool} (ha : a = s.admitted p 0xA2) (h : s.Admits p 0xA2 false false)
    (ho : a.owns (portCode p.port) = true) (hl : p.payload = []) (ht : p.target = 0) (hrun : a.runTestEnter pinLow = b) :
    exec (.testEnter p pinLow) s = .next (s.finish (b.executed p 0xA2)) :=
  State.next_native ha h (List.isEmpty_iff.mpr hl) (targetOk_of_zero ht) (fun _ => ho) rfl hrun

theorem testResponse_admitted (ha : a = s.admitted p 0xA3) (h : s.Admits p 0xA3 false false)
    (ho : a.owns (portCode p.port) = true) (hl : p.payload.length = 16) (ht : p.target = 0) (hrun : a.runTestResponse p = b) :
    exec (.testResponse p) s = .next (s.finish (b.executed p 0xA3)) :=
  State.next_native ha h (beq_iff_eq.mpr hl) (targetOk_of_zero ht) (fun _ => ho) rfl hrun

theorem testExit_admitted (ha : a = s.admitted p 0xA4) (h : s.Admits p 0xA4 false false)
    (ho : a.owns (portCode p.port) = true) (hl : p.payload = []) (ht : p.target = 0) (hrun : a.runTestExit = b) :
    exec (.testExit p) s = .next (s.finish (b.executed p 0xA4)) :=
  State.next_native ha h (List.isEmpty_iff.mpr hl) (targetOk_of_zero ht) (fun _ => ho) rfl hrun

theorem faultInject_admitted (ha : a = s.admitted p 0xA5) (h : s.Admits p 0xA5 false false)
    (ho : a.owns (portCode p.port) = true) (hl : p.payload.length = 4) (hz : fieldAt p.payload 1 3 = 0)
    (ht : p.target.toNat < 0xF8) (hrun : a.runInject p = b) :
    exec (.faultInject p) s = .next (s.finish (b.executed p 0xA5)) :=
  State.next_native ha h (beq_iff_eq.mpr hl) (decide_eq_true ht) (fun _ => ho) (beq_iff_eq.mpr hz) hrun

theorem memRead_admitted (ha : a = s.admitted p 0xA6) (h : s.Admits p 0xA6 false false) (hl : p.payload.length = 6)
    (ht : p.target = 0) (hrun : a.runMemRead p = b) : exec (.memRead p) s = .next (s.finish (b.executed p 0xA6)) :=
  State.next_native ha h (beq_iff_eq.mpr hl) (targetOk_of_zero ht) nofun rfl hrun

theorem traceRead_admitted (ha : a = s.admitted p 0xA1) (h : s.Admits p 0xA1 false false) (hl : p.payload.length = 4)
    (hz : fieldAt p.payload 1 3 = 0) (hrun : a.runTraceRead p none = b) :
    exec (.traceRead p none) s = .next (s.finish (b.executed p 0xA1)) :=
  State.next_native ha h (beq_iff_eq.mpr hl) rfl nofun (beq_iff_eq.mpr hz) hrun

/-- TRACE_CTRL with the command that its row names: the mask is set, then the command acts (R601). -/
theorem State.next_opTraceCtrl (ha : a = s.admitted p 0xA0) (h : s.Admits p 0xA0 false false)
    (ho : a.owns (portCode p.port) = true) (hl : p.payload.length = 8) (ht : p.target = 0) (hz : fieldAt p.payload 1 3 = 0)
    (hk : fieldAt p.payload 0 1 = k) (h1 : 1 ≤ k) (h3 : k ≤ 3) :
    (.next (s.finish (s.opTraceCtrl p k)) : Host.Outcome State Fault Refusal) = .next (s.finish
      (((a.setPar P.TST_TRCMASK 0 (fieldAt p.payload 4 4)).tstCtrl k).executed p 0xA0)) := by
  rw [State.opTraceCtrl, otherRow_selected 8 1 3 hk]
  exact State.next_native ha h (beq_iff_eq.mpr hl) (targetOk_of_zero ht) (fun _ => ho) (beq_iff_eq.mpr hz)
    (State.runTraceCtrl_command hk h1 h3)

/-! ### The obligation -/

/-- Settles O32: each row's packet, admitted, runs its command, whose effect is the law above for the clause's case. -/
theorem kilnSyncAndTestPacketsAreAnswered : Obligations.KilnSyncAndTestPacketsAreAnswered := by
  unfold Obligations.KilnSyncAndTestPacketsAreAnswered
  rintro s p _ _ rfl rfl
  refine ⟨fun a ha h hl ht => kilnReport_admitted ha h hl ht, fun a ha h hl hz ht h1 h2 h3 => ?_,
    fun a ha u h ho hl ht hz hk hr hu => ?_, fun a ha u h ho hl ht hz hk hr hu => ?_,
    fun a ha u h ho hl ht hz hk hr hu => ?_, fun a ha u h ho hl ht hz hk hr hu => ?_,
    fun a ha h hl ht => slStatus_admitted ha h hl ht, fun a ha h ho hl ht hz h2 h3 hp hs hr => ?_,
    fun a ha h ho hl ht hz h2 => ?_, fun a ha h ho hl ht hp hr hs hv hh => ?_, fun a ha h ho hl ht hm => ?_,
    fun a ha h ho hl ht hm => ?_, fun a ha u c h ho hl ht hf hlock hu hc => ?_, fun a ha h ho hl ht => ?_,
    fun a ha c u h ho hl ht hc htime hp hu => ?_, fun a ha h ho hl ht hc => ?_, fun a ha h ho hl ht hm => ?_,
    fun a ha h ho hl ht hm => ?_, fun a ha k b j r h ho hl hz ht hm hd hb hr hj => ?_, fun a ha h hl ht hm h1 h2 h3 => ?_,
    fun a ha h hl ht hm => ?_, fun a ha h hl hz h1 h2 h3 => ?_, fun a ha h ho hl ht hz hk => ?_,
    fun a ha h ho hl ht hz hk => ?_, fun a ha h ho hl ht hz hk => ?_⟩
  -- Kiln
  · exact kilnJobs_admitted ha h hl hz ht (State.runKilnJobs_range h1 h2 h3)
  · exact State.next_opKilnPower ha h ho hl ht hz hk (by decide) (by decide) hr hu
  · exact State.next_opKilnPower ha h ho hl ht hz hk (by decide) (by decide) hr hu
  · exact State.next_opKilnPower ha h ho hl ht hz hk (by decide) (by decide) hr hu
  · exact State.next_opKilnPower ha h ho hl ht hz hk (by decide) (by decide) hr hu
  -- the sync link
  · exact slRole_admitted ha h ho hl ht hz (State.runSlRole_release h2 h3 hp hs hr)
  · exact slRole_admitted ha h ho hl ht hz (State.runSlRole_refused h2)
  · exact slCopy_admitted ha h ho hl ht (State.runSlCopy_paired hp hr hs hv hh)
  · exact slTakeover_admitted ha h ho hl ht (State.runTakeover_standby hm)
  · exact slTakeover_admitted ha h ho hl ht (State.runTakeover_refused hm)
  -- test
  · exact testEnter_admitted ha h ho hl ht (State.runTestEnter_challenge hf hlock hu hc)
  · exact testEnter_admitted ha h ho hl ht State.runTestEnter_pinHigh
  · exact testResponse_admitted ha h ho hl ht (State.runTestResponse_right hc htime hp hu)
  · exact testResponse_admitted ha h ho hl ht (State.runTestResponse_unasked hc)
  · exact testExit_admitted ha h ho hl ht (State.runTestExit_on hm)
  · exact testExit_admitted ha h ho hl ht (State.runTestExit_off hm)
  · exact faultInject_admitted ha h ho hl hz ht (State.runInject_detector hm hd hb hr hj)
  · exact memRead_admitted ha h hl ht (State.runMemRead_range hm h1 h2 h3)
  · exact memRead_admitted ha h hl ht (State.runMemRead_off hm)
  -- trace
  · exact traceRead_admitted ha h hl hz (State.runTraceRead_range h1 h2 h3)
  · exact State.next_opTraceCtrl ha h ho hl ht hz hk (by decide) (by decide)
  · exact State.next_opTraceCtrl ha h ho hl ht hz hk (by decide) (by decide)
  · exact State.next_opTraceCtrl ha h ho hl ht hz hk (by decide) (by decide)

end Sys2Proof.Machine
end

section
/-! Procedures of spare slices, the items of a calibration run, recoveries and blends (R281, R283, R286–R296, R301, R305,
Tables 10.3 and 10.5). -/

namespace Sys2Proof.Machine

theorem exec_spareCalStart (s : State) (g : Fin 4) :
    exec (.spareCalStart g) s = .next (s.finish (s.blockEvent (fun s => s.spareCalStart g.val))) := rfl
theorem exec_spareCalDone (s : State) (g : Fin 4) (zero full : BitVec 19) (vcr : BitVec 32) :
    exec (.spareCalDone g zero full vcr) s = .next (s.finish
      (s.blockEvent (fun s => s.spareCalDone g.val zero.toNat full.toNat vcr.toNat))) := rfl
theorem exec_spareCalTimeout (s : State) (g : Fin 4) :
    exec (.spareCalTimeout g) s = .next (s.finish (s.blockEvent (fun s => s.spareCalTimeout g.val))) := rfl
theorem exec_calStepDone (s : State) (ic : Option (Fin 8)) (x : CalMeasure) : exec (.calStepDone ic x) s =
    .next (s.finish (s.blockEvent (fun s => s.calStepDone (ic.map Fin.val) x))) := rfl
theorem exec_injectionRecoveryEnd (s : State) (n : Fin 64) :
    exec (.injectionRecoveryEnd n) s = .next (s.finish (s.blockEvent (fun s => s.recoveryEnd n.val))) := rfl
theorem exec_calRunTimeout (s : State) :
    exec .calRunTimeout s = .next (s.finish (s.blockEvent (fun s => s.calRunTimeout))) := rfl
theorem exec_outputBlendTick (s : State) (k : Fin 128) :
    exec (.outputBlendTick k) s = .next (s.finish (s.blockEvent (fun s => s.blendTick k.val))) := rfl

variable {s u v : State} {g i n t0 vcr z f : Nat}

/-! ### The reading of V_CR -/

/-- V_CR within 2 V ± 2 % is noted as valid (R281). -/
theorem State.vcrRead_within (hu : u = { s.setPar P.CAL_VCR 0 vcr with
      cal := { s.cal with vcrValid := decide (1960000 ≤ vcr) && decide (vcr ≤ 2040000) } })
    (h1 : 1960000 ≤ vcr) (h2 : vcr ≤ 2040000) : s.vcrRead vcr = (true, u) := by
  subst hu
  exact Prod.ext (by simp [State.vcrRead, h1, h2]) rfl

/-- V_CR outside 2 V ± 2 % is noted as not valid (R281). -/
theorem State.vcrRead_outside (hu : u = { s.setPar P.CAL_VCR 0 vcr with
      cal := { s.cal with vcrValid := decide (1960000 ≤ vcr) && decide (vcr ≤ 2040000) } })
    (h : vcr < 1960000 ∨ 2040000 < vcr) : s.vcrRead vcr = (false, u) := by
  subst hu
  exact Prod.ext (by simp only [State.vcrRead, Bool.and_eq_false_iff, decide_eq_false_iff_not]; omega) rfl

/-! ### Procedures of spares -/

/-- A spare's procedure takes the free bus outside a run where no lower group waits (R286, R301). -/
theorem State.spareCalStart_free (hd : s.spareDue g = true) (hb : s.calBusy = false) (hr : s.cal.state ≠ .running)
    (hlow : ∀ h : Nat, h < g → s.spareDue h = false) : s.spareCalStart g =
      { s with cal := { s.cal with spares := tblSet {} s.cal.spares g { start := some (s.spareWait g) } } } := by
  have hrun : (s.cal.state == CalState.running) = false := beq_eq_false_iff_ne.mpr hr
  have hlower : (List.range 4).any (fun h => decide (h < g) && s.spareDue h) = false := by
    rw [List.any_eq_false]
    intro h _
    by_cases hg : h < g
    · simp [hlow h hg]
    · simp [hg]
  simp only [State.spareCalStart, hd, hb, hrun, hlower, Bool.false_and, and_self, if_true]

section
variable (hs : (tblGet {} s.cal.spares g).start = some t0) (ht : t0 ≤ s.t) (hi : (s.group g).spare = some i)
include hs ht hi

/-- A spare's measurement gives nothing without its reference (R281). -/
theorem State.spareCalDone_resLost (hv : (s.spareEnd g).vcrRead vcr = (false, u)) :
    s.spareCalDone g z f vcr = u.resLost := by
  have hi' : ((s.spareEnd g).group g).spare = some i := hi
  simp only [State.spareCalDone, hs, if_neg (Nat.not_lt.mpr ht), hi', hv, if_true]

/-- A zero beyond the limits of Table 10.5 rejects the slice. -/
theorem State.spareCalDone_rejected (hv : (s.spareEnd g).vcrRead vcr = (true, u)) (hz : 2048 < z) :
    s.spareCalDone g z f vcr = u.sliceReject g i := by
  have hi' : ((s.spareEnd g).group g).spare = some i := hi
  simp [State.spareCalDone, hs, Nat.not_lt.mpr ht, hi', hv, hz]

/-- Sums within the limits of Table 10.5 give the slice its pair, and the spare is READY (R286). -/
theorem State.spareCalDone_ready {span : Nat} (hv : (s.spareEnd g).vcrRead vcr = (true, u)) (hz : z ≤ 2048)
    (hf : f = z + span) (h0 : 0 < span) (hspan : 50 * ((256000 : Int) - span).natAbs ≤ span)
    {p : CoefPair} (hp : p = ⟨openDiv 9 (256000 * 2 ^ 30) span, openDiv 10 z 2, u.tNow⟩)
    (hu : v = { u with coefs := tblInsert (tblErase u.coefs (coefKey 0 (5 * g + i))) (coefKey 0 (5 * g + i)) p }) :
    s.spareCalDone g z f vcr =
      (v.setGroup g ((v.group g).setSlice i { (v.group g).slice i with ready := true })).bump P.CAL_SPARECNT := by
  subst hu hp
  have hi' : ((s.spareEnd g).group g).spare = some i := hi
  have hsum : (f : Int) - z = span := by omega
  have hgood : (decide ((span : Int) ≤ 0) || decide (50 * ((256000 : Int) - span).natAbs > span) || decide (2048 < z)) =
      false := by
    simp only [Bool.or_eq_false_iff, decide_eq_false_iff_not]; omega
  simp only [State.spareCalDone, hs, if_neg (Nat.not_lt.mpr ht), hi', hv, hsum, Int.natAbs_natCast, hgood, Bool.true_eq_false,
    Bool.false_eq_true, if_false]

end

/-- A procedure not done 2 ms after its start is recorded, and begins again (Table 10.5). -/
theorem State.spareCalTimeout_due (hs : (tblGet {} s.cal.spares g).start = some t0) (ht : t0 + msTicks 2 ≤ s.t) :
    s.spareCalTimeout g = ({ s with cal := { s.cal with
      spares := tblSet {} s.cal.spares g { start := some s.t } } } : State).askCal 3 1 0
        (5 * g + (s.group g).spare.getD 0) := by
  simp only [State.spareCalTimeout, hs, if_pos ht]

/-! ### Items of a run -/

/-- An item that has been on the bus for its time is measured (Table 10.3). -/
theorem State.calStepDone_item {x : CalMeasure} (hst : s.cal.state = .running) (hi : s.cal.item = some n)
    (ht : s.cal.itemStart + s.cal.step.ticks ≤ s.t) (hx : s.cal.step.takes x = true) :
    s.calStepDone none x = s.calBusDone n x := by
  simp only [State.calStepDone, hst, not_true, ne_eq, if_false, hi, hx, ht, and_self, if_true]

/-- The CDAC step goes on where V_CR and the 16 levels are good (R281). -/
theorem State.calCdacDone_linear (hv : u.vcrRead vcr = (true, v)) : u.calCdacDone vcr true = v.calKick := by
  simp only [State.calCdacDone, hv, Bool.true_eq_false, if_false]

/-- Levels that are not linear fail the run, and suspend triggering (R305, R306). -/
theorem State.calCdacDone_bent (hv : u.vcrRead vcr = (true, v)) {w : State} (hw : w = v.calFail Status.faultState) :
    u.calCdacDone vcr false = ({ w with cal := { w.cal with trigOff := true } } : State).raise Fb.cal 5 2 := by
  rw [hw]
  simp only [State.calCdacDone, hv, Bool.true_eq_false, if_false, if_true]

/-- The CDAC step fails the run without its reference (R281). -/
theorem State.calCdacDone_resLost {linear : Bool} (hv : u.vcrRead vcr = (false, v)) :
    u.calCdacDone vcr linear = (v.calFail Status.faultState).resLost := by
  simp only [State.calCdacDone, hv, if_true]

section
variable (hu : u = { s.calEndItem with cal := { s.calEndItem.cal with
  items := s.calEndItem.cal.items.filter (fun k => !(k == n)) } })
include hu

/-- Once its item has ended, the CDAC step judges what it read (R281, R305). -/
theorem State.calBusDone_line {vcr : BitVec 32} {linear : Bool} :
    s.calBusDone n (.line vcr linear) = u.calCdacDone vcr.toNat linear := by
  subst hu; rfl

/-- A cell's pair is formed from its two levels, with the pair of the spare that measured them (R283, R291). -/
theorem State.calBusDone_levels {lo hi : BitVec 18} {p : Nat × Int} (hs : u.cal.spareOf = some (g, i))
    (hp : p = cellPairOf (u.coef 0 (5 * g + i)) (isSignedMode (u.par P.AC_MODE n)) lo.toNat hi.toNat) :
    s.calBusDone n (.levels lo hi) = (u.stagePair 2 (8 * n + u.par P.AC_GAIN n) p.1 p.2).calKick := by
  subst hu hp
  have hs' : s.calEndItem.cal.spareOf = some (g, i) := hs
  simp only [State.calBusDone, hs', Option.getD_some]

/-- A comparator's measured pair is staged (Table 10.3). -/
theorem State.calBusDone_thr {gain : BitVec 32} {ofs : Int} (hk : u.cal.step = .thr) :
    s.calBusDone n (.pair gain ofs) = (u.stagePair 4 n gain.toNat ofs).calKick := by
  subst hu
  exact if_pos hk

/-- An output's measured pair is staged (Table 10.3). -/
theorem State.calBusDone_out {gain : BitVec 32} {ofs : Int} (hk : u.cal.step = .out) :
    s.calBusDone n (.pair gain ofs) = (u.stagePair 3 (u.outIndex n) gain.toNat ofs).calKick := by
  have hthr : u.cal.step ≠ .thr := by rw [hk]; decide
  subst hu
  exact if_neg hthr

end

/-- A converter's reference is staged once, from 250 µs into its overhead (R294). -/
theorem State.calStepDone_reference {gain : BitVec 32} {ofs : Int} (hst : s.cal.state = .running)
    (hp : (s.ic i).phase = .overhead) (hi : s.cal.icItems.contains i = true) (hm : s.cal.icMeasured.contains i = false)
    (ht : (s.ic i).stop + 25000 ≤ s.t) (hu : u = s.stagePair 1 i gain.toNat ofs) : s.calStepDone (some i) (.pair gain ofs) =
      { u with cal := { u.cal with icMeasured := u.cal.icMeasured ++ [i] } } := by
  subst hu
  rw [State.calStepDone, if_neg (not_not.mpr hst)]
  exact if_pos ⟨hp, hi, hm, ht⟩

/-! ### Recoveries, the time limit and blends -/

theorem State.recoveryEnd_due (h : tblGet 0 s.cal.recovering n ≤ s.t) :
    s.recoveryEnd n = { s with cal := { s.cal with recovering := tblErase s.cal.recovering n } } := if_pos h

/-- A run that has counted `CAL_TIMEOUT` in RUNNING fails (R305). -/
theorem State.calRunTimeout_due (hst : s.cal.state = .running)
    (ht : msTicks (s.par P.CAL_TIMEOUT) ≤ s.cal.counted + (s.t - s.cal.since)) :
    s.calRunTimeout = (((({ s.calEndRun with cal := { s.calEndRun.cal with lastFailed := true } } : State).bump
      P.CAL_FAILCNT).calAnswer Status.timeout 0).raise Fb.cal 0 1) := if_pos ⟨hst, ht⟩

section
variable {b : Blend} (hb : tblGet none s.cal.blends n = some b) (ht : b.since + msTicks 1 ≤ s.t)
include hb ht

/-- A blend that reaches its new pair ends there (R288). -/
theorem State.blendTick_ends (h : b.delta ≤ b.num + s.par P.CAL_SLEW) :
    s.blendTick n = { s with cal := { s.cal with blends := tblErase s.cal.blends n } } := by
  simp only [State.blendTick, hb, if_pos ht, if_pos h]

/-- A blend moves by `CAL_SLEW` each millisecond (R288). -/
theorem State.blendTick_moves {c : Blend} (h : b.num + s.par P.CAL_SLEW < b.delta)
    (hc : c = { b with num := b.num + s.par P.CAL_SLEW, since := s.t }) :
    s.blendTick n = { s with cal := { s.cal with blends := tblSet none s.cal.blends n (some c) } } := by
  subst hc
  simp only [State.blendTick, hb, if_pos ht, if_neg (Nat.not_le.mpr h)]

end

/-! ### The obligation -/

/-- Settles O23: a block's event acts while the device lives, and its effect is the law above for the clause's case. -/
theorem calibrationRunsAndSparesComplete : Obligations.CalibrationRunsAndSparesComplete := by
  unfold Obligations.CalibrationRunsAndSparesComplete
  refine ⟨fun s g ha => ⟨fun hd hb hr hlow => ?_, fun zero full vcr t0 i u hs ht hi hu => ⟨fun hv => ?_, fun h1 h2 hz => ?_,
      fun span p v h1 h2 hz hf h0 hspan hp hv => ?_⟩, fun t0 hs ht => ?_⟩,
    fun s ha => ⟨fun n u hst hi ht hu => ?_, fun i gain ofs u hst hp hi hm ht hu => ?_, fun n hn => ?_, fun hst ht => ?_,
      fun k b c hb ht hc => ⟨fun hend => ?_, fun hon => ?_⟩⟩⟩
  -- spares
  · rw [exec_spareCalStart, State.blockEvent_alive _ ha, State.spareCalStart_free hd hb hr hlow]
  · rw [exec_spareCalDone, State.blockEvent_alive _ ha, State.spareCalDone_resLost hs ht hi (State.vcrRead_outside hu hv)]
  · rw [exec_spareCalDone, State.blockEvent_alive _ ha,
      State.spareCalDone_rejected hs ht hi (State.vcrRead_within hu h1 h2) hz]
  · rw [exec_spareCalDone, State.blockEvent_alive _ ha,
      State.spareCalDone_ready hs ht hi (State.vcrRead_within hu h1 h2) hz hf h0 hspan hp hv]
  · rw [exec_spareCalTimeout, State.blockEvent_alive _ ha, State.spareCalTimeout_due hs ht]
  -- an item on the bus
  · have hbus {x : CalMeasure} (hx : s.cal.step.takes x = true) :
        exec (.calStepDone none x) s = .next (s.finish (s.calBusDone n x)) := by
      rw [exec_calStepDone, State.blockEvent_alive _ ha, Option.map_none, State.calStepDone_item hst hi ht hx]
    refine ⟨fun vcr linear v hk hv => ?_, fun lo hi g i p hk hs hp => ?_, fun gain ofs hk huk => ?_, fun gain ofs hk huk => ?_⟩
    · rw [hbus (by rw [hk]; rfl), State.calBusDone_line hu]
      refine ⟨fun h1 h2 hl => ?_, fun h1 h2 hl w hw => ?_, fun h => ?_⟩
      · rw [hl, State.calCdacDone_linear (State.vcrRead_within hv h1 h2)]
      · rw [hl, State.calCdacDone_bent (State.vcrRead_within hv h1 h2) hw]
      · rw [State.calCdacDone_resLost (State.vcrRead_outside hv h)]
    · rw [hbus (by rw [hk]; rfl), State.calBusDone_levels hu hs hp]
    · rw [hbus (by rw [hk]; rfl), State.calBusDone_thr hu huk]
    · rw [hbus (by rw [hk]; rfl), State.calBusDone_out hu huk]
  -- a converter's reference, a recovery, the time limit
  · rw [exec_calStepDone, State.blockEvent_alive _ ha, Option.map_some, State.calStepDone_reference hst hp hi hm ht hu]
  · rw [exec_injectionRecoveryEnd, State.blockEvent_alive _ ha, State.recoveryEnd_due hn]
  · rw [exec_calRunTimeout, State.blockEvent_alive _ ha, State.calRunTimeout_due hst ht]
  -- blends
  · rw [exec_outputBlendTick, State.blockEvent_alive _ ha, State.blendTick_ends hb ht hend]
  · rw [exec_outputBlendTick, State.blockEvent_alive _ ha, State.blendTick_moves hb ht hon hc]

end Sys2Proof.Machine
end

section
/-! Packets of images, of the flash and of calibration (Tables 12.9 and 12.12). -/

namespace Sys2Proof.Machine

variable {s a b u : State} {p : Packet} {k n port seq : Nat} {d img : List Byte}

/-! ### What the image commands do -/

/-- A load opens while none is under way, for the length of an image (R316, R318). -/
theorem State.gristOpen_idle (hi : s.grist.state = .idle) (h1 : 96 ≤ n) (h2 : n ≤ 0x100000) :
    s.gristOpen port n = (s.openLoad port n).done := by
  rw [State.gristOpen, if_neg (not_not.mpr hi), if_neg (by omega)]

/-- A second load is refused (Table 12.9). -/
theorem State.gristOpen_busy (hi : s.grist.state ≠ .idle) : s.gristOpen port n = s.answer Status.busyLocked := if_pos hi

/-- Bytes that continue the image are taken, and its SHADOW records are written as they arrive (R319). -/
theorem State.gristData_continues (hst : s.grist.state = .loading) (hc : s.grist.checking = none) (hp : s.grist.port = port)
    (hn : n = s.grist.image.length) (himg : img = s.grist.image ++ d) (hlen : img.length ≤ s.grist.length)
    (hu : u = s.setGrist { s.grist with image := img, lastData := s.t }) :
    s.gristData port n d = (if (magicOk img && !isPatch img) = true then u.applyShadow img s.grist.image.length img.length
      else u).done (leBytes 4 img.length) := by
  subst himg hu
  have hfits : ¬ s.grist.length < s.grist.image.length + d.length := by simpa using hlen
  have hopen : ¬ (s.grist.state ≠ .loading ∨ s.grist.checking.isSome = true) := by simp [hst, hc]
  simp only [State.gristData, if_neg hopen, if_neg (not_not.mpr hp), if_neg (not_not.mpr hn), if_neg hfits]

/-- The port that loads closes its image, and the checks start (R319). -/
theorem State.gristClose_loading (hst : s.grist.state = .loading) (hc : s.grist.checking = none) (hp : s.grist.port = port) :
    s.gristClose port = (s.setGrist { s.grist with checking := some s.t }).answer Status.acceptedPending := by
  have hopen : ¬ (s.grist.state ≠ .loading ∨ s.grist.checking.isSome = true) := by simp [hst, hc]
  simp only [State.gristClose, if_neg hopen, if_neg (not_not.mpr hp)]

/-- A BLANK slot without a write under way takes the key of the payload (R323). -/
theorem State.runKeyProgram_blank (hk : s.keySlot p.target.toNat = 0)
    (hd : s.pwr.keyDue.any (fun e => e.1 == p.target.toNat) = false) :
    s.runKeyProgram p = { s.answer Status.acceptedPending with pwr :=
      { s.pwr with keyDue := s.pwr.keyDue ++ [(p.target.toNat, BitVec.ofNat 128 (beNat p.payload))] } } := by
  have hstart : s.keyProgram (packetTarget p) = s.answer Status.acceptedPending := if_pos ⟨hk, hd⟩
  rw [State.runKeyProgram, hstart]
  rfl

/-- A slot that is not BLANK is not written again (R323). -/
theorem State.runKeyProgram_used (hk : s.keySlot p.target.toNat ≠ 0) :
    s.runKeyProgram p = s.answer Status.notPermitted := by
  have hstart : s.keyProgram (packetTarget p) = s.answer Status.notPermitted := if_neg (fun h => hk h.1)
  rw [State.runKeyProgram, hstart]
  rfl

/-! ### What the flash commands do -/

theorem State.flashRead_range (hb : s.portFBusy = false) (h1 : 1 ≤ k) (h2 : k ≤ 1020) (h3 : n + k ≤ 2 ^ 24) :
    s.flashRead n k = s.done (s.flashBytes n k) := by
  rw [State.flashRead, hb, if_neg Bool.false_ne_true, if_neg (by omega)]

/-- An idle Port F begins the erase of a sector (R365). -/
theorem State.flashErase_free (hb : s.portFBusy = false) (ho : s.grist.flashOp = none) (h1 : n % 4096 = 0) (h2 : n < 2 ^ 24) :
    s.flashErase port seq n = (s.setGrist { s.grist with flashOp := some ⟨port, seq, n, none⟩ }).answer
      Status.acceptedPending := by
  rw [State.flashErase, if_neg (by simp [hb, ho]), if_neg (by omega)]

/-- An idle Port F begins a write that stays within a page (R365). -/
theorem State.flashWrite_free (hb : s.portFBusy = false) (ho : s.grist.flashOp = none) (h1 : n < 2 ^ 24)
    (h2 : n % 256 + d.length ≤ 256) : s.flashWrite port seq n d =
      (s.setGrist { s.grist with flashOp := some ⟨port, seq, n, some d⟩ }).answer Status.acceptedPending := by
  rw [State.flashWrite, if_neg (by simp [hb, ho]), if_neg (by omega)]

/-! ### What the calibration commands do -/

/-- A pair whose halves are values of `CAL_CGAIN` and `CAL_COFS` is staged as by writes of them (R304). -/
theorem State.runCoefPut_valid (hg : valueOk P.CAL_CGAIN 0 (fieldAt p.payload 0 4) = true)
    (ho : valueOk P.CAL_COFS 0 (fieldAt p.payload 4 4) = true) : s.runCoefPut p =
      s.coefWrite (p.target.toNat / 4096) (p.target.toNat % 4096) (some (fieldAt p.payload 0 4))
        (some (signedOf 32 (fieldAt p.payload 4 4))) :=
  if_pos (Bool.and_eq_true_iff.mpr ⟨hg, ho⟩)

theorem State.runCoefDump_range (h1 : 1 ≤ fieldAt p.payload 0 1) (h2 : fieldAt p.payload 0 1 ≤ 84)
    (h3 : p.target.toNat % 4096 + fieldAt p.payload 0 1 ≤ coefCount (p.target.toNat / 4096)) :
    s.runCoefDump p = s.done ((List.range (fieldAt p.payload 0 1)).flatMap
      (fun k => (s.coef (p.target.toNat / 4096) (p.target.toNat % 4096 + k)).bytes)) :=
  if_neg (by simp only [byte0, packetTarget]; omega)

/-- A step of system calibration acts as a write of `SAR_SYSCAL` of its group (R144, R145, R147). -/
theorem State.runSysStep_step (hk : fieldAt p.payload 0 1 = k) (h3 : k ≤ 3) (hr : s.resetting (Fb.sar (sysGroup p)) = false) :
    s.runSysStep p = s.sysCalWrite (sysGroup p) (sysCellOf p + 256 * k) := by
  subst hk
  have hlow : ¬ 3 < byte0 p := Nat.not_lt.mpr h3
  rw [State.runSysStep, if_neg hlow, State.unlessReset, hr]
  rfl

/-- A run within Kiln's budget is requested as by `CAL_CTRL`, and the packet pends until it ends (R264, R285). -/
theorem State.runCalStart_admitted (hi : s.cal.state = .idle) (hb : s.budgetOk 0x18 s.calExtra = true) :
    s.runCalStart = s.calStart.answer Status.acceptedPending := by
  have hstart : s.calStartCmd = s.calStart := by rw [State.calStartCmd, if_neg (not_not.mpr hi), if_pos hb]
  have hok : s.calStart.result.status = Status.ok := by rw [State.calStart, if_pos hi]; rfl
  rw [State.runCalStart, hstart, if_pos hok]

/-! ### Admitted packets -/

theorem gristOpen_admitted (ha : a = s.admitted p 0x20) (h : s.Admits p 0x20 false false)
    (ho : a.owns (portCode p.port) = true) (hl : p.payload.length = 4) (ht : p.target = 0)
    (hrun : a.gristOpen (portCode p.port) (fieldAt p.payload 0 4) = b) :
    exec (.gristOpen p) s = .next (s.finish (b.executed p 0x20)) :=
  State.next_native ha h (beq_iff_eq.mpr hl) (targetOk_of_zero ht) (fun _ => ho) rfl hrun

theorem gristData_admitted (ha : a = s.admitted p 0x21) (h : s.Admits p 0x21 false false)
    (ho : a.owns (portCode p.port) = true) (h5 : 5 ≤ p.payload.length) (h1024 : p.payload.length ≤ 1024) (ht : p.target = 0)
    (hrun : a.gristData (portCode p.port) (fieldAt p.payload 0 4) (p.payload.drop 4) = b) :
    exec (.gristData p) s = .next (s.finish (b.executed p 0x21)) :=
  State.next_native ha h (by simp [h5, h1024]) (targetOk_of_zero ht) (fun _ => ho) rfl hrun

theorem gristClose_admitted (ha : a = s.admitted p 0x22) (h : s.Admits p 0x22 false true)
    (ho : a.owns (portCode p.port) = true) (hl : p.payload = []) (ht : p.target = 0)
    (hrun : a.gristClose (portCode p.port) = b) :
    exec (.gristClose p) s = .next (s.finish (b.executed p 0x22 (msTicks 200))) :=
  State.next_native ha h (List.isEmpty_iff.mpr hl) (targetOk_of_zero ht) (fun _ => ho) rfl hrun

theorem gristInfo_admitted (ha : a = s.admitted p 0x23) (h : s.Admits p 0x23 false false) (hl : p.payload.length = 0)
    (ht : p.target.toNat ≤ 1) : exec (.gristInfo p) s = .next (s.finish
      ((a.done (slice (if p.target.toNat = 0 then a.grist.liveHeader else a.grist.shHeader) 0 64)).executed p 0x23)) :=
  State.next_native ha h (beq_iff_eq.mpr hl) (decide_eq_true ht) nofun rfl rfl

theorem keyProgram_admitted (ha : a = s.admitted p 0x24) (h : s.Admits p 0x24 false true)
    (ho : a.owns (portCode p.port) = true) (hl : p.payload.length = 16) (ht : p.target.toNat ≤ 3)
    (hrun : a.runKeyProgram p = b) :
    exec (.keyProgram p) s = .next (s.finish (b.executed p 0x24 (msTicks 50))) :=
  State.next_native ha h (beq_iff_eq.mpr hl) (decide_eq_true ht) (fun _ => ho) rfl hrun

theorem flashRead_admitted (ha : a = s.admitted p 0x26) (h : s.Admits p 0x26 false false) (hl : p.payload.length = 6)
    (ht : p.target = 0) (hrun : a.flashRead (fieldAt p.payload 0 4) (fieldAt p.payload 4 2) = b) :
    exec (.flashRead p) s = .next (s.finish (b.executed p 0x26)) :=
  State.next_native ha h (beq_iff_eq.mpr hl) (targetOk_of_zero ht) nofun rfl hrun

theorem flashErase_admitted (ha : a = s.admitted p 0x27) (h : s.Admits p 0x27 false true)
    (ho : a.owns (portCode p.port) = true) (hl : p.payload.length = 4) (ht : p.target = 0)
    (hrun : a.flashErase (portCode p.port) p.seq.toNat (fieldAt p.payload 0 4) = b) :
    exec (.flashErase p) s = .next (s.finish (b.executed p 0x27 (msTicks 500))) :=
  State.next_native ha h (beq_iff_eq.mpr hl) (targetOk_of_zero ht) (fun _ => ho) rfl hrun

theorem flashWrite_admitted (ha : a = s.admitted p 0x28) (h : s.Admits p 0x28 false true)
    (ho : a.owns (portCode p.port) = true) (h5 : 5 ≤ p.payload.length) (h260 : p.payload.length ≤ 260) (ht : p.target = 0)
    (hrun : a.flashWrite (portCode p.port) p.seq.toNat (fieldAt p.payload 0 4) (p.payload.drop 4) = b) :
    exec (.flashWrite p) s = .next (s.finish (b.executed p 0x28 (msTicks 10))) :=
  State.next_native ha h (by simp [h5, h260]) (targetOk_of_zero ht) (fun _ => ho) rfl hrun

theorem coefGet_admitted (ha : a = s.admitted p 0x52) (h : s.Admits p 0x52 false false) (hl : p.payload.length = 0)
    (ht : itemOk p.target.toNat = true) : exec (.coefGet p) s = .next (s.finish
      ((a.done (a.coef (p.target.toNat / 4096) (p.target.toNat % 4096)).bytes).executed p 0x52)) :=
  State.next_native ha h (beq_iff_eq.mpr hl) ht nofun rfl rfl

theorem coefPut_admitted (ha : a = s.admitted p 0x53) (h : s.Admits p 0x53 false false) (ho : a.owns (portCode p.port) = true)
    (hl : p.payload.length = 8) (ht : itemOk p.target.toNat = true) (hrun : a.runCoefPut p = b) :
    exec (.coefPut p) s = .next (s.finish (b.executed p 0x53)) :=
  State.next_native ha h (beq_iff_eq.mpr hl) ht (fun _ => ho) rfl hrun

theorem coefDump_admitted (ha : a = s.admitted p 0x55) (h : s.Admits p 0x55 false false) (hl : p.payload.length = 4)
    (hz : fieldAt p.payload 1 3 = 0) (ht : itemOk p.target.toNat = true) (hrun : a.runCoefDump p = b) :
    exec (.coefDump p) s = .next (s.finish (b.executed p 0x55)) :=
  State.next_native ha h (beq_iff_eq.mpr hl) ht nofun (beq_iff_eq.mpr hz) hrun

/-- SYSCAL_STEP with the step that its row names, aimed at a cell of a group that is not being reset. -/
theorem State.next_opSysStep (ha : a = s.admitted p 0x56) (h : s.Admits p 0x56 false true)
    (ho : a.owns (portCode p.port) = true) (hl : p.payload.length = 4) (hz : fieldAt p.payload 1 3 = 0)
    (ht : p.target.toNat = sysCellOf p + 256 * sysGroup p) (hk : fieldAt p.payload 0 1 = k) (h3 : k ≤ 3)
    (hr : a.resetting (Fb.sar (sysGroup p)) = false) :
    (.next (s.finish (s.opSysStep p k)) : Host.Outcome State Fault Refusal) = .next (s.finish
      ((a.sysCalWrite (sysGroup p) (sysCellOf p + 256 * k)).executed p 0x56 (msTicks (s.par P.CAL_TIMEOUT)))) := by
  rw [State.opSysStep, otherRow_selected 4 0 3 hk]
  exact State.next_native ha h (beq_iff_eq.mpr hl) (beq_iff_eq.mpr ht) (fun _ => ho) (beq_iff_eq.mpr hz)
    (State.runSysStep_step hk h3 hr)

theorem calStart_admitted (ha : a = s.admitted p 0x50) (h : s.Admits p 0x50 false true) (ho : a.owns (portCode p.port) = true)
    (hl : p.payload = []) (ht : p.target = 0) (hrun : a.runCalStart = b) :
    exec (.calCtrlStart (some p)) s = .next (s.finish (b.executed p 0x50 (msTicks (s.par P.HP_PENDMAX)))) :=
  State.next_native ha h (List.isEmpty_iff.mpr hl) (targetOk_of_zero ht) (fun _ => ho) rfl hrun

theorem calAbort_admitted (ha : a = s.admitted p 0x51) (h : s.Admits p 0x51 false false) (ho : a.owns (portCode p.port) = true)
    (hl : p.payload = []) (ht : p.target = 0) :
    exec (.calCtrlAbort (some p)) s = .next (s.finish (a.calAbort.executed p 0x51)) :=
  State.next_native ha h (List.isEmpty_iff.mpr hl) (targetOk_of_zero ht) (fun _ => ho) rfl rfl

theorem coefCommit_admitted (ha : a = s.admitted p 0x54) (h : s.Admits p 0x54 false false)
    (ho : a.owns (portCode p.port) = true) (hl : p.payload = []) (ht : p.target = 0) :
    exec (.calCtrlCommit (some p)) s = .next (s.finish (a.calCommit.executed p 0x54)) :=
  State.next_native ha h (List.isEmpty_iff.mpr hl) (targetOk_of_zero ht) (fun _ => ho) rfl rfl

/-! ### The obligation -/

/-- Settles O30: each row's packet, admitted, runs its command, whose effect is the law above for the clause's case. -/
theorem imageAndCalibrationPacketsAreAnswered : Obligations.ImageAndCalibrationPacketsAreAnswered := by
  unfold Obligations.ImageAndCalibrationPacketsAreAnswered
  rintro s p _ _ rfl rfl
  refine ⟨fun a ha h ho hl ht hi h1 h2 => ?_, fun a ha h ho hl ht hi => ?_,
    fun a ha img u h ho h5 hmax ht hst hc hp hn himg hlen hu => ?_, fun a ha h ho hl ht hst hc hp => ?_,
    fun a ha h hl ht => gristInfo_admitted ha h hl ht, fun a ha h ho hl ht hk hd => ?_, fun a ha h ho hl ht hk => ?_,
    fun a ha h hl ht hb h1 h2 h3 => ?_, fun a ha h ho hl ht hb hop h1 h2 => ?_, fun a ha h ho h5 hmax ht hb hop h1 h2 => ?_,
    fun a ha h hl ht => coefGet_admitted ha h hl ht, fun a ha h ho hl ht hg hof => ?_, fun a ha h hl hz ht h1 h2 h3 => ?_,
    fun a ha h ho hl hz ht hk hr => ?_, fun a ha h ho hl hz ht hk hr => ?_, fun a ha h ho hl hz ht hk hr => ?_,
    fun a ha h ho hl hz ht hk hr => ?_, fun a ha h ho hl ht hi hb => ?_,
    fun a ha h ho hl ht => calAbort_admitted ha h ho hl ht, fun a ha h ho hl ht => coefCommit_admitted ha h ho hl ht⟩
  -- images and keys
  · exact gristOpen_admitted ha h ho hl ht (State.gristOpen_idle hi h1 h2)
  · exact gristOpen_admitted ha h ho hl ht (State.gristOpen_busy hi)
  · exact gristData_admitted ha h ho h5 hmax ht (State.gristData_continues hst hc hp hn himg hlen hu)
  · exact gristClose_admitted ha h ho hl ht (State.gristClose_loading hst hc hp)
  · exact keyProgram_admitted ha h ho hl ht (State.runKeyProgram_blank hk hd)
  · exact keyProgram_admitted ha h ho hl ht (State.runKeyProgram_used hk)
  -- the flash
  · exact flashRead_admitted ha h hl ht (State.flashRead_range hb h1 h2 h3)
  · exact flashErase_admitted ha h ho hl ht (State.flashErase_free hb hop h1 h2)
  · exact flashWrite_admitted ha h ho h5 hmax ht (State.flashWrite_free hb hop h1 h2)
  -- calibration
  · exact coefPut_admitted ha h ho hl ht (State.runCoefPut_valid hg hof)
  · exact coefDump_admitted ha h hl hz ht (State.runCoefDump_range h1 h2 h3)
  · exact State.next_opSysStep ha h ho hl hz ht hk (by decide) hr
  · exact State.next_opSysStep ha h ho hl hz ht hk (by decide) hr
  · exact State.next_opSysStep ha h ho hl hz ht hk (by decide) hr
  · exact State.next_opSysStep ha h ho hl hz ht hk (by decide) hr
  · exact calStart_admitted ha h ho hl ht (State.runCalStart_admitted hi hb)

end Sys2Proof.Machine
end

section
/-! What grist's own events do, and what programming the flash leaves (R320–R323, R329, R336, R365). -/

namespace Sys2Proof.Machine

theorem exec_gristCheckDone (s : State) :
    exec .gristCheckDone s = .next (s.finish (s.blockEvent (fun s => s.gristCheckDone))) := rfl
theorem exec_gristLoadTimeout (s : State) :
    exec .gristLoadTimeout s = .next (s.finish (s.blockEvent (fun s => s.gristLoadTimeout))) := rfl
theorem exec_restoreDone (s : State) : exec .restoreDone s = .next (s.finish (s.blockEvent (fun s => s.restoreDone))) := rfl
theorem exec_autocommit (s : State) : exec .autocommit s = .next (s.finish (s.blockEvent (fun s => s.autocommit))) := rfl
theorem exec_keyProgramComplete (s : State) :
    exec .keyProgramComplete s = .next (s.finish (s.blockEvent (fun s => s.keyProgramDone))) := rfl
theorem exec_flashOpDone (s : State) : exec .flashOpDone s = .next (s.finish (s.blockEvent (fun s => s.flashOpDone))) := rfl

variable {s : State}

/-! ### Loads, restores and commits -/

theorem State.gristCheckDone_checking (hst : s.grist.state = .loading) (hc : s.grist.checking.isSome = true) :
    s.gristCheckDone = s.runChecks := if_pos ⟨hst, hc⟩

/-- The first of checks 1 to 5 that fails ends the load (Table 11.5). -/
theorem State.runChecks_fails {f : LoadFailure} (h : firstSome [check1 s.grist.image s.grist.length, check2 s.grist.image,
    s.check3 s.grist.image, check4 s.grist.image, s.check5 s.grist.image] = some f) : s.runChecks = s.loadFail f := by
  simp only [State.runChecks, h]

/-- A port's load without data for `GR_LOADTO` fails (R321). -/
theorem State.gristLoadTimeout_due (hst : s.grist.state = .loading) (hc : s.grist.checking = none) (hp : s.grist.port ≠ 0)
    (ht : s.grist.lastData + msTicks (s.par P.GR_LOADTO) ≤ s.t) :
    s.gristLoadTimeout = s.loadFail ⟨10, s.grist.image.length, Status.timeout, 3⟩ :=
  if_pos ⟨hst, Option.isNone_iff_eq_none.mpr hc, hp, ht⟩

theorem State.restoreDone_restoring {u : State} (hst : s.grist.state = .restoring)
    (hu : u = blockCodes.foldl State.restoreShadow s) :
    s.restoreDone = u.setGrist { u.grist with state := .idle, pend := [], hostWritten := false } := by
  subst hu; exact if_pos hst

/-- A changeover is committed once the angle has gone on for `GR_AUTOCOMMIT` cycles (R329). -/
theorem State.autocommit_due (hst : s.grist.state = .swapped) (hn : s.par P.GR_AUTOCOMMIT ≠ 0)
    (ht : ((s.par P.GR_AUTOCOMMIT * 65536 : Nat) : Int) ≤ binSub s.eng.hwm s.grist.swappedAt) :
    s.autocommit = s.grCommitNow := if_pos ⟨hst, hn, by simpa using ht⟩

/-! ### Keys and flash operations -/

/-- The oldest key whose write is under way enters its slot, and the commands that wait for the slot complete (R323). -/
theorem State.keyProgramDone_due {k : Nat} {key : BitVec 128} {rest : List (Nat × BitVec 128)}
    (h : s.pwr.keyDue = (k, key) :: rest) : s.keyProgramDone =
      (({ s with pwr := { s.pwr with keyDue := rest } } : State).keyProgrammed k key).completeAll Op.keyProgram k
        Status.ok := by
  simp only [State.keyProgramDone, h]

/-- An erase leaves every byte of its sector unlisted, that is 0xFF (R365). -/
theorem State.flashOpDone_erase {op : FlashOp} (h : s.grist.flashOp = some op) (hd : op.data = none) :
    s.flashOpDone = (s.setGrist { s.grist with
      flash := s.grist.flash.filter (fun e => !(e.1 / 4096 == op.addr / 4096)), flashOp := none }).complete op.port op.seq
        Status.ok := by
  simp only [State.flashOpDone, h, hd]

theorem State.flashOpDone_write {op : FlashOp} {d : List Byte} (h : s.grist.flashOp = some op) (hd : op.data = some d) :
    s.flashOpDone = (s.setGrist { s.grist with
      flash := programBytes s.grist.flash op.addr d, flashOp := none }).complete op.port op.seq Status.ok := by
  simp only [State.flashOpDone, h, hd]

/-! ### Programming -/

/-- Programming keeps the canonical form of the flash. -/
theorem memWf_programBytes (d : List Byte) {m : Mem} (a : Nat) (h : memWf 0xFF m = true) :
    memWf 0xFF (programBytes m a d) = true := by
  induction d generalizing m a with
  | nil => exact h
  | cons b bs ih => exact ih (a + 1) (memWf_memWrite 0xFF a _ h)

/-- A byte outside those programmed reads as before. -/
theorem memRead_programBytes_out (d : List Byte) (m : Mem) {a c : Nat} (h : c < a ∨ a + d.length ≤ c) :
    memRead 0xFF (programBytes m a d) c = memRead 0xFF m c := by
  induction d generalizing m a with
  | nil => rfl
  | cons b bs ih =>
    rw [List.length_cons] at h
    rw [programBytes, ih _ (by omega), memRead_memWrite_ne _ _ _ (by omega)]

/-- A programmed byte keeps only those of its bits that the data leaves set (R365). -/
theorem memRead_programBytes_in (d : List Byte) (m : Mem) (a : Nat) {k : Nat} (h : k < d.length) :
    memRead 0xFF (programBytes m a d) (a + k) = memRead 0xFF m (a + k) &&& d[k] := by
  induction d generalizing m a k with
  | nil => exact absurd h (Nat.not_lt_zero k)
  | cons b bs ih =>
    rw [programBytes]
    cases k with
    | zero =>
      rw [Nat.add_zero a, memRead_programBytes_out _ _ (.inl (Nat.lt_add_one a)), memRead_memWrite_same]; rfl
    | succ k =>
      have hk : k < bs.length := Nat.lt_of_succ_lt_succ h
      have hnext : a + (k + 1) = a + 1 + k := by omega
      rw [hnext, ih _ (a + 1) hk, memRead_memWrite_ne _ _ _ (by omega)]; rfl

/-! ### The obligation -/

/-- Settles O25: a block's event acts while the device lives, and its effect is the law above for the clause's case; what
programming leaves is by induction on the bytes. -/
theorem gristEventsAndProgrammingComplete : Obligations.GristEventsAndProgrammingComplete := by
  unfold Obligations.GristEventsAndProgrammingComplete
  refine ⟨fun s ha => ⟨fun hst hc => ?_, fun hst hc hp ht => ?_, fun u hst hu => ?_, fun hst hn ht => ?_,
    fun k key rest hk => ?_, fun op ho => ⟨fun hd => ?_, fun d hd => ?_⟩⟩, fun m a d hm => ⟨memWf_programBytes d a hm,
      fun k hk => memRead_programBytes_in d m a hk, fun c hc => memRead_programBytes_out d m hc⟩⟩
  · rw [exec_gristCheckDone, State.blockEvent_alive _ ha, State.gristCheckDone_checking hst hc]
    refine ⟨rfl, fun f hf => ?_⟩
    rw [State.runChecks_fails hf, State.loadFail]
  · rw [exec_gristLoadTimeout, State.blockEvent_alive _ ha, State.gristLoadTimeout_due hst hc hp ht]
  · rw [exec_restoreDone, State.blockEvent_alive _ ha, State.restoreDone_restoring hst hu]
  · rw [exec_autocommit, State.blockEvent_alive _ ha, State.autocommit_due hst hn ht]
  · rw [exec_keyProgramComplete, State.blockEvent_alive _ ha, State.keyProgramDone_due hk]
  · rw [exec_flashOpDone, State.blockEvent_alive _ ha, State.flashOpDone_erase ho hd]
  · rw [exec_flashOpDone, State.blockEvent_alive _ ha, State.flashOpDone_write ho hd]

end Sys2Proof.Machine
end

section
/-! Start-up, from the end of a device reset to READY (R332, R333, R570, R571, R573, R574). -/

namespace Sys2Proof.Machine

theorem exec_endOfDeviceReset (s : State) (otp : List OtpError) (patchBad : Bool) :
    exec (.endOfDeviceReset otp patchBad) s = .next (s.finish (s.resetEnd otp patchBad)) := rfl
theorem exec_selfTestDone (s : State) (fail : Option (Fin 8)) :
    exec (.selfTestDone fail) s = .next (s.finish (s.liveEvent (fun s => s.selfTestDone (fail.map Fin.val)))) := rfl
theorem exec_flashDirectoryRead (s : State) : exec .flashDirectoryRead s = .next (s.finish s.directoryRead) := rfl
theorem exec_bootImageLoaded (s : State) : exec .bootImageLoaded s = .next (s.finish s.bootImageLoaded) := rfl
theorem exec_vrefioReady (s : State) : exec .vrefioReady s = .next (s.finish (s.liveEvent (fun s => s.vrefioReady))) := rfl
theorem exec_icalSettled (s : State) : exec .icalSettled s = .next (s.finish (s.liveEvent (fun s => s.icalSettled))) := rfl

variable {s : State}

/-! ### The end of a device reset -/

/-- The trace that starts touches nothing of the device's power and start-up. -/
theorem State.traceStart_pwr (s : State) : s.traceStart.pwr = s.pwr := by
  simp only [State.traceStart]; split <;> rfl

/-- The end of a reset starts the time origin: RESET and the OTP errors are recorded, a staged patch comes into force unless the
reset is that of power-on, and the cause is kept and traced (R570). -/
theorem State.resetEnd_otp {otp : List OtpError} {patchBad : Bool} {u v w x : State} (hp : s.pwr.phase = .otp)
    (hu : u = { s with pwr := { s.pwr with
      phase := .running, originDue := false, supplyAtReset := b2n s.pwr.avpos + 2 * b2n s.pwr.avneg } })
    (hv : v = otp.foldl State.otpError (u.raise Fb.supply 0 1 s.pwr.cause))
    (hw : w = { v with pwr := { v.pwr with keyReset := v.pwr.keyState } })
    (hx : x = if w.pwr.cause = 1 then w else w.patchInForce patchBad) :
    s.resetEnd otp patchBad = (((if x.par P.TST_TRCAUTO = 1 then x.traceStart else x).setPar P.TST_LASTRST 0
      x.pwr.cause).trace 0x03 x.pwr.cause).timedPlan := by
  have hpwr : (if x.par P.TST_TRCAUTO = 1 then x.traceStart else x).pwr = x.pwr := by
    split
    · exact x.traceStart_pwr
    · rfl
  have hend : s.resetEnd otp patchBad = (((if x.par P.TST_TRCAUTO = 1 then x.traceStart else x).setPar P.TST_LASTRST 0
      (if x.par P.TST_TRCAUTO = 1 then x.traceStart else x).pwr.cause).trace 0x03
      (if x.par P.TST_TRCAUTO = 1 then x.traceStart else x).pwr.cause).timedPlan := by
    subst hu hv hw hx
    exact if_pos (.inl hp)
  rw [hend, hpwr]

theorem State.resetEnd_other (otp : List OtpError) (patchBad : Bool) (hp : s.pwr.phase ≠ .otp)
    (ho : s.pwr.originDue = false) : s.resetEnd otp patchBad = s :=
  if_neg (by simp [hp, ho])

/-- A staged patch with a right CRC comes into force (R335, R567). -/
theorem State.patchInForce_staged (h : s.grist.patchSt = 1) :
    (s.patchInForce false).grist.patch = s.grist.staged ∧ (s.patchInForce false).grist.patchRev = s.grist.stagedRev ∧
    (s.patchInForce false).grist.patchSt = 2 := by
  simp [State.patchInForce, h]

/-- A patch in force, or coming into force, with a wrong CRC is dropped, and recorded against Hopper (R567, Table 16.7). -/
theorem State.patchInForce_corrupt (h : s.grist.patchSt = 1 ∨ s.grist.patchSt = 2) :
    (s.patchInForce true).grist.patch = [] ∧ (s.patchInForce true).grist.patchRev = 0 ∧
    (s.patchInForce true).grist.patchSt = 0 ∧ ∃ r ∈ (s.patchInForce true).todo, r.blk = Fb.hopper ∧ r.det = 1 := by
  rcases h with h | h <;> simp [State.patchInForce, h, State.raise]

/-! ### The steps that follow -/

theorem State.starting_iff {k : StartStep} : s.starting k = true ↔
    s.hopperUp = true ∧ s.pwr.originDue = false ∧ s.pwr.step = k := by
  simp [State.starting, and_assoc]

theorem State.selfTestDone_passed (h : s.starting .selfTest = true) : s.selfTestDone none = s.setStep .directory := if_pos h

theorem State.selfTestDone_failed (h : s.starting .selfTest = true) (k : Nat) :
    s.selfTestDone (some k) = s.raise Fb.supply 5 4 k := if_pos h

theorem State.directoryRead_due (h : s.starting .directory = true) :
    s.directoryRead = ((List.range 16).foldl State.readDir s).setStep .boot := if_pos h

/-- The boot patch and then the boot image are tried, and the device is READY (R333, R571). -/
theorem State.bootImageLoaded_due (h : s.starting .boot = true) : s.bootImageLoaded =
    { ((s.bootPatch (List.range 16)).bootGrist (List.range 16)).ready with result := s.result } := if_pos h

/-- Enables that waited for VREF_IO become effective as it is ready (R573). -/
theorem State.vrefioReady_first (hp : s.pwr.phase = .running) (hv : s.pwr.vrefReady = false) {u : State}
    (hu : u = { s with pwr := { s.pwr with vrefReady := true } }) :
    s.vrefioReady = ((List.range 4).foldl State.sarRefUpdate u).icRefUpdate := by
  subst hu; exact if_pos ⟨hp, hv⟩

theorem State.icalSettled_due (hon : s.pwr.icalOn = true) (hs : s.pwr.icalSettled = false)
    (ht : s.pwr.readyAt + msTicks 1 ≤ s.t) : s.icalSettled = { s with pwr := { s.pwr with icalSettled := true } } :=
  if_pos (by simp [hon, hs, ht])

/-! ### The obligation -/

/-- Settles O49: each step acts while start-up is at it, and its effect is the law above for the clause's case. -/
theorem startUpStepsComplete : Obligations.StartUpStepsComplete := by
  unfold Obligations.StartUpStepsComplete
  refine fun s => ⟨fun otp bad u v w x hp hu hv hw h1 h2 => ?_, fun hp ho otp bad => ?_, ?_,
    fun hp hup ho => ⟨fun hst => ?_, fun hst u hu => ?_, fun hst u hu => ?_⟩, fun hp hv u hu => ?_, fun hp hon hs ht => ?_⟩
  -- the end of the reset
  · have hx : x = if w.pwr.cause = 1 then w else w.patchInForce bad := by
      split
      · exact h1 ‹_›
      · exact h2 ‹_›
    rw [exec_endOfDeviceReset, State.resetEnd_otp hp hu hv hw hx]
  · rw [exec_endOfDeviceReset, State.resetEnd_other otp bad hp ho]
  · rintro bad _ rfl
    constructor
    · rintro h rfl; exact State.patchInForce_staged h
    · rintro h rfl; exact State.patchInForce_corrupt h
  -- self-test, directory, boot image
  · have hstart := State.starting_iff.mpr ⟨hup, ho, hst⟩
    refine ⟨?_, fun k => ?_⟩
    · rw [exec_selfTestDone, State.liveEvent_running _ hp, Option.map_none, State.selfTestDone_passed hstart, State.setStep]
    · rw [exec_selfTestDone, State.liveEvent_running _ hp, Option.map_some, State.selfTestDone_failed hstart]
  · rw [exec_flashDirectoryRead, State.directoryRead_due (State.starting_iff.mpr ⟨hup, ho, hst⟩), ← hu, State.setStep]
  · rw [exec_bootImageLoaded, State.bootImageLoaded_due (State.starting_iff.mpr ⟨hup, ho, hst⟩), ← hu]
    exact ⟨rfl, rfl, rfl⟩
  -- VREF_IO and I_CAL
  · rw [exec_vrefioReady, State.liveEvent_running _ hp, State.vrefioReady_first hp hv hu]
  · rw [exec_icalSettled, State.liveEvent_running _ hp, State.icalSettled_due hon hs ht]

end Sys2Proof.Machine
end

section
/-! Commands of grist (R323, R325, R329–R331, R333, R336, R337, R341, R648). -/

namespace Sys2Proof.Machine

theorem exec_grCtrlArm (s : State) : exec .grCtrlArm s = .next (s.finish (s.hostWrite P.GR_CTRL 0 1)) := rfl
theorem exec_grCtrlAbort (s : State) : exec .grCtrlAbort s = .next (s.finish (s.hostWrite P.GR_CTRL 0 2)) := rfl
theorem exec_grCtrlCommit (s : State) : exec .grCtrlCommit s = .next (s.finish (s.hostWrite P.GR_CTRL 0 3)) := rfl
theorem exec_grCtrlRollback (s : State) : exec .grCtrlRollback s = .next (s.finish (s.hostWrite P.GR_CTRL 0 4)) := rfl
theorem exec_grCtrlImmediate (s : State) : exec .grCtrlImmediate s = .next (s.finish (s.hostWrite P.GR_CTRL 0 5)) := rfl
theorem exec_grCtrlFlash (s : State) : exec .grCtrlFlash s = .next (s.finish (s.hostWrite P.GR_CTRL 0 6)) := rfl
theorem exec_grCtrlKeyrevoke (s : State) (k : BitVec 8) :
    exec (.grCtrlKeyrevoke k) s = .next (s.finish (s.hostWrite P.GR_CTRL 0 (7 + 256 * k.toNat))) := rfl
theorem exec_grCtrlClearCounters (s : State) :
    exec .grCtrlClearCounters s = .next (s.finish (s.hostWrite P.GR_CTRL 0 8)) := rfl

/-- `GR_CTRL` takes KEYREVOKE with each byte for its slot. -/
theorem valueOk_GR_CTRL_keyrevoke (inst : Nat) (k : BitVec 8) : valueOk P.GR_CTRL inst (7 + 256 * k.toNat) = true := by
  have hmask : (7 + 256 * k.toNat) &&& 0xFFFF = 7 + 256 * k.toNat :=
    Nat.and_two_pow_sub_one_of_lt_two_pow (n := 16) (by have := k.isLt; omega)
  have hcode : (7 + 256 * k.toNat) % 256 = 7 := by omega
  have hval : valueOk P.GR_CTRL inst (7 + 256 * k.toNat) =
      ((RangeSpec.command 8 0xFFFF).admits 0 (7 + 256 * k.toNat) && true) := rfl
  simp [hval, RangeSpec.admits, hmask, hcode]

/-- KEYREVOKE carries its slot beside its code (R323). -/
theorem State.grCtrl_keyrevoke (s : State) (imm : State → State) (k : Nat) : s.grCtrl imm (7 + 256 * k) = s.grKeyRevoke k := by
  have hcode : (7 + 256 * k) % 256 = 7 := by omega
  have hslot : (7 + 256 * k) / 256 = k := by omega
  simp only [State.grCtrl, hcode, hslot]
  rfl

variable {s : State}

/-- A write of `GR_CTRL` that the command layer takes runs the command of its code (R341). -/
theorem exec_grCtrl_commands (hup : s.hopperUp = true) (hr : s.resetting Fb.grist = false) :
    exec .grCtrlArm s = .next (s.finish s.grArm) ∧
    exec .grCtrlAbort s = .next (s.finish s.grAbort) ∧
    exec .grCtrlCommit s = .next (s.finish s.grCommit) ∧
    exec .grCtrlRollback s = .next (s.finish s.grRollback) ∧
    exec .grCtrlImmediate s = .next (s.finish s.grImmediate) ∧
    exec .grCtrlFlash s = .next (s.finish s.grFlash) ∧
    (∀ k : BitVec 8, exec (.grCtrlKeyrevoke k) s = .next (s.finish (s.grKeyRevoke k.toNat))) ∧
    exec .grCtrlClearCounters s = .next (s.finish s.grClear) := by
  have hwrite (v : Nat) (hv : valueOk P.GR_CTRL 0 v = true) : s.hostWrite P.GR_CTRL 0 v = s.grCtrl State.grImmediate v :=
    State.hostWrite_GR_CTRL hup hv hr
  rw [exec_grCtrlArm, exec_grCtrlAbort, exec_grCtrlCommit, exec_grCtrlRollback, exec_grCtrlImmediate, exec_grCtrlFlash,
    exec_grCtrlClearCounters, hwrite 1 rfl, hwrite 2 rfl, hwrite 3 rfl, hwrite 4 rfl, hwrite 5 rfl, hwrite 6 rfl, hwrite 8 rfl]
  refine ⟨rfl, rfl, rfl, rfl, rfl, rfl, fun k => ?_, rfl⟩
  rw [exec_grCtrlKeyrevoke, hwrite _ (valueOk_GR_CTRL_keyrevoke 0 k), State.grCtrl_keyrevoke]

/-! ### ARM and IMMEDIATE -/

/-- ARM posts the image's actions and reserves an entry for each listed swap (R325). -/
theorem State.grArm_verified {u : State} (hst : s.grist.state = .verified) (he : s.engineRuns = true)
    (hn : s.par P.GR_ACTNEED ≤ s.freeEntries) (hu : u = s.postImage State.shadowTag) : s.grArm = ((u.setGrist { u.grist with
      state := .armed, reserved := u.grist.listed.length, swapped := [], failed := [], due := [] }).plan .immediate).done := by
  subst hu
  rw [State.grArm, if_neg (by simp [hst, he]), if_neg (Nat.not_lt.mpr hn)]

theorem State.grArm_full (hst : s.grist.state = .verified) (he : s.engineRuns = true)
    (hn : s.freeEntries < s.par P.GR_ACTNEED) : s.grArm = s.answer Status.noBuffer := by
  rw [State.grArm, if_neg (by simp [hst, he]), if_pos hn]

theorem State.grArm_refused (h : s.grist.state ≠ .verified ∨ s.engineRuns = false) :
    s.grArm = s.answer Status.notPermitted := if_pos h

/-- IMMEDIATE applies a verified image while the engine stands (R331). -/
theorem State.grImmediate_verified (hst : s.grist.state = .verified) (he : s.engineRuns = false)
    (hn : (actionRecs s.grist.image).length ≤ s.freeEntries) : s.grImmediate = s.immediateSeq.done := by
  rw [State.grImmediate, if_neg (by simp [hst, he]), if_neg (Nat.not_lt.mpr hn)]

theorem State.grImmediate_refused (h : s.grist.state ≠ .verified ∨ s.engineRuns = true) :
    s.grImmediate = s.answer Status.notPermitted := if_pos h

/-! ### ABORT, COMMIT and ROLLBACK -/

theorem State.grAbort_loading (hst : s.grist.state = .loading) :
    s.grAbort = (s.closeAnswer Status.notPermitted 0 0).startRestore.done := by simp only [State.grAbort, hst]

theorem State.grAbort_verified (hst : s.grist.state = .verified) : s.grAbort = s.startRestore.done := by
  simp only [State.grAbort, hst]

/-- ABORT of an armed image frees its actions, which are those tagged for the other bank (R337). -/
theorem State.grAbort_armed (hst : s.grist.state = .armed) :
    s.grAbort = (s.unpostAll (fun a => a.tag != .none && !s.tagOk a)).startRestore.done := by simp only [State.grAbort, hst]

/-- ABORT of a changeover under way is a rollback (R337). -/
theorem State.grAbort_swapping (hst : s.grist.state = .swapping) : s.grAbort = s.enterRollback.done := by
  simp only [State.grAbort, hst]

theorem State.grAbort_refused (h : s.grist.state = .idle ∨ s.grist.state = .restoring ∨ s.grist.state = .swapped ∨
    s.grist.state = .rollback) : s.grAbort = s.answer Status.notPermitted := by
  rcases h with h | h | h | h <;> simp only [State.grAbort, h]

theorem State.grCommit_swapped (hst : s.grist.state = .swapped) : s.grCommit = s.grCommitNow.done := if_pos hst

theorem State.grCommit_refused (hst : s.grist.state ≠ .swapped) : s.grCommit = s.answer Status.notPermitted := if_neg hst

theorem State.grRollback_swapped (hst : s.grist.state = .swapped) : s.grRollback = s.enterRollback.done := if_pos hst

theorem State.grRollback_refused (hst : s.grist.state ≠ .swapped) : s.grRollback = s.answer Status.notPermitted := if_neg hst

/-! ### FLASH and KEYREVOKE -/

/-- FLASH loads the directory entry of `GR_FSLOT` (R333). -/
theorem State.grFlash_idle (hst : s.grist.state = .idle) (ho : s.grist.flashOp = none) :
    s.grFlash = (s.flashLoad (s.par P.GR_FSLOT)).done := by
  rw [State.grFlash, if_neg (not_not.mpr hst), if_neg (by simp [ho])]

theorem State.grFlash_busy (hst : s.grist.state ≠ .idle) : s.grFlash = s.answer Status.busyLocked := if_pos hst

/-- An ACTIVE key that is not the last one is revoked (R323). -/
theorem State.grKeyRevoke_active {k : Nat} (hk : k < 4) (ha : s.keySlot k = 1)
    (hn : 2 ≤ ((List.range 4).filter (fun j => s.keySlot j == 1)).length) : s.grKeyRevoke k =
      ({ s with pwr := { s.pwr with keyState := tblSet 0 s.pwr.keyState k 2 } } : State).done := by
  rw [State.grKeyRevoke, if_neg (Nat.not_lt.mpr (Nat.le_of_lt_succ hk)), if_pos ⟨ha, hn⟩]

theorem State.grKeyRevoke_range {k : Nat} (hk : 3 < k) : s.grKeyRevoke k = s.answer Status.outOfRange := if_pos hk

/-! ### The obligation -/

/-- Settles O26: the commands are writes that the command layer takes, and each acts or is refused by grist's state. -/
theorem gristCommandsComplete : Obligations.GristCommandsComplete := by
  unfold Obligations.GristCommandsComplete
  intro s hup hr
  obtain ⟨harm, habort, hcommit, hrollback, himm, hflash, hrevoke, hclear⟩ := exec_grCtrl_commands hup hr
  rw [harm, habort, hcommit, hrollback, himm, hflash]
  refine ⟨fun u hst he hn hu => ?_, fun hst he hn => ?_, fun h => ?_, fun hst => ?_, fun hst => ?_, fun hst => ?_,
    fun hst => ?_, fun h => ?_, fun hst => ?_, fun hst => ?_, fun hst => ⟨?_, ?_⟩, fun hst he hn => ?_, fun h => ?_,
    fun hst ho => ?_, fun hst => ?_, fun k hk ha hn => ?_, fun k hk => ?_, hclear⟩
  -- ARM
  · rw [State.grArm_verified hst he hn hu]
  · rw [State.grArm_full hst he hn]
  · rw [State.grArm_refused h]
  -- ABORT
  · rw [State.grAbort_verified hst]
  · rw [State.grAbort_loading hst]
  · rw [State.grAbort_armed hst]
  · rw [State.grAbort_swapping hst]
  · rw [State.grAbort_refused h]
  -- COMMIT and ROLLBACK
  · rw [State.grCommit_swapped hst]
  · rw [State.grRollback_swapped hst]
  · rw [State.grCommit_refused hst]
  · rw [State.grRollback_refused hst]
  -- IMMEDIATE
  · rw [State.grImmediate_verified hst he hn]
  · rw [State.grImmediate_refused h]
  -- FLASH
  · rw [State.grFlash_idle hst ho]
  · rw [State.grFlash_busy hst]
  -- KEYREVOKE
  · rw [hrevoke, State.grKeyRevoke_active hk ha hn]
  · rw [hrevoke, State.grKeyRevoke_range hk]

end Sys2Proof.Machine
end

section
/-! Packets of sessions and identity (Table 12.7). -/

namespace Sys2Proof.Machine

variable {s a b : State} {p : Packet} {k : Nat}

/-! ### What the session commands do -/

/-- A field's lowest byte and the bytes above it. -/
theorem fieldAt_succ (bs : List Byte) (o n : Nat) : fieldAt bs o (n + 1) = fieldAt bs o 1 + 256 * fieldAt bs (o + 1) n := by
  have htail : bs.drop (o + 1) = (bs.drop o).tail := by rw [List.tail_drop]
  simp only [fieldAt, slice, htail]
  cases bs.drop o <;> simp [leNat, List.replicate_succ]

/-- A field whose number is 0 is made of bytes that are 0. -/
theorem fieldAt_four_zero {bs : List Byte} {o : Nat} (h : fieldAt bs o 4 = 0) :
    fieldAt bs o 1 = 0 ∧ fieldAt bs (o + 1) 3 = 0 := by
  have hsum : fieldAt bs o 4 = fieldAt bs o 1 + 256 * fieldAt bs (o + 1) 3 := fieldAt_succ bs o 3
  omega

/-- A value that is set or left changes no session. -/
theorem State.ite_setPar_session (c : Prop) [Decidable c] (id inst v n : Nat) :
    (if c then s.setPar id inst v else s).session n = s.session n := by
  split <;> rfl

/-- SESSION_OPEN under a range of contracts that holds 4 opens the port's session (R351, R352). -/
theorem State.runSessionOpen_opens (hf : fieldAt p.payload 2 1 ≤ 1) (hlo : fieldAt p.payload 0 1 ≤ 4)
    (hhi : 4 ≤ fieldAt p.payload 1 1) (hsl : s.sl.state = .off) :
    ((s.runSessionOpen p).session (packetPort p)).isOpen = true ∧
    ((s.runSessionOpen p).session (packetPort p)).contract = 4 ∧
    ((s.runSessionOpen p).session (packetPort p)).expSeq = (packetSeq p + 1) % 65536 ∧
    (s.runSessionOpen p).result.status = Status.ok := by
  have hrange : fieldAt p.payload 0 1 ≤ 4 ∧ 4 ≤ fieldAt p.payload 1 1 ∧
      ((if s.sl.state = .off then 0 else s.par P.SL_CONTRACT) = 0 ∨
        4 ≤ (if s.sl.state = .off then 0 else s.par P.SL_CONTRACT)) := ⟨hlo, hhi, .inl (if_pos hsl)⟩
  rw [State.runSessionOpen, if_neg (Nat.not_lt.mpr hf), if_pos hrange]
  simp only [State.done, State.answer_session, State.trace_session, State.ite_setPar_session, State.session_setSession]
  exact ⟨trivial, trivial, trivial, rfl⟩

/-- Without contract 4 in common nothing is opened or closed (R352). -/
theorem State.runSessionOpen_mismatch (hf : fieldAt p.payload 2 1 ≤ 1)
    (h : 4 < fieldAt p.payload 0 1 ∨ fieldAt p.payload 1 1 < 4) :
    s.runSessionOpen p = s.answer Status.contractMismatch 4 := by
  rw [State.runSessionOpen, if_neg (Nat.not_lt.mpr hf), if_neg (fun ⟨hlo, hhi, _⟩ => by omega)]

/-- A device that no port owns, or that the port itself owns, is its to take (R357). -/
theorem State.runOwnTake_granted (hf : fieldAt p.payload 0 1 ≤ 1)
    (ho : s.par P.HP_OWNER = 0 ∨ s.par P.HP_OWNER = portCode p.port) : s.runOwnTake p =
      ((if s.par P.HP_OWNER = portCode p.port then s else s.endOwnership (s.par P.HP_OWNER)).setPar P.HP_OWNER 0
        (portCode p.port)).done (leBytes 1 (portCode p.port)) := by
  rw [State.runOwnTake, if_neg (Nat.not_lt.mpr hf), if_pos (ho.imp_right .inl)]
  rfl

/-- Without FORCE another port's ownership stands (R357). -/
theorem State.runOwnTake_owned (hf : fieldAt p.payload 0 1 = 0) (h0 : s.par P.HP_OWNER ≠ 0)
    (hq : s.par P.HP_OWNER ≠ portCode p.port) : s.runOwnTake p = s.answer Status.notOwner (s.par P.HP_OWNER) := by
  have hforce : bitOf (fieldAt p.payload 0 1) 0 = false := by rw [hf]; rfl
  rw [State.runOwnTake, if_neg (by omega), if_neg (by simp [packetPort, h0, hq, hforce])]

theorem State.runOwnQuery_owned (h : s.par P.HP_OWNER ≠ 0) : s.runOwnQuery = s.done (leBytes 1 (s.par P.HP_OWNER) ++
    leBytes 3 0 ++ leBytes 4 (openDiv 32 (s.t - (s.session (s.par P.HP_OWNER)).lastCmd) 100000)) := by
  rw [State.runOwnQuery, if_neg h]

/-- RESET with its key and a scope notes the reset, which follows its reply (Table 12.7). -/
theorem State.runReset_scope (hk : fieldAt p.payload 0 1 = k) (h : k = 1 ∨ k = 2) (hkey : fieldAt p.payload 1 2 = 0xA55A) :
    s.runReset p =
      ({ s with pwr := { s.pwr with resetDue := some (k, portCode p.port, p.seq.toNat) } } : State).done := by
  subst hk
  rw [State.runReset, if_neg (by omega)]
  rfl

/-! ### Admitted packets -/

theorem nop_admitted (ha : a = s.admitted p 0x00) (h : s.Admits p 0x00 true false) (hl : p.payload = []) (ht : p.target = 0) :
    exec (.nop p) s = .next (s.finish (a.done.executed p 0x00)) :=
  State.next_native ha h (List.isEmpty_iff.mpr hl) (targetOk_of_zero ht) nofun rfl rfl

theorem sessionOpen_admitted (ha : a = s.admitted p 0x01) (h : s.Admits p 0x01 true false) (hl : p.payload.length = 4)
    (ht : p.target = 0) (hz : fieldAt p.payload 3 1 = 0) (hrun : a.runSessionOpen p = b) :
    exec (.sessionOpen p) s = .next (s.finish (b.executed p 0x01)) :=
  State.next_native ha h (beq_iff_eq.mpr hl) (targetOk_of_zero ht) nofun (beq_iff_eq.mpr hz) hrun

theorem sessionClose_admitted (ha : a = s.admitted p 0x02) (h : s.Admits p 0x02 false false) (hl : p.payload = [])
    (ht : p.target = 0) :
    exec (.sessionClose p) s = .next (s.finish ((a.closeSession (portCode p.port)).done.executed p 0x02)) :=
  State.next_native ha h (List.isEmpty_iff.mpr hl) (targetOk_of_zero ht) nofun rfl rfl

theorem identify_admitted (ha : a = s.admitted p 0x03) (h : s.Admits p 0x03 true false) (hl : p.payload = [])
    (ht : p.target = 0) : exec (.identify p) s = .next (s.finish (a.runIdentify.executed p 0x03)) :=
  State.next_native ha h (List.isEmpty_iff.mpr hl) (targetOk_of_zero ht) nofun rfl rfl

theorem ownTake_admitted (ha : a = s.admitted p 0x04) (h : s.Admits p 0x04 false false) (hl : p.payload.length = 4)
    (ht : p.target = 0) (hz : fieldAt p.payload 1 3 = 0) (hrun : a.runOwnTake p = b) :
    exec (.ownTake p) s = .next (s.finish (b.executed p 0x04)) :=
  State.next_native ha h (beq_iff_eq.mpr hl) (targetOk_of_zero ht) nofun (beq_iff_eq.mpr hz) hrun

theorem ownRelease_admitted (ha : a = s.admitted p 0x05) (h : s.Admits p 0x05 false false)
    (ho : a.owns (portCode p.port) = true) (hl : p.payload = []) (ht : p.target = 0) :
    exec (.ownRelease p) s = .next (s.finish ((a.endOwnership (portCode p.port)).done.executed p 0x05)) :=
  State.next_native ha h (List.isEmpty_iff.mpr hl) (targetOk_of_zero ht) (fun _ => ho) rfl rfl

theorem ownQuery_admitted (ha : a = s.admitted p 0x06) (h : s.Admits p 0x06 false false) (hl : p.payload = [])
    (ht : p.target = 0) (hrun : a.runOwnQuery = b) : exec (.ownQuery p) s = .next (s.finish (b.executed p 0x06)) :=
  State.next_native ha h (List.isEmpty_iff.mpr hl) (targetOk_of_zero ht) nofun rfl hrun

theorem echo_admitted (ha : a = s.admitted p 0x07) (h : s.Admits p 0x07 true false) (hl : p.payload.length ≤ 1020)
    (ht : p.target = 0) : exec (.echo p) s = .next (s.finish ((a.done p.payload).executed p 0x07)) :=
  State.next_native ha h (decide_eq_true hl) (targetOk_of_zero ht) nofun rfl rfl

theorem getTime_admitted (ha : a = s.admitted p 0x08) (h : s.Admits p 0x08 false false) (hl : p.payload = [])
    (ht : p.target = 0) : exec (.getTime p) s = .next (s.finish (a.runGetTime.executed p 0x08)) :=
  State.next_native ha h (List.isEmpty_iff.mpr hl) (targetOk_of_zero ht) nofun rfl rfl

theorem getStatus_admitted (ha : a = s.admitted p 0x09) (h : s.Admits p 0x09 false false) (hl : p.payload = [])
    (ht : p.target = 0) : exec (.getStatus p) s = .next (s.finish (a.runGetStatus.executed p 0x09)) :=
  State.next_native ha h (List.isEmpty_iff.mpr hl) (targetOk_of_zero ht) nofun rfl rfl

/-- RESET with the scope that its row names: the reset waits for its reply (R566). -/
theorem State.next_opReset (ha : a = s.admitted p 0x0A) (h : s.Admits p 0x0A false false)
    (ho : a.owns (portCode p.port) = true) (hl : p.payload.length = 4) (ht : p.target = 0) (hz : fieldAt p.payload 3 1 = 0)
    (hk : fieldAt p.payload 0 1 = k) (h12 : k = 1 ∨ k = 2) (hkey : fieldAt p.payload 1 2 = 0xA55A) :
    (.next (s.finish (s.opReset p k)) : Host.Outcome State Fault Refusal) = .next (s.finish
      ((({ a with pwr := { a.pwr with resetDue := some (k, portCode p.port, p.seq.toNat) } } : State).done).executed
        p 0x0A)) := by
  rw [State.opReset, if_neg (by omega)]
  exact State.next_native ha h (beq_iff_eq.mpr hl) (targetOk_of_zero ht) (fun _ => ho) (beq_iff_eq.mpr hz)
    (State.runReset_scope hk h12 hkey)

/-! ### The obligation -/

/-- Settles O27: each row's packet, admitted, runs its command, whose effect is the law above for the clause's case. -/
theorem sessionPacketsAreAnswered : Obligations.SessionPacketsAreAnswered := by
  unfold Obligations.SessionPacketsAreAnswered
  rintro s p _ _ rfl rfl
  refine ⟨fun a ha h hl ht => nop_admitted ha h hl ht, fun a ha h hl ht => identify_admitted ha h hl ht,
    fun a ha h hl ht => echo_admitted ha h hl ht,
    fun a ha h hl ht hz hf hlo hhi hsl => ⟨sessionOpen_admitted ha h hl ht hz rfl, State.runSessionOpen_opens hf hlo hhi hsl⟩,
    fun a ha h hl ht hz hf hc => sessionOpen_admitted ha h hl ht hz (State.runSessionOpen_mismatch hf hc),
    fun a ha h hl ht => sessionClose_admitted ha h hl ht,
    fun a ha h hl ht hz hf ho => ownTake_admitted ha h hl ht hz (State.runOwnTake_granted hf ho),
    fun a ha h hl ht hz h0 hq => ?_, fun a ha h ho hl ht => ownRelease_admitted ha h ho hl ht,
    fun a ha h hl ht ho => ownQuery_admitted ha h hl ht (State.runOwnQuery_owned ho),
    fun a ha h hl ht => getTime_admitted ha h hl ht, fun a ha h hl ht => getStatus_admitted ha h hl ht,
    fun a ha h ho hl ht hz hk hkey => State.next_opReset ha h ho hl ht hz hk (.inl rfl) hkey,
    fun a ha h ho hl ht hz hk hkey => State.next_opReset ha h ho hl ht hz hk (.inr rfl) hkey⟩
  obtain ⟨hf, hz⟩ := fieldAt_four_zero hz
  exact ownTake_admitted ha h hl ht hz (State.runOwnTake_owned hf h0 hq)

end Sys2Proof.Machine
end

section
/-! Packets of parameters and of the port's group (Table 12.8, BANK_READ of Table 12.9). -/

namespace Sys2Proof.Machine

variable {s a b : State} {p : Packet}

/-! ### What the parameter commands do -/

theorem State.runGetMulti_range (h1 : 1 ≤ fieldAt p.payload 0 2) (h128 : fieldAt p.payload 0 2 ≤ 128) :
    s.runGetMulti p = s.readMany (portCode p.port) ((List.range (fieldAt p.payload 0 2)).map (fun k =>
      (fieldAt p.payload (4 + 4 * k) 2, fieldAt p.payload (6 + 4 * k) 2))) :=
  if_neg (by omega)

theorem State.runGetRange_range (h1 : 1 ≤ fieldAt p.payload 2 2) (h64 : fieldAt p.payload 2 2 ≤ 64) :
    s.runGetRange p = s.readMany (portCode p.port) ((List.range (fieldAt p.payload 2 2)).map (fun k =>
      (fieldAt p.payload 0 2, p.target.toNat + k))) :=
  if_neg (by omega)

theorem State.runSetMulti_range (h1 : 1 ≤ fieldAt p.payload 0 2) (h127 : fieldAt p.payload 0 2 ≤ 127) :
    s.runSetMulti p = s.writeList (portCode p.port) 0 (setRecords p.payload) :=
  if_neg (by omega)

theorem setRecords_length (bs : List Byte) : (setRecords bs).length = fieldAt bs 0 2 := by
  simp [setRecords]

/-- Where every record of a group is good none is the first bad one. -/
theorem groupRecs_find_none {ws : List (Write × Nat)} {w0 : Write × Nat} (h : ∀ w ∈ ws, groupRecStatus w = (Status.ok, 0)) :
    (List.range ws.length).find? (fun k => (groupRecStatus (nthD w0 ws k)).1 != Status.ok) = none := by
  refine List.find?_eq_none.mpr (fun k hk => ?_)
  have hlt : k < ws.length := List.mem_range.mp hk
  rw [nthD_of_lt w0 hlt, h _ (List.getElem_mem hlt)]
  decide

/-- Good records for which the group has room join it (R383). -/
theorem State.runSetGroup_joins {x : Session} (h1 : 1 ≤ fieldAt p.payload 0 2) (h127 : fieldAt p.payload 0 2 ≤ 127)
    (hmax : (s.session (portCode p.port)).group.length + fieldAt p.payload 0 2 ≤ s.par P.HP_GRPMAX)
    (hok : ∀ w ∈ setRecords p.payload, groupRecStatus w = (Status.ok, 0))
    (hx : x = { s.session (portCode p.port) with
      group := (s.session (portCode p.port)).group ++ (setRecords p.payload).map (fun w => ⟨w.1.id, w.1.inst, w.1.value⟩)
      groupSet := s.t, groupLapsed := false }) :
    s.runSetGroup p = (s.setSession (portCode p.port) x).done := by
  subst hx
  have hroom : ¬ s.par P.HP_GRPMAX < (s.session (portCode p.port)).group.length + (setRecords p.payload).length := by
    rw [setRecords_length]; exact Nat.not_lt.mpr hmax
  simp only [State.runSetGroup, packetPort, if_neg hroom, groupRecs_find_none hok]
  exact if_neg (by omega)

/-- Of a parameter only what is below its count exists. -/
theorem lt_count_of_paramExists {id i : Nat} {d : ParamDef} (hd : paramDef? id = some d) (h : paramExists id i = true) :
    i < d.count := by
  simpa [paramExists, hd] using h

/-- PARAM_INFO of a parameter whose block is not being reset (R644, R645). -/
theorem State.runParamInfo_exists {d : ParamDef} (he : paramExists (fieldAt p.payload 0 2) p.target.toNat = true)
    (hd : paramDef? (fieldAt p.payload 0 2) = some d)
    (hr : s.resetting (ownerOf (fieldAt p.payload 0 2) p.target.toNat) = false) : s.runParamInfo p =
      s.done (leBytes 1 (Attr.code d.attr) ++ leBytes 1 (d.count - 1) ++ leBytes 2 0 ++
        leBytes 4 (s.resetValue (portCode p.port) (fieldAt p.payload 0 2) p.target.toNat) ++ leBytes 4 d.range.lowest ++
        leBytes 4 (d.range.highest p.target.toNat)) := by
  have hi : ¬ d.count ≤ p.target.toNat := Nat.not_le.mpr (lt_count_of_paramExists hd he)
  simp only [State.runParamInfo, hd, packetTarget, if_neg hi, hr]
  rfl

/-- BANK_READ of a parameter with a shadow bank, whose block is not being reset (R362). -/
theorem State.runBankRead_shadow (he : paramExists (fieldAt p.payload 0 2) p.target.toNat = true)
    (hs : attrOf (fieldAt p.payload 0 2) = .rwShadow)
    (hr : s.resetting (ownerOf (fieldAt p.payload 0 2) p.target.toNat) = false) :
    s.runBankRead p = s.done (leBytes 4 (s.shadowPar (fieldAt p.payload 0 2) p.target.toNat)) := by
  simp only [State.runBankRead, packetTarget, he, hs, hr]
  rfl

/-! ### Admitted packets -/

theorem getParam_admitted (ha : a = s.admitted p 0x10) (h : s.Admits p 0x10 false false) (hl : p.payload.length = 2)
    (he : paramExists (fieldAt p.payload 0 2) p.target.toNat = true) : exec (.getParam p) s = .next (s.finish
      ((a.readParam (portCode p.port) (fieldAt p.payload 0 2) p.target.toNat).executed p 0x10)) :=
  State.next_native ha h (beq_iff_eq.mpr hl) he nofun rfl rfl

theorem setParam_admitted (ha : a = s.admitted p 0x11) (h : s.Admits p 0x11 false true)
    (ho : a.owns (portCode p.port) = true) (hl : p.payload.length = 8)
    (he : paramExists (fieldAt p.payload 0 2) p.target.toNat = true) (hz : fieldAt p.payload 2 2 = 0) :
    exec (.setParam p) s = .next (s.finish ((a.writeWith State.grImmediate (portCode p.port)
      ⟨fieldAt p.payload 0 2, p.target.toNat, fieldAt p.payload 4 4⟩).executed p 0x11 (msTicks 600000)
        (fieldAt p.payload 0 2 + 4096 * p.target.toNat))) :=
  State.next_native ha h (beq_iff_eq.mpr hl) he (fun _ => ho) (beq_iff_eq.mpr hz) rfl

theorem getMulti_admitted (ha : a = s.admitted p 0x12) (h : s.Admits p 0x12 false false)
    (hl : p.payload.length = 4 + 4 * fieldAt p.payload 0 2) (ht : p.target = 0) (hz : fieldAt p.payload 2 2 = 0)
    (hrun : a.runGetMulti p = b) : exec (.getMulti p) s = .next (s.finish (b.executed p 0x12)) :=
  State.next_native ha h (counted_lenOk hl) (targetOk_of_zero ht) nofun (beq_iff_eq.mpr hz) hrun

theorem setMulti_admitted (ha : a = s.admitted p 0x13) (h : s.Admits p 0x13 false false)
    (ho : a.owns (portCode p.port) = true) (hl : p.payload.length = 4 + 8 * fieldAt p.payload 0 2) (ht : p.target = 0)
    (hz : fieldAt p.payload 2 2 = 0) (hrun : a.runSetMulti p = b) :
    exec (.setMulti p) s = .next (s.finish (b.executed p 0x13)) :=
  State.next_native ha h (counted_lenOk hl) (targetOk_of_zero ht) (fun _ => ho) (beq_iff_eq.mpr hz) hrun

theorem getRange_admitted (ha : a = s.admitted p 0x14) (h : s.Admits p 0x14 false false) (hl : p.payload.length = 4)
    (he : paramExists (fieldAt p.payload 0 2) p.target.toNat = true) (hrun : a.runGetRange p = b) :
    exec (.getRange p) s = .next (s.finish (b.executed p 0x14)) :=
  State.next_native ha h (beq_iff_eq.mpr hl) he nofun rfl hrun

theorem setGroup_admitted (ha : a = s.admitted p 0x15) (h : s.Admits p 0x15 false false)
    (ho : a.owns (portCode p.port) = true) (hl : p.payload.length = 4 + 8 * fieldAt p.payload 0 2) (ht : p.target = 0)
    (hz : fieldAt p.payload 2 2 = 0) (hrun : a.runSetGroup p = b) :
    exec (.setGroup p) s = .next (s.finish (b.executed p 0x15)) :=
  State.next_native ha h (counted_lenOk hl) (targetOk_of_zero ht) (fun _ => ho) (beq_iff_eq.mpr hz) hrun

theorem commit_admitted (ha : a = s.admitted p 0x16) (h : s.Admits p 0x16 false false)
    (ho : a.owns (portCode p.port) = true) (hl : p.payload = []) (ht : p.target = 0) : exec (.commit p) s =
      .next (s.finish ((a.commitGroup State.grImmediate (portCode p.port)).executed p 0x16)) :=
  State.next_native ha h (List.isEmpty_iff.mpr hl) (targetOk_of_zero ht) (fun _ => ho) rfl rfl

theorem groupCancel_admitted (ha : a = s.admitted p 0x17) (h : s.Admits p 0x17 false false)
    (ho : a.owns (portCode p.port) = true) (hl : p.payload = []) (ht : p.target = 0) :
    exec (.groupCancel p) s = .next (s.finish
      ((a.setSession (portCode p.port) { a.session (portCode p.port) with group := [] }).done.executed p 0x17)) :=
  State.next_native ha h (List.isEmpty_iff.mpr hl) (targetOk_of_zero ht) (fun _ => ho) rfl rfl

theorem paramInfo_admitted (ha : a = s.admitted p 0x18) (h : s.Admits p 0x18 false false) (hl : p.payload.length = 2)
    (he : paramExists (fieldAt p.payload 0 2) p.target.toNat = true) (hrun : a.runParamInfo p = b) :
    exec (.paramInfo p) s = .next (s.finish (b.executed p 0x18)) :=
  State.next_native ha h (beq_iff_eq.mpr hl) he nofun rfl hrun

theorem setBits_admitted (ha : a = s.admitted p 0x19) (h : s.Admits p 0x19 false false)
    (ho : a.owns (portCode p.port) = true) (hl : p.payload.length = 12)
    (he : paramExists (fieldAt p.payload 0 2) p.target.toNat = true) (hz : fieldAt p.payload 2 2 = 0) :
    exec (.setBits p) s = .next (s.finish ((a.runSetBits p).executed p 0x19)) :=
  State.next_native ha h (beq_iff_eq.mpr hl) he (fun _ => ho) (beq_iff_eq.mpr hz) rfl

theorem bankRead_admitted (ha : a = s.admitted p 0x25) (h : s.Admits p 0x25 false false) (hl : p.payload.length = 2)
    (he : paramExists (fieldAt p.payload 0 2) p.target.toNat = true) (hrun : a.runBankRead p = b) :
    exec (.bankRead p) s = .next (s.finish (b.executed p 0x25)) :=
  State.next_native ha h (beq_iff_eq.mpr hl) he nofun rfl hrun

/-! ### The obligation -/

/-- Settles O28: each row's packet, admitted, runs its command, whose effect is the law above for the clause's case. -/
theorem parameterPacketsAreAnswered : Obligations.ParameterPacketsAreAnswered := by
  unfold Obligations.ParameterPacketsAreAnswered
  rintro s p _ _ rfl rfl
  exact ⟨fun a ha h hl he => getParam_admitted ha h hl he, fun a ha h ho hl he hz => setParam_admitted ha h ho hl he hz,
    fun a ha h hl ht hz h1 h128 => getMulti_admitted ha h hl ht hz (State.runGetMulti_range h1 h128),
    fun a ha h hl he h1 h64 => getRange_admitted ha h hl he (State.runGetRange_range h1 h64),
    fun a ha h ho hl ht hz h1 h127 => setMulti_admitted ha h ho hl ht hz (State.runSetMulti_range h1 h127),
    fun a ha x h ho hl ht hz h1 h127 hmax hok hx =>
      setGroup_admitted ha h ho hl ht hz (State.runSetGroup_joins h1 h127 hmax hok hx),
    fun a ha h ho hl ht => commit_admitted ha h ho hl ht, fun a ha h ho hl ht => groupCancel_admitted ha h ho hl ht,
    fun a ha d h hl he hd hr => paramInfo_admitted ha h hl he (State.runParamInfo_exists he hd hr),
    fun a ha h ho hl he hz => setBits_admitted ha h ho hl he hz,
    fun a ha h hl he hs hr => bankRead_admitted ha h hl he (State.runBankRead_shadow he hs hr)⟩

end Sys2Proof.Machine
end

section
/-! Packets of streams, mailboxes and faults (Tables 12.13 and 12.14). -/

namespace Sys2Proof.Machine

variable {s a b : State} {p : Packet} {k : Nat}

/-! ### What the stream commands do -/

/-- A stream command acts for the port its ring is bound to (R452). -/
theorem State.onRing_bound {run : State → State} (h : s.ringPort p.target.toNat = portCode p.port) :
    s.onRing p run = run s := if_pos h

/-- It is refused to every other port (R452). -/
theorem State.onRing_other {run : State → State} (h : s.ringPort p.target.toNat ≠ portCode p.port) :
    s.onRing p run = s.answer Status.notOwner (s.ringPort p.target.toNat) := if_neg h

/-- The whole records that fit the count asked for leave the ring (R452). -/
theorem State.runStreamRead_range (hpush : s.ringPush p.target.toNat = false) (h1 : 1 ≤ fieldAt p.payload 0 2)
    (h254 : fieldAt p.payload 0 2 ≤ 254)
    (hk : k = wholeRecords (fieldAt p.payload 0 2) (s.ring p.target.toNat).words.length (s.ring p.target.toNat).words) :
    s.runStreamRead p false = (s.setRing p.target.toNat ((s.ring p.target.toNat).drop k)).done (leBytes 2 k ++
      leBytes 2 (min 0xFFFF ((s.ring p.target.toNat).words.length - k)) ++
        ((s.ring p.target.toNat).words.take k).flatMap (fun w => leBytes 4 w.w.toNat)) := by
  subst hk
  simp only [State.runStreamRead, packetTarget, hpush, Bool.false_eq_true, if_false]
  exact if_neg (by omega)

/-! ### What the mailbox commands do -/

/-- A port may use a mailbox that is bound to no port, or to it. -/
theorem mbPort_free {n q : Nat} (h : s.par P.MB_PORT n = 0 ∨ s.par P.MB_PORT n = q) :
    ¬ (s.par P.MB_PORT n ≠ 0 ∧ s.par P.MB_PORT n ≠ q) := by
  omega

/-- A host's mailbox that holds a message gives it, and is emptied (R434). -/
theorem State.runMbRead_full {m : Message} (hd : s.fromHost p.target.toNat = false)
    (hb : s.par P.MB_PORT p.target.toNat = 0 ∨ s.par P.MB_PORT p.target.toNat = portCode p.port)
    (hm : (s.mbox p.target.toNat).msg = some m) : s.runMbRead p =
      (s.mbTake p.target.toNat).done (leBytes 2 m.status ++ leBytes 2 m.payload.length ++ slice m.payload 0 64) := by
  simp only [State.runMbRead, packetTarget, hd, hm, packetPort, if_neg (mbPort_free hb)]
  rfl

/-- A port's message for a mailbox that a block receives: it fills an empty one, and waits for a full one (R433). -/
theorem State.runMbWrite_routed (hd : s.toHost p.target.toNat = false)
    (hr : (List.range 4).any (fun k => s.par P.MB_ROUTE (4 + k) == p.target.toNat) = true)
    (hb : s.par P.MB_PORT p.target.toNat = 0 ∨ s.par P.MB_PORT p.target.toNat = portCode p.port)
    (h1 : 1 ≤ fieldAt p.payload 0 2) (h64 : fieldAt p.payload 0 2 ≤ 64) : s.runMbWrite p =
      if (s.mbox p.target.toNat).msg.isSome then
        (s.setMbox p.target.toNat { s.mbox p.target.toNat with
          pendWrites := (s.mbox p.target.toNat).pendWrites ++ [⟨portCode p.port, p.seq.toNat, p.payload.drop 4⟩] }).answer
            Status.acceptedPending
      else (s.mbFill p.target.toNat (s.newMessage (portCode p.port) (p.payload.drop 4))).done := by
  have hlen : ¬ (fieldAt p.payload 0 2 < 1 ∨ 64 < fieldAt p.payload 0 2) := by omega
  simp only [State.runMbWrite, packetTarget, packetPort, packetSeq, hd, hr, if_neg (mbPort_free hb), if_neg hlen]
  rfl

/-! ### What the log commands do -/

theorem State.runLogRead_entries {es : List FaultRec} (h1 : 1 ≤ fieldAt p.payload 0 1) (h31 : fieldAt p.payload 0 1 ≤ 31)
    (hes : s.logEntries p.target.toNat (fieldAt p.payload 0 1) = some es) :
    s.runLogRead p none = s.done (es.flatMap FaultRec.bytes) := by
  simp only [State.runLogRead, packetTarget, byte0, hes]
  exact if_neg (by omega)

/-! ### Admitted packets -/

theorem streamRead_admitted {bad : Bool} (ha : a = s.admitted p 0x60) (h : s.Admits p 0x60 false false)
    (hl : p.payload.length = 4) (ht : p.target.toNat < 64) (hz : fieldAt p.payload 2 2 = 0)
    (hrun : a.onRing p (fun s => s.runStreamRead p bad) = b) :
    exec (.streamRead p bad) s = .next (s.finish (b.executed p 0x60)) :=
  State.next_native ha h (beq_iff_eq.mpr hl) (decide_eq_true ht) nofun (beq_iff_eq.mpr hz) hrun

theorem streamStatus_admitted (ha : a = s.admitted p 0x61) (h : s.Admits p 0x61 false false) (hl : p.payload.length = 0)
    (ht : p.target.toNat < 64) (hq : a.ringPort p.target.toNat = portCode p.port) :
    exec (.streamStatus p) s = .next (s.finish ((a.done (leBytes 4 (a.ring p.target.toNat).words.length ++
      leBytes 4 (a.par P.ST_LOST p.target.toNat))).executed p 0x61)) :=
  State.next_native ha h (beq_iff_eq.mpr hl) (decide_eq_true ht) nofun rfl (State.onRing_bound hq)

theorem streamFlush_admitted (ha : a = s.admitted p 0x62) (h : s.Admits p 0x62 false false) (hl : p.payload.length = 0)
    (ht : p.target.toNat < 64) (hrun : a.onRing p (fun s => s.runStreamFlush p) = b) :
    exec (.streamFlush p) s = .next (s.finish (b.executed p 0x62)) :=
  State.next_native ha h (beq_iff_eq.mpr hl) (decide_eq_true ht) nofun rfl hrun

theorem mbRead_admitted (ha : a = s.admitted p 0x63) (h : s.Admits p 0x63 false false) (hl : p.payload.length = 0)
    (ht : p.target.toNat < 8) (hrun : a.runMbRead p = b) :
    exec (.mbRead p) s = .next (s.finish (b.executed p 0x63)) :=
  State.next_native ha h (beq_iff_eq.mpr hl) (decide_eq_true ht) nofun rfl hrun

theorem mbWrite_admitted (ha : a = s.admitted p 0x64) (h : s.Admits p 0x64 false true)
    (hl : p.payload.length = 4 + fieldAt p.payload 0 2) (ht : p.target.toNat < 8) (hz : fieldAt p.payload 2 2 = 0)
    (hrun : a.runMbWrite p = b) :
    exec (.mbWrite p) s = .next (s.finish (b.executed p 0x64 (usTicks (s.par P.MB_TIMEOUT p.target.toNat)))) :=
  State.next_native ha h (counted_lenOk hl) (decide_eq_true ht) nofun (beq_iff_eq.mpr hz) hrun

theorem mbStatus_admitted (ha : a = s.admitted p 0x65) (h : s.Admits p 0x65 false false) (hl : p.payload = [])
    (ht : p.target = 0) :
    exec (.mbStatus p) s = .next (s.finish ((a.done (leBytes 2 a.mbFull ++ leBytes 2 0)).executed p 0x65)) :=
  State.next_native ha h (List.isEmpty_iff.mpr hl) (targetOk_of_zero ht) nofun rfl rfl

theorem faultSummary_admitted (ha : a = s.admitted p 0x70) (h : s.Admits p 0x70 false false) (hl : p.payload = [])
    (ht : p.target = 0) : exec (.faultSummary p) s = .next (s.finish ((a.done a.faultNibbles).executed p 0x70)) :=
  State.next_native ha h (List.isEmpty_iff.mpr hl) (targetOk_of_zero ht) nofun rfl rfl

theorem faultRead_admitted (ha : a = s.admitted p 0x71) (h : s.Admits p 0x71 false false) (hl : p.payload.length = 0)
    (ht : p.target.toNat < 0xF8) :
    exec (.faultRead p) s = .next (s.finish ((a.done (a.captureBytes p.target.toNat)).executed p 0x71)) :=
  State.next_native ha h (beq_iff_eq.mpr hl) (decide_eq_true ht) nofun rfl rfl

theorem faultAck_admitted (ha : a = s.admitted p 0x72) (h : s.Admits p 0x72 false false)
    (ho : a.owns (portCode p.port) = true) (hl : p.payload.length = 4) (hz : fieldAt p.payload 1 3 = 0)
    (ht : p.target.toNat < 0xF8) : exec (.faultAck (.packet p)) s =
      .next (s.finish ((a.faultAck p.target.toNat (fieldAt p.payload 0 1)).executed p 0x72)) :=
  State.next_native ha h (beq_iff_eq.mpr hl) (decide_eq_true ht) (fun _ => ho) (beq_iff_eq.mpr hz) rfl

theorem logRead_admitted (ha : a = s.admitted p 0x73) (h : s.Admits p 0x73 false false) (hl : p.payload.length = 4)
    (hz : fieldAt p.payload 1 3 = 0) (hrun : a.runLogRead p none = b) :
    exec (.logRead p none) s = .next (s.finish (b.executed p 0x73)) :=
  State.next_native ha h (beq_iff_eq.mpr hl) rfl nofun (beq_iff_eq.mpr hz) hrun

theorem logClear_admitted (ha : a = s.admitted p 0x74) (h : s.Admits p 0x74 false false)
    (ho : a.owns (portCode p.port) = true) (hl : p.payload = []) (ht : p.target = 0) :
    exec (.logClear (some p)) s = .next (s.finish (a.logEmpty.done.executed p 0x74)) :=
  State.next_native ha h (List.isEmpty_iff.mpr hl) (targetOk_of_zero ht) (fun _ => ho) rfl rfl

/-! ### The obligation -/

/-- Settles O31: each row's packet, admitted, runs its command, whose effect is the law above for the clause's case. -/
theorem streamMailboxAndFaultPacketsAreAnswered : Obligations.StreamMailboxAndFaultPacketsAreAnswered := by
  unfold Obligations.StreamMailboxAndFaultPacketsAreAnswered
  rintro s p _ _ rfl rfl
  refine ⟨fun a ha k h hl ht hz hq hpush h1 h254 hk => ?_, fun a ha h hl ht hq => streamStatus_admitted ha h hl ht hq,
    fun a ha h hl ht hq => ?_, fun a ha h hl ht hq => ?_, fun a ha m h hl ht hd hb hm => ?_,
    fun a ha h hl ht hz hd hr hb h1 h64 hm => ?_, fun a ha x h hl ht hz hd hr hb h1 h64 hm hx => ?_,
    fun a ha h hl ht => mbStatus_admitted ha h hl ht, fun a ha h hl ht => faultSummary_admitted ha h hl ht,
    fun a ha h hl ht => faultRead_admitted ha h hl ht, fun a ha h ho hl hz ht => faultAck_admitted ha h ho hl hz ht,
    fun a ha es h hl hz h1 h31 hes => ?_, fun a ha h ho hl ht => logClear_admitted ha h ho hl ht⟩
  -- streams
  · exact streamRead_admitted ha h hl ht hz ((State.onRing_bound hq).trans (State.runStreamRead_range hpush h1 h254 hk))
  · exact streamFlush_admitted ha h hl ht (State.onRing_bound hq)
  · exact streamFlush_admitted ha h hl ht (State.onRing_other hq)
  -- mailboxes
  · exact mbRead_admitted ha h hl ht (State.runMbRead_full hd hb hm)
  · exact mbWrite_admitted ha h hl ht hz ((State.runMbWrite_routed hd hr hb h1 h64).trans (if_neg (by simp [hm])))
  · subst hx
    exact mbWrite_admitted ha h hl ht hz ((State.runMbWrite_routed hd hr hb h1 h64).trans (if_pos hm))
  -- the log
  · exact logRead_admitted ha h hl hz (State.runLogRead_entries h1 h31 hes)

end Sys2Proof.Machine
end

section
/-! The steps of acceptance, each where it fails (Table 12.5, R347–R350). -/

namespace Sys2Proof.Machine

theorem exec_commandPacketRejected (s : State) (p : Packet) (why : Reject) :
    exec (.commandPacketRejected p why) s = .next (s.finish (s.reject p why)) := rfl

variable {s a : State} {p : Packet} {op : Nat} {c : Cmd} {r : Rule} {run : State → State}

/-! ### Steps 5 and 6: the session and its numbers -/

section
variable (hh : s.hears c.port = true) (ha : a = s.arrived c)
include hh ha

/-- Without a session only a free opcode is taken (step 5). -/
theorem State.accept_closed (hf : r.free = false)
    (ho : (a.session c.port).isOpen = false) : s.accept c r run = a.refuse c Status.notPermitted 1 := by
  subst ha
  simp [State.accept, hh, hf, ho]

/-- A retransmission of a command that still waits is ignored (R350). -/
theorem State.accept_awaited (hf : r.free = false)
    (ho : (a.session c.port).isOpen = true) (hs : c.seq ≠ (a.session c.port).expSeq) (hw : a.awaits c = true) :
    s.accept c r run = a := by
  subst ha
  simp [State.accept, hh, hf, ho, hs, hw]

/-- A retransmission of an answered command is answered from the cache (R349). -/
theorem State.accept_cached {x : Answered} (hf : r.free = false)
    (ho : (a.session c.port).isOpen = true) (hs : c.seq ≠ (a.session c.port).expSeq) (hw : a.awaits c = false)
    (hx : a.cached c = some x) : s.accept c r run = a.resend c x := by
  subst ha
  simp [State.accept, hh, hf, ho, hs, hw, hx]

/-- Any other number is a gap (step 6). -/
theorem State.accept_gap (hf : r.free = false)
    (ho : (a.session c.port).isOpen = true) (hs : c.seq ≠ (a.session c.port).expSeq) (hw : a.awaits c = false)
    (hx : a.cached c = none) :
    s.accept c r run = (a.bump P.HP_GAPCNT (c.port - 1)).refuse c Status.sequenceGap (a.session c.port).expSeq := by
  subst ha
  simp [State.accept, hh, hf, ho, hs, hw, hx]

/-- A free opcode, and the number expected in an open session, reach step 7. -/
theorem State.accept_inOrder (hs : r.free = true ∨ (a.session c.port).isOpen = true ∧ c.seq = (a.session c.port).expSeq) :
    s.accept c r run = a.admitCmd c r run := by
  subst ha
  rcases hs with hf | ⟨ho, hs⟩
  · simp [State.accept, hh, hf]
  · simp [State.accept, hh, ho, hs]

end

/-! ### Step 7: an entry, a slot and buffers -/

theorem State.admitCmd_queueFull (he : 4 ≤ (s.hp.waits.filter (fun w => w.port == c.port)).length) :
    s.admitCmd c r run = s.refuse c Status.noBuffer 1 := if_pos he

theorem State.admitCmd_slotsFull (he : (s.hp.waits.filter (fun w => w.port == c.port)).length < 4) (hp : r.pend = true)
    (hf : 4 ≤ (s.session c.port).slots.length) : s.admitCmd c r run = s.refuse c Status.noBuffer 5 :=
  (if_neg (Nat.not_le.mpr he)).trans (if_pos ⟨hp, hf⟩)

/-- With an entry and, where it needs one, a slot free the packet's buffers decide (R348, R449). -/
theorem State.admitCmd_buffers (he : (s.hp.waits.filter (fun w => w.port == c.port)).length < 4)
    (hp : r.pend = true → (s.session c.port).slots.length < 4) : s.admitCmd c r run =
      if s.sharedBufs < packetBufs c.payload.length then (s.bump P.ST_NOBUF 3).refuse c Status.noBuffer 3
      else ({ s with pool := { s.pool with low := min s.pool.low (s.freeBufs - packetBufs c.payload.length) } }.passed
        c).execute c r run :=
  (if_neg (Nat.not_le.mpr he)).trans (if_neg (fun ⟨h, hfull⟩ => Nat.not_le.mpr (hp h) hfull))

/-! ### Steps 8 and 9: length, target, owner and reserved bytes -/

theorem State.execute_badLength (hl : r.lenOk = false) : s.execute c r run = (s.answer Status.badLength 8).reply c := if_pos hl

theorem State.execute_badTarget (hl : r.lenOk = true) (ht : r.targetOk = false) :
    s.execute c r run = (s.answer Status.badTarget).reply c := by
  simp [State.execute, hl, ht]

theorem State.execute_notOwner (hl : r.lenOk = true) (ht : r.targetOk = true) (hw : r.owner = true)
    (ho : s.owns c.port = false) : s.execute c r run = (s.answer Status.notOwner (s.par P.HP_OWNER)).reply c := by
  simp [State.execute, hl, ht, hw, ho]

theorem State.execute_reserved (hl : r.lenOk = true) (ht : r.targetOk = true)
    (ho : r.owner = false ∨ s.owns c.port = true) (hz : r.zeroOk = false) :
    s.execute c r run = (s.answer Status.outOfRange).reply c := by
  have howner : ¬ (r.owner = true ∧ s.owns c.port = false) := by
    rcases ho with ho | ho <;> simp [ho]
  simp [State.execute, hl, ht, howner, hz]

/-! ### Native packets -/

/-- A packet that its port takes meets step 5. -/
theorem State.native_taken (hf : nativeOk p op = true) (hh : s.hears (portCode p.port) = true) :
    s.native p op r run = (s.addressed p).accept (nativeCmd p op) r run :=
  if_neg (by simp [hf, hh])

/-- A packet that passes steps 1 to 7 meets step 8. -/
theorem State.native_executes (h : s.Admits p op r.free r.pend) :
    s.native p op r run = (s.admitted p op).execute (nativeCmd p op) r run := by
  have hh : (s.addressed p).hears (portCode p.port) = true := (State.addressed_hears _).trans h.heard
  rw [State.native_taken h.form h.heard, State.accept_inOrder (c := nativeCmd p op) hh rfl h.session]
  exact (State.admitCmd_buffers h.entry h.slot).trans (if_neg (Nat.not_lt.mpr h.buffers))

/-! ### Packets that fail steps 1 to 4 -/

/-- A packet that its port can carry and takes is not passed over. -/
theorem reject_taken (hp : packetOk p = true) (hh : s.hears (portCode p.port) = true) :
    ¬ (packetOk p = false ∨ s.hears (portCode p.port) = false) := by
  simp [hp, hh]

variable (hp : packetOk p = true) (hh : s.hears (portCode p.port) = true)
include hp hh

theorem State.reject_header : s.reject p .header = (s.addressed p).bump P.HP_HDRERR (portCode p.port - 1) :=
  if_neg (reject_taken hp hh)

theorem State.reject_length (b : BitVec 8) :
    s.reject p (.length b) = (s.addressed p).refuse (packetCmd p b.toNat) Status.badLength 2 :=
  if_neg (reject_taken hp hh)

theorem State.reject_trailer (b : BitVec 8) : s.reject p (.trailer b) =
    ((s.addressed p).bump P.HP_CRCERR (portCode p.port - 1)).refuse (packetCmd p b.toNat) Status.badCheck 0 :=
  if_neg (reject_taken hp hh)

theorem State.reject_opcode (b : BitVec 8) : s.reject p (.opcode b) =
    ((s.addressed p).arrived (packetCmd p b.toNat)).refuse (packetCmd p b.toNat) Status.badOpcode 0 :=
  if_neg (reject_taken hp hh)

end Sys2Proof.Machine
end

section
/-! Waits that lapse: pending commands, groups and faithful replies (R360, R388, R425). -/

namespace Sys2Proof.Machine

theorem exec_pendingTimeout (s : State) (port : HostPort) (seq : BitVec 16) :
    exec (.pendingTimeout port seq) s = .next (s.finish (s.pendingTimeout (portCode port) seq.toNat)) := rfl
theorem exec_groupLapse (s : State) (port : HostPort) :
    exec (.groupLapse port) s = .next (s.finish (s.groupLapse (portCode port))) := rfl
theorem exec_faithfulReplyRelease (s : State) (port : HostPort) :
    exec (.faithfulReplyRelease port) s = .next (s.finish (s.faithfulRelease (portCode port))) := rfl

variable {s : State} {port seq : Nat} {x : PendSlot}

/-- A table's first entry. -/
theorem tblSet_nil {α : Type} [DecidableEq α] {d v : α} {n : Nat} (h : v ≠ d) : tblSet d [] n v = [(n, v)] := if_neg h

/-- A pending command past its limit completes with TIMEOUT; where no mailbox holds anything nothing else ends (R360). -/
theorem State.pendingTimeout_noMailbox (hup : s.hopperUp = true)
    (hx : (s.session port).slots.find? (fun x => x.seq % 65536 == seq && decide (x.limit ≤ s.t)) = some x)
    (hm : s.mboxes = []) : s.pendingTimeout port seq = s.complete port x.seq Status.timeout := by
  have hs : ({ s with mboxes := [] } : State) = s := by rw [← hm]
  simp [State.pendingTimeout, hup, hx, hm, hs]

/-- An MB_WRITE that ends so waits for its mailbox no longer (R360, R433). -/
theorem State.pendingTimeout_mbWrite {n : Nat} {m : Mailbox} {ws : List PendWrite} (hup : s.hopperUp = true)
    (hx : (s.session port).slots.find? (fun x => x.seq % 65536 == seq && decide (x.limit ≤ s.t)) = some x)
    (hop : x.opcode = Op.mbWrite) (hm : s.mboxes = [(n, m)])
    (hws : ws = m.pendWrites.filter (fun w => !(w.port == port && w.seq == x.seq))) (hne : { m with pendWrites := ws } ≠ {}) :
    s.pendingTimeout port seq =
      ({ s with mboxes := [(n, { m with pendWrites := ws })] } : State).complete port x.seq Status.timeout := by
  subst hws
  simp only [State.pendingTimeout, hup, Bool.true_eq_false, if_false, hx, hm, List.foldl_cons, List.foldl_nil, hop, if_true,
    tblSet_nil hne]

/-- A group set `HP_GRPTO` ago is discarded (R388). -/
theorem State.groupLapse_due (hup : s.hopperUp = true) (hn : s.par P.HP_GRPTO ≠ 0) (hg : (s.session port).group ≠ [])
    (ht : (s.session port).groupSet + msTicks (s.par P.HP_GRPTO) ≤ s.t) :
    s.groupLapse port = s.setSession port { s.session port with group := [], groupLapsed := true } :=
  if_pos (by simp [hup, hn, hg, ht])

/-- A reply whose latency has passed is given (R425). -/
theorem State.faithfulRelease_due {w : PersWait} {t : Nat} {rest : List PersWait} (hup : s.hopperUp = true)
    (hw : s.hp.waits = w :: rest) (hp : w.port = port) (hc : w.codes = []) (hr : w.release = some t) (ht : t ≤ s.t) :
    s.faithfulRelease port = s.persGive w := by
  simp [State.faithfulRelease, hup, hw, hp, hc, hr, ht]

/-! ### The obligation -/

/-- Settles O34: each clause is the law above of the step that fails, or of the wait that lapses. -/
theorem packetsAreAcceptedOrRefused : Obligations.PacketsAreAcceptedOrRefused := by
  unfold Obligations.PacketsAreAcceptedOrRefused
  refine ⟨?_, fun s => ⟨?_, fun port seq x hup hx => ⟨fun _ hm => ?_, fun n m ws hop hm hws hne => ?_⟩, ?_,
    fun port w r rest hup hw hp hc hr ht => ?_⟩⟩
  -- native packets
  · rintro s p op _ r run _ _ rfl rfl rfl
    refine ⟨fun h => if_pos h, fun hf hq => ?_, ?_⟩
    -- steps 5 to 7
    · have hh : (s.addressed p).hears (nativeCmd p op).port = true := (State.addressed_hears _).trans hq
      rw [State.native_taken hf hq]
      refine ⟨fun hr ho => State.accept_closed hh rfl hr ho,
        fun hr ho hs hw => State.accept_awaited hh rfl hr ho hs hw,
        fun x hr ho hs hw hx => State.accept_cached hh rfl hr ho hs hw hx,
        fun hr ho hs hw hx => State.accept_gap hh rfl hr ho hs hw hx, fun hs => ?_⟩
      rw [State.accept_inOrder hh rfl hs]
      exact ⟨fun he => State.admitCmd_queueFull he, fun he hp hfull => State.admitCmd_slotsFull he hp hfull,
        fun he hp hb => (State.admitCmd_buffers he hp).trans (if_pos hb)⟩
    -- steps 8 and 9
    · rintro _ h rfl
      rw [State.native_executes h]
      exact ⟨fun hl => State.execute_badLength hl, fun hl ht => State.execute_badTarget hl ht,
        fun hl ht hw ho => State.execute_notOwner hl ht hw ho, fun hl ht ho hz => State.execute_reserved hl ht ho hz⟩
  -- packets that fail steps 1 to 4
  · rintro p _ _ rfl rfl hp hh
    refine ⟨?_, fun b => ⟨?_, ?_, ?_⟩⟩
    · rw [exec_commandPacketRejected, State.reject_header hp hh]
    · rw [exec_commandPacketRejected, State.reject_length hp hh]
    · rw [exec_commandPacketRejected, State.reject_trailer hp hh]
    · rw [exec_commandPacketRejected, State.reject_opcode hp hh]
  -- waits that lapse
  · rw [exec_pendingTimeout, State.pendingTimeout_noMailbox hup hx hm]
  · rw [exec_pendingTimeout, State.pendingTimeout_mbWrite hup hx hop hm hws hne]
  · rintro port _ rfl hup hn hg ht
    rw [exec_groupLapse, State.groupLapse_due hup hn hg ht]
  · rw [exec_faithfulReplyRelease, State.faithfulRelease_due hup hw hp hc hr ht]

end Sys2Proof.Machine
end

section
/-! Replies of executed commands (R346, R349, R355, R361). -/

namespace Sys2Proof.Machine

variable {s : State} {c : Cmd} {r : Reply} {st : Nat}

/-! ### A reply leaves -/

/-- A reply that leaves changes no port's kept answers and pending slots. -/
theorem State.sendReply_session (s : State) (c : Cmd) (r : Reply) (st n : Nat) :
    ((s.sendReply c r st).session n).cache = (s.session n).cache ∧
    ((s.sendReply c r st).session n).slots = (s.session n).slots := by
  rw [State.sendReply]
  split
  · exact ⟨rfl, rfl⟩
  · by_cases hn : n = c.port
    · subst hn; simp [State.queueReply]
    · rw [State.queueReply, State.session_setSession_ne _ _ hn]; exact ⟨rfl, rfl⟩

/-- A broadcast's reply, and an OK that NOREPLY holds back, leave nothing on the port (Table 12.3, R407). -/
theorem State.sendReply_silent (h : c.mute = true ∨ c.quiet = true ∧ st = Status.ok) : s.sendReply c r st = s := by
  refine if_pos ?_
  rcases h with h | ⟨h, rfl⟩ <;> simp [h]

/-- Any other reply joins those of its port. -/
theorem State.sendReply_queued (hm : c.mute = false) (hq : c.quiet = false) (hr : r.flags = 0x01) :
    s.sendReply c r st = s.queueReply c.port r := by
  have hflags : { r with flags := replyFlags false } = r := by cases r; subst hr; rfl
  simp [State.sendReply, hm, hq, hflags]

/-! ### A reply is kept -/

/-- The session of a command's port once its answer is kept for retransmissions (R349). -/
def State.keptSession (s : State) (c : Cmd) : Session :=
  { s.session c.port with cache := (⟨c.seq, c.opcode, c.crc, c.reply s.result⟩ :: (s.session c.port).cache).take 4 }

section
variable (ho : (s.session c.port).isOpen = true)
include ho

theorem State.replyNow_open : s.replyNow c =
    (s.setSession c.port (s.keptSession c)).sendReply c (c.reply s.result) s.result.status := by
  simp [State.replyNow, State.keptSession, ho]

theorem State.replyNow_cache : ((s.replyNow c).session c.port).cache =
    (⟨c.seq, c.opcode, c.crc, c.reply s.result⟩ :: (s.session c.port).cache).take 4 := by
  rw [State.replyNow_open ho, (State.sendReply_session _ _ _ _ _).1, State.session_setSession, State.keptSession]

theorem State.replyNow_slots : ((s.replyNow c).session c.port).slots = (s.session c.port).slots := by
  rw [State.replyNow_open ho, (State.sendReply_session _ _ _ _ _).2, State.session_setSession, State.keptSession]

theorem State.replyNow_queued (hm : c.mute = false) (hq : c.quiet = false) :
    ((s.replyNow c).session c.port).ready = (s.session c.port).ready ++ [c.reply s.result] := by
  rw [State.replyNow_open ho, State.sendReply_queued hm hq rfl, State.queueReply, State.session_setSession,
    State.session_setSession, State.keptSession]

theorem State.replyNow_silent (h : c.mute = true ∨ c.quiet = true ∧ s.result.status = Status.ok) :
    ((s.replyNow c).session c.port).ready = (s.session c.port).ready := by
  rw [State.replyNow_open ho, State.sendReply_silent h, State.session_setSession, State.keptSession]

end

/-! ### A command is answered at once -/

/-- Where no command of a personality waits, a command outside faithful mode is answered at once. -/
theorem State.reply_idle (hw : s.hp.waits = []) (hc : c.hold = none) : s.reply c = s.replyNow c := by
  simp [State.reply, hw, hc]

/-- A pending command takes a slot of its port, with its own limit or `HP_PENDMAX` (R355, R360). -/
theorem State.takeSlot_pending (x : Rule) (h : s.result.status = Status.acceptedPending) : ∃ y : PendSlot,
    y.opcode = c.opcode ∧ y.seq = c.seq ∧ y.start = s.t ∧ y.limit = s.t + min x.limit (msTicks (s.par P.HP_PENDMAX)) ∧
    s.takeSlot c x = s.setSession c.port { s.session c.port with slots := (s.session c.port).slots ++ [y] } :=
  ⟨_, rfl, rfl, rfl, rfl, if_pos h⟩

theorem State.takeSlot_answered (x : Rule) (h : s.result.status ≠ Status.acceptedPending) : s.takeSlot c x = s := if_neg h

/-- The slot that a pending command takes stays while its reply leaves. -/
theorem State.reply_slot {x : Session} (hw : s.hp.waits = []) (hc : c.hold = none) (ho : x.isOpen = true) :
    (((s.setSession c.port x).reply c).session c.port).slots = x.slots := by
  rw [State.reply_idle (s := s.setSession c.port x) hw hc, State.replyNow_slots (by rw [State.session_setSession]; exact ho),
    State.session_setSession]

/-! ### The obligation -/

/-- Settles O35: the answer is kept, leaves unless it is a broadcast's or NOREPLY holds it, and follows the slot it takes. -/
theorem executedCommandsAreAnswered : Obligations.ExecutedCommandsAreAnswered := by
  unfold Obligations.ExecutedCommandsAreAnswered
  rintro s p op limit arg _ _ _ rfl rfl hw ho rfl
  refine ⟨fun hst => ?_, State.replyNow_cache (c := nativeCmd p op) ho,
    fun hb hq => State.replyNow_queued (c := nativeCmd p op) ho hb hq,
    fun h => State.replyNow_silent (c := nativeCmd p op) ho h, fun hst => ?_⟩
  · rw [State.executed, State.takeSlot_answered _ hst, State.reply_idle hw rfl]
  · obtain ⟨y, hop, hseq, hstart, hlimit, htake⟩ :=
      State.takeSlot_pending (c := nativeCmd p op) { limit := limit, arg := arg } hst
    refine ⟨y, hop, hseq, hstart, hlimit, ?_⟩
    rw [State.executed, htake]
    exact State.reply_slot (c := nativeCmd p op) hw rfl ho

end Sys2Proof.Machine
end

section
/-! Time does not move while a block is reset (R569). -/

namespace Sys2Proof.Machine

variable (s : State)

/-! ### Shared operations -/

/-- A fold of steps that leave the time leaves it. -/
theorem State.foldl_t {α : Type} {f : State → α → State} (h : ∀ (u : State) (x : α), (f u x).t = u.t) (l : List α) (s : State) :
    (l.foldl f s).t = s.t := by
  induction l generalizing s with
  | nil => rfl
  | cons x l ih => rw [List.foldl_cons, ih, h]

@[simp] theorem State.bump_t (id inst n : Nat) : (s.bump id inst n).t = s.t := rfl
@[simp] theorem State.askStream_t (d k i : Nat) (o : Origin) : (s.askStream d k i o).t = s.t := rfl
@[simp] theorem State.resetParams_t (b : Nat) : (s.resetParams b).t = s.t := rfl
@[simp] theorem State.exchangeBanks_t (c : Nat) : (s.exchangeBanks c).t = s.t := rfl
@[simp] theorem State.unpostAll_t (p : Action → Bool) : (s.unpostAll p).t = s.t := rfl
@[simp] theorem State.mbFill_t (n : Nat) (m : Message) : (s.mbFill n m).t = s.t := rfl

@[simp] theorem State.complete_t (port seq st : Nat) (d : List Byte) (det : Nat) : (s.complete port seq st d det).t = s.t := by
  obtain ⟨x, p, h⟩ := s.complete_shape port seq st d det
  rw [h]; rfl

@[simp] theorem State.completeAll_t (op target st : Nat) : (s.completeAll op target st).t = s.t :=
  State.foldl_t (fun u _ => State.foldl_t (fun v _ => v.complete_t _ _ _ _ _) _ u) _ s

@[simp] theorem State.restoreShadow_t (c : Nat) : (s.restoreShadow c).t = s.t := by
  simp only [State.restoreShadow]; split <;> rfl

@[simp] theorem State.swapTaken_t (c : Nat) : (s.swapTaken c).t = s.t := by
  simp only [State.swapTaken]; split
  · exact State.restoreShadow_t _ _
  · rfl

/-! ### Mailboxes -/

@[simp] theorem State.mbEmptied_t (n : Nat) : (s.mbEmptied n).t = s.t := by
  rw [State.mbEmptied]
  split
  · split <;> simp
  · rfl

@[simp] theorem State.mbDiscard_t (n : Nat) : (s.mbDiscard n).t = s.t := by
  rw [State.mbDiscard]; split <;> simp

@[simp] theorem State.mbOrphan_t (n : Nat) : (s.mbOrphan n).t = s.t := by
  rw [State.mbOrphan]; split <;> simp

@[simp] theorem State.mbParties_t (ps : List Party) : (s.mbParties ps).t = s.t := by
  simp only [State.mbParties]
  rw [State.foldl_t State.mbDiscard_t, State.foldl_t (fun u _ => u.bump_t _ _ _), State.foldl_t State.mbOrphan_t]

@[simp] theorem State.mbPost_t (n code : Nat) (d : List Byte) (o : Origin) : (s.mbPost n code d o).2.t = s.t := by
  simp only [State.mbPost]; repeat' split
  all_goals rfl

/-! ### The changeover -/

@[simp] theorem State.changeReport_t : s.changeReport.t = s.t := by
  simp only [State.changeReport]; split <;> simp

@[simp] theorem State.enterSwapped_t : s.enterSwapped.t = s.t := State.changeReport_t _

@[simp] theorem State.enterRollback_t : s.enterRollback.t = s.t := rfl

@[simp] theorem State.swapFail_t (c : Nat) : (s.swapFail c).t = s.t := rfl

@[simp] theorem State.afterFail_t : s.afterFail.t = s.t := by
  simp only [State.afterFail]; repeat' split
  all_goals simp

@[simp] theorem State.gristEngineLost_t : s.gristEngineLost.t = s.t := by
  rw [State.gristEngineLost]; split
  · rw [State.afterFail_t, State.foldl_t State.swapFail_t]
  · rfl

@[simp] theorem State.gristBlockReset_t (c : Nat) : (s.gristBlockReset c).t = s.t := by
  simp only [State.gristBlockReset]; split
  · rfl
  · split <;> simp

/-! ### The blocks -/

@[simp] theorem State.cmpHold_t (n : Nat) : (s.cmpHold n).t = s.t := by
  simp only [State.cmpHold]; repeat' split
  all_goals rfl

@[simp] theorem State.cellReset_t (n : Nat) : (s.cellReset n).t = s.t := State.cmpHold_t _ n

@[simp] theorem State.cmpWire_t (n : Nat) (level : Bool) : (s.cmpWire n level).t = s.t := by
  obtain ⟨q, h⟩ := s.cmpWire_shape n level
  rw [h]; rfl

@[simp] theorem State.cmpReset_t (n : Nat) : (s.cmpReset n).t = s.t := by
  simp only [State.cmpReset]; split <;> simp

@[simp] theorem State.laneSwap_t (n : Nat) : (s.laneSwap n).t = s.t := by
  simp only [State.laneSwap]; repeat' split
  all_goals simp [State.lanePrime, State.laneHalt]

@[simp] theorem State.laneReset_t (n : Nat) : (s.laneReset n).t = s.t := State.laneSwap_t s n

@[simp] theorem State.sysAbort_t (g : Nat) : (s.sysAbort g).t = s.t := by
  rw [State.sysAbort]; split
  · exact State.foldl_t (fun u _ => State.foldl_t (fun v _ => v.complete_t _ _ _ _ _) _ u) _ _
  · rfl

@[simp] theorem State.sarGiveUp_t (g i : Nat) : (s.sarGiveUp g i).t = s.t := by
  simp only [State.sarGiveUp]; split
  · rfl
  · split <;> rfl

@[simp] theorem State.sarDropAll_t (g : Nat) : (s.sarDropAll g).t = s.t := State.foldl_t (fun u i => u.sarGiveUp_t g i) _ s

@[simp] theorem State.sarSwap_t (g : Nat) : (s.sarSwap g).t = s.t := by
  simp only [State.sarSwap]; split <;> simp

@[simp] theorem State.sarReset_t (g : Nat) : (s.sarReset g).t = s.t := by
  simp [State.sarReset]

@[simp] theorem State.icGiveUp_t (i : Nat) : (s.icGiveUp i).t = s.t := by
  simp only [State.icGiveUp]; repeat' split
  all_goals rfl

@[simp] theorem State.icSwap_t (i : Nat) : (s.icSwap i).t = s.t := by
  simp only [State.icSwap]; split <;> simp

@[simp] theorem State.icReset_t (i : Nat) : (s.icReset i).t = s.t := by
  simp [State.icReset]

@[simp] theorem State.tmReset_t (n : Nat) : (s.tmReset n).t = s.t := rfl

@[simp] theorem State.fabReset_t : s.fabReset.t = s.t := by
  rw [State.fabReset]
  refine (State.mbParties_t _ _).trans ((State.resetParams_t _ _).trans ?_)
  rw [State.foldl_t State.tmReset_t]
  split <;> simp

@[simp] theorem State.engReset_t : s.engReset.t = s.t := rfl

@[simp] theorem State.kilnReset_t : s.kilnReset.t = s.t := rfl

@[simp] theorem State.resetState_t (b : Nat) : (s.resetState b).t = s.t := by
  simp only [State.resetState]
  repeat' split
  all_goals simp

@[simp] theorem State.clearFaultState_t (b : Nat) : (s.clearFaultState b).t = s.t := by
  obtain ⟨f, h⟩ := (s.setFb b { window := (s.fb b).window }).holdWindow_shape b
  rw [State.clearFaultState, h]; rfl

end Sys2Proof.Machine
end

section
/-! Hopper restarts, block resets and the supply detectors (R354, R560, R568, R569, R581, R592). -/

namespace Sys2Proof.Machine

theorem exec_hopperRestartDone (s : State) (bad : Bool) :
    exec (.hopperRestartDone bad) s = .next (s.finish (s.hopperRestartDone bad)) := rfl
theorem exec_blockReset (s : State) (v : Word) :
    exec (.blockReset v) s = .next (s.finish (s.hostWrite P.TST_BLKRST 0 v.toNat)) := rfl
theorem exec_blockResetDone (s : State) (b : BitVec 8) :
    exec (.blockResetDone b) s = .next (s.finish (s.liveEvent (fun s => s.blockResetDone b.toNat))) := rfl
theorem exec_vioblow (s : State) : exec .vioblow s = .next (s.finish s.vioBLow) := rfl
theorem exec_viorange (s : State) (a b : Bool) : exec (.viorange a b) s = .next (s.finish (s.vioRange a b)) := rfl
theorem exec_railPresenceChange (s : State) (r : Rail) (present : Bool) :
    exec (.railPresenceChange r present) s = .next (s.finish (s.railPresence r present)) := rfl

variable {s : State} {b v : Nat}

/-! ### Hopper restarts -/

theorem State.patchInForce_pwr (s : State) (bad : Bool) : (s.patchInForce bad).pwr = s.pwr := by
  simp only [State.patchInForce]
  repeat' split
  all_goals rfl

/-- A restart that ends in READY serves again, with its patch, its grace timers and its window (R568). -/
theorem State.hopperRestartDone_ready {t0 : Nat} {bad : Bool} {u : State} (hd : s.pwr.hopperDown = some t0)
    (ha : s.alive = true) (hr : s.pwr.step = .ready)
    (hu : u = { s with pwr := { s.pwr with hopperDown := none }, flt := { s.flt with served := s.t } }) :
    s.hopperRestartDone bad = (u.patchInForce bad).resumeGrace.openWindow Fb.hopper := by
  subst hu
  simp only [State.hopperRestartDone, hd, ha, if_true, State.patchInForce_pwr, hr]
  rfl

theorem State.hopperRestartDone_up {bad : Bool} (h : s.pwr.hopperDown = none) : s.hopperRestartDone bad = s := by
  simp only [State.hopperRestartDone, h]

/-! ### Block resets -/

/-- Without its key a write of `TST_BLKRST` resets nothing (R592). -/
theorem State.blockResetWrite_noKey (h : bitsOf v 16 16 ≠ 0x5AA5) : s.blockResetWrite v = s.answer Status.outOfRange :=
  if_pos (.inl h)

section
variable (hkey : bitsOf v 16 16 = 0x5AA5) (hz : bitsOf v 8 8 = 0)
include hkey hz

/-- In factory test mode, and for a block without a reset, it is refused (R569, Table 19.5). -/
theorem State.blockResetWrite_barred (h : s.tst.testMode = true ∨ Fb.kiln < v % 256) :
    s.blockResetWrite v = s.answer Status.notPermitted := by
  rw [State.blockResetWrite, if_neg (by simp [hkey, hz]), if_pos]
  rcases h with h | h
  · simp [h]
  · simp [acceptsReset, h]

/-- A block that is not being reset already is reset (R592). -/
theorem State.blockResetWrite_admitted (hm : s.tst.testMode = false) (hb : v % 256 ≤ Fb.kiln) : s.blockResetWrite v =
    if s.resetting (v % 256) then s.answer Status.busyLocked else (s.resetBlock (v % 256)).done := by
  rw [State.blockResetWrite, if_neg (by simp [hkey, hz]), if_neg (by simp [hm, acceptsReset, hb])]

end

/-- A block reset holds until t_BRST from its instant (R569). -/
theorem State.resetBlock_due (s : State) (hb : b ≠ Fb.fabric) :
    tblGet 0 (s.resetBlock b).pwr.blockReset b = s.t + resetTicks b := by
  simp only [State.resetBlock, resetSet, if_neg hb, List.foldl_cons, List.foldl_nil]
  refine (tblGet_tblSet_same _ _ _ _).trans (congrArg (· + resetTicks b) ?_)
  refine (State.clearFaultState_t _ _).trans ((State.resetState_t _ _).trans ?_)
  split <;> simp

/-- A block reset is the last reset that `TST_LASTRST` shows (R592). -/
theorem State.resetBlock_lastReset (s : State) (hb : b ≤ Fb.kiln) : (s.resetBlock b).par P.TST_LASTRST = 7 + 256 * b := by
  have hlt : 7 + 256 * b < 2 ^ 32 := by
    have : Fb.kiln < 256 := by decide
    omega
  have hread (u : State) : (((u.setPar P.TST_LASTRST 0 (7 + 256 * b)).bump P.TST_BRSTCNT).trace 0x03 7
      (some (leBytes 1 b ++ List.replicate 13 0))).par P.TST_LASTRST = 7 + 256 * b := by
    refine (State.par_setPar_ne _ _ (by decide)).trans ?_
    rw [State.par_setPar, Nat.mod_eq_of_lt hlt]
  exact hread _

/-- A block works again once t_BRST has passed, and its window closes (R569, R488). -/
theorem State.blockResetDone_due (hb : b ≠ Fb.fabric) (h0 : tblGet 0 s.pwr.blockReset b ≠ 0)
    (ht : tblGet 0 s.pwr.blockReset b ≤ s.t) : s.blockResetDone b =
      ({ s with pwr := { s.pwr with blockReset := tblErase s.pwr.blockReset b } } : State).openWindow b := by
  simp [State.blockResetDone, resetSet, hb, h0, ht]

/-! ### The obligation -/

/-- Settles O50: restarts, block resets and the detectors act as their laws above say; a block reset's due time is counted from an
instant that nothing in the reset moves. -/
theorem restartsAndSupplyDetectorsComplete : Obligations.RestartsAndSupplyDetectorsComplete := by
  unfold Obligations.RestartsAndSupplyDetectorsComplete
  intro s
  refine ⟨fun t0 bad hd ha hr u v hu hv => ?_, fun bad hd => ?_, ?_, fun b hb hf => ?_, ?_, ?_,
    fun a b hp hab => ?_, fun present => ⟨exec_railPresenceChange _ _ _, exec_railPresenceChange _ _ _⟩,
    exec_railPresenceChange _ _ _, exec_railPresenceChange _ _ _⟩
  -- Hopper
  · subst hv
    rw [exec_hopperRestartDone, State.hopperRestartDone_ready hd ha hr hu]
  · rw [exec_hopperRestartDone, State.hopperRestartDone_up hd]
  -- block resets
  · rintro v hup hr hv _ rfl
    rw [exec_blockReset, State.hostWrite_TST_BLKRST hup hv hr]
    refine ⟨fun hkey => ?_, fun hkey hz => ⟨fun h => ?_, fun hm hb => ⟨fun hbusy => ?_, fun hfree => ?_⟩⟩⟩
    · rw [State.blockResetWrite_noKey hkey]
    · rw [State.blockResetWrite_barred hkey hz h]
    · rw [State.blockResetWrite_admitted hkey hz hm hb, if_pos hbusy]
    · rw [State.blockResetWrite_admitted hkey hz hm hb, if_neg (by simp [hfree])]
  · exact ⟨s.resetBlock_due hf, s.resetBlock_lastReset hb⟩
  · rintro b _ hp hb rfl h0 ht
    rw [exec_blockResetDone, State.liveEvent, if_pos hp, State.blockResetDone_due hb h0 ht]
  -- supplies
  · rintro _ rfl hp
    rw [exec_vioblow, State.vioBLow]
    exact congrArg _ (congrArg _ (if_pos hp))
  · rw [exec_viorange, State.vioRange, if_pos ⟨hp, by simpa using hab⟩]

end Sys2Proof.Machine
end

section
/-! Every row of the table ends its edge as `finish` has it, but for the fall of a core supply: what a queue of commands leaves, and
what no command undoes (R482, R594). -/

namespace Sys2Proof.Machine

/-! ### Outcomes of the rows -/

/-- Every command but the fall of a core supply has an effect that the end of the edge follows. -/
theorem exec_finishes {c : Instr} (h : isSupplyDrop c = false) (s : State) : ∃ u, exec c s = .next (s.finish u) := by
  cases c with
  | supplyDrop rail => cases h
  | _ => exact ⟨_, rfl⟩

/-- The fall of a core supply is the one row that no end of an edge follows. -/
theorem exec_supplyDrop (s : State) (rail : Fin 3) :
    exec (.supplyDrop rail) s = .next { s.supplyDrop rail.val with pending := s.pending } := rfl

/-- What holds of the two forms an outcome takes holds of the outcome of every command. -/
theorem exec_induction {p : State → Prop} (s : State) (hend : ∀ u, p (s.finish u))
    (hdrop : ∀ rail : Fin 3, p { s.supplyDrop rail.val with pending := s.pending }) (c : Instr) :
    ∃ t, exec c s = .next t ∧ p t := by
  cases hc : isSupplyDrop c with
  | false =>
    obtain ⟨u, hu⟩ := exec_finishes hc s
    exact ⟨_, hu, hend u⟩
  | true =>
    cases c with
    | supplyDrop rail => exact ⟨_, exec_supplyDrop s rail, hdrop rail⟩
    | _ => cases hc

/-- Every command answers a next state, and leaves the commands that wait. -/
theorem exec_next (c : Instr) (s : State) : ∃ t, exec c s = .next t ∧ t.pending = s.pending :=
  exec_induction s (fun u => s.finish_pending u) (fun _ => rfl) c

/-! ### Steps -/

theorem step_cons (c : Instr) (rest : List Instr) (s : State) :
    step { s with pending := c :: rest } = exec c { s with pending := rest } := rfl

theorem step_of_pending_nil {s : State} (h : s.pending = []) : step s = .next s.tick := by
  simp only [step, h]

theorem step_of_pending_cons {s : State} {c : Instr} {rest : List Instr} (h : s.pending = c :: rest) :
    step s = exec c { s with pending := rest } := by
  simp only [step, h]

theorem State.tick_running {s : State} (h : s.pwr.phase = .running) :
    s.tick = s.finish s.cmpEdges.recordsEnter.countTime.clockBlocks := if_pos h

theorem State.tick_reset {s : State} (h : s.pwr.phase ≠ .running) : s.tick = s := if_neg h

theorem State.tick_pending (s : State) : s.tick.pending = s.pending := by
  by_cases h : s.pwr.phase = .running
  · rw [State.tick_running h, State.finish_pending]
  · rw [State.tick_reset h]

/-- A step answers a next state; it takes the front of the queue, where there is one. -/
theorem step_next (s : State) : ∃ t, step s = .next t ∧ t.pending = s.pending.tail := by
  cases h : s.pending with
  | nil => exact ⟨_, step_of_pending_nil h, by rw [State.tick_pending, h]; rfl⟩
  | cons c rest =>
    rw [step_of_pending_cons h]
    exact exec_next c _

/-- A relation that every step keeps holds along every run. -/
theorem Reaches.induction {p : State → Prop} (hstep : ∀ s t, p s → step s = .next t → p t) :
    ∀ (n : Nat) {s t : State}, p s → Reaches n s t → p t
  | 0, _, _, hs, h => h ▸ hs
  | n + 1, s, _, hs, ⟨u, hu, hn⟩ => Reaches.induction hstep n (hstep s u hs hu) hn

/-! ### Queues -/

/-- Settles O53: a step reads the queue's front, and a tick during a device reset has no effect. -/
theorem stepTakesTheFrontCommand : Obligations.StepTakesTheFrontCommand := by
  unfold Obligations.StepTakesTheFrontCommand
  refine ⟨step_cons, fun s h => ⟨step_of_pending_nil h, fun hp => ?_, by rw [State.tick_pending, h]⟩⟩
  rw [step_of_pending_nil h, State.tick_reset hp]

/-- As many steps as commands wait empty the queue. -/
theorem reaches_pending_nil (n : Nat) : ∀ s : State, s.pending.length = n → ∃ t, Reaches n s t ∧ t.pending = [] := by
  induction n with
  | zero => exact fun s h => ⟨s, rfl, List.length_eq_zero_iff.mp h⟩
  | succ n ih =>
    intro s h
    obtain ⟨u, hu, hq⟩ := step_next s
    obtain ⟨t, ht, he⟩ := ih u (by rw [hq, List.length_tail, h]; rfl)
    exact ⟨t, ⟨u, hu, ht⟩, he⟩

theorem safeRun (n : Nat) : ∀ s : State, SafeRun n s := by
  induction n with
  | zero => exact fun s => ⟨s, rfl⟩
  | succ n ih =>
    intro s
    obtain ⟨u, hu, _⟩ := step_next s
    obtain ⟨t, ht⟩ := ih u
    exact ⟨t, u, hu, ht⟩

/-- Settles O54: no row of the table stops, by the two forms an outcome takes; queues by induction on their length. -/
theorem queueDrainsWithoutAStop : Obligations.QueueDrainsWithoutAStop := by
  unfold Obligations.QueueDrainsWithoutAStop
  exact ⟨exec_next, fun s => reaches_pending_nil _ s rfl, safeRun⟩

/-! ### Trace events of an edge -/

theorem State.trigger_trcPend (s : State) (e : TraceEvent) (n : Nat) : (s.trigger e n).trcPend = s.trcPend := by
  simp only [State.trigger]
  repeat' split
  all_goals rfl

@[simp] theorem State.bump_trcPend (s : State) (id inst n : Nat) : (s.bump id inst n).trcPend = s.trcPend := rfl

@[simp] theorem State.endEpisode_trcPend (s : State) (b d : Nat) : (s.endEpisode b d).trcPend = s.trcPend := by
  obtain ⟨f, h⟩ := s.endEpisode_shape b d
  rw [h]

@[simp] theorem State.raiseEpisode_trcPend (s : State) (b d k v i : Nat) :
    (s.raiseEpisode b d k v i).trcPend = s.trcPend := by
  obtain ⟨f, t, h⟩ := s.raiseEpisode_shape b d k v i
  rw [h]

theorem State.traceEvent_trcPend (s : State) (e : TraceEvent) : (s.traceEvent e).trcPend = s.trcPend := by
  simp only [State.traceEvent]
  generalize (if s.tst.lostSince = 0 then _ else _) = lost
  split
  · split
    · rw [State.endEpisode_trcPend, State.trigger_trcPend]
      split <;> rfl
    · rw [State.raiseEpisode_trcPend]; rfl
  · rfl

/-- The events of an edge enter the FIFO, and none waits. -/
theorem State.traceFlush_trcPend (s : State) : s.traceFlush.trcPend = [] := by
  suffices ∀ (l : List TraceEvent) (u : State), (l.foldl State.traceEvent u).trcPend = u.trcPend from this _ _
  intro l
  induction l with
  | nil => exact fun u => rfl
  | cons e l ih => exact fun u => (ih _).trans (u.traceEvent_trcPend e)

/-- The rest of an edge leaves no event waiting, unless a device reset has begun. -/
theorem State.edgeRest_trcPend (s0 s : State) : TraceTaken (s0.edgeRest s) := by
  intro hp
  simp only [State.edgeRest] at hp ⊢
  split at hp <;> rename_i h
  · exact absurd hp h
  · rw [if_neg h]
    exact State.traceFlush_trcPend _

theorem TraceTaken.held {s : State} (h : TraceTaken s) (s0 : State) : TraceTaken (s0.held s) := fun hp => h hp

theorem State.finish_trcPend (s0 s : State) : TraceTaken (s0.finish s) := by
  rw [State.finish]
  split
  case isTrue => exact (s0.edgeRest_trcPend s).held s0
  case isFalse h =>
    have hs : TraceTaken s := fun hp => absurd hp h
    exact hs.held s0

/-! ### Device resets -/

theorem State.foldl_setPar_shape {α : Type} (id inst v : α → Nat) (l : List α) (s : State) :
    ∃ p, l.foldl (fun (u : State) x => u.setPar (id x) (inst x) (v x)) s = { s with params := p } := by
  induction l generalizing s with
  | nil => exact ⟨_, rfl⟩
  | cons x l ih =>
    obtain ⟨p, h⟩ := ih (s.setPar (id x) (inst x) (v x))
    exact ⟨p, h⟩

/-- A device reset resets the block's parameters and what its state does not keep, and nothing else (R600). -/
theorem State.testReset_shape (s : State) (b : Bool) :
    ∃ p q r x, s.testReset b = { s with params := p, pend := q, shadow := r, tst := x } := by
  simp only [State.testReset]
  generalize List.map _ _ = vals
  obtain ⟨p, h⟩ := State.foldl_setPar_shape (fun v : (Nat × Nat) × Nat => v.1.1) (fun v => v.1.2) (fun v => v.2) vals
    (s.resetParams Fb.test)
  rw [h]
  exact ⟨_, _, _, _, rfl⟩

section
variable (s : State) (b : Bool) (cause : Nat) (phase : ResetPhase)

theorem State.testReset_keeps {β : Type} (g : State → β)
    (h : ∀ (u : State) (p q r : Tbl Word) (x : TestTrace), g { u with params := p, pend := q, shadow := r, tst := x } = g u) :
    g (s.testReset b) = g s := by
  obtain ⟨p, q, r, x, e⟩ := s.testReset_shape b
  rw [e, h]

@[simp] theorem State.testReset_pwr : (s.testReset b).pwr = s.pwr := s.testReset_keeps b State.pwr fun _ _ _ _ _ => rfl
@[simp] theorem State.testReset_flt : (s.testReset b).flt = s.flt := s.testReset_keeps b State.flt fun _ _ _ _ _ => rfl

@[simp] theorem State.resetBegin_flt : (s.resetBegin cause phase).flt = {} := by
  simp only [State.resetBegin, State.setPar_flt, State.testReset_flt]

@[simp] theorem State.resetBegin_phase : (s.resetBegin cause phase).pwr.phase = phase := by
  simp only [State.resetBegin, State.setPar_pwr, State.testReset_pwr]

end

/-- A core supply that falls leaves a device reset whose cause lasts (R560). -/
theorem State.supplyDrop_phase (s : State) (rail : Nat) : (s.supplyDrop rail).pwr.phase = .cause := by
  have hp : ∀ u : State, u.pwr.phase = .cause → (u.setPwr (if rail = 0 then { u.pwr with vcore := false }
      else if rail = 1 then { u.pwr with vioA := false } else { u.pwr with avdd := false })).pwr.phase = .cause := by
    intro u h
    rw [State.setPwr_pwr]
    repeat' split
    all_goals exact h
  refine hp _ ?_
  split
  case isTrue h => exact h.1
  case isFalse => rw [State.resetBegin_phase]

/-! ### Invariants of every step -/

/-- Settles O56: the end of an edge makes the entries of its events, and a fall of a supply leaves a device reset. -/
theorem noTraceEventOutlivesItsEdge : Obligations.NoTraceEventOutlivesItsEdge := by
  unfold Obligations.NoTraceEventOutlivesItsEdge
  have hstep : ∀ s t : State, TraceTaken s → step s = .next t → TraceTaken t := by
    intro s t hs h
    cases hq : s.pending with
    | nil =>
      rw [step_of_pending_nil hq] at h
      cases h
      by_cases hp : s.pwr.phase = .running
      · rw [State.tick_running hp]; exact State.finish_trcPend _ _
      · rw [State.tick_reset hp]; exact hs
    | cons c rest =>
      rw [step_of_pending_cons hq] at h
      obtain ⟨u, hu, ht⟩ := exec_induction (p := TraceTaken) { s with pending := rest } (State.finish_trcPend _)
        (fun rail hp => absurd ((State.supplyDrop_phase _ _).symm.trans hp) (by decide)) c
      rw [hu] at h
      cases h
      exact ht
  exact ⟨hstep, fun n s t => Reaches.induction hstep n⟩

end Sys2Proof.Machine
end

section
/-! Halt stays latched but for a fall of a core supply, and the TAP goes on in it (R482, R587). -/

namespace Sys2Proof.Machine

variable (s : State)

/-! ### Steps in Halt -/

theorem State.tick_halted {s : State} (h : s.flt.halted = true) : s.tick.flt.halted = true := by
  by_cases hp : s.pwr.phase = .running
  · rw [State.tick_running hp]; exact State.finish_halted _ h
  · rw [State.tick_reset hp]; exact h

/-- A step keeps Halt, and the queue without a fall of a core supply. -/
theorem HaltLatched.step {s t : State} (hs : HaltLatched s) (h : step s = .next t) : HaltLatched t := by
  obtain ⟨hh, hq⟩ := hs
  cases hp : s.pending with
  | nil =>
    rw [step_of_pending_nil hp] at h
    cases h
    exact ⟨State.tick_halted hh, by rw [State.tick_pending]; exact hq⟩
  | cons c rest =>
    rw [hp, List.all_cons, Bool.and_eq_true, Bool.not_eq_true'] at hq
    rw [step_of_pending_cons hp] at h
    obtain ⟨u, hu⟩ := exec_finishes hq.1 { s with pending := rest }
    rw [hu] at h
    cases h
    exact ⟨State.finish_halted u hh, hq.2⟩

/-! ### What has no effect in Halt -/

theorem State.alive_of_halted {s : State} (h : s.flt.halted = true) : s.alive = false := by
  simp [State.alive, h]

theorem State.hopperUp_of_not_alive {s : State} (h : s.alive = false) : s.hopperUp = false := by
  simp [State.hopperUp, h]

theorem State.hears_of_down {s : State} (h : s.hopperUp = false) (n : Nat) : s.hears n = false := by
  simp [State.hears, State.hopperAccepts, h]

/-- No native packet acts on a port that does not take what reaches it (R428). -/
theorem State.native_deaf {s : State} {p : Packet} (h : s.hears (portCode p.port) = false) (op : Nat) (r : Rule)
    (run : State → State) : s.native p op r run = s := if_pos (.inr h)

theorem State.resetSource_halted {s : State} (h : s.flt.halted = true) (cause : Nat) (phase : ResetPhase) :
    s.resetSource cause phase = s := if_pos (.inl h)

theorem State.opReset_deaf {s : State} {p : Packet} (h : s.hears (portCode p.port) = false) (k : Nat) :
    s.opReset p k = s := by
  rw [State.opReset, State.native_deaf h, ite_self]

theorem exec_resetN : exec .resetN s = .next (s.finish s.resetN) := rfl

theorem exec_resetDevice (p : Packet) : exec (.resetDevice p) s = .next (s.finish (s.opReset p 2)) := rfl

/-! ### The TAP -/

theorem exec_recsel (sel : BitVec 16) : exec (.recsel sel) s = .next (s.finish (s.recSelect sel.toNat)) := rfl

theorem exec_recdata : exec .recdata s = .next (s.finish s.recRead) := rfl

/-- A part of the state that each step of a fold leaves is left by the fold. -/
theorem State.foldl_keeps {α β : Type} (g : State → β) {f : State → α → State} (h : ∀ (u : State) (x : α), g (f u x) = g u)
    (l : List α) (s : State) : g (l.foldl f s) = g s := by
  induction l generalizing s with
  | nil => rfl
  | cons x l ih => rw [List.foldl_cons, ih, h]

@[simp] theorem State.setPin_flt (p : Nat) (x : Pin) : (s.setPin p x).flt = s.flt := rfl
@[simp] theorem State.setPin_tst (p : Nat) (x : Pin) : (s.setPin p x).tst = s.tst := rfl

@[simp] theorem State.cmpHold_flt (n : Nat) : (s.cmpHold n).flt = s.flt := by
  simp only [State.cmpHold]; repeat' split
  all_goals rfl

@[simp] theorem State.cmpHold_tst (n : Nat) : (s.cmpHold n).tst = s.tst := by
  simp only [State.cmpHold]; repeat' split
  all_goals rfl

@[simp] theorem State.startSettling_flt (n e : Nat) : (s.startSettling n e).flt = s.flt := by simp [State.startSettling]
@[simp] theorem State.startSettling_tst (n e : Nat) : (s.startSettling n e).tst = s.tst := by simp [State.startSettling]

/-- The end of boundary scan's isolation clears its mark, and concerns but pins and cells (R586). -/
theorem State.tapLeave_keeps {β : Type} (g : State → β) (hpin : ∀ (u : State) (p : Nat) (x : Pin), g (u.setPin p x) = g u)
    (hcell : ∀ (u : State) (n e : Nat), g (u.startSettling n e) = g u) :
    g s.tapLeave = g (s.setTst { s.tst with isolated := false }) := by
  simp only [State.tapLeave]
  split
  case isTrue h => rw [State.setTst, ← h]
  case isFalse =>
    refine (State.foldl_keeps g (fun u n => ?_) _ _).trans ?_
    · split
      · exact hcell _ _ _
      · rfl
    · split
      · exact State.foldl_keeps g (fun _ _ => hpin _ _ _) _ _
      · rfl

@[simp] theorem State.tapLeave_flt : s.tapLeave.flt = s.flt :=
  s.tapLeave_keeps State.flt (fun _ _ _ => rfl) State.startSettling_flt

@[simp] theorem State.tapLeave_tst : s.tapLeave.tst = { s.tst with isolated := false } :=
  s.tapLeave_keeps State.tst (fun _ _ _ => rfl) State.startSettling_tst

/-- An instruction that isolates nothing is loaded: it captures as R583 has it, and ends the isolation. -/
theorem State.tapLoad_leaves (h : s.tapUp = true) (code : Nat) : s.tapLoad code false =
    s.captureIr.tapLeave.setTst { s.captureIr.tapLeave.tst with ir := code, bypass := false } := by
  have hc : s.captureIr.tapUp = true := by rw [State.captureIr, if_pos h]; exact h
  rw [State.tapLoad, State.tapInstr, if_pos hc]; rfl

theorem State.captureIr_flt : s.captureIr.flt = s.flt := by
  rw [State.captureIr]; split <;> rfl

/-- The records and entries that the TAP reads stand in the captures, the logs and the trace buffer (R587). -/
theorem State.recBytes_congr {s u : State} (hf : u.flt = s.flt) (hb : u.tst.buffer = s.tst.buffer) (sel : Nat) :
    u.recBytes sel = s.recBytes sel := by
  simp only [State.recBytes, State.captureBytes, State.fb, hf, hb]

theorem State.tapLoad_flt (h : s.tapUp = true) (code : Nat) : (s.tapLoad code false).flt = s.flt := by
  rw [s.tapLoad_leaves h]
  exact (State.tapLeave_flt _).trans s.captureIr_flt

/-- Loading an instruction leaves the selector and the trace buffer. -/
theorem State.tapLoad_tst (h : s.tapUp = true) (code : Nat) : (s.tapLoad code false).tst.recsel = s.tst.recsel ∧
    (s.tapLoad code false).tst.buffer = s.tst.buffer := by
  rw [s.tapLoad_leaves h, State.setTst_tst, State.tapLeave_tst, State.captureIr, if_pos h]
  exact ⟨rfl, rfl⟩

/-! ### The obligation -/

/-- Settles O55: every row but the fall of a supply ends its edge, which keeps Halt; what a reset or a packet asks for is ignored. -/
theorem haltStaysLatched : Obligations.HaltStaysLatched := by
  unfold Obligations.HaltStaysLatched
  refine ⟨fun s t hs => hs.step, fun n s t hs hn => (Reaches.induction (fun _ _ => HaltLatched.step) n hs hn).1,
    fun s hh => ⟨fun hp rail => ⟨_, exec_supplyDrop s rail, ?_⟩, ?_, fun p => ?_, fun hc hb => ⟨fun sel => ?_, ?_⟩⟩⟩
  · have hn : ¬ (s.pwr.phase = .cause ∧ s.pwr.cause = 1) := fun h => by rw [hp] at h; cases h.1
    simp only [State.supplyDrop, if_neg hn]
    exact congrArg FaultLogic.halted (s.resetBegin_flt 1 .cause)
  · rw [exec_resetN, State.resetN, State.resetSource_halted hh]
  · rw [exec_resetDevice, State.opReset_deaf]
    exact State.hears_of_down (State.hopperUp_of_not_alive (State.alive_of_halted hh)) _
  · have hup : s.tapUp = true := by simp [State.tapUp, hc, hb]
    refine ⟨_, ?_, ?_, exec_recsel s sel⟩
    · simp only [State.recSelect, if_pos hup, State.setTst_tst]
      exact Nat.mod_eq_of_lt sel.isLt
    · simp only [State.recSelect, if_pos hup]
      exact s.tapLoad_flt hup 0x10
  · have hup : s.tapUp = true := by simp [State.tapUp, hc, hb]
    obtain ⟨hsel, hbuf⟩ := s.tapLoad_tst hup 0x11
    refine ⟨_, ?_, ?_, exec_recdata s⟩
    · simp only [State.recRead, if_pos hup, State.setTst_tst, hsel]
      exact State.recBytes_congr (s.tapLoad_flt hup 0x11) hbuf _
    · simp only [State.recRead, if_pos hup, State.setTst_tst, hsel]

end Sys2Proof.Machine
end

section
/-! What an edge's end leaves where nothing waits for it, what a device that is in reset or in Halt ignores, and what a device reset
leaves (R428, R481, R566, R567, R570). -/

namespace Sys2Proof.Machine

variable {s0 s : State}

/-! ### Parts of an edge's end that find nothing to do -/

theorem State.settle_nil (n : Nat) (h : s.todo = []) : s.settle n = s := by
  cases n with
  | zero => rfl
  | succ n => simp [State.settle, h, sortBy]

theorem State.traceFlush_nil (h : s.trcPend = []) : s.traceFlush = s := by
  simp only [State.traceFlush, h, sortBy, List.foldl_nil]
  rw [← h]

theorem State.traceAll_nil (hr : s.todo = []) (ht : s.trcPend = []) : s.traceAll = s := by
  rw [State.traceAll, State.traceFlush_nil ht, State.settle_nil 64 hr, State.traceFlush_nil ht]

/-- An engine that the edge has not moved concerns nothing that waits for it. -/
theorem State.engineHooks_same (h : s.eng = s0.eng) : s0.engineHooks s = s := by
  have hr : s.engineRuns = s0.engineRuns := by simp only [State.engineRuns, h]
  have hadv : binSub s.eng.hwm s0.eng.hwm = 0 := by simp [binSub, h]
  have h1 : ¬ (s0.engineRuns = false ∧ s.eng.state ≠ .stopped ∧ 0 < binSub s.eng.hwm s0.eng.hwm) := by simp [hadv]
  have h2 : ¬ (s0.eng.state ≠ .track ∧ s.eng.state = .track) := by rw [h]; exact fun ⟨a, b⟩ => a b
  have h3 : ¬ (s0.engineRuns = true ∧ s.engineRuns = false) := by rw [hr]; rintro ⟨a, b⟩; rw [a] at b; cases b
  simp only [State.engineHooks, if_neg h1, if_neg h2, if_neg h3]

theorem State.calGuard_free (h : s.cal.injected = none) : s.calGuard = s := by
  simp only [State.calGuard, h]

theorem State.spareGuard_free (h : s.cal.spareOf = none) (hs : s.cal.spares = []) : s.spareGuard = s := by
  have hc : s.calSpareGuard = s := by simp only [State.calSpareGuard, h]
  simp [State.spareGuard, hc, hs, tblGet, List.range, List.range.loop]

theorem State.persCheck_nil (h : s.hp.waits = []) : s.persCheck = s := by
  simp [State.persCheck, h]

theorem State.drainE_nil (h : (s.session 4).ready = []) : s.drainE = s := by
  simp [State.drainE, h]

theorem State.resetAfterReply_none (h : s.pwr.resetDue = none) : s.resetAfterReply = s := by
  simp only [State.resetAfterReply, h]

/-- A pin whose function, safe drive and driver stay keeps its registers (R544–R549). -/
theorem State.huskPin_same {p : Nat} (hw : s.pinWord p = s0.pinWord p) (hs : s.pinSafe p = s0.pinSafe p)
    (hd : s.pinDrive p = s0.pinDrive p) : s0.huskPin s p = s := by
  have hoff : ¬ ((s0.pinDrive p).2 = true ∧ (s0.pinDrive p).2 = false) := fun ⟨a, b⟩ => by rw [a] at b; cases b
  cases hsafe : s0.pinSafe p <;> simp [State.huskPin, hw, hs, hd, hsafe]

theorem State.husk_same (hw : ∀ p, s.pinWord p = s0.pinWord p) (hs : ∀ p, s.pinSafe p = s0.pinSafe p)
    (hd : ∀ p, s.pinDrive p = s0.pinDrive p) (he : s.encfltPins = s.eng.encFault) : s0.husk s = s := by
  have hfold : ∀ l : List Nat, l.foldl (fun u p => s0.huskPin u p) s = s := by
    intro l
    induction l with
    | nil => rfl
    | cons p l ih => rw [List.foldl_cons, State.huskPin_same (hw p) (hs p) (hd p), ih]
  rw [State.husk, hfold, State.encfltUpdate]
  exact if_pos he

theorem State.graceFollow_same (h : s.hopperAccepts = s0.hopperAccepts) : s0.graceFollow s = s := by
  cases h0 : s0.hopperAccepts <;> simp [State.graceFollow, h, h0]

/-- Banks that have not been exchanged, and waits that have not ended, name no block (R312). -/
theorem State.swappedCodes_same (h : s.grist = s0.grist)
    (hw : ∀ c ∈ s.grist.waiting.map Prod.fst, tblGet 0 s.grist.waiting c ≠ 0) : s0.swappedCodes s = [] := by
  have hnil : ∀ l : List Nat, l.filter (fun c => s0.grist.liveB.contains c != s0.grist.liveB.contains c) = [] := by
    simp
  rw [h] at hw
  simp only [State.swappedCodes, h, hnil, List.filter_nil, List.nil_append, List.filter_eq_nil_iff]
  intro c hc
  simp [hw c hc]

theorem State.stateTrace_same (hg : s.grist = s0.grist)
    (hw : ∀ c ∈ s.grist.waiting.map Prod.fst, tblGet 0 s.grist.waiting c ≠ 0) (hk : s.kiln.state = s0.kiln.state)
    (ho : s.par P.HP_OWNER = s0.par P.HP_OWNER) (hl : s.sl.state = s0.sl.state) (he : s.eng = s0.eng) :
    s0.stateTrace s = s := by
  simp [State.stateTrace, State.swappedCodes_same hg hw, hg, hk, ho, hl, he]

theorem State.eventCheck_same (h : s.eventBits = s.hp.eth.irqSeen) : s.eventCheck = s := by
  simp [State.eventCheck, h]

/-! ### Settled states -/

/-- What an edge leaves of a state that has kept the queue and Halt. -/
theorem State.held_same (hq : s.pending = s0.pending) (hh : (s0.flt.halted || s.flt.halted) = s.flt.halted) :
    s0.held s = s := by
  rw [State.held, ← hq, hh]

theorem Settled.edgeRest (h : Settled s0 s) : s0.edgeRest s = s := by
  simp only [State.edgeRest, State.settle_nil _ h.records, State.engineHooks_same h.engine, State.calGuard_free h.noInjection,
    State.spareGuard_free h.noSpare h.noSpareWait, State.persCheck_nil h.noPersonality, State.drainE_nil h.noReplyE,
    State.resetAfterReply_none h.noReset, h.running, ne_eq, not_true_eq_false, if_false,
    State.husk_same h.pinWords h.pinSafe h.pinDrive h.encoder, State.graceFollow_same h.accepts,
    State.stateTrace_same h.grist h.swaps h.kiln h.owner h.ring h.engine, State.eventCheck_same h.attention,
    State.traceAll_nil h.records h.events]

/-- In a device reset an edge's end does nothing. -/
theorem State.finish_reset (hp : s.pwr.phase ≠ .running) (hq : s.pending = s0.pending)
    (hh : (s0.flt.halted || s.flt.halted) = s.flt.halted) : s0.finish s = s := by
  rw [State.finish, if_neg hp, State.held_same hq hh]

/-- Settles O57: each part of an edge's end finds nothing to do. -/
theorem settledStatesEndTheirEdgeUnchanged : Obligations.SettledStatesEndTheirEdgeUnchanged := by
  unfold Obligations.SettledStatesEndTheirEdgeUnchanged
  refine ⟨fun s0 s h => ?_, fun s0 s hp hq hh => State.finish_reset hp hq (by rw [hh, Bool.false_or])⟩
  rw [State.finish, if_pos h.running, h.edgeRest, State.held_same h.queue (by rw [← h.halt, Bool.or_self])]

/-! ### Deaf devices -/

theorem State.alive_of_not_running (h : s.pwr.phase ≠ .running) : s.alive = false := by
  simp [State.alive, h]

theorem exec_gen1Nop (s : State) : exec .gen1Nop s = .next (s.finish s.gen1Nop) := rfl

/-- Settles O58: every row asks first whether Hopper, the blocks or the device are up. -/
theorem stoppedDevicesIgnoreHostsAndBlocks : Obligations.StoppedDevicesIgnoreHostsAndBlocks := by
  unfold Obligations.StoppedDevicesIgnoreHostsAndBlocks
  intro s
  refine ⟨fun h => ?_, fun h => ?_, fun h f => ?_, fun h => ⟨fun f => if_neg h, fun f => if_neg fun a => h a.1, ?_⟩⟩
  · have ha : s.alive = false := h.elim State.alive_of_not_running State.alive_of_halted
    exact ⟨State.hopperUp_of_not_alive ha, ha⟩
  · have hn : ¬ s.hopperUp = true := by rw [h]; decide
    refine ⟨fun _ _ _ => ⟨if_neg hn, if_neg hn⟩, State.hears_of_down h,
      fun p op r run => State.native_deaf (State.hears_of_down h _) op r run, fun p why => ?_, ?_⟩
    · rw [exec_commandPacketRejected, State.reject, if_pos (.inr (State.hears_of_down h _))]
    · rw [exec_gen1Nop, State.gen1Nop, State.hears_of_down h, if_neg Bool.false_ne_true]
  · exact if_neg (by rw [h]; decide)
  · exact State.finish_reset h rfl (Bool.or_self _)

/-! ### The end of a device reset -/

/-- Settles O59: every table of the state is empty, and each parameter stands at its table's value. -/
theorem resetLeavesTheTablesValues : Obligations.ResetLeavesTheTablesValues := by
  unfold Obligations.ResetLeavesTheTablesValues
  refine ⟨fun _ => rfl, rfl, rfl, rfl, rfl, rfl, fun _ => rfl, fun n h => ?_, fun _ => rfl, fun _ => rfl, fun _ => rfl, ?_⟩
  · have ho : State.reset.par P.HP_OWNER = 0 := by decide
    simp only [State.owns, ho, beq_iff_eq] at h
    exact h.symm
  · decide

end Sys2Proof.Machine
end

section
/-! Reset sources, the phases of a device reset, and what outlives one (R560, R564–R567, R570, R580, R598, R600). -/

namespace Sys2Proof.Machine

theorem exec_powerOn (s : State) : exec .powerOn s = .next (s.finish s.powerOn) := rfl
theorem exec_clockLoss (s : State) : exec .clockLoss s = .next (s.finish s.clockLoss) := rfl
theorem exec_pllLossOfLock (s : State) : exec .pllLossOfLock s = .next (s.finish s.pllLoss) := rfl
theorem exec_clockQualified (s : State) : exec .clockQualified s = .next (s.finish (s.phaseStep .clock .pll)) := rfl
theorem exec_pllLocked (s : State) : exec .pllLocked s = .next (s.finish (s.phaseStep .pll .otp)) := rfl
theorem exec_deviceResetCauseEnd (s : State) : exec .deviceResetCauseEnd s = .next (s.finish s.causeEnd) := rfl

variable (s : State) (b : Bool) (cause : Nat) (phase : ResetPhase)

/-! ### What a device reset leaves -/

@[simp] theorem State.testReset_t : (s.testReset b).t = s.t := s.testReset_keeps b State.t fun _ _ _ _ _ => rfl
@[simp] theorem State.testReset_sessions : (s.testReset b).sessions = s.sessions :=
  s.testReset_keeps b State.sessions fun _ _ _ _ _ => rfl
@[simp] theorem State.testReset_eng : (s.testReset b).eng = s.eng := s.testReset_keeps b State.eng fun _ _ _ _ _ => rfl
@[simp] theorem State.testReset_cells : (s.testReset b).cells = s.cells := s.testReset_keeps b State.cells fun _ _ _ _ _ => rfl
@[simp] theorem State.testReset_todo : (s.testReset b).todo = s.todo := s.testReset_keeps b State.todo fun _ _ _ _ _ => rfl
@[simp] theorem State.testReset_pending : (s.testReset b).pending = s.pending :=
  s.testReset_keeps b State.pending fun _ _ _ _ _ => rfl
@[simp] theorem State.testReset_grist : (s.testReset b).grist = s.grist := s.testReset_keeps b State.grist fun _ _ _ _ _ => rfl

/-- The trace buffer outlives every device reset but a power-on (R600). -/
theorem State.testReset_buffer : (s.testReset b).tst.buffer = if b then [] else s.tst.buffer := rfl

theorem State.resetBegin_pwr : (s.resetBegin cause phase).pwr =
    { phase := phase, cause := cause, vcore := s.pwr.vcore,
      vioA := s.pwr.vioA, avdd := s.pwr.avdd, vioB := s.pwr.vioB, avpos := s.pwr.avpos, avneg := s.pwr.avneg,
      keyState := s.pwr.keyState, keys := s.pwr.keys } := by
  simp only [State.resetBegin, State.setPar_pwr, State.testReset_pwr]

theorem State.resetBegin_pending : (s.resetBegin cause phase).pending = s.pending := by
  simp only [State.resetBegin, State.setPar_pending, State.testReset_pending]

theorem State.resetBegin_t : (s.resetBegin cause phase).t = 0 := by
  simp only [State.resetBegin, State.setPar_t, State.testReset_t]; rfl

theorem State.resetBegin_grist : (s.resetBegin cause phase).grist =
    { (if cause = 1 then {} else { staged := s.grist.staged, stagedRev := s.grist.stagedRev, patch := s.grist.patch,
                                   patchRev := s.grist.patchRev, patchSt := s.grist.patchSt } : Grist) with
      flash := s.flashAfterReset } := by
  simp only [State.resetBegin, State.setPar_grist, State.testReset_grist]

theorem State.resetBegin_buffer : (s.resetBegin cause phase).tst.buffer = if cause = 1 then [] else s.tst.buffer := by
  simp only [State.resetBegin, State.setPar_tst, State.testReset_buffer, beq_iff_eq]

/-! ### Sources and phases -/

theorem State.supplyDrop_begins {s : State} (h : s.pwr.phase ≠ .cause) (rail : Nat) : s.supplyDrop rail =
    (s.resetBegin 1 .cause).setPwr (let p := (s.resetBegin 1 .cause).pwr
      if rail = 0 then { p with vcore := false } else if rail = 1 then { p with vioA := false } else { p with avdd := false }) := by
  have hn : ¬ (s.pwr.phase = .cause ∧ s.pwr.cause = 1) := fun a => h a.1
  simp only [State.supplyDrop, if_neg hn]

theorem State.powerOn_rails : s.powerOn = { s with pwr := { s.pwr with vcore := true, vioA := true, avdd := true } } := by
  rw [State.powerOn]
  split
  case isTrue h =>
    have hpwr : s.pwr = { s.pwr with vcore := true, vioA := true, avdd := true } := by
      simp only [State.railsUp] at h
      cases hs : s.pwr
      simp_all
    rw [← hpwr]
  case isFalse => rfl

theorem State.resetSource_running {s : State} (hh : s.flt.halted = false) (hp : s.pwr.phase ≠ .cause) :
    s.resetSource cause phase = s.resetBegin cause phase := if_neg (by simp [hh, hp])

theorem State.phaseStep_at {s : State} {p : ResetPhase} (h : s.pwr.phase = p) (q : ResetPhase) :
    s.phaseStep p q = { s with pwr := { s.pwr with phase := q } } := if_pos h

theorem State.clockLoss_halted {s : State} (h : s.flt.halted = true) : s.clockLoss = s := by
  rw [State.clockLoss, State.resetSource_halted h, ite_self]

theorem State.pllLoss_halted {s : State} (h : s.flt.halted = true) : s.pllLoss = s := by
  rw [State.pllLoss, State.resetSource_halted h, ite_self]

/-- Settles O48: each source begins the reset or is ignored, each phase leads to the next, and a reset keeps what it names. -/
theorem resetSourcesAndPhasesComplete : Obligations.ResetSourcesAndPhasesComplete := by
  unfold Obligations.ResetSourcesAndPhasesComplete
  intro s
  refine ⟨?_, ⟨_, exec_supplyDrop s 0, rfl, rfl⟩, ?_, fun hh hp => ⟨?_, fun hc => ?_, fun hc hl => ?_⟩, fun hh => ⟨?_, ?_, ?_⟩,
    fun hp hc ha hd => ?_, fun hp => ?_, fun hp => ?_, ?_⟩
  · intro rail u hp hu
    rw [exec_supplyDrop, State.supplyDrop_begins hp] at hu
    cases hu
    have hpwr := s.resetBegin_pwr 1 .cause
    refine ⟨?_, ?_, congrArg FaultLogic.halted (s.resetBegin_flt 1 .cause), s.resetBegin_t 1 .cause, rfl, ?_⟩
    all_goals
      rw [State.setPwr_pwr, hpwr]
      match rail with
      | 0 => simp
      | 1 => simp
      | 2 => simp
  · rintro _ rfl
    rw [exec_powerOn, State.powerOn_rails]
  · rw [exec_resetN, State.resetN, State.resetSource_running _ _ hh hp]
  · rw [exec_clockLoss, State.clockLoss, if_neg hc, State.resetSource_running _ _ hh hp]
  · rw [exec_pllLossOfLock, State.pllLoss, if_neg (by simp [hc, hl]), State.resetSource_running _ _ hh hp]
  · rw [exec_resetN, State.resetN, State.resetSource_halted hh]
  · rw [exec_clockLoss, State.clockLoss_halted hh]
  · rw [exec_pllLossOfLock, State.pllLoss_halted hh]
  · rw [exec_deviceResetCauseEnd, State.causeEnd, if_pos (by simp [State.railsUp, hc, ha, hd]), State.phaseStep_at hp]
  · rw [exec_clockQualified, State.phaseStep_at hp]
  · rw [exec_pllLocked, State.phaseStep_at hp]
  · rintro cause phase _ rfl
    have hflash (h : s.grist.flashOp = none) : s.flashAfterReset = s.grist.flash := by
      simp only [State.flashAfterReset, h]
    refine ⟨s.resetBegin_phase cause phase, congrArg Power.cause (s.resetBegin_pwr cause phase), s.resetBegin_flt cause phase,
      s.resetBegin_t cause phase, ?_, ?_, ?_, ?_, s.resetBegin_pending cause phase, fun h => ?_, fun h => ?_, fun h => ?_⟩
    · simp only [State.resetBegin, State.setPar_sessions, State.testReset_sessions]
    · simp only [State.resetBegin, State.setPar_eng, State.testReset_eng]
    · simp only [State.resetBegin, State.setPar_cells, State.testReset_cells]
    · simp only [State.resetBegin, State.setPar_todo, State.testReset_todo]
    · rw [State.resetBegin_grist, hflash h]
    · rw [State.resetBegin_grist, State.resetBegin_buffer, if_neg h, if_neg h]
      exact ⟨rfl, rfl⟩
    · rw [State.resetBegin_grist, State.resetBegin_buffer, if_pos h, if_pos h]
      exact ⟨rfl, rfl⟩

end Sys2Proof.Machine
end

section
/-! The end of factory test mode, and trace: recording, marks and the buffer (R588, R589, R593–R596, R601). -/

namespace Sys2Proof.Machine

theorem exec_testmodeNHigh (s : State) : exec .testmodeNHigh s = .next (s.finish s.testPinHigh) := rfl
theorem exec_testModeIdleTimeout (s : State) : exec .testModeIdleTimeout s = .next (s.finish s.testIdle) := rfl
theorem exec_traceMark (s : State) (v : Word) :
    exec (.traceMark v) s = .next (s.finish (s.hostWrite P.TST_MARK 0 v.toNat)) := rfl
theorem exec_traceStart (s : State) : exec (.traceStart none) s = .next (s.finish (s.hostWrite P.TST_CTRL 0 1)) := rfl
theorem exec_traceStop (s : State) : exec (.traceStop none) s = .next (s.finish (s.hostWrite P.TST_CTRL 0 2)) := rfl
theorem exec_traceClear (s : State) : exec (.traceClear none) s = .next (s.finish (s.hostWrite P.TST_CTRL 0 3)) := rfl
theorem exec_tstCtrlClearCounters (s : State) :
    exec .tstCtrlClearCounters s = .next (s.finish (s.hostWrite P.TST_CTRL 0 4)) := rfl
theorem exec_traceFifoDrain (s : State) : exec .traceFifoDrain s = .next (s.finish s.traceDrain) := rfl

variable {s : State}

/-! ### Factory test mode -/

theorem State.testEnd_off (h : s.tst.testMode = false) : s.testEnd = s := by
  simp [State.testEnd, h]

theorem State.testEnd_on (h : s.tst.testMode = true) : s.testEnd =
    ({ s with tst := { s.tst with testMode := false, testPort := 0, challenge := none } } : State).trace 0x0C 0 := if_pos h

/-! ### `TST_CTRL` and `TST_MARK` -/

/-- `TST_MARK` takes every word. -/
theorem valueOk_TST_MARK (v : Word) : valueOk P.TST_MARK 0 v.toNat = true := by
  have hval : valueOk P.TST_MARK 0 v.toNat = (inSpans [(0, 4294967295)] v.toNat && true) := rfl
  have hspan : v.toNat ≤ 4294967295 := by omega
  rw [hval]
  simp [inSpans, hspan]

/-- The four commands of `TST_CTRL`, taken as host writes (R601). -/
theorem exec_tstCtrl_commands (hup : s.hopperUp = true) (hr : s.resetting Fb.test = false) :
    exec (.traceStart none) s = .next (s.finish s.traceStart.done) ∧
    exec (.traceStop none) s = .next (s.finish s.traceStop.done) ∧
    exec (.traceClear none) s = .next (s.finish s.traceClear.done) ∧
    exec .tstCtrlClearCounters s = .next (s.finish s.tstClear) := by
  refine ⟨?_, ?_, ?_, ?_⟩
  · rw [exec_traceStart, State.hostWrite_TST_CTRL hup (by decide) hr]; rfl
  · rw [exec_traceStop, State.hostWrite_TST_CTRL hup (by decide) hr]; rfl
  · rw [exec_traceClear, State.hostWrite_TST_CTRL hup (by decide) hr]; rfl
  · rw [exec_tstCtrlClearCounters, State.hostWrite_TST_CTRL hup (by decide) hr]; rfl

/-! ### The buffer -/

/-- The buffer takes the oldest entry of its FIFO (R594). -/
theorem State.traceDrain_room {e : TraceEntry} {rest : List TraceEntry} (hp : s.pwr.phase = .running)
    (hf : s.tst.fifo = e :: rest) (hroom : s.tst.buffer.length < s.traceDepth) :
    s.traceDrain = { s with tst := { s.tst with fifo := rest, buffer := s.tst.buffer ++ [e] } } := by
  simp [State.traceDrain, hp, hf, Nat.not_le.mpr hroom]; rfl

/-- A full buffer that does not stop overwrites its oldest entry (R595). -/
theorem State.traceDrain_full {e : TraceEntry} {rest : List TraceEntry} (hp : s.pwr.phase = .running)
    (hf : s.tst.fifo = e :: rest) (hfull : s.traceDepth ≤ s.tst.buffer.length) (hb : s.tst.buffer ≠ [])
    (hm : s.par P.TST_TRCMODE ≠ 1) :
    s.traceDrain = { s with tst := { s.tst with fifo := rest, buffer := dropOldest s.tst.buffer ++ [e] } } := by
  simp [State.traceDrain, hp, hf, hfull, hb, hm]; rfl

/-! ### The obligation -/

/-- Settles O52: what each row finds it acts on. -/
theorem testAndTraceComplete : Obligations.TestAndTraceComplete := by
  unfold Obligations.TestAndTraceComplete
  intro s
  refine ⟨?_, fun hm ht => ?_, fun hup hr => ?_, fun hp => ⟨fun hf => ?_, fun e rest hf => ⟨fun hroom => ?_, fun hfull hb hm => ?_⟩⟩⟩
  · rintro _ rfl
    refine ⟨fun hm => ?_, fun hm => ?_⟩
    · rw [exec_testmodeNHigh, State.testPinHigh, State.testEnd_off (s := s.setTst { s.tst with testPinN := true }) hm]; rfl
    · rw [exec_testmodeNHigh, State.testPinHigh,
        State.testEnd_on (s := s.setTst { s.tst with testPinN := true }) hm]; rfl
  · rw [exec_testModeIdleTimeout, State.testIdle, if_pos ⟨hm, ht⟩, State.testEnd_on hm]
  · obtain ⟨hstart, hstop, hclear, hcount⟩ := exec_tstCtrl_commands hup hr
    refine ⟨fun v => ?_, fun h => ?_, fun h => ?_, hstop, hclear, hcount⟩
    · rw [exec_traceMark, State.hostWrite_TST_MARK hup (valueOk_TST_MARK v) hr]; rfl
    · rw [hstart, State.traceStart, if_neg (by rw [h]; decide)]; rfl
    · rw [hstart, State.traceStart, if_pos h]
  · rw [exec_traceFifoDrain]
    simp [State.traceDrain, hp, hf]
  · rw [exec_traceFifoDrain, State.traceDrain_room hp hf hroom]
  · rw [exec_traceFifoDrain, State.traceDrain_full hp hf hfull hb hm]

end Sys2Proof.Machine
end

section
/-! Boundary scan: what an instruction of the TAP leaves, the package's balls and what the core drives at them (R507, R528–R532,
R582–R587). -/

namespace Sys2Proof.Machine

theorem exec_jtagTestLogicReset (s : State) : exec .jtagTestLogicReset s = .next (s.finish (s.tapInstr 0x02 false)) := rfl
theorem exec_idcode (s : State) : exec .idcode s = .next (s.finish s.idcodeRead) := rfl
theorem exec_bypass (s : State) : exec .bypass s = .next (s.finish (s.tapLoad 0xFF false)) := rfl
theorem exec_extest (s : State) : exec .extest s = .next (s.finish (s.tapLoad 0x00 true)) := rfl
theorem exec_jtagClamp (s : State) : exec .jtagClamp s = .next (s.finish (s.tapLoad 0x03 true)) := rfl
theorem exec_highz (s : State) : exec .highz s = .next (s.finish (s.tapLoad 0x04 true)) := rfl
theorem exec_samplePreload (s : State) (balls shifted : BitVec 341) :
    exec (.samplePreload balls shifted) s = .next (s.finish (s.samplePreload balls.toNat shifted.toNat)) := rfl

variable {s : State}

/-! ### The TAP's supplies -/

theorem State.tapUp_iff : s.tapUp = true ↔ s.pwr.vcore = true ∧ s.pwr.vioB = true := by simp [State.tapUp]

theorem State.tapUp_false_iff : s.tapUp = false ↔ s.pwr.vcore = false ∨ s.pwr.vioB = false := by
  rw [State.tapUp, Bool.and_eq_false_iff]

/-! ### What loading an instruction does -/

/-- An instruction becomes current while the TAP has its supplies. -/
theorem State.tapInstr_up (h : s.tapUp = true) (code : Nat) (isolates : Bool) : s.tapInstr code isolates =
    (if isolates then s.tapEnter else s.tapLeave).setTst
      { (if isolates then s.tapEnter else s.tapLeave).tst with ir := code, bypass := false } := if_pos h

theorem State.tapInstr_down (h : s.tapUp = false) (code : Nat) (isolates : Bool) : s.tapInstr code isolates = s := by
  simp [State.tapInstr, h]

theorem State.tapLoad_down (h : s.tapUp = false) (code : Nat) (isolates : Bool) : s.tapLoad code isolates = s := by
  have hc : s.captureIr = s := by simp [State.captureIr, h]
  rw [State.tapLoad, hc, State.tapInstr_down h]

/-- Capture-IR with the supplies there (R583). -/
theorem State.captureIr_up (h : s.tapUp = true) : s.captureIr = { s with tst := { s.tst with
    irCapture := 128 * b2n (s.flt.halted && s.pwr.phase == .running) + 64 * b2n s.tst.testMode + 1 } } := if_pos h

/-- An instruction that isolates is loaded (R583, R586). -/
theorem State.tapLoad_isolates (h : s.tapUp = true) (code : Nat) : s.tapLoad code true =
    s.captureIr.tapEnter.setTst { s.captureIr.tapEnter.tst with ir := code, bypass := false } := by
  have hc : s.captureIr.tapUp = true := by rw [State.captureIr_up h]; exact h
  rw [State.tapLoad, State.tapInstr_up hc]; rfl

/-- Without the TAP's supplies no row that loads an instruction has an effect. -/
theorem exec_tap_down (h : s.tapUp = false) :
    exec .jtagTestLogicReset s = .next (s.finish s) ∧
    exec .idcode s = .next (s.finish s) ∧ exec .bypass s = .next (s.finish s) ∧ exec .extest s = .next (s.finish s) ∧
    exec .jtagClamp s = .next (s.finish s) ∧ exec .highz s = .next (s.finish s) ∧ exec .recdata s = .next (s.finish s) ∧
    (∀ sel : BitVec 16, exec (.recsel sel) s = .next (s.finish s)) := by
  have hid : s.idcodeRead = s := by simp [State.idcodeRead, h]
  have hrd : s.recRead = s := by simp [State.recRead, h]
  have hsel (k : Nat) : s.recSelect k = s := by simp [State.recSelect, h]
  simp [exec_jtagTestLogicReset, exec_idcode, exec_bypass, exec_extest, exec_jtagClamp, exec_highz, exec_recdata, exec_recsel,
    State.tapInstr_down h, State.tapLoad_down h, hid, hrd, hsel]

/-- Isolation begins once (R586). -/
theorem State.tapEnter_eq : s.tapEnter = if s.tst.isolated = true then s
    else (({ s with tst := { s.tst with isolated := true } } : State).bump P.TST_JTAGCNT).raise Fb.test 5 1 := rfl

/-- The rows of the TAP with its supplies there. -/
theorem exec_tap_up (hup : s.tapUp = true) (set : State → Nat → State)
    (hset : ∀ v k, set v k = { v with tst := { v.tst with ir := k, bypass := false } }) :
    exec .jtagTestLogicReset s = .next (s.finish (set s.tapLeave 0x02)) ∧
    (∀ v : State, v = set s.captureIr.tapLeave 0x02 →
      exec .idcode s = .next (s.finish { v with tst := { v.tst with idcode := 0x2B6A41D3 } })) ∧
    exec .bypass s = .next (s.finish (set s.captureIr.tapLeave 0xFF)) ∧
    (∀ sel : BitVec 16, ∀ v : State, v = set s.captureIr.tapLeave 0x10 →
      exec (.recsel sel) s = .next (s.finish { v with tst := { v.tst with recsel := sel.toNat } })) ∧
    (∀ v : State, v = set s.captureIr.tapLeave 0x11 → exec .recdata s = .next (s.finish { v with tst := { v.tst with
      recdata := v.recBytes v.tst.recsel, recsel := nextSel v.tst.recsel } })) ∧
    (∀ balls shifted : BitVec 341, ∀ v : State, v = set s.captureIr.tapLeave 0x01 → exec (.samplePreload balls shifted) s =
      .next (s.finish { v with tst := { v.tst with bscan := s.boundaryCapture balls.toNat, boundary := shifted.toNat } })) ∧
    exec .extest s = .next (s.finish (set s.captureIr.tapEnter 0x00)) ∧
    exec .jtagClamp s = .next (s.finish (set s.captureIr.tapEnter 0x03)) ∧
    exec .highz s = .next (s.finish (set s.captureIr.tapEnter 0x04)) := by
  have hleave (k : Nat) : s.tapLoad k false = set s.captureIr.tapLeave k := by rw [s.tapLoad_leaves hup, hset]; rfl
  have henter (k : Nat) : s.tapLoad k true = set s.captureIr.tapEnter k := by rw [State.tapLoad_isolates hup, hset]; rfl
  refine ⟨?_, ?_, ?_, fun sel => ?_, ?_, fun balls shifted => ?_, ?_, ?_, ?_⟩
  · rw [exec_jtagTestLogicReset, State.tapInstr_up hup, hset]; rfl
  · rintro _ rfl
    rw [exec_idcode, State.idcodeRead, if_pos hup, hleave]; rfl
  · rw [exec_bypass, hleave]
  · rintro _ rfl
    rw [exec_recsel, State.recSelect, if_pos hup, hleave, Nat.mod_eq_of_lt sel.isLt]; rfl
  · rintro _ rfl
    rw [exec_recdata, State.recRead, if_pos hup, hleave]; rfl
  · rintro _ rfl
    rw [exec_samplePreload, State.samplePreload, if_pos hup, hleave]; rfl
  · rw [exec_extest, henter]
  · rw [exec_jtagClamp, henter]
  · rw [exec_highz, henter]

/-! ### The pins under boundary scan (R586) -/

theorem State.pinDrive_highz (hp : s.pwr.phase = .running) (hi : s.tst.isolated = true) (hz : s.tst.ir = 0x04) (p : Nat) :
    s.pinDrive p = (false, false) := by
  simp [State.pinDrive, hp, hi, hz]

theorem State.pinDrive_boundary (hp : s.pwr.phase = .running) (hi : s.tst.isolated = true) (hz : s.tst.ir ≠ 0x04) (p : Nat) :
    s.pinDrive p = (bitOf s.tst.boundary (3 * p + 1), bitOf s.tst.boundary (3 * p + 2)) := by
  simp [State.pinDrive, hp, hi, hz]

theorem State.cellDrive_isolated (hi : s.tst.isolated = true) (n : Nat) : s.cellDrive n = .off := by
  simp [State.cellDrive, hi]

/-! ### The balls (R528–R530) -/

set_option maxRecDepth 8000 in
/-- How many balls of each net the package has (Table 18.2). -/
theorem allBalls_counts : allBalls.length = 484 ∧ allBalls.count .vcore = 72 ∧ allBalls.count .dvss = 84 ∧
    allBalls.count .vioA = 7 ∧ allBalls.count .vioB = 5 ∧ allBalls.count .avdd = 10 ∧ allBalls.count .avpos = 4 ∧
    allBalls.count .avneg = 4 ∧ allBalls.count .agnd = 69 ∧ (allBalls.filter BallNet.isSignal).length = 229 := by
  exact ⟨rfl, rfl, rfl, rfl, rfl, rfl, rfl, rfl, rfl, rfl⟩

/-- The balls of the cells lie in columns 1, 2, 4, 5, 7 and 8 (R529). -/
theorem ballNet_cell {n : Nat} (hn : n < 64) :
    ballNet (n / 3 + 1) (3 * (n % 3) + 1) = .cellP n ∧ ballNet (n / 3 + 1) (3 * (n % 3) + 2) = .cellN n := by
  decide +revert

/-- The balls of the general pins lie in columns 22, 21 and 20 (R530). -/
theorem ballNet_gp {p : Nat} (hp : p < 48) : ballNet (gpBall p).1 (gpBall p).2 = .gp p := by
  decide +revert

/-! ### What the core drives at the dedicated balls (Table 18.3) -/

theorem State.dedicatedDrive_unsupplied {x : Dedicated} (h : (if x.onVioA then s.pwr.vioA else s.pwr.vioB) = false) :
    s.dedicatedDrive x = none := if_pos h

/-- With both banks supplied and the device in reset, the reset column holds. -/
theorem State.dedicatedDrive_reset (hA : s.pwr.vioA = true) (hB : s.pwr.vioB = true) (hp : s.pwr.phase ≠ .running)
    (x : Dedicated) : s.dedicatedDrive x = some (x.inReset s.flt.halted) := by
  simp [State.dedicatedDrive, hA, hB, hp]

/-- With both banks supplied and the device running, the block that owns a ball drives it. -/
theorem State.dedicatedDrive_running (hA : s.pwr.vioA = true) (hB : s.pwr.vioB = true) (hp : s.pwr.phase = .running)
    (x : Dedicated) : s.dedicatedDrive x = some (s.dedicatedRun x) := by
  simp [State.dedicatedDrive, hA, hB, hp]

theorem State.dedicatedDrive_input (hA : s.pwr.vioA = true) (hB : s.pwr.vioB = true) {x : Dedicated} (hx : x.isInput = true) :
    s.dedicatedDrive x = some .input := by
  by_cases hp : s.pwr.phase = .running
  · have hrun : s.dedicatedRun x = .input := if_pos hx
    rw [State.dedicatedDrive_running hA hB hp, hrun]
  · have hreset : x.inReset s.flt.halted = .input := if_pos hx
    rw [State.dedicatedDrive_reset hA hB hp, hreset]

/-- The core drives SL_BYP_N high exactly with the sync link enabled. -/
theorem State.dedicatedRun_slBypN (hp : s.pwr.phase = .running) :
    s.dedicatedRun .slBypN = if s.par P.SL_ENABLE = 1 then .high else .low := by
  simp [State.dedicatedRun, Dedicated.isInput, BallDrive.ofLevel, State.slBypCore, hp]

theorem State.slBypN_of_not_running (hp : s.pwr.phase ≠ .running) : s.slBypN = false := if_pos (Or.inl hp)

/-- Outside boundary scan's isolation the ball SL_BYP_N follows the core's drive. -/
theorem State.slBypN_iff (hi : s.tst.isolated = false) :
    s.slBypN = true ↔ s.pwr.phase = .running ∧ s.pwr.vioB = true ∧ s.par P.SL_ENABLE = 1 := by
  by_cases hp : s.pwr.phase = .running <;> by_cases hb : s.pwr.vioB = true <;>
    simp [State.slBypN, State.slBypCore, hi, hp, hb]

/-! ### The obligation -/

/-- Settles O51: the TAP's rows with and without its supplies, the pins under isolation, the balls counted, and the drives of
Table 18.3 in reset and out of it. -/
theorem jtagIsolatesAndSelects : Obligations.JtagIsolatesAndSelects := by
  unfold Obligations.JtagIsolatesAndSelects
  refine ⟨fun s => ⟨fun hvc hvb c u set hc hu hset => ?_, fun h => exec_tap_down (State.tapUp_false_iff.2 h)⟩,
    fun s p hp hi => ⟨fun hz => State.pinDrive_highz hp hi hz p, fun hz => State.pinDrive_boundary hp hi hz p,
      State.cellDrive_isolated hi⟩,
    ?_, fun s => ⟨fun x hx => State.dedicatedDrive_unsupplied hx, fun hA hB => ⟨fun x hx => State.dedicatedDrive_input hA hB hx,
      fun hp => ?_, fun hp => ?_⟩, State.slBypN_iff, State.slBypN_of_not_running⟩⟩
  · have hup : s.tapUp = true := State.tapUp_iff.2 ⟨hvc, hvb⟩
    obtain rfl : c = s.captureIr := hc.trans (State.captureIr_up hup).symm
    obtain ⟨htlr, hid, hbyp, hsel, hdat, hsam, hext, hclp, hhz⟩ := exec_tap_up hup set hset
    subst hu
    refine ⟨htlr, hid, hbyp, hsel, hdat, hsam, fun i hi => ?_, by rw [State.tapLeave_tst]⟩
    have henter : i = s.captureIr.tapEnter := by
      rw [hi, State.tapEnter_eq, State.captureIr_up hup]
    rw [henter]
    exact ⟨hext, hclp, hhz⟩
  · obtain ⟨h0, h1, h2, h3, h4, h5, h6, h7, h8, h9⟩ := allBalls_counts
    refine ⟨h0, h1, h2, h3, h4, h5, h6, h7, h8, h9, fun n hn => ballNet_cell hn, fun p hp => ?_, fun p hlo hhi => ?_,
      fun p hlo hhi => ?_⟩
    · simpa [gpBall, show p ≤ 17 by omega] using ballNet_gp (p := p) (by omega)
    · simpa [gpBall, show ¬ p ≤ 17 by omega, show p ≤ 35 by omega] using ballNet_gp (p := p) (by omega)
    · simpa [gpBall, show ¬ p ≤ 17 by omega, show ¬ p ≤ 35 by omega] using ballNet_gp (p := p) (by omega)
  · simp only [State.dedicatedDrive_reset hA hB hp]
    exact ⟨rfl, rfl, rfl, rfl, rfl, rfl, rfl, rfl⟩
  · simp only [State.dedicatedDrive_running hA hB hp, State.dedicatedRun_slBypN hp]
    exact ⟨trivial, rfl, rfl, rfl⟩

end Sys2Proof.Machine
end

section
/-! The host ports' control parameters, the reads that latch, and the holdoff of event datagrams (R382, R393, R396, R419, R577). -/

namespace Sys2Proof.Machine

theorem exec_hpPortenWrite (s : State) (v : Word) :
    exec (.hpPortenWrite v) s = .next (s.finish (s.hostWrite P.HP_PORTEN 0 v.toNat)) := rfl
theorem exec_hpPctrlClearCounters (s : State) :
    exec .hpPctrlClearCounters s = .next (s.finish (s.hostWrite P.HP_PCTRL 0 1)) := rfl
theorem exec_hpTimelRead (s : State) : exec .hpTimelRead s = .next (s.finish (s.hostRead P.HP_TIMEL 0)) := rfl
theorem exec_hpPtpofslRead (s : State) : exec .hpPtpofslRead s = .next (s.finish (s.hostRead P.HP_PTPOFSL 0)) := rfl
theorem exec_eventHoldoffExpiry (s : State) : exec .eventHoldoffExpiry s = .next (s.finish s.eventHoldoff) := rfl

variable {s : State}

/-! ### Accesses of a block that is being reset (R577) -/

/-- A write of a parameter whose block is being reset is refused. -/
theorem State.hostWrite_busy {id inst v : Nat} {d : ParamDef} (hd : paramDef? id = some d) (hattr : d.attr ≠ .ro)
    (hup : s.hopperUp = true) (hi : inst < d.count) (hv : valueOk id inst v = true)
    (hr : s.resetting (ownerOf id inst) = true) : s.hostWrite id inst v = s.answer Status.busyLocked := by
  have hexists : paramExists id inst = true := by simp [paramExists, hd, hi]
  have ha : attrOf id ≠ .ro := by simpa [attrOf, hd] using hattr
  have hcheck : s.writeCheck id inst v = (Status.busyLocked, 0) := by simp [State.writeCheck, hexists, ha, hv, hr]
  exact State.hostWrite_refused hup hcheck (by decide)

/-- A read of a parameter whose block is being reset is refused. -/
theorem State.hostRead_busy {id inst : Nat} (hup : s.hopperUp = true) (hexists : paramExists id inst = true)
    (hr : s.resetting (ownerOf id inst) = true) : s.hostRead id inst = s.answer Status.busyLocked := by
  have hstatus : s.readStatus id inst = Status.busyLocked := by simp [State.readStatus, hexists, hr]
  rw [State.hostRead, if_pos hup, State.readParam, hstatus]
  rfl

/-- A read that is not refused latches, and answers its value. -/
theorem State.hostRead_latched {id inst : Nat} (hup : s.hopperUp = true) (hexists : paramExists id inst = true)
    (hr : s.resetting (ownerOf id inst) = false) (hram : id ≠ P.FAB_RAMDAT) :
    s.hostRead id inst = (s.readLatch id inst).done (leBytes 4 ((s.readLatch id inst).readValue 0 id inst)) := by
  have hstatus : s.readStatus id inst = Status.ok := by simp [State.readStatus, hexists, hr, hram]
  have hitems : s.readItems 0 [(id, inst)] = ([(s.readLatch id inst).readValue 0 id inst], s.readLatch id inst) := by
    simp [State.readItems, State.readAdvance, hram]
  rw [State.hostRead, if_pos hup, State.readParam, hstatus, hitems]
  rfl

/-! ### `HP_PORTEN` (R396) -/

/-- `HP_PORTEN` in the parameter table. -/
def hpPortenDef : ParamDef := ⟨P.HP_PORTEN, .rwLive, 1, .all 0xF, .bits 0xF⟩

/-- `HP_PORTEN` takes four bits. -/
theorem valueOk_HP_PORTEN (v : Nat) : valueOk P.HP_PORTEN 0 v = decide (v < 16) := by
  have hval : valueOk P.HP_PORTEN 0 v = (decide (v &&& 2 ^ 4 - 1 = v) && true) := rfl
  have hmod : v % 2 ^ 4 = v ↔ v < 16 := by omega
  rw [hval, Bool.and_true, Nat.and_two_pow_sub_one_eq_mod, decide_eq_decide.2 hmod]

/-- Ports whose bits are cleared end their sessions, and the PTP port follows Port E's link (R396). -/
theorem State.portenSet_eq (v : Nat) : s.portenSet v =
    ([1, 2, 3, 4].foldl (fun (u : State) k =>
      if bitOf (s.par P.HP_PORTEN) (k - 1) = true ∧ bitOf v (k - 1) = false then u.portOff k else u)
        (s.setPar P.HP_PORTEN 0 v)).ptpLink := by
  simp [State.portenSet]

theorem State.hostWrite_HP_PORTEN {v : Nat} (hup : s.hopperUp = true) (hr : s.resetting Fb.ports = false) (hv : v < 16) :
    s.hostWrite P.HP_PORTEN 0 v = (s.portenSet v).done :=
  State.hostWrite_live (d := hpPortenDef) rfl hup rfl Nat.one_pos (by simpa [valueOk_HP_PORTEN] using hv) hr rfl rfl

/-! ### Event datagrams (R419) -/

/-- Nothing is held back, or its holdoff has not passed. -/
theorem State.eventHoldoff_none
    (h : s.hp.eth.eventHeld = false ∨ s.hp.eth.eventAt.all (fun t => decide (s.t < t + msTicks (s.par P.HP_EEVTMIN))) = true) :
    s.eventHoldoff = s := by
  rw [State.eventHoldoff]
  cases hat : s.hp.eth.eventAt with
  | none => rfl
  | some t =>
    refine if_neg ?_
    simp only [Bool.and_eq_true, decide_eq_true_eq, not_and, Nat.not_le]
    intro hheld
    rcases h with h | h
    · exact absurd hheld.2 (by simp [h])
    · simpa [hat] using h

/-- An event held back leaves once its holdoff has passed, where Port E can send it. -/
theorem State.eventHoldoff_due {t : Nat} (hup : s.hopperUp = true) (hheld : s.hp.eth.eventHeld = true)
    (hat : s.hp.eth.eventAt = some t) (hdue : t + msTicks (s.par P.HP_EEVTMIN) ≤ s.t) : s.eventHoldoff = s.eventSend := by
  simp [State.eventHoldoff, hat, hup, hheld, hdue]

/-! ### The obligation -/

/-- Settles O39: refusals first, then what each write, read and the holdoff's expiry does. -/
theorem portParametersComplete : Obligations.PortParametersComplete := by
  unfold Obligations.PortParametersComplete
  intro s hup
  refine ⟨fun hr => ⟨fun v hv => ?_, ?_, ?_, ?_⟩, fun v hv => ?_, fun hr => ?_, fun v hr hv => ?_, fun hr => ⟨?_, ?_⟩, fun h => ?_,
    fun t hheld hat hdue => ?_⟩
  · rw [exec_hpPortenWrite,
      State.hostWrite_busy (id := P.HP_PORTEN) (d := hpPortenDef) rfl nofun hup Nat.one_pos (by simpa [valueOk_HP_PORTEN] using hv) hr]
  · rw [exec_hpPctrlClearCounters, State.hostWrite_busy (id := P.HP_PCTRL) (d := ⟨P.HP_PCTRL, .cmd, 1, .each [], .spans [(1, 1)]⟩) rfl nofun hup
      Nat.one_pos (by decide) hr]
  · rw [exec_hpTimelRead, State.hostRead_busy (id := P.HP_TIMEL) hup (by decide) hr]
  · rw [exec_hpPtpofslRead, State.hostRead_busy (id := P.HP_PTPOFSL) hup (by decide) hr]
  · have hrange : valueOk P.HP_PORTEN 0 v.toNat = false := by simpa [valueOk_HP_PORTEN] using hv
    rw [exec_hpPortenWrite, State.hostWrite_refused hup
      (State.writeCheck_range (d := hpPortenDef) rfl nofun Nat.one_pos hrange) (by decide)]
  · rw [exec_hpPctrlClearCounters, State.hostWrite_HP_PCTRL hup (by decide) hr]; rfl
  · rw [exec_hpPortenWrite, State.hostWrite_HP_PORTEN hup hr hv, State.portenSet_eq]
  · rw [exec_hpTimelRead, State.hostRead_latched (id := P.HP_TIMEL) hup (by decide) hr (by decide)]; rfl
  · rw [exec_hpPtpofslRead, State.hostRead_latched (id := P.HP_PTPOFSL) hup (by decide) hr (by decide)]; rfl
  · rw [exec_eventHoldoffExpiry, State.eventHoldoff_none h]
  · rintro _ rfl
    rw [exec_eventHoldoffExpiry, State.eventHoldoff_due hup hheld hat hdue]
    rfl

end Sys2Proof.Machine
end

section
/-! Ports S2 and U as the device answers on them, and links that end in silence (R267, R398, R403–R409). -/

namespace Sys2Proof.Machine

theorem exec_s2Read (s : State) (whole : Bool) : exec (.s2Read whole) s = .next (s.finish (s.s2Read whole)) := rfl
theorem exec_s2Status (s : State) : exec .s2Status s = .next (s.finish s.s2Status) := rfl
theorem exec_s2WriteAbort (s : State) : exec .s2WriteAbort s = .next (s.finish s.s2WriteAbort) := rfl
theorem exec_uFrameGap (s : State) (complete : Bool) :
    exec (.uFrameGap complete) s = .next (s.finish (s.uFrameGap complete)) := rfl
theorem exec_uFramingError (s : State) : exec .uFramingError s = .next (s.finish s.uFramingError) := rfl
theorem exec_uTransmit (s : State) (c : Option Nat) : exec (.uTransmit c) s = .next (s.finish (s.uTransmit c)) := rfl
theorem exec_linkTimeout (s : State) (port : HostPort) :
    exec (.linkTimeout port) s = .next (s.finish (s.linkTimeout (portCode port))) := rfl

variable {s : State}

theorem State.alive_iff : s.alive = true ↔ s.pwr.phase = .running ∧ s.flt.halted = false := by simp [State.alive]

/-! ### HIBERNATE and the ports that serve -/

theorem State.portServes_iff {port : Nat} :
    s.portServes port = true ↔ s.alive = true ∧ s.portOn port = true ∧ s.kiln.state ≠ .hibernate := by
  simp [State.portServes, and_assoc]

theorem State.portServes_hibernate (h : s.kiln.state = .hibernate) (port : Nat) : s.portServes port = false := by
  simp [State.portServes, h]

/-! ### Port S2 (R403–R405) -/

/-- A READ that the port does not serve, or that is cut short, changes nothing. -/
theorem State.s2Read_none {whole : Bool} (h : s.portServes 2 = false ∨ whole = false) : s.s2Read whole = s := if_pos h

/-- A READ clocked out whole finds no reply. -/
theorem State.s2Read_empty (h : s.portServes 2 = true) (hr : (s.session 2).ready = []) :
    s.s2Read true = s.done (leBytes 2 0) := by
  simp [State.s2Read, h, hr]

/-- A READ clocked out whole takes the head reply with its length. -/
theorem State.s2Read_head (h : s.portServes 2 = true) {r : Reply} {rest : List Reply} (hr : (s.session 2).ready = r :: rest) :
    s.s2Read true = (s.setSession 2 { s.session 2 with ready := rest }).done (leBytes 2 r.bytes.length ++ r.bytes) := by
  simp [State.s2Read, h, hr]

theorem State.s2Status_hibernate (h : s.kiln.state = .hibernate) : s.s2Status = s := if_neg (by simp [h])

/-- The byte of STATUS on a device that is READY (Table 14.4). -/
theorem State.s2Status_ready (h : s.portServes 2 = true) (hstep : s.pwr.step = .ready) : s.s2Status = s.done (leBytes 1
    (b2n (!(s.session 2).ready.isEmpty) + 2 * b2n (decide ((s.hp.waits.filter (fun w => w.port == 2)).length < 4))
      + 4 * b2n s.irqLow + 8 * b2n (s.owns 2))) := by
  obtain ⟨halive, hon, hk⟩ := State.portServes_iff.1 h
  obtain ⟨hrun, hhalt⟩ := State.alive_iff.1 halive
  have hbyte : s.s2StatusByte = b2n (!(s.session 2).ready.isEmpty)
      + 2 * b2n (decide ((s.hp.waits.filter (fun w => w.port == 2)).length < 4)) + 4 * b2n s.irqLow + 8 * b2n (s.owns 2) :=
    if_neg (by simp [hhalt, hstep])
  rw [State.s2Status, if_pos ⟨hrun, hon, hk⟩, hbyte]

/-! ### Port U (R406–R409) -/

theorem State.uFrameGap_whole (h : s.hears 3 = true) : s.uFrameGap true =
    { s with hp := { s.hp with uAddressed := true, uIdle := s.t - 2000000000 / s.uBaud } } := by
  simp [State.uFrameGap, h]

theorem State.uFrameGap_cut (h : s.hears 3 = true) : s.uFrameGap false =
    ({ s with hp := { s.hp with uIdle := s.t - 2000000000 / s.uBaud } } : State).bump P.HP_UFRERR := by
  simp [State.uFrameGap, h]

theorem State.uTransmit_waits (h : s.uMaySend = false) (c : Option Nat) : s.uTransmit c = s := if_pos h

/-- Before a frame addressed to it has ended, and within the turnaround, Port U sends nothing. -/
theorem State.uMaySend_early
    (h : s.hp.uAddressed = false ∨ (s.t - s.hp.uIdle) * s.uBaud < s.par P.HP_UTURN * 100000000) : s.uMaySend = false := by
  rcases h with h | h
  · simp [State.uMaySend, h]
  · simp [State.uMaySend, State.uBitsOver, Nat.not_le.2 h]

theorem State.uMaySend_over (hp : s.portServes 3 = true) (ha : s.hp.uAddressed = true)
    (ht : s.par P.HP_UTURN * 100000000 ≤ (s.t - s.hp.uIdle) * s.uBaud) : s.uMaySend = true := by
  simp [State.uMaySend, State.uBitsOver, hp, ha, ht]

/-- Without a collision every ready reply is sent. -/
theorem State.uTransmit_all (h : s.uMaySend = true) {l : List Reply} (hl : l = (s.session 3).ready) {u : State}
    (hu : u = s.setSession 3 { s.session 3 with ready := l.drop l.length }) : s.uTransmit none = { u with hp := { u.hp with
      uAddressed := false, uSent := l, uDe := (if l = [] then none else
        some (s.t, 1 + 10 * (l.map (fun r => 1 + r.bytes.length)).sum + s.par P.HP_UDEHOLD)) } } := by
  subst hl hu
  simp [State.uTransmit, h, State.uDeBits]

/-- A collision within reply `k` ends the transmission there. -/
theorem State.uTransmit_collision (h : s.uMaySend = true) {l : List Reply} (hl : l = (s.session 3).ready) {k : Nat}
    (hk : k < l.length) {u : State} (hu : u = s.setSession 3 { s.session 3 with ready := l.drop k }) :
    s.uTransmit (some k) = ((({ u with hp := { u.hp with
      uAddressed := false, uSent := l.take k, uDe := none } } : State).bump P.HP_UCOLL).raise Fb.ports 1 1 (inst := 2)) := by
  subst hl hu
  simp [State.uTransmit, h, hk]

/-! ### Links (R398) -/

/-- A port silent for `HP_LINKTO` loses its link. -/
theorem State.linkTimeout_due {port : Nat} (hup : s.hopperUp = true) (hn : s.par P.HP_LINKTO (port - 1) ≠ 0)
    (hdue : tblGet 0 s.hp.lastValid port + msTicks (s.par P.HP_LINKTO (port - 1)) ≤ s.t) :
    s.linkTimeout port = s.linkLost port := by
  simp [State.linkTimeout, hup, hn, hdue]

/-- A port without a link loses none. -/
theorem State.linkLost_none {port : Nat} (hl : s.hp.links.contains port = false) (hp : port ≠ 4) : s.linkLost port = s := by
  simp only [State.linkLost, hl, if_neg hp]
  rfl

/-- A link's loss ends the port's ownership and is recorded; Port E's is one for PTP too. -/
theorem State.linkLost_linked {port : Nat} (hl : s.hp.links.contains port = true) : s.linkLost port =
    if port = 4 then
      ((({ s with hp := { s.hp with links := s.hp.links.filter (fun p => !(p == port)) } } : State).endOwnership port).raise
        Fb.ports 0 1 (inst := port - 1)).ptpLink
    else (({ s with hp := { s.hp with links := s.hp.links.filter (fun p => !(p == port)) } } : State).endOwnership port).raise
        Fb.ports 0 1 (inst := port - 1) := by
  simp only [State.linkLost, hl]
  rfl

theorem portCode_eq_four {port : HostPort} : portCode port = 4 ↔ port = .e := by cases port <;> decide

/-! ### The obligation -/

/-- Settles O36: in HIBERNATE and out of it, what each transaction of S2, each event of U and a silent port's timeout does. -/
theorem serialPortsComplete : Obligations.SerialPortsComplete := by
  unfold Obligations.SerialPortsComplete
  intro s
  refine ⟨fun hk => ⟨fun whole => ?_, ?_, fun c => ?_⟩, fun ha hon hk => ?_, fun ha hstep hon hk => ?_, fun hh => ?_,
    fun hh => ⟨?_, ?_, ?_⟩, fun ha hon hk => ⟨fun hearly c => ?_, fun haddr hturn l u hl hu => ⟨?_, fun k hk => ?_⟩⟩,
    fun port hup hn hdue => ⟨fun hl hp => ?_, fun hl hp => ?_, fun hl hp => ?_⟩⟩
  · rw [exec_s2Read, State.s2Read_none (.inl (State.portServes_hibernate hk 2))]
  · rw [exec_s2Status, State.s2Status_hibernate hk]
  · have hmay : s.uMaySend = false := by simp [State.uMaySend, State.portServes_hibernate hk]
    rw [exec_uTransmit, State.uTransmit_waits hmay]
  · have hserves : s.portServes 2 = true := State.portServes_iff.2 ⟨ha, hon, hk⟩
    exact ⟨by rw [exec_s2Read, State.s2Read_none (.inr rfl)],
      fun hr => by rw [exec_s2Read, State.s2Read_empty hserves hr],
      fun r rest hr => by rw [exec_s2Read, State.s2Read_head hserves hr]⟩
  · rw [exec_s2Status, State.s2Status_ready (State.portServes_iff.2 ⟨ha, hon, hk⟩) hstep]
  · rw [exec_s2WriteAbort, State.s2WriteAbort, if_pos hh]
  · rw [exec_uFrameGap, State.uFrameGap_whole hh]
  · rw [exec_uFrameGap, State.uFrameGap_cut hh]
  · rw [exec_uFramingError, State.uFramingError, if_pos hh]
  · rw [exec_uTransmit, State.uTransmit_waits (State.uMaySend_early hearly)]
  · have hmay := State.uMaySend_over (State.portServes_iff.2 ⟨ha, hon, hk⟩) haddr hturn
    rw [exec_uTransmit, State.uTransmit_all hmay hl (hu l.length)]
  · have hmay := State.uMaySend_over (State.portServes_iff.2 ⟨ha, hon, ‹_›⟩) haddr hturn
    rw [exec_uTransmit, State.uTransmit_collision hmay hl hk (hu k)]
  · rw [exec_linkTimeout, State.linkTimeout_due hup hn hdue, State.linkLost_none hl (mt portCode_eq_four.1 hp)]
  · rw [exec_linkTimeout, State.linkTimeout_due hup hn hdue, State.linkLost_linked hl, if_neg (mt portCode_eq_four.1 hp)]
  · subst hp
    have hl' : s.hp.links.contains (portCode .e) = true := hl
    rw [exec_linkTimeout, State.linkTimeout_due hup hn hdue, State.linkLost_linked hl', if_pos (portCode_eq_four.2 rfl)]
    rfl

end Sys2Proof.Machine
end

section
/-! Port E's PHY, its DHCP client, ARP and the frames it discards (R398, R410, R411, R427, Tables 14.5 and 14.8). -/

namespace Sys2Proof.Machine

theorem exec_phyPoll (s : State) (r : PhyAnswer) : exec (.phyPoll r) s = .next (s.finish (s.phyPoll r)) := rfl
theorem exec_dhcpMessage (s : State) (m : DhcpMessage) :
    exec (.dhcpMessage m) s = .next (s.finish (s.dhcpMessage m)) := rfl
theorem exec_dhcpRenew (s : State) : exec .dhcpRenew s = .next (s.finish s.dhcpRenew) := rfl
theorem exec_dhcpRebind (s : State) : exec .dhcpRebind s = .next (s.finish s.dhcpRebind) := rfl
theorem exec_dhcpLeaseExpiry (s : State) : exec .dhcpLeaseExpiry s = .next (s.finish s.dhcpExpiry) := rfl
theorem exec_arpRequest (s : State) (target sender : BitVec 32) :
    exec (.arpRequest target sender) s = .next (s.finish (s.arpRequest target.toNat sender.toNat)) := rfl
theorem exec_ethFrameDiscard (s : State) (c : EthDrop) :
    exec (.ethFrameDiscard c) s = .next (s.finish (s.ethDiscard c)) := rfl

section
variable {s : State} (hup : s.hopperUp = true) (hon : s.portOn 4 = true)
include hup hon

/-! ### The PHY (R398, Table 14.8) -/

/-- The link of the PHY is there: as it comes up Port E announces a fixed address that is set, or its client looks for a lease. -/
theorem State.phyPoll_up {u : State}
    (hu : u = ({ s with hp := { s.hp with eth := { s.hp.eth with phyMiss := 0, phyUp := true } } } : State).endEpisode Fb.ports 7) :
    s.phyPoll .up = if s.hp.eth.phyUp = true then u
      else (if u.par P.HP_EIPMODE = 0 then (if u.par P.HP_EIP = 0 then u else u.ethSend (.arpGratuitous (u.par P.HP_EIP)))
        else if s.hp.eth.lease.isSome then u else u.dhcpStart).ptpLink := by
  have hno : ¬ (s.hopperUp = false ∨ s.portOn 4 = false) := by simp [hup, hon]
  subst hu
  rw [State.phyPoll, if_neg hno]
  rfl

theorem State.phyPoll_down : s.phyPoll .down =
    ((({ s with hp := { s.hp with eth := { s.hp.eth with phyMiss := 0, phyUp := false } } } : State).endEpisode
      Fb.ports 7).linkLost 4) := by
  simp only [State.phyPoll, hup, hon]
  rfl

/-- A PHY that does not answer at the third poll in turn is down, and PHYFLT is recorded. -/
theorem State.phyPoll_silent {u : State}
    (hu : u = { s with hp := { s.hp with eth := { s.hp.eth with phyMiss := min 3 (s.hp.eth.phyMiss + 1) } } }) :
    s.phyPoll .silent = if 2 ≤ s.hp.eth.phyMiss then ((({ u with hp := { u.hp with
      eth := { u.hp.eth with phyUp := false } } } : State).raiseEpisode Fb.ports 7 2 (inst := 3)).linkLost 4) else u := by
  subst hu
  simp only [State.phyPoll, hup, hon]
  rfl

/-! ### DHCP (R411, R427) -/

/-- An offer is asked for by the client that looks for one. -/
theorem State.dhcpMessage_offer {m : DhcpMessage} (hmode : s.par P.HP_EIPMODE ≠ 0) (hm : m.kind = .offer)
    (hd : s.hp.eth.dhcp = .selecting) : s.dhcpMessage m =
      ({ s with hp := { s.hp with eth := { s.hp.eth with dhcp := .requesting } } } : State).ethSend (.dhcp 3) := by
  simp only [State.dhcpMessage, hup, hon, hmode, hm, hd]
  rfl

/-- An acknowledgement of the address in force binds its lease. -/
theorem State.dhcpMessage_ack {m : DhcpMessage} (hmode : s.par P.HP_EIPMODE ≠ 0) (hm : m.kind = .ack)
    (hd : s.hp.eth.dhcp = .requesting ∨ s.hp.eth.dhcp = .renewing ∨ s.hp.eth.dhcp = .rebinding)
    (hsame : s.address.1 = m.ip.toNat) : s.dhcpMessage m = ((({ s with hp := { s.hp with
      eth := { s.hp.eth with dhcp := .bound, lease := some {
        ip := m.ip.toNat, mask := m.mask.toNat, gw := m.gw.toNat, t1 := s.t + secTicks m.t1.toNat
        t2 := s.t + secTicks m.t2.toNat, expiry := s.t + secTicks m.lease.toNat } } } } : State).endEpisode
          Fb.ports 6).ptpLink) := by
  have hno : ¬ (s.hopperUp = false ∨ s.portOn 4 = false ∨ s.par P.HP_EIPMODE = 0) := by simp [hup, hon, hmode]
  rw [State.dhcpMessage, if_neg hno]
  simp only [hm, if_pos hd, if_pos hsame, State.setEth]

/-- A refusal ends the lease, and the client looks again. -/
theorem State.dhcpMessage_nak {m : DhcpMessage} (hmode : s.par P.HP_EIPMODE ≠ 0) (hm : m.kind = .nak)
    (hd : s.hp.eth.dhcp = .requesting ∨ s.hp.eth.dhcp = .renewing ∨ s.hp.eth.dhcp = .rebinding) : s.dhcpMessage m =
      ((({ s with hp := { s.hp with eth := { s.hp.eth with dhcp := .idle, lease := none } } } : State).linkLost
        4).dhcpStart) := by
  have hno : ¬ (s.hopperUp = false ∨ s.portOn 4 = false ∨ s.par P.HP_EIPMODE = 0) := by simp [hup, hon, hmode]
  rw [State.dhcpMessage, if_neg hno]
  simp only [hm, if_pos hd, State.setEth]

/-! ### ARP and discarded frames (R410, Table 14.5) -/

theorem State.arpRequest_eq (target sender : Nat) : s.arpRequest target sender =
    if s.address.1 ≠ 0 ∧ target = s.address.1 then s.ethSend (.arpReply sender) else s.bump P.HP_ERXDROP 1 :=
  if_neg (by simp [hup, hon])

theorem State.ethDiscard_cause (k : Fin 4) : s.ethDiscard (.cause k) = s.bump P.HP_ERXDROP k.val :=
  if_neg (by simp [hup, hon])

theorem State.ethDiscard_noBuffer : s.ethDiscard .noBuffer = s.raise Fb.ports 4 1 (inst := 3) :=
  if_neg (by simp [hup, hon])

end

section
variable {s : State} {l : Lease} (hup : s.hopperUp = true) (hl : s.hp.eth.lease = some l)
include hup hl

theorem State.dhcpRenew_due (hd : s.hp.eth.dhcp = .bound) (ht : l.t1 ≤ s.t) : s.dhcpRenew =
    ({ s with hp := { s.hp with eth := { s.hp.eth with dhcp := .renewing } } } : State).ethSend (.dhcp 3) := by
  simp only [State.dhcpRenew, hl, hup, hd, ht]
  rfl

theorem State.dhcpRebind_due (hd : s.hp.eth.dhcp = .renewing) (ht : l.t2 ≤ s.t) : s.dhcpRebind =
    ({ s with hp := { s.hp with eth := { s.hp.eth with dhcp := .rebinding } } } : State).ethSend (.dhcp 3) := by
  simp only [State.dhcpRebind, hl, hup, hd, ht]
  rfl

/-- A lease that runs out ends Port E's link, is recorded, and the client looks again. -/
theorem State.dhcpExpiry_due (ht : l.expiry ≤ s.t) : s.dhcpExpiry =
    (((({ s with hp := { s.hp with eth := { s.hp.eth with dhcp := .idle, lease := none } } } : State).raiseEpisode
      Fb.ports 6 2 (inst := 3)).linkLost 4).dhcpStart) := by
  simp only [State.dhcpExpiry, hl, hup, ht]
  rfl

end

/-! ### The obligation -/

/-- Settles O37: each answer of the PHY, each kind of DHCP message, each instant of a lease, and each frame Port E does not pass on. -/
theorem ethernetLinkAndAddressComplete : Obligations.EthernetLinkAndAddressComplete := by
  unfold Obligations.EthernetLinkAndAddressComplete
  rintro s hup hon _ rfl
  refine ⟨fun u hu => ⟨fun hphy => ?_, fun hphy _ _ hmode hip => ?_, fun hphy hmode hip => ?_⟩, ?_,
    fun u hu => ⟨fun hmiss => ?_, fun hmiss => ?_⟩, fun m hmode => ⟨fun hm hd => ?_, fun hm hd hsame l hip hmask hgw h1 h2 hx => ?_,
      fun hm hd => ?_⟩,
    fun l hl => ⟨fun hd ht => ?_, fun hd ht => ?_, fun ht => ?_⟩, fun target sender => ?_, fun k => ?_, ?_⟩
  · rw [exec_phyPoll, State.phyPoll_up hup hon hu, if_pos hphy]
  · rw [exec_phyPoll, State.phyPoll_up hup hon hu, if_neg (by simp [hphy]), if_pos hmode, if_pos hip]
  · rw [exec_phyPoll, State.phyPoll_up hup hon hu, if_neg (by simp [hphy]), if_pos hmode, if_neg hip]
  · rw [exec_phyPoll, State.phyPoll_down hup hon]
  · rw [exec_phyPoll, State.phyPoll_silent hup hon hu, if_neg (Nat.not_le.2 hmiss)]
  · rw [exec_phyPoll, State.phyPoll_silent hup hon hu, if_pos hmiss]
  · rw [exec_dhcpMessage, State.dhcpMessage_offer hup hon hmode hm hd]
  · have hlease : l = { ip := m.ip.toNat, mask := m.mask.toNat, gw := m.gw.toNat, t1 := s.t + secTicks m.t1.toNat
                        t2 := s.t + secTicks m.t2.toNat, expiry := s.t + secTicks m.lease.toNat } := by
      cases l; simp_all [secTicks]
    rw [exec_dhcpMessage, State.dhcpMessage_ack hup hon hmode hm hd hsame, hlease]
  · rw [exec_dhcpMessage, State.dhcpMessage_nak hup hon hmode hm hd]
  · rw [exec_dhcpRenew, State.dhcpRenew_due hup hl hd ht]
  · rw [exec_dhcpRebind, State.dhcpRebind_due hup hl hd ht]
  · rw [exec_dhcpLeaseExpiry, State.dhcpExpiry_due hup hl ht]
  · rw [exec_arpRequest, State.arpRequest_eq hup hon]
  · rw [exec_ethFrameDiscard, State.ethDiscard_cause hup hon]
  · rw [exec_ethFrameDiscard, State.ethDiscard_noBuffer hup hon]

end Sys2Proof.Machine
end

section
/-! The stream rings' commands, the pool's, datagrams and the free-list check (R443, R445, R448, R453, R454, R456, R460, R463). -/

namespace Sys2Proof.Machine

theorem exec_stCtrlEnable (s : State) (n : Fin 64) :
    exec (.stCtrlEnable n) s = .next (s.finish (s.hostWrite P.ST_CTRL n.val 1)) := rfl
theorem exec_stCtrlDisable (s : State) (n : Fin 64) :
    exec (.stCtrlDisable n) s = .next (s.finish (s.hostWrite P.ST_CTRL n.val 2)) := rfl
theorem exec_stCtrlFlush (s : State) (n : Fin 64) :
    exec (.stCtrlFlush n) s = .next (s.finish (s.hostWrite P.ST_CTRL n.val 3)) := rfl
theorem exec_stMark (s : State) (n : Fin 64) (tag : BitVec 16) :
    exec (.stMark n tag) s = .next (s.finish (s.hostWrite P.ST_CTRL n.val (4 + 65536 * tag.toNat))) := rfl
theorem exec_stCtrlClearCounters (s : State) (n : Fin 64) :
    exec (.stCtrlClearCounters n) s = .next (s.finish (s.hostWrite P.ST_CTRL n.val 5)) := rfl
theorem exec_stPoolctrlResume (s : State) :
    exec .stPoolctrlResume s = .next (s.finish (s.hostWrite P.ST_POOLCTRL 0 1)) := rfl
theorem exec_stPoolctrlClear (s : State) :
    exec .stPoolctrlClear s = .next (s.finish (s.hostWrite P.ST_POOLCTRL 0 2)) := rfl
theorem exec_streamDatagramSend (s : State) (n : Fin 64) (poolBad : Bool) : exec (.streamDatagramSend n poolBad) s =
    .next (s.finish (s.blockEvent (fun s => s.datagramSend n.val poolBad))) := rfl
theorem exec_freelistCheck (s : State) (bad : Bool) : exec (.freelistCheck bad) s =
    .next (s.finish (s.liveEvent (fun s => if bad then s.freelist else s))) := rfl

variable {s : State}

/-! ### The fields of `ST_CTRL` -/

/-- MARK with a tag passes the mask of `ST_CTRL`. -/
theorem mark_and_mask {tag : Nat} (h : tag < 2 ^ 16) : (4 + 65536 * tag) &&& 0xFFFF00FF = 4 + 65536 * tag := by
  have hlow (i : Nat) (hi : i < 16) : (4 : Nat).testBit i = true → (0xFF : Nat).testBit i = true := by decide +revert
  have hhigh (i : Nat) (hi : i < 16) : (0xFFFF : Nat).testBit i = true := by decide +revert
  have hword : 4 + 65536 * tag = 2 ^ 16 * tag + 4 := by ring
  have hmask : 0xFFFF00FF = 2 ^ 16 * 0xFFFF + 0xFF := by norm_num
  rw [hword, hmask]
  refine Nat.eq_of_testBit_eq fun i => ?_
  rw [Nat.testBit_and, Nat.testBit_two_pow_mul_add _ (by norm_num), Nat.testBit_two_pow_mul_add _ (by norm_num)]
  by_cases hi : i < 16
  · simpa only [hi, if_true, Bool.and_eq_left_iff_imp] using hlow i hi
  · by_cases hj : i - 16 < 16
    · simp [hi, hhigh _ hj]
    · have hout : tag.testBit (i - 16) = false :=
        Nat.testBit_eq_false_of_lt (h.trans_le (Nat.pow_le_pow_right (by norm_num) (Nat.not_lt.1 hj)))
      simp [hi, hout]

/-- MARK's tag stands in the upper half of the word. -/
theorem valueOk_mark (n : Nat) (tag : BitVec 16) : valueOk P.ST_CTRL n (4 + 65536 * tag.toNat) = true := by
  have hval (w : Nat) : valueOk P.ST_CTRL n w =
      (decide (w &&& 0xFFFF00FF = w) && decide (1 ≤ w % 256) && decide (w % 256 ≤ 5) && true) := rfl
  have hcmd : (4 + 65536 * tag.toNat) % 256 = 4 := by omega
  simp [hval, mark_and_mask tag.isLt, hcmd]

theorem State.stCtrl_mark (n : Nat) (tag : BitVec 16) : s.stCtrl n (4 + 65536 * tag.toNat) = s.ringMark n tag.toNat := by
  have hcmd : bitsOf (4 + 65536 * tag.toNat) 0 8 = 4 := by rw [bitsOf]; omega
  have htag : bitsOf (4 + 65536 * tag.toNat) 16 16 = tag.toNat := by rw [bitsOf]; omega
  simp [State.stCtrl, hcmd, htag]

/-- The commands of `ST_CTRL`, taken as host writes (R463). -/
theorem exec_stCtrl_commands (n : Fin 64) (hup : s.hopperUp = true) (hr : s.resetting Fb.streams = false) :
    exec (.stCtrlEnable n) s = .next (s.finish (s.ringEnable n.val)) ∧
    exec (.stCtrlDisable n) s = .next (s.finish (s.ringDisable n.val)) ∧
    exec (.stCtrlFlush n) s = .next (s.finish (s.ringFlush n.val).done) ∧
    (∀ tag : BitVec 16, exec (.stMark n tag) s = .next (s.finish (s.ringMark n.val tag.toNat))) ∧
    exec (.stCtrlClearCounters n) s = .next (s.finish (s.ringClear n.val)) := by
  refine ⟨?_, ?_, ?_, fun tag => ?_, ?_⟩
  · rw [exec_stCtrlEnable, State.hostWrite_ST_CTRL hup n.isLt (v := 1) rfl hr]; rfl
  · rw [exec_stCtrlDisable, State.hostWrite_ST_CTRL hup n.isLt (v := 2) rfl hr]; rfl
  · rw [exec_stCtrlFlush, State.hostWrite_ST_CTRL hup n.isLt (v := 3) rfl hr]; rfl
  · rw [exec_stMark, State.hostWrite_ST_CTRL hup n.isLt (valueOk_mark n tag) hr, State.stCtrl_mark]
  · rw [exec_stCtrlClearCounters, State.hostWrite_ST_CTRL hup n.isLt (v := 5) rfl hr]; rfl

/-! ### ENABLE, DISABLE and MARK -/

section
variable {n : Nat}

theorem State.ringEnable_disabled (h : (s.ring n).state = .disabled) : s.ringEnable n =
    if s.sharedBufs < s.par P.ST_RESV n then s.answer Status.noBuffer 3
    else (s.setRing n { s.ring n with
      state := .enabled, anchorDue := true, sinceAnchor := 0, lostSince := 0, refused := false }).done := by
  simp [State.ringEnable, h]

theorem State.ringEnable_again (h : (s.ring n).state = .enabled ∨ (s.ring n).state = .losing) :
    s.ringEnable n = s.answer Status.notPermitted := by
  rcases h with h | h <;> simp [State.ringEnable, h]

theorem State.ringEnable_safe (h : (s.ring n).state = .safe) : s.ringEnable n = s.answer Status.faultState := by
  simp [State.ringEnable, h]

theorem State.ringDisable_disabled (h : (s.ring n).state = .disabled) : s.ringDisable n = s.answer Status.notPermitted := by
  simp [State.ringDisable, h]

theorem State.ringDisable_safe (h : (s.ring n).state = .safe) : s.ringDisable n = s.answer Status.faultState := by
  simp [State.ringDisable, h]

theorem State.ringDisable_on (h : (s.ring n).state = .enabled ∨ (s.ring n).state = .losing) : s.ringDisable n =
    ((s.ringFlush n).setRing n { (s.ringFlush n).ring n with state := .disabled }).done := by
  rcases h with h | h <;> simp [State.ringDisable, h]

/-- A marker carries its tag and the dual stamp. -/
theorem markerWords_tag (tag : BitVec 16) (angle time : Nat) :
    markerWords tag.toNat angle time = headWord 0x31 0 :: BitVec.ofNat 32 tag.toNat :: stampWords angle time := by
  rw [markerWords, Nat.mod_eq_of_lt tag.isLt]

/-- MARK's request is granted once the requests that the edge has made are served: its marker enters as the edge ends. -/
theorem State.ringMark_made {tag : Nat} {v : State} (hv : v = s.ringsAfter)
    (h : (v.ring n).accepts = false ∨
      v.ringRoom n (v.ringRecord n false (markerWords tag s.angleStamp s.t) 0 0).length ≠ .poolEmpty) : s.ringMark n tag =
      (s.recordMade ⟨n, 2, false, markerWords tag s.angleStamp s.t, s.angleStamp, s.t, 5⟩).done := by
  subst hv
  refine if_neg ?_
  simp only [Bool.and_eq_true, beq_iff_eq, not_and]
  intro hacc
  rcases h with h | h
  · simp [hacc] at h
  · exact h

/-- MARK without a buffer for its marker is refused. -/
theorem State.ringMark_refused {tag : Nat} {v : State} (hv : v = s.ringsAfter) (hacc : (v.ring n).accepts = true)
    (h : v.ringRoom n (v.ringRecord n false (markerWords tag s.angleStamp s.t) 0 0).length = .poolEmpty) :
    s.ringMark n tag = (s.poolRefuse n 2 (s.poolOrigin n 5)).answer Status.noBuffer 3 := by
  subst hv
  exact if_pos (by simp [hacc, h])

/-! ### Datagrams (R453, R454) -/

theorem State.ringDue_words (h : s.ringDue n = true) : (s.ring n).words.isEmpty = false := by
  simp only [State.ringDue, Bool.and_eq_true, Bool.not_eq_true'] at h
  exact h.1.2

theorem State.datagramSend_none (h : s.ringDue n = false ∨ s.kiln.state = .hibernate) (poolBad : Bool) :
    s.datagramSend n poolBad = s := by
  refine if_pos ?_
  rcases h with h | h <;> simp [h]

/-- A due datagram takes the whole records that fit and its ring's sequence number. -/
theorem State.datagramSend_due (hdue : s.ringDue n = true) (hfirst : (List.range n).any s.ringDue = false)
    (he : s.ethReady = true) (hmac : s.streamMac.isSome = true) (hk : s.kiln.state ≠ .hibernate) {k : Nat} {u : State}
    (hk' : k = wholeRecords 254 (s.ring n).words.length (s.ring n).words) (hu : u = s.setRing n ((s.ring n).drop k)) :
    s.datagramSend n false = (u.ethSend (.stream n (s.par P.ST_DGSEQ n) (preamble Status.ok 0 ++ (leBytes 2 k ++
      leBytes 2 (min 0xFFFF ((s.ring n).words.length - k)) ++
        ((s.ring n).words.take k).flatMap (fun w => leBytes 4 w.w.toNat))))).setPar P.ST_DGSEQ n
          ((s.par P.ST_DGSEQ n + 1) % 65536) := by
  have hgo : ¬ ((s.ringDue n && !(List.range n).any s.ringDue && s.ethReady && s.streamMac.isSome
      && s.kiln.state != .hibernate) = false) := by
    simp [hdue, hfirst, he, hmac, hk]
  subst hu hk'
  rw [State.datagramSend]
  simp only [if_neg hgo, Bool.false_eq_true, if_false, State.ringDue_words hdue]
  rfl

end

/-! ### The pool's commands -/

theorem exec_stPoolCtrl_commands (hup : s.hopperUp = true) (hr : s.resetting Fb.streams = false) :
    exec .stPoolctrlResume s = .next (s.finish s.poolResume) ∧ exec .stPoolctrlClear s = .next (s.finish s.poolClear) := by
  refine ⟨?_, ?_⟩
  · rw [exec_stPoolctrlResume, State.hostWrite_ST_POOLCTRL hup (by decide) hr]; rfl
  · rw [exec_stPoolctrlClear, State.hostWrite_ST_POOLCTRL hup (by decide) hr]; rfl

/-! ### The obligation -/

/-- Settles O41: each command by the ring's state, the pool's commands, a due datagram, and the flush after an inconsistency. -/
theorem streamCommandsComplete : Obligations.StreamCommandsComplete := by
  unfold Obligations.StreamCommandsComplete
  intro s
  refine ⟨?_, fun hup hr => ?_, fun n ha => ⟨fun h => ?_, fun hdue hfirst he hmac hk k u hk' hu => ?_⟩,
    fun hp => ⟨?_, fun flush lost hlost hflush => ?_⟩⟩
  · rintro n _ hup hr rfl
    obtain ⟨hen, hdis, hfl, hmark, hclr⟩ := exec_stCtrl_commands n hup hr
    refine ⟨?_, fun hst hresv => ?_, fun hst => ?_, fun hst => ⟨?_, ?_⟩, fun hst => ?_, fun hst => ?_, hfl, ?_, hclr⟩
    · rintro hst hresv _ rfl
      rw [hen, State.ringEnable_disabled hst, if_neg (Nat.not_lt.2 hresv)]
    · rw [hen, State.ringEnable_disabled hst, if_pos hresv]
    · rw [hen, State.ringEnable_again hst]
    · rw [hen, State.ringEnable_safe hst]
    · rw [hdis, State.ringDisable_safe hst]
    · rw [hdis, State.ringDisable_disabled hst]
    · rw [hdis, State.ringDisable_on hst]
    · rintro tag _ rfl v hv
      rw [← markerWords_tag]
      exact ⟨fun h => by rw [hmark, State.ringMark_made hv h]; rfl,
        fun hacc h => by rw [hmark, State.ringMark_refused hv hacc h]⟩
  · obtain ⟨hres, hclr⟩ := exec_stPoolCtrl_commands hup hr
    refine ⟨fun h => ?_, fun hpend hsafe => ?_, ?_⟩
    · rw [hres, State.poolResume, if_pos h]
    · rw [hres, State.poolResume, if_neg (by simp [hpend, hsafe])]
    · rintro _ rfl
      exact hclr
  · rw [exec_streamDatagramSend, State.blockEvent_alive _ ha, State.datagramSend_none h]
  · rw [exec_streamDatagramSend, State.blockEvent_alive _ ha, State.datagramSend_due hdue hfirst he hmac hk hk' hu]
  · rw [exec_freelistCheck, State.liveEvent_running _ hp]; rfl
  · obtain rfl : lost = fun u n => (u.ring n).words.length := funext₂ hlost
    obtain rfl : flush = fun u n => (u.bump P.ST_LOST n (u.ring n).words.length).ringFlush n := funext₂ hflush
    rw [exec_freelistCheck, State.liveEvent_running _ hp]; rfl

end Sys2Proof.Machine
end

section
/-! Records and rings: a record enters whole or is lost whole, and a ring never holds part of one (R444, R446, R450, R451). -/

namespace Sys2Proof.Machine

/-! ### Words that begin a record -/

/-- The oldest word, where there is one, is the head of a record. -/
def BeginsRecord (ws : List RingWord) : Prop := ∀ w, ws.head? = some w → w.head = true

theorem BeginsRecord.nil : BeginsRecord [] := nofun

theorem BeginsRecord.cons {w : RingWord} {ws : List RingWord} (h : w.head = true) : BeginsRecord (w :: ws) := by
  rintro _ ⟨⟩
  exact h

theorem BeginsRecord.append {a b : List RingWord} (ha : BeginsRecord a) (hb : BeginsRecord b) : BeginsRecord (a ++ b) := by
  cases a with
  | nil => exact hb
  | cons w ws => exact BeginsRecord.cons (ha w rfl)

/-- The words of a record begin one. -/
theorem BeginsRecord.ringWords (time : Nat) (words : List Word) : BeginsRecord (ringWords time words) := by
  cases words with
  | nil => exact BeginsRecord.nil
  | cons w ws => exact BeginsRecord.cons rfl

/-- Dropping what is taken while `p` holds leaves what `dropWhile` leaves. -/
theorem drop_length_takeWhile {α : Type} (p : α → Bool) (l : List α) : l.drop (l.takeWhile p).length = l.dropWhile p := by
  calc l.drop (l.takeWhile p).length = (l.takeWhile p ++ l.dropWhile p).drop (l.takeWhile p).length := by
        rw [List.takeWhile_append_dropWhile]
    _ = l.dropWhile p := List.drop_left

/-- What is left of a list once it has been dropped up to the next head begins a record. -/
theorem BeginsRecord.dropWhile (ws : List RingWord) : BeginsRecord (ws.dropWhile (fun w => !w.head)) := by
  induction ws with
  | nil => exact BeginsRecord.nil
  | cons w ws ih =>
    rw [List.dropWhile_cons]
    cases h : w.head
    · exact ih
    · exact BeginsRecord.cons h

/-- The words a DROP_OLD discards leave whole records (R450). -/
theorem Ring.oldest_begins (r : Ring) : BeginsRecord (r.words.drop (min r.oldest r.words.length)) := by
  have hold : r.words.drop r.oldest = (r.words.drop (64 - r.off)).dropWhile (fun w => !w.head) := by
    rw [Ring.oldest, ← List.drop_drop, drop_length_takeWhile]
  rcases Nat.le_total r.oldest r.words.length with h | h
  · rw [Nat.min_eq_left h, hold]
    exact BeginsRecord.dropWhile _
  · rw [Nat.min_eq_right h, List.drop_length]
    exact BeginsRecord.nil

/-- A record taken from the front leaves a list that begins a record. -/
theorem BeginsRecord.drop_recordLength (ws : List RingWord) : BeginsRecord (ws.drop (recordLength ws)) := by
  cases ws with
  | nil => exact BeginsRecord.nil
  | cons w ws =>
    rw [recordLength, Nat.add_comm, List.drop_succ_cons, drop_length_takeWhile]
    exact BeginsRecord.dropWhile ws

/-- Whole records taken from the front leave a list that begins a record (R452). -/
theorem BeginsRecord.drop_wholeRecords {ws : List RingWord} (h : BeginsRecord ws) (most fuel : Nat) :
    BeginsRecord (ws.drop (wholeRecords most fuel ws)) := by
  induction fuel generalizing most ws with
  | zero => exact h
  | succ fuel ih =>
    rw [wholeRecords]
    split
    · exact h
    · rw [← List.drop_drop]
      exact ih (BeginsRecord.drop_recordLength ws) _

/-- A ring without its first words holds the others. -/
theorem Ring.drop_words (r : Ring) (k : Nat) : (r.drop k).words = r.words.drop k := by
  rw [Ring.drop]
  by_cases h : (r.words.drop k).isEmpty = true
  · rw [if_pos h, List.isEmpty_iff.1 h]
  · rw [if_neg h]

/-! ### A record meets its ring -/

/-- What can have become of a ring's words when a record of `words` has met it at time `t`: some of the oldest are gone, so that
whole records are left, and the record follows whole or is not there. -/
def EntersWhole (old new : List RingWord) (t : Nat) (words : List Word) : Prop :=
  ∃ k, (BeginsRecord old → BeginsRecord (old.drop k)) ∧
    (new = old.drop k ∨ ∃ before : List Word, new = old.drop k ++ ringWords t (before ++ words))

theorem EntersWhole.lost (old : List RingWord) (t : Nat) (words : List Word) : EntersWhole old old t words :=
  ⟨0, id, .inl rfl⟩

theorem EntersWhole.entered (old : List RingWord) (t : Nat) (before words : List Word) :
    EntersWhole old (old ++ ringWords t (before ++ words)) t words := ⟨0, id, .inr ⟨before, rfl⟩⟩

/-- Whole records may have made way before. -/
theorem EntersWhole.of_drop {old new : List RingWord} {t k : Nat} {words : List Word} (hk : BeginsRecord (old.drop k))
    (h : EntersWhole (old.drop k) new t words) : EntersWhole old new t words := by
  obtain ⟨j, hj, hnew⟩ := h
  refine ⟨k + j, fun _ => ?_, ?_⟩
  · rw [← List.drop_drop]
    exact hj hk
  · rwa [← List.drop_drop]

theorem EntersWhole.begins {old new : List RingWord} {t : Nat} {words : List Word} (h : EntersWhole old new t words)
    (hold : BeginsRecord old) : BeginsRecord new := by
  obtain ⟨k, hk, rfl | ⟨before, rfl⟩⟩ := h
  · exact hk hold
  · exact (hk hold).append (BeginsRecord.ringWords t _)

variable {s : State}

/-- The record as it would enter ends in its own words, after the loss record and the anchor that are due. -/
theorem State.ringRecord_suffix (n : Nat) (sample : Bool) (words : List Word) (angle time : Nat) :
    ∃ before, s.ringRecord n sample words angle time = before ++ words := ⟨_, rfl⟩

/-- The state from which a record that finds no room goes on: the refusal of a buffer is counted once. -/
def State.roomRefused (s : State) (n port : Nat) (o : Origin) (asked : Bool) (why : NoRoom) : State :=
  if why = .poolEmpty ∧ asked = false then s.poolRefuse n port o else s

/-- One round of a record's entry (R444, R449, R450). -/
theorem State.ringPut_succ (n port : Nat) (sample : Bool) (words : List Word) (angle time : Nat) (o : Origin) (asked : Bool)
    (fuel : Nat) {why : NoRoom} {u : State} (hwhy : why = s.ringRoom n (s.ringRecord n sample words angle time).length)
    (hu : u = s.roomRefused n port o asked why) :
    s.ringPut n port sample words angle time o asked (fuel + 1) =
      if why = .fits then (true, s.ringPlace n sample (s.ringRecord n sample words angle time) words)
      else if bitOf (u.par P.ST_CFG n) 6 ∧ 2 ≤ (u.ring n).bufs then
        ((u.setRing n ((u.ring n).drop (min (u.ring n).oldest (u.ring n).words.length))).ringLose n
          (min (u.ring n).oldest (u.ring n).words.length) o).ringPut n port sample words angle time o
            (asked || decide (why = .poolEmpty)) fuel
      else (false, u.ringLose n words.length o) := by
  subst hu
  rw [State.ringPut]
  cases hr : s.ringRoom n (s.ringRecord n sample words angle time).length <;> (rw [hr] at hwhy; subst hwhy; rfl)

theorem State.roomRefused_words (n port : Nat) (o : Origin) (asked : Bool) (why : NoRoom) :
    ((s.roomRefused n port o asked why).ring n).words = (s.ring n).words := by
  rw [State.roomRefused]
  split
  · rw [State.poolRefuse_ring]
  · rfl

theorem State.roomRefused_t (n port : Nat) (o : Origin) (asked : Bool) (why : NoRoom) :
    (s.roomRefused n port o asked why).t = s.t := by
  rw [State.roomRefused]
  split
  · exact s.poolRefuse_t n port o
  · rfl

/-- A record that meets its ring enters whole or not at all, whatever makes way for it. -/
theorem State.ringPut_entersWhole (n port : Nat) (sample : Bool) (words : List Word) (angle time : Nat) (o : Origin) (asked : Bool)
    (fuel : Nat) : EntersWhole (s.ring n).words ((s.ringPut n port sample words angle time o asked fuel).2.ring n).words s.t
      words := by
  induction fuel generalizing s asked with
  | zero =>
    rw [State.ringPut, State.ringLose_ring]
    exact EntersWhole.lost _ _ _
  | succ fuel ih =>
    generalize hwhy : s.ringRoom n (s.ringRecord n sample words angle time).length = why
    obtain ⟨u, hu⟩ : ∃ u, u = s.roomRefused n port o asked why := ⟨_, rfl⟩
    have hwords : (u.ring n).words = (s.ring n).words := by rw [hu, State.roomRefused_words]
    have ht : u.t = s.t := by rw [hu, State.roomRefused_t]
    rw [s.ringPut_succ n port sample words angle time o asked fuel hwhy.symm hu]
    split
    · obtain ⟨before, hall⟩ := s.ringRecord_suffix n sample words angle time
      rw [(s.ringPlace_ring n sample _ words).1, hall]
      exact EntersWhole.entered _ _ _ _
    · split
      · have hold := (u.ring n).oldest_begins
        rw [hwords] at hold ⊢
        refine EntersWhole.of_drop hold ?_
        have hround := @ih ((u.setRing n ((u.ring n).drop (min (u.ring n).oldest (s.ring n).words.length))).ringLose n
          (min (u.ring n).oldest (s.ring n).words.length) o) (asked || decide (why = .poolEmpty))
        rwa [State.ringLose_t, State.ringLose_ring, State.ring_setRing, Ring.drop_words, hwords, State.setRing_t, ht] at hround
      · rw [State.ringLose_ring, hwords]
        exact EntersWhole.lost _ _ _

/-! ### The three ways of record entry (Table 15.6) -/

/-- A ring that accepts nothing counts the words and keeps its own. -/
theorem State.ringEnter_closed {n port : Nat} {sample : Bool} {words : List Word} {angle time master : Nat}
    (h : (s.ring n).accepts = false) : ((s.ringEnter n port sample words angle time master).ring n).words = (s.ring n).words ∧
      (s.ringEnter n port sample words angle time master).par P.ST_LOST n = satAdd (s.par P.ST_LOST n) words.length := by
  have hlost : (s.bump P.ST_LOST n words.length).par P.ST_LOST n = satAdd (s.par P.ST_LOST n) words.length := State.par_bump ..
  rw [State.ringEnter]
  simp only [h, Bool.false_eq_true, if_false]
  split
  · exact ⟨by rw [State.ring_setRing], hlost⟩
  · exact ⟨by rw [State.bump_ring], hlost⟩

/-- A ring that accepts records takes them in rounds. -/
theorem State.ringEnter_open {n port : Nat} {sample : Bool} {words : List Word} {angle time master : Nat}
    (h : (s.ring n).accepts = true) : s.ringEnter n port sample words angle time master =
      (s.ringPut n port sample words angle time (s.poolOrigin n master) false ((s.ring n).bufs + 1)).2 := if_pos h

/-- A refused request for a buffer leaves the ring's configuration. -/
theorem State.roomRefused_cfg {n : Nat} (hn : n < 64) (port : Nat) (o : Origin) (asked : Bool) (why : NoRoom) :
    (s.roomRefused n port o asked why).par P.ST_CFG n = s.par P.ST_CFG n := by
  have hkey : paramKey P.ST_CFG n ≠ paramKey P.ST_NOBUF port := by
    simp only [paramKey, P.ST_CFG, P.ST_NOBUF]; omega
  have hbump : (s.bump P.ST_NOBUF port).par P.ST_CFG n = s.par P.ST_CFG n := s.par_setPar_ne _ hkey
  rw [State.roomRefused]
  split
  · rw [State.poolRefuse]
    split <;> exact hbump
  · rfl

theorem State.roomRefused_ring (n port : Nat) (o : Origin) (asked : Bool) (why : NoRoom) :
    ∃ b, (s.roomRefused n port o asked why).ring n = { s.ring n with refused := b } := by
  rw [State.roomRefused]
  split
  · exact ⟨true, State.poolRefuse_ring ..⟩
  · exact ⟨_, rfl⟩

/-- Without DROP_OLD a record enters behind the ring's words, or its words are lost and the ring is LOSING. -/
theorem State.ringEnter_keepOld {n port : Nat} {sample : Bool} {words : List Word} {angle time master : Nat} (hn : n < 64)
    (hacc : (s.ring n).accepts = true) (hcfg : bitOf (s.par P.ST_CFG n) 6 = false) {t : State}
    (ht : t = s.ringEnter n port sample words angle time master) :
    (t.ring n).words = (s.ring n).words ++ ringWords s.t (s.ringRecord n sample words angle time) ∨
    (t.ring n).words = (s.ring n).words ∧ (t.ring n).state = .losing ∧
      (t.ring n).lostSince = satAdd (s.ring n).lostSince words.length := by
  subst ht
  rw [State.ringEnter_open hacc]
  generalize s.poolOrigin n master = o
  generalize hwhy : s.ringRoom n (s.ringRecord n sample words angle time).length = why
  obtain ⟨u, hu⟩ : ∃ u, u = s.roomRefused n port o false why := ⟨_, rfl⟩
  rw [s.ringPut_succ n port sample words angle time o false _ hwhy.symm hu]
  split
  · exact .inl (s.ringPlace_ring n sample _ words).1
  · have hkeep : ¬ (bitOf (u.par P.ST_CFG n) 6 = true ∧ 2 ≤ (u.ring n).bufs) := by
      rw [hu, State.roomRefused_cfg hn, hcfg]; simp
    obtain ⟨b, hring⟩ := s.roomRefused_ring n port o false why
    rw [if_neg hkeep, State.ringLose_ring, hu, hring]
    have hstate : (s.ring n).state = .enabled ∨ (s.ring n).state = .losing := by simpa [Ring.accepts] using hacc
    refine .inr ⟨rfl, ?_, rfl⟩
    rcases hstate with h | h <;> simp [h]

theorem State.ringEnter_entersWhole (n port : Nat) (sample : Bool) (words : List Word) (angle time master : Nat) :
    EntersWhole (s.ring n).words ((s.ringEnter n port sample words angle time master).ring n).words s.t words := by
  cases h : (s.ring n).accepts
  · rw [(State.ringEnter_closed h).1]
    exact EntersWhole.lost _ _ _
  · rw [State.ringEnter_open h]
    exact State.ringPut_entersWhole ..

/-! ### The records of one edge (R451) -/

/-- A record behind none of the others takes its place at the end. -/
theorem RingEntry.insert_last {e : RingEntry} {l : List RingEntry} (h : ∀ f ∈ l, ¬ e.place < f.place) : e.insert l = l ++ [e] := by
  induction l with
  | nil => rfl
  | cons f l ih =>
    rw [RingEntry.insert, if_neg (h f (by simp)), ih fun g hg => h g (by simp [hg])]
    rfl

/-- Records that take their places one by one are those that there are. -/
theorem foldl_insert_perm (es l : List RingEntry) : (es.foldl (fun l e => RingEntry.insert e l) l).Perm (l ++ es) := by
  induction es generalizing l with
  | nil => simp
  | cons e es ih =>
    refine (ih _).trans (((RingEntry.insert_perm e l).append_right es).trans ?_)
    exact List.perm_middle.symm

theorem RingEntry.place_of_port_ne {e : RingEntry} (h : e.port ≠ 1) : e.place = 0 := if_neg h

/-- Records of a port other than the lanes' keep the order in which they were made. -/
theorem foldl_insert_of_port_ne {es l : List RingEntry} (hes : ∀ e ∈ es, e.port ≠ 1) (hl : ∀ f ∈ l, f.port ≠ 1) :
    es.foldl (fun l e => RingEntry.insert e l) l = l ++ es := by
  induction es generalizing l with
  | nil => simp
  | cons e es ih =>
    have he : e.port ≠ 1 := hes e (by simp)
    have hlast : e.insert l = l ++ [e] := RingEntry.insert_last fun f hf => by
      rw [RingEntry.place_of_port_ne he, RingEntry.place_of_port_ne (hl f hf)]
      exact lt_irrefl 0
    rw [List.foldl_cons, hlast, ih (fun x hx => hes x (by simp [hx]))
      (fun f hf => (List.mem_append.1 hf).elim (hl f) (by rintro hf; rw [List.mem_singleton.1 hf]; exact he)),
      List.append_assoc, List.singleton_append]

/-- A record takes its place in an order that stands. -/
theorem RingEntry.insert_sorted {e : RingEntry} {l : List RingEntry} (h : l.Pairwise (fun a b => a.place ≤ b.place)) :
    (e.insert l).Pairwise (fun a b => a.place ≤ b.place) := by
  induction l with
  | nil => simp [RingEntry.insert]
  | cons f l ih =>
    obtain ⟨hf, hl⟩ := List.pairwise_cons.1 h
    rw [RingEntry.insert]
    split
    · next hlt =>
      refine List.pairwise_cons.2 ⟨fun g hg => ?_, h⟩
      rcases List.mem_cons.1 hg with rfl | hg
      · exact hlt.le
      · exact hlt.le.trans (hf g hg)
    · next hge =>
      refine List.pairwise_cons.2 ⟨fun g hg => ?_, ih hl⟩
      rcases List.mem_cons.1 ((RingEntry.insert_perm e l).mem_iff.1 hg) with rfl | hg
      · exact Nat.not_lt.1 hge
      · exact hf g hg

theorem foldl_insert_sorted {es l : List RingEntry} (h : l.Pairwise (fun a b => a.place ≤ b.place)) :
    (es.foldl (fun l e => RingEntry.insert e l) l).Pairwise (fun a b => a.place ≤ b.place) := by
  induction es generalizing l with
  | nil => exact h
  | cons e es ih => exact ih (RingEntry.insert_sorted h)

theorem State.entriesOf_perm (port : Nat) : (s.entriesOf port).Perm (s.pool.entries.filter (fun e => e.port == port)) :=
  foldl_insert_perm _ []

theorem State.entriesOf_port {port : Nat} {e : RingEntry} (h : e ∈ s.entriesOf port) : e.port = port := by
  have hmem := (s.entriesOf_perm port).mem_iff.1 h
  simpa using (List.mem_filter.1 hmem).2

theorem State.entriesOf_made {port : Nat} (h : port ≠ 1) : s.entriesOf port = s.pool.entries.filter (fun e => e.port == port) :=
  foldl_insert_of_port_ne (fun e he => by
    have hp : e.port = port := by simpa using (List.mem_filter.1 he).2
    rwa [hp]) nofun

/-- The lanes' records enter by ring, and then by source index. -/
theorem State.entriesOf_lanes : (s.entriesOf 1).Pairwise (fun a b => a.ring * 64 + bitsOf (a.words.headD 0).toNat 8 6
    ≤ b.ring * 64 + bitsOf (b.words.headD 0).toNat 8 6) := by
  have hplace (e : RingEntry) (he : e ∈ s.entriesOf 1) :
      e.place = e.ring * 64 + bitsOf (e.words.headD 0).toNat 8 6 := if_pos (State.entriesOf_port he)
  refine (foldl_insert_sorted (es := s.pool.entries.filter (fun e => e.port == 1)) List.Pairwise.nil).imp_of_mem ?_
  intro a b ha hb hab
  rwa [← hplace a ha, ← hplace b hb]

/-! ### A lone record -/

theorem State.ringPut_timers (n port : Nat) (sample : Bool) (words : List Word) (angle time : Nat) (o : Origin) (asked : Bool)
    (fuel : Nat) : (s.ringPut n port sample words angle time o asked fuel).2.timers = s.timers := by
  have hlose (v : State) (k : Nat) : (v.ringLose n k o).timers = v.timers := by
    rw [State.ringLose]; split <;> rfl
  have hrefuse (why : NoRoom) (v : State) (b : Bool) : (v.roomRefused n port o b why).timers = v.timers := by
    rw [State.roomRefused, State.poolRefuse]; dsimp only; split
    · split <;> rfl
    · rfl
  induction fuel generalizing s asked with
  | zero => exact hlose s _
  | succ fuel ih =>
    obtain ⟨why, hwhy⟩ : ∃ w, w = s.ringRoom n (s.ringRecord n sample words angle time).length := ⟨_, rfl⟩
    obtain ⟨u, hu⟩ : ∃ u, u = s.roomRefused n port o asked why := ⟨_, rfl⟩
    have htimers : u.timers = s.timers := by rw [hu, hrefuse]
    rw [s.ringPut_succ n port sample words angle time o asked fuel hwhy hu]
    split
    · rfl
    · split
      · rw [ih, hlose]
        exact htimers
      · rw [hlose, htimers]

theorem State.ringEnter_timers (n port : Nat) (sample : Bool) (words : List Word) (angle time master : Nat) :
    (s.ringEnter n port sample words angle time master).timers = s.timers := by
  rw [State.ringEnter]
  dsimp only
  split
  · exact State.ringPut_timers ..
  · split <;> rfl

/-- Without timers the end of an edge enters the records, port by port. -/
theorem State.recordsEnter_no_timers {u : State} (ht : s.timers = []) (hu : u = { s with pool := { s.pool with entries := [] } }) :
    s.recordsEnter = u.ringsEnter (s.entriesOf 0 ++ s.entriesOf 1 ++ s.entriesOf 2) := by
  have hkeep (l : List RingEntry) (v : State) : (v.ringsEnter l).timers = v.timers :=
    State.foldl_keeps State.timers (fun _ _ => State.ringEnter_timers ..) l v
  have hw : (u.ringsEnter (s.entriesOf 0)).timers = [] := by rw [hkeep, hu]; exact ht
  have hclose : (u.ringsEnter (s.entriesOf 0)).timersClose = u.ringsEnter (s.entriesOf 0) := by
    rw [State.timersClose, hw]; rfl
  simp only [State.recordsEnter, ← hu, hclose, hw, List.map_nil, List.foldl_nil]
  simp only [State.ringsEnter, List.foldl_append]

/-- Alone, a record is the only one of its port. -/
theorem State.entriesOf_lone {e : RingEntry} (h : s.pool.entries = [e]) (port : Nat) :
    s.entriesOf port = if e.port = port then [e] else [] := by
  by_cases hp : e.port = port <;> simp [State.entriesOf, h, hp, RingEntry.insert]

/-! ### The obligation -/

/-- Settles O42: record entry by the ring's state and by rounds of DROP_OLD; the order of an edge's records; and the lone one. -/
theorem recordsEnterWholeOrNotAtAll : Obligations.RecordsEnterWholeOrNotAtAll := by
  unfold Obligations.RecordsEnterWholeOrNotAtAll
  refine ⟨?_, fun r most fuel h => ?_, ?_, ?_⟩
  · rintro s n port sample words angle time master _ hn rfl
    have hwhole := s.ringEnter_entersWhole n port sample words angle time master
    refine ⟨State.ringEnter_closed, fun hacc hcfg => State.ringEnter_keepOld hn hacc hcfg rfl, ?_, hwhole.begins⟩
    obtain ⟨k, -, hk⟩ := hwhole
    exact ⟨k, hk⟩
  · rw [Ring.drop_words]
    exact BeginsRecord.drop_wholeRecords h most fuel
  · rintro s port _ rfl
    exact ⟨s.entriesOf_perm port, State.entriesOf_made, by rintro rfl; exact s.entriesOf_lanes⟩
  · intro s u e hone hport ht hu
    rw [State.recordsEnter_no_timers ht hu]
    obtain h | h | h : e.port = 0 ∨ e.port = 1 ∨ e.port = 2 := by omega
    all_goals simp [State.entriesOf_lone hone, h, State.ringsEnter]

end Sys2Proof.Machine
end

section
/-! The fault logic's timed events, Hopper's detectors and the commands of `FLT_CTRL` (R466, R473, R475, R484, R488, R490, R494,
R497). -/

namespace Sys2Proof.Machine

theorem exec_graceExpiry (s : State) (b : BitVec 8) :
    exec (.graceExpiry b) s = .next (s.finish (s.liveEvent (fun s => s.graceExpiry b.toNat))) := rfl
theorem exec_maskWindowClose (s : State) (b : BitVec 8) :
    exec (.maskWindowClose b) s = .next (s.finish (s.liveEvent (fun s => s.maskClose b.toNat))) := rfl
theorem exec_episodeEnd (s : State) (b d : BitVec 8) :
    exec (.episodeEnd b d) s = .next (s.finish (s.liveEvent (fun s => s.episodeOver b.toNat d.toNat))) := rfl
theorem exec_captureParityError (s : State) (b : BitVec 8) :
    exec (.captureParityError b) s = .next (s.finish (s.liveEvent (fun s => s.capParity b.toNat))) := rfl
theorem exec_hopperWatchdog (s : State) : exec .hopperWatchdog s = .next (s.finish s.hopperWatchdog) := rfl
theorem exec_hopperMemoryEcc (s : State) (bad : Bool) :
    exec (.hopperMemoryEcc bad) s = .next (s.finish (s.hopperEcc bad)) := rfl
theorem exec_lockstepMismatch (s : State) : exec .lockstepMismatch s = .next (s.finish s.lockstep) := rfl
theorem exec_faultAck_ctrl (s : State) (b : BitVec 8) (k : BitVec 4) : exec (.faultAck (.ctrl b k)) s =
    .next (s.finish (s.hostWrite P.FLT_CTRL 0 (1 + 256 * b.toNat + 65536 * k.toNat))) := rfl
theorem exec_fltCtrlAckall (s : State) : exec .fltCtrlAckall s = .next (s.finish (s.hostWrite P.FLT_CTRL 0 2)) := rfl
theorem exec_logClear_ctrl (s : State) : exec (.logClear none) s = .next (s.finish (s.hostWrite P.FLT_CTRL 0 3)) := rfl
theorem exec_fltCtrlClearCounters (s : State) :
    exec .fltCtrlClearCounters s = .next (s.finish (s.hostWrite P.FLT_CTRL 0 4)) := rfl
theorem exec_fltCap0Read (s : State) : exec .fltCap0Read s = .next (s.finish (s.hostRead P.FLT_CAP0 0)) := rfl

variable {s : State}

/-! ### Timed events -/

/-- A grace timer that runs out while Hopper can accept commands makes a record of the next class (R473). -/
theorem State.graceExpiry_due {b due : Nat} (hg : (s.fb b).grace = .running due) (hdue : due ≤ s.t)
    (hacc : s.hopperAccepts = true) : s.graceExpiry b =
      ((s.setFb b { s.fb b with grace := .off }).bump P.FLT_GRCCNT).applyRec {
        blk := b, det := 0xFE, cls := (s.fb b).served + 1, escalated := true, graceMark := true, detCls := (s.fb b).served
        addr := stateAddr b 0, angle := s.angleStamp, time := s.t } := by
  simp only [State.graceExpiry, hg, if_pos (And.intro hdue hacc)]
  rfl

/-- A window that has closed lets what persists in the dependants record again (R488, R490). -/
theorem State.maskClose_due {x due : Nat} {l : List Nat} (hw : (s.fb x).window = .closing due l) (hdue : due ≤ s.t) :
    s.maskClose x = ((s.flt.blocks.map Prod.fst).filter (s.dependant x)).foldl State.askAgain
      (s.setFb x { s.fb x with window := .closed }) := by
  simp only [State.maskClose, hw, if_pos hdue]

theorem State.episodeOver_none {b d : Nat} (h : s.episodeOpen b d = false ∨ s.conditionHolds b d = true) :
    s.episodeOver b d = s := if_pos h

theorem State.episodeOver_ends {b d : Nat} (ho : s.episodeOpen b d = true) (hc : s.conditionHolds b d = false)
    (hoot : ¬ (0xE4 ≤ b ∧ b < 0xEC ∧ d = 4)) : s.episodeOver b d = s.endEpisode b d := by
  rw [State.episodeOver, if_neg (by simp [ho, hc]), if_neg hoot]

/-! ### Hopper's detectors (R494) -/

theorem State.hopperWatchdog_due (hup : s.hopperUp = true) (hdue : s.flt.served + msTicks (s.par P.FLT_HPWDT) ≤ s.t) :
    s.hopperWatchdog = s.raise Fb.hopper 2 3 := if_pos (by simp [hup, hdue])

theorem State.hopperEcc_up (hup : s.hopperUp = true) (bad : Bool) :
    s.hopperEcc bad = if bad then s.raise Fb.hopper 3 3 else (s.bump P.FLT_HPECC).raise Fb.hopper 0 1 := if_pos hup

theorem State.lockstep_up (hup : s.hopperUp = true) : s.lockstep = s.raise Fb.hopper 4 4 := if_pos hup

/-! ### `FLT_CTRL` -/

/-- ACK of every block and class is of the range of `FLT_CTRL`. -/
theorem valueOk_ack (b : BitVec 8) (k : BitVec 4) :
    valueOk P.FLT_CTRL 0 (1 + 256 * b.toNat + 65536 * k.toNat) = true := by
  have hval (w : Nat) : valueOk P.FLT_CTRL 0 w =
      (decide (w &&& 2 ^ 20 - 1 = w) && decide (1 ≤ w % 256) && decide (w % 256 ≤ 4) && true) := rfl
  have hcmd : (1 + 256 * b.toNat + 65536 * k.toNat) % 256 = 1 := by omega
  have hmod : (1 + 256 * b.toNat + 65536 * k.toNat) % 2 ^ 20 = 1 + 256 * b.toNat + 65536 * k.toNat := by omega
  rw [hval, Nat.and_two_pow_sub_one_eq_mod, hmod, hcmd]
  simp

theorem State.fltCtrl_ack (b : BitVec 8) (k : BitVec 4) :
    s.fltCtrl (1 + 256 * b.toNat + 65536 * k.toNat) = s.faultAck b.toNat k.toNat := by
  have hcmd : bitsOf (1 + 256 * b.toNat + 65536 * k.toNat) 0 8 = 1 := by rw [bitsOf]; omega
  have hblk : bitsOf (1 + 256 * b.toNat + 65536 * k.toNat) 8 8 = b.toNat := by rw [bitsOf]; omega
  have hcls : bitsOf (1 + 256 * b.toNat + 65536 * k.toNat) 16 4 = k.toNat := by rw [bitsOf]; omega
  rw [State.fltCtrl, hcmd, hblk, hcls]
  rfl

/-- The commands of `FLT_CTRL`, taken as host writes (R497). -/
theorem exec_fltCtrl_commands (hup : s.hopperUp = true) (hr : s.resetting Fb.faults = false) :
    (∀ (b : BitVec 8) (k : BitVec 4), exec (.faultAck (.ctrl b k)) s = .next (s.finish (s.faultAck b.toNat k.toNat))) ∧
    exec .fltCtrlAckall s = .next (s.finish s.ackAll) ∧
    exec (.logClear none) s = .next (s.finish s.logEmpty.done) ∧
    exec .fltCtrlClearCounters s = .next (s.finish s.fltClear) := by
  refine ⟨fun b k => ?_, ?_, ?_, ?_⟩
  · rw [exec_faultAck_ctrl, State.hostWrite_FLT_CTRL hup (valueOk_ack b k) hr, State.fltCtrl_ack]
  · rw [exec_fltCtrlAckall, State.hostWrite_FLT_CTRL hup (by decide) hr]; rfl
  · rw [exec_logClear_ctrl, State.hostWrite_FLT_CTRL hup (by decide) hr]; rfl
  · rw [exec_fltCtrlClearCounters, State.hostWrite_FLT_CTRL hup (by decide) hr]; rfl

/-- ACK of one class of one block: of a pending one it is taken (R475). -/
theorem State.faultAck_class {b k : Nat} (hb : b < 0xF8) (hk : k = 1 ∨ k = 2 ∨ k = 3) : s.faultAck b k =
    if (s.fb b).isPending k = true then (s.ackClass b k).done else s.answer Status.notPermitted := by
  rw [State.faultAck, if_neg (by omega), if_neg (by omega)]

/-! ### What an acknowledgement leaves pending -/

theorem FaultBlock.isPending_setPending (f : FaultBlock) (k : Nat) : (f.setPending k false).isPending k = false := by
  by_cases h1 : k = 1
  · simp [FaultBlock.isPending, FaultBlock.setPending, h1]
  · by_cases h2 : k = 2
    · simp [FaultBlock.isPending, FaultBlock.setPending, h2]
    · by_cases h3 : k = 3 <;> simp [FaultBlock.isPending, FaultBlock.setPending, h1, h2, h3]

/-- The pending bits of a block are all that `isPending` reads of it. -/
theorem FaultBlock.isPending_congr {f g : FaultBlock} (ha : f.pendA = g.pendA) (hb : f.pendB = g.pendB) (hc : f.pendC = g.pendC)
    (k : Nat) : f.isPending k = g.isPending k := by
  rw [FaultBlock.isPending, FaultBlock.isPending, ha, hb, hc]

/-- The degraded forms that end leave what is pending. -/
theorem State.endDegraded_fb (b : Nat) : (s.endDegraded b).fb b = { s.fb b with degraded := [] } := by
  have hset : (s.setFb b { s.fb b with degraded := [] }).fb b = { s.fb b with degraded := [] } := State.fb_setFb ..
  rw [State.endDegraded]
  split
  · exact hset
  · exact hset

/-- Setting a value to 0 where a condition holds leaves the blocks' fault state. -/
theorem State.ite_setPar_fb (c : Prop) [Decidable c] (id inst v b : Nat) :
    (if c then s.setPar id inst v else s).fb b = s.fb b := by split <;> rfl

/-- An acknowledged class is no longer pending (R475). -/
theorem State.ackClass_isPending (b k : Nat) : ((s.ackClass b k).fb b).isPending k = false := by
  by_cases hpend : (s.fb b).isPending k = false
  · rw [State.ackClass, if_pos hpend, hpend]
  have hcleared : (((if k = 2 then (s.setFb b ((s.fb b).setPending k false)).endDegraded b
      else s.setFb b ((s.fb b).setPending k false)).fb b)).isPending k = false := by
    split
    · rw [State.endDegraded_fb, State.fb_setFb]
      exact (FaultBlock.isPending_congr rfl rfl rfl k).trans (FaultBlock.isPending_setPending (s.fb b) k)
    · rw [State.fb_setFb]
      exact FaultBlock.isPending_setPending (s.fb b) k
  rw [State.ackClass, if_neg hpend]
  dsimp only
  generalize (if k = 2 then (s.setFb b ((s.fb b).setPending k false)).endDegraded b
    else s.setFb b ((s.fb b).setPending k false)) = u at hcleared ⊢
  rw [State.ite_setPar_fb, State.bump, State.setPar_fb, State.ite_setPar_fb, State.fb_setFb, ← hcleared]
  split <;> split <;> exact FaultBlock.isPending_congr rfl rfl rfl k

/-! ### The read of `FLT_CAP0` -/

/-- A read of `FLT_CAP0` latches the capture that `FLT_SEL` names (R382). -/
theorem State.hostRead_FLT_CAP0 (hup : s.hopperUp = true) (hr : s.resetting Fb.faults = false) : s.hostRead P.FLT_CAP0 0 =
    ({ s with flt := { s.flt with capLatch := s.captureBytes (s.lastPar P.FLT_SEL) } } : State).done
      (leBytes 4 (fieldAt (s.captureBytes (s.lastPar P.FLT_SEL)) 0 4)) := by
  rw [State.hostRead_latched (id := P.FLT_CAP0) hup (by decide) hr (by decide)]
  rfl

/-! ### The obligation -/

/-- Settles O44: each timed event in its condition, Hopper's detectors, and the commands of `FLT_CTRL` one by one. -/
theorem faultEventsAndCommandsComplete : Obligations.FaultEventsAndCommandsComplete := by
  unfold Obligations.FaultEventsAndCommandsComplete
  refine ⟨fun s hp => ⟨?_, fun b due l hw hdue => ?_, fun b d => ⟨fun h => ?_, fun ho hc hoot => ?_⟩, ?_,
    fun hup => ⟨fun hdue => ?_, ?_, ?_, ?_⟩⟩, fun s hup hr => ?_⟩
  · rintro b due _ rfl hg hdue hacc _ rfl _ rfl
    rw [exec_graceExpiry, State.liveEvent_running _ hp, State.graceExpiry_due hg hdue hacc]
  · rw [exec_maskWindowClose, State.liveEvent_running _ hp, State.maskClose_due hw hdue]
  · rw [exec_episodeEnd, State.liveEvent_running _ hp, State.episodeOver_none h]
  · rw [exec_episodeEnd, State.liveEvent_running _ hp, State.episodeOver_ends ho hc hoot]
  · rintro b _ rfl
    rw [exec_captureParityError, State.liveEvent_running _ hp]; rfl
  · rw [exec_hopperWatchdog, State.hopperWatchdog_due hup hdue]
  · rw [exec_hopperMemoryEcc, State.hopperEcc_up hup]; rfl
  · rw [exec_hopperMemoryEcc, State.hopperEcc_up hup]; rfl
  · rw [exec_lockstepMismatch, State.lockstep_up hup]
  · obtain ⟨hack, hall, hlog, hclr⟩ := exec_fltCtrl_commands hup hr
    refine ⟨fun b k hb hk => ⟨fun hpend => ?_, fun hpend => ?_⟩, hall, fun b k => s.ackClass_isPending b k, hlog, hclr, ?_⟩
    · rw [hack, State.faultAck_class hb hk, if_pos hpend]
    · rw [hack, State.faultAck_class hb hk, if_neg (by simp [hpend])]
    · rintro _ rfl
      rw [exec_fltCap0Read, State.hostRead_FLT_CAP0 hup hr]

end Sys2Proof.Machine
end

section
/-! Frames of the sync link: what is made of a frame that arrives, and the originator's own (R498–R503, R506). -/

namespace Sys2Proof.Machine

theorem exec_syncFrame (s : State) (f : List Byte) :
    exec (.syncFrame f) s = .next (s.finish (s.liveEvent (fun s => s.syncFrame f))) := rfl
theorem exec_syncFrameOriginate (s : State) :
    exec .syncFrameOriginate s = .next (s.finish (s.liveEvent (fun s => s.syncOriginate))) := rfl

/-! ### Fields of a frame -/

theorem fieldAt_congr {f g : List Byte} {off n : Nat} (h : slice f off n = slice g off n) : fieldAt f off n = fieldAt g off n := by
  rw [fieldAt, fieldAt, h]

/-- The number that stands between two lists of bytes. -/
theorem fieldAt_mid {a c : List Byte} {off n x : Nat} (ha : a.length = off) :
    fieldAt (a ++ leBytes n x ++ c) off n = x % 256 ^ n := by
  rw [fieldAt, slice_mid ha (leBytes_length n x), leNat_leBytes]

/-- A sealed frame with a copy channel keeps its first 37 bytes. -/
theorem slice_sent {f : List Byte} {c : Option CopyItem} {off n : Nat} (hf : f.length = 47 ∨ f.length = 49) (hn : off + n ≤ 37) :
    slice (frSeal (frSetChannel f c)) off n = slice f off n := by
  rw [slice_frSeal (by rw [frSetChannel_length hf]; omega) (by omega), slice_frSetChannel (by omega) hn]

/-- A sealed frame with a copy channel is whole and has a right check. -/
theorem sent_good {f : List Byte} {c : Option CopyItem} (hf : f.length = 47 ∨ f.length = 49) :
    (frSeal (frSetChannel f c)).length = 49 ∧ frGood (frSeal (frSetChannel f c)) = true := by
  have hlen : 47 ≤ (frSetChannel f c).length := by rw [frSetChannel_length hf]; omega
  exact ⟨frSeal_length hlen, frSeal_good hlen⟩

/-! ### A frame that is sent on (R500) -/

theorem PeerRec.bytes_length (r : PeerRec) : r.bytes.length = 8 := by simp [PeerRec.bytes]

variable {s : State}

/-- A frame with its position raised by 1, and the device's own record in the device's slot. -/
def State.repeated (s : State) (f : List Byte) : List Byte :=
  let g := frPut f 4 (leBytes 1 (frByte f 4 + 1))
  if frByte f 7 = s.slPos then frPut g 30 s.ownRecord.bytes else g

/-- What a device sends on is the raised frame with a copy channel, sealed. -/
theorem State.repeatFrame_sent (f : List Byte) :
    (s.repeatFrame f).sl.sent = frSeal (frSetChannel (s.repeated f) (s.channel (frChannel f)).1) := rfl

section
variable {f : List Byte} (hf : f.length = 49)
include hf

theorem frPut_position_length (x : Nat) : (frPut f 4 (leBytes 1 x)).length = 49 := by
  rw [frPut_length (by simp [hf]), hf]

theorem State.repeated_length : (s.repeated f).length = 49 := by
  have hg := frPut_position_length hf (frByte f 4 + 1)
  rw [State.repeated]
  split
  · rw [frPut_length (by rw [PeerRec.bytes_length, hg]; norm_num), hg]
  · exact hg

/-- Outside the record's slot only the position changes. -/
theorem State.slice_repeated {off n : Nat} (h : off + n ≤ 29) :
    slice (s.repeated f) off n = slice (frPut f 4 (leBytes 1 (frByte f 4 + 1))) off n := by
  have hg := frPut_position_length hf (frByte f 4 + 1)
  rw [State.repeated]
  split
  · exact slice_frPut_ne (by rw [PeerRec.bytes_length, hg]; norm_num) (by omega) (.inl (by omega))
  · rfl

theorem State.repeated_position : frByte (s.repeated f) 4 = (frByte f 4 + 1) % 256 := by
  have hput := slice_frPut (f := f) (k := 4) (bs := leBytes 1 (frByte f 4 + 1)) (by simp [hf])
  rw [leBytes_length] at hput
  rw [frByte, fieldAt, s.slice_repeated hf (by norm_num), hput, leNat_leBytes, pow_one]

/-- Fields that neither the position nor the record's slot touches. -/
theorem State.repeated_field {k n : Nat} (hk : k - 1 + n ≤ 3 ∨ 4 ≤ k - 1) (hn : k - 1 + n ≤ 29) :
    frField (s.repeated f) k n = frField f k n := by
  refine fieldAt_congr ?_
  rw [s.slice_repeated hf hn]
  refine slice_frPut_ne (by simp [hf]) (by omega) ?_
  simpa using hk

theorem State.repeated_own (h : frByte f 7 = s.slPos) : slice (s.repeated f) 29 8 = s.ownRecord.bytes := by
  have hg := frPut_position_length hf (frByte f 4 + 1)
  have hput := slice_frPut (f := frPut f 4 (leBytes 1 (frByte f 4 + 1))) (k := 30) (bs := s.ownRecord.bytes)
    (by rw [PeerRec.bytes_length, hg]; norm_num)
  rw [PeerRec.bytes_length] at hput
  rw [State.repeated]
  rw [if_pos h]
  exact hput

theorem State.repeated_other (h : frByte f 7 ≠ s.slPos) : slice (s.repeated f) 29 8 = slice f 29 8 := by
  rw [State.repeated]
  rw [if_neg h]
  exact slice_frPut_ne (by simp [hf]) (by omega) (.inr (by simp))

end

/-- Settles O46: the fields of the raised frame, which the copy channel and the seal leave. -/
theorem repeatedFramesAreSealed : Obligations.RepeatedFramesAreSealed := by
  unfold Obligations.RepeatedFramesAreSealed
  rintro s f _ hf rfl
  have hr := s.repeated_length hf
  rw [State.repeatFrame_sent]
  generalize (s.channel (frChannel f)).1 = c
  have hslice {off n : Nat} (hn : off + n ≤ 37) := slice_sent (c := c) (.inr hr) hn
  obtain ⟨hlen, hgood⟩ := sent_good (c := c) (.inr hr)
  refine ⟨hlen, hgood, ?_, ?_, ?_, fun h => ?_, fun h => ?_⟩
  · rw [← s.repeated_position hf]
    exact fieldAt_congr (hslice (by norm_num))
  · rw [← s.repeated_field hf (k := 2) (n := 2) (by norm_num) (by norm_num)]
    exact fieldAt_congr (hslice (by norm_num))
  · rw [← s.repeated_field hf (k := 14) (n := 8) (by norm_num) (by norm_num)]
    exact fieldAt_congr (hslice (by norm_num))
  · rw [hslice (by norm_num), s.repeated_own hf h]
  · rw [hslice (by norm_num), s.repeated_other hf h]

/-! ### Frames that arrive (R501–R503) -/

section
variable {f : List Byte} (hup : s.slUp = true)
include hup

/-- A frame whose check fails is counted, and sent on with BAD by a device that repeats. -/
theorem State.syncFrame_bad (h : frGood f = false) {u : State} (hu : u = (s.bump P.SL_FRMERR).raiseEpisode Fb.sync 0 1) :
    s.syncFrame f = if u.sl.originates = true then u else { u with sl := { u.sl with
      sent := frSeal (frPut (slice f 0 49) 1 (leBytes 1 (frByte (slice f 0 49) 1 ||| 0x80))), sentAt := u.t + 48 } } := by
  subst hu
  rw [State.syncFrame, if_neg (by simp [hup]), if_pos h]
  rfl

/-- A frame with BAD is sent on as it came by a device that repeats. -/
theorem State.syncFrame_marked (h : frGood f = true) (hb : bitOf (frByte f 1) 7 = true) {u : State} (hu : u = s.endEpisode Fb.sync 0) :
    s.syncFrame f = if u.sl.originates = true then u else { u with sl := { u.sl with sent := frSeal f, sentAt := u.t + 48 } } := by
  subst hu
  rw [State.syncFrame, if_neg (by simp [hup]), if_neg (by simp [h]), if_pos hb]
  rfl

/-- The originator counts a rival's frame, and takes its own back. -/
theorem State.syncFrame_originator (h : frGood f = true) (hb : bitOf (frByte f 1) 7 = false) {u : State}
    (hu : u = s.endEpisode Fb.sync 0) (ho : u.sl.originates = true) : s.syncFrame f =
      if tblGet none u.sl.flying (frField f 2 2) = some (frField f 14 8) then u.frameReturned f (frField f 14 8)
      else { u with sl := { u.sl with rivals := u.sl.rivals + 1, rivalUid := frByte f 29 } } := by
  subst hu
  rw [State.syncFrame, if_neg (by simp [hup]), if_neg (by simp [h]), if_neg (by simp [hb]), if_pos ho]
  cases hfly : tblGet none (s.endEpisode Fb.sync 0).sl.flying (frField f 2 2) with
  | none => rfl
  | some t0 =>
    by_cases ht : t0 = frField f 14 8
    · rw [if_pos (congrArg some ht), ← ht]
      exact if_pos rfl
    · rw [if_neg (mt Option.some.inj ht)]
      exact if_neg ht

/-- A good frame is sent on with its position raised, and followed. -/
theorem State.syncFrame_followed (h : frGood f = true) (hb : bitOf (frByte f 1) 7 = false) {u v w x : State}
    (hu : u = s.endEpisode Fb.sync 0) (ho : u.sl.originates = false) (hv : v = (u.repeatFrame f).takeRing f)
    (hw : w = (if v.sl.state = .search then v.setSl { v.sl with state := .locking } else v).frameBoundary)
    (hx : x = if (w.sl.state == .locking || w.sl.state == .synced || w.sl.state == .hold) && w.isFollower then w.timeFollow f
      else w) : s.syncFrame f = (((x.angleFollow f).takeRecord f).agreement.ringHalt.followRun) := by
  subst hx hw hv hu
  rw [State.syncFrame, if_neg (by simp [hup]), if_neg (by simp [h]), if_neg (by simp [hb]), if_neg (by simp [ho])]

end

/-! ### The originator's frame (R498, R499) -/

theorem State.frameBoundary_none (ht : s.sl.takeDue = false) (hr : s.sl.releaseDue = false) : s.frameBoundary = s := by
  simp [State.frameBoundary, ht, hr]

theorem State.syncOriginate_none (h : s.sl.originates = false ∨ s.t < s.sl.nextFrame) : s.syncOriginate = s := by
  refine if_neg ?_
  rcases h with h | h
  · simp [h]
  · simp [Nat.not_le.2 h]

/-- The bytes 1–47 of the originator's frame before its copy channel is set (Table 17.1). -/
def originBytes (flags q ring ndev slot angle time speed rtt uid : Nat) (own : List Byte) : List Byte :=
  leBytes 1 flags ++ leBytes 2 q ++ leBytes 1 0 ++ leBytes 1 ring ++ leBytes 1 ndev ++ leBytes 1 slot ++ leBytes 6 angle
    ++ leBytes 8 time ++ leBytes 4 speed ++ leBytes 3 rtt ++ leBytes 1 uid ++ own ++ List.replicate 10 0

theorem State.role_setSl (x : SyncLink) : (s.setSl x).role = s.role := rfl

theorem State.role_setPar_contract (v : Nat) : (s.setPar P.SL_CONTRACT 0 v).role = s.role :=
  s.par_setPar_ne v (by decide)

/-- The slot of a frame holds a record, or nothing. -/
theorem ownSlot_length (c : Bool) (r : PeerRec) : (if c then r.bytes else List.replicate 8 0).length = 8 := by
  split
  · exact r.bytes_length
  · exact List.length_replicate

/-- The originator's frame, its sequence number and the instant of the next one. -/
theorem State.syncOriginate_due (hup : s.slUp = true) (ho : s.sl.originates = true) (hn : s.sl.nextFrame ≤ s.t)
    (ht : s.sl.takeDue = false) (hr : s.sl.releaseDue = false) :
    ∃ (v : State) (c : Option CopyItem) (flags ring ndev slot angle speed rtt uid : Nat) (own : List Byte),
      s.syncOriginate = v.ringHalt ∧ own.length = 8 ∧
      v.sl.sent = frSeal (frSetChannel (originBytes flags s.sl.seq ring ndev slot angle s.t speed rtt uid own) c) ∧
      v.sl.seq = (s.sl.seq + 1) % 65536 ∧ v.sl.sentAt = s.t ∧ v.sl.nextFrame = s.t + 200 := by
  rw [State.syncOriginate, if_pos (by simp [hup, ho, hn]), State.frameBoundary_none ht hr, if_neg (by simp [ho])]
  simp only [State.setPar_sl, State.setSl_sl]
  rcases hret : s.sl.returned with _ | i
  · rcases hout : s.sl.outbox with _ | ⟨o, rest⟩
    · exact ⟨_, none, _, _, _, _, _, _, _, _, _, rfl, ownSlot_length _ _, rfl, rfl, rfl, rfl⟩
    · by_cases hrole : s.role = Role.active
      · simp only [State.role_setPar_contract, State.role_setSl, if_pos hrole]
        exact ⟨_, some o, _, _, _, _, _, _, _, _, _, rfl, ownSlot_length _ _, rfl, rfl, rfl, rfl⟩
      · simp only [State.role_setPar_contract, State.role_setSl, if_neg hrole]
        exact ⟨_, none, _, _, _, _, _, _, _, _, _, rfl, ownSlot_length _ _, rfl, rfl, rfl, rfl⟩
  · exact ⟨_, some i, _, _, _, _, _, _, _, _, _, rfl, ownSlot_length _ _, rfl, rfl, rfl, rfl⟩

section
variable {flags q ring ndev slot angle time speed rtt uid : Nat} {own : List Byte} (hown : own.length = 8)
include hown

theorem originBytes_length : (originBytes flags q ring ndev slot angle time speed rtt uid own).length = 47 := by
  simp [originBytes, hown]

omit hown in
/-- The sequence number, the position and the time in the originator's frame. -/
theorem originBytes_fields : frField (originBytes flags q ring ndev slot angle time speed rtt uid own) 2 2 = q % 65536 ∧
    frByte (originBytes flags q ring ndev slot angle time speed rtt uid own) 4 = 0 ∧
    frField (originBytes flags q ring ndev slot angle time speed rtt uid own) 14 8 = time % 2 ^ 64 := by
  refine ⟨?_, ?_, ?_⟩
  · have h := fieldAt_mid (a := leBytes 1 flags) (off := 1) (n := 2) (x := q) (c := leBytes 1 0 ++ leBytes 1 ring ++ leBytes 1 ndev
      ++ leBytes 1 slot ++ leBytes 6 angle ++ leBytes 8 time ++ leBytes 4 speed ++ leBytes 3 rtt ++ leBytes 1 uid ++ own
      ++ List.replicate 10 0) (by simp)
    simp only [← List.append_assoc] at h
    exact h
  · have h := fieldAt_mid (a := leBytes 1 flags ++ leBytes 2 q) (off := 3) (n := 1) (x := 0) (c := leBytes 1 ring
      ++ leBytes 1 ndev ++ leBytes 1 slot ++ leBytes 6 angle ++ leBytes 8 time ++ leBytes 4 speed ++ leBytes 3 rtt ++ leBytes 1 uid
      ++ own ++ List.replicate 10 0) (by simp)
    simp only [← List.append_assoc] at h
    exact h
  · have h := fieldAt_mid (a := leBytes 1 flags ++ leBytes 2 q ++ leBytes 1 0 ++ leBytes 1 ring ++ leBytes 1 ndev
      ++ leBytes 1 slot ++ leBytes 6 angle) (off := 13) (n := 8) (x := time) (c := leBytes 4 speed ++ leBytes 3 rtt
      ++ leBytes 1 uid ++ own ++ List.replicate 10 0) (by simp)
    simp only [← List.append_assoc] at h
    exact h

end

/-- HALT in the ring changes nothing of what is sent. -/
theorem State.ringHalt_sl : ∃ st, s.ringHalt.sl = { s.sl with state := st } := by
  rw [State.ringHalt]
  split
  · exact ⟨_, rfl⟩
  · exact ⟨_, rfl⟩

/-! ### The obligation -/

/-- Settles O45: each kind of frame that can arrive, and the originator's frame field by field. -/
theorem syncFramesComplete : Obligations.SyncFramesComplete := by
  unfold Obligations.SyncFramesComplete
  intro s f hup hp
  have hexec : exec (.syncFrame f) s = .next (s.finish (s.syncFrame f)) := by
    rw [exec_syncFrame, State.liveEvent_running _ hp]
  have horigin : exec .syncFrameOriginate s = .next (s.finish s.syncOriginate) := by
    rw [exec_syncFrameOriginate, State.liveEvent_running _ hp]
  refine ⟨fun hbad u hu => ⟨fun ho => ?_, fun ho => ?_⟩, fun hgood u hu => ⟨fun hb ho => ?_, fun hb ho => ?_, fun hb ho => ⟨fun hfly => ?_,
    fun hfly => ?_⟩, fun hb ho v w x hv hw hw' hx hx' => ?_⟩, fun h => ?_, fun ho hn ht hr => ?_⟩
  · rw [hexec, State.syncFrame_bad hup hbad hu, if_pos ho]
  · rw [hexec, State.syncFrame_bad hup hbad hu, if_neg (by simp [ho])]
  · rw [hexec, State.syncFrame_marked hup hgood hb hu, if_neg (by simp [ho])]
  · rw [hexec, State.syncFrame_marked hup hgood hb hu, if_pos ho]
  · rw [hexec, State.syncFrame_originator hup hgood hb hu ho, if_neg hfly]
  · rw [hexec, State.syncFrame_originator hup hgood hb hu ho, if_pos hfly]
  · have hwe : w = (if v.sl.state = .search then v.setSl { v.sl with state := .locking } else v).frameBoundary := by
      split
      · next hst => exact hw hst
      · next hst => exact hw' hst
    have hxe : x = if (w.sl.state == .locking || w.sl.state == .synced || w.sl.state == .hold) && w.isFollower then w.timeFollow f
        else w := by
      split
      · next hfol => exact hx (by simpa [or_assoc] using hfol)
      · next hfol => exact hx' (by simpa [or_assoc] using hfol)
    rw [hexec, State.syncFrame_followed hup hgood hb hu ho hv hwe hxe]
  · rw [horigin, State.syncOriginate_none h]
  · obtain ⟨v, c, flags, ring, ndev, slot, angle, speed, rtt, uid, own, heq, hown, hsent, hseq, hat, hnext⟩ :=
      State.syncOriginate_due hup ho hn ht hr
    obtain ⟨st, hsl⟩ := v.ringHalt_sl
    have hlen := originBytes_length (flags := flags) (q := s.sl.seq) (ring := ring) (ndev := ndev) (slot := slot) (angle := angle)
      (time := s.t) (speed := speed) (rtt := rtt) (uid := uid) hown
    obtain ⟨hq, hpos, htime⟩ := originBytes_fields (flags := flags) (q := s.sl.seq) (ring := ring) (ndev := ndev) (slot := slot)
      (angle := angle) (time := s.t) (speed := speed) (rtt := rtt) (uid := uid) (own := own)
    refine ⟨v.ringHalt, by rw [horigin, heq], ?_⟩
    rw [hsl]
    dsimp only
    rw [hsent]
    refine ⟨(sent_good (.inl hlen)).2, ?_, ?_, ?_, hseq, hat, hnext⟩
    · rw [← hq]
      exact fieldAt_congr (slice_sent (.inl hlen) (by norm_num))
    · rw [← htime]
      exact fieldAt_congr (slice_sent (.inl hlen) (by norm_num))
    · rw [← hpos]
      exact fieldAt_congr (slice_sent (.inl hlen) (by norm_num))

end Sys2Proof.Machine
end

section
/-! The sync link's timed events, `SL_ENABLE` and the commands of `SL_CTRL` (R470, R503–R507, R509, R513–R516, R521, R526). -/

namespace Sys2Proof.Machine

theorem exec_slLossTimeout (s : State) :
    exec .slLossTimeout s = .next (s.finish (s.liveEvent (fun s => s.slLoss))) := rfl
theorem exec_reformEnd (s : State) : exec .reformEnd s = .next (s.finish (s.liveEvent (fun s => s.reformEnd))) := rfl
theorem exec_uidCompare (s : State) : exec .uidCompare s = .next (s.finish (s.liveEvent (fun s => s.uidCompare))) := rfl
theorem exec_timeDivergenceTimeout (s : State) :
    exec .timeDivergenceTimeout s = .next (s.finish (s.liveEvent (fun s => s.timeDiverged))) := rfl
theorem exec_hashMismatch (s : State) :
    exec .hashMismatch s = .next (s.finish (s.liveEvent (fun s => s.hashMismatch))) := rfl
theorem exec_syncHoldExit (s : State) : exec .syncHoldExit s = .next (s.finish (s.liveEvent (fun s => s.holdExit))) := rfl
theorem exec_slEnableWrite (s : State) (v : Word) :
    exec (.slEnableWrite v) s = .next (s.finish (s.hostWrite P.SL_ENABLE 0 v.toNat)) := rfl
theorem exec_slCtrlReform (s : State) : exec .slCtrlReform s = .next (s.finish (s.hostWrite P.SL_CTRL 0 1)) := rfl
theorem exec_slCtrlRelease (s : State) : exec .slCtrlRelease s = .next (s.finish (s.hostWrite P.SL_CTRL 0 2)) := rfl
theorem exec_slCtrlResume (s : State) : exec .slCtrlResume s = .next (s.finish (s.hostWrite P.SL_CTRL 0 3)) := rfl
theorem exec_slCtrlClearCounters (s : State) :
    exec .slCtrlClearCounters s = .next (s.finish (s.hostWrite P.SL_CTRL 0 4)) := rfl

section
variable {s : State} (hup : s.slUp = true)
include hup

/-! ### The ring is lost (R506, Table 17.7) -/

omit hup in
theorem State.slLoss_early (h : s.t - s.sl.lastValid < usTicks (s.par P.SL_LOSSTO)) : s.slLoss = s := if_pos (.inr h)

/-- After `SL_LOSSTO` a standby behind its active takes over, and the staging buffer is emptied; after twice that the device that
followed is in SEARCH. -/
theorem State.slLoss_due (h : usTicks (s.par P.SL_LOSSTO) ≤ s.t - s.sl.lastValid) {u : State}
    (hu : u = (if s.sl.state = .synced ∧ s.role = Role.standby ∧ (decide (s.slPos ≤ 1) && s.isPair) = true then s.takeOver
      else s).dropStaging) : s.slLoss =
    if 2 * usTicks (s.par P.SL_LOSSTO) ≤ s.t - s.sl.lastValid ∧
      (u.sl.state = .locking ∨ u.sl.state = .synced ∨ u.sl.state = .hold) then u.enterSearch else u := by
  subst hu
  exact if_neg (by simp [hup, h])

omit hup in
/-- The two ways the first loss is told apart: a standby behind its active, and any other device. -/
theorem State.lossRole {lead : Prop} {u : State} (hlead : lead ↔ s.sl.state = .synced ∧ s.role = Role.standby ∧ s.slPos ≤ 1 ∧
    s.isPair = true) (hu : lead → u = s.takeOver.dropStaging) (hu' : ¬ lead → u = s.dropStaging) :
    u = (if s.sl.state = .synced ∧ s.role = Role.standby ∧ (decide (s.slPos ≤ 1) && s.isPair) = true then s.takeOver
      else s).dropStaging := by
  split
  · next h => exact hu (hlead.2 (by simpa using h))
  · next h => exact hu' (fun hl => h (by simpa using hlead.1 hl))

omit hup in
/-- SEARCH: the ring is lost to the engine, and to a device that was in step it is a fault. -/
theorem State.enterSearch_eq {v : State} (hv : v = ({ s with sl := { s.sl with
    state := .search, framed := false, loaded := false, within := 0, closed := false
    staging := none, nextChunk := 0, staged := [] } } : State).engRingLost) : s.enterSearch =
    if s.sl.state = .synced ∨ s.sl.state = .hold then v.raiseEpisode Fb.sync 5 2 else v := by
  subst hv
  rfl

/-! ### The end of re-formation (R503, R504, R516) -/

theorem State.reformEnd_originator (ho : s.sl.originates = true) : s.reformEnd =
    if s.sl.reform = true ∧ s.sl.reformLeft = 0 ∧ s.sl.closed = true then
      if 8 < s.sl.hops + 1 then s.raiseEpisode Fb.sync 9 2
      else
        let u := (s.setPar P.SL_NDEV 0 (s.sl.hops + 1)).setPar P.SL_POS 0 0
        ((u.setSl { u.sl with reform := false, partnerSeen := false, partnerLost := 0, haltSeen := u.anyHalt }).endEpisode
          Fb.sync 9).formPair
    else s := by
  rw [State.reformEnd, if_neg (by simp [hup]), if_pos ho]

theorem State.reformEnd_other (ho : s.sl.originates = false) : s.reformEnd =
    if s.sl.forming = true ∧ s.sl.reform = false ∧ s.sl.framed = true then
      (s.setSl { s.sl with forming := false, partnerSeen := false, partnerLost := 0 }).formPair
    else s := by
  rw [State.reformEnd, if_neg (by simp [hup]), if_neg (by simp [ho])]

omit hup in
/-- A device that is of no pair takes the role of `SL_ROLECFG`. -/
theorem State.formPair_single (h : s.par P.SL_ROLECFG < 2) : s.formPair = s.setPar P.SL_ROLE 0 (s.par P.SL_ROLECFG) := if_pos h

omit hup in
/-- A pair's device whose partner is not in the ring works without it. -/
theorem State.formPair_alone (h : 2 ≤ s.par P.SL_ROLECFG) (hn : s.par P.SL_NDEV ≤ s.partner) : s.formPair =
    ((s.setPar P.SL_ROLE 0 (if s.slPos = 0 then Role.leader else Role.follower)).dropStaging).raiseEpisode Fb.sync 11 2 := by
  rw [State.formPair]
  simp only [if_neg (Nat.not_lt.2 h), if_pos hn]

/-! ### Rivals, divergence, hashes and HOLD -/

omit hup in
theorem State.uidCompare_none (h : s.sl.originates = false ∨ s.sl.rivals < 64) : s.uidCompare = s := by
  refine if_neg ?_
  rcases h with h | h
  · simp [h]
  · simp [Nat.not_le.2 h]

/-- 64 rivals in turn: the byte of the UID under comparison decides who goes on originating (R505). -/
theorem State.uidCompare_due (ho : s.sl.originates = true) (hr : 64 ≤ s.sl.rivals) : s.uidCompare =
    if s.sl.rivalUid < s.uidByte then
      let u := s.setSl { s.sl with
        originates := false, reformLeft := 0, rivals := 0, state := .locking, loaded := false, within := 0, flying := [] }
      (if s.isPair then u else u.setPar P.SL_ROLE 0 Role.follower).raiseEpisode Fb.sync 10 2
    else if s.uidByte = s.sl.rivalUid then s.setSl { s.sl with rivals := 0, uidByte := min 7 (s.sl.uidByte + 1) }
    else s.setSl { s.sl with rivals := 0 } := if_pos (by simp [hup, ho, hr])

omit hup in
theorem State.timeDiverged_none
    (h : s.sl.diverged = false ∨ s.sl.timeDiv = true ∨ s.t < s.sl.divergedAt + msTicks (s.par P.SL_CONVT)) :
    s.timeDiverged = s := by
  refine if_neg ?_
  rcases h with h | h | h
  · simp [h]
  · simp [h]
  · simp [Nat.not_le.2 h]

theorem State.timeDiverged_due (hd : s.sl.diverged = true) (ht : s.sl.timeDiv = false)
    (hdue : s.sl.divergedAt + msTicks (s.par P.SL_CONVT) ≤ s.t) :
    s.timeDiverged = (s.setSl { s.sl with timeDiv := true }).raiseEpisode Fb.sync 6 2 :=
  if_pos (by simp [hup, hd, ht, hdue])

end

/-- The pair's hashes have differed for `SL_HASHCYC` cycles (R513). -/
def State.hashLasts (s : State) : Bool :=
  match s.sl.pairAt with
  | some a => decide ((s.par P.SL_HASHCYC * 2 ^ 24 : Nat) ≤ stampSub s.angleStamp a)
  | none => false

variable {s : State}

theorem State.hashLasts_iff : s.hashLasts = true ↔
    ∃ a, s.sl.pairAt = some a ∧ s.par P.SL_HASHCYC * 2 ^ 24 ≤ stampSub s.angleStamp a := by
  rw [State.hashLasts]
  cases h : s.sl.pairAt <;> simp

theorem State.hashMismatch_none (h : s.isFollower = false ∨ (s.sl.state ≠ .synced ∧ s.sl.state ≠ .hold)) :
    s.hashMismatch = s := if_pos (.inr h)

/-- A follower in step whose hash differs raises HOLD with its cause (R513). -/
theorem State.hashMismatch_follower (hup : s.slUp = true) (hf : s.isFollower = true)
    (hst : s.sl.state = .synced ∨ s.sl.state = .hold) : s.hashMismatch =
      if s.hashLasts = true then ((s.setSl { s.sl with holdPair := true }).enterHold).raiseEpisode Fb.sync 7 2
      else if s.grist.state = .idle ∧ bitOf (tblGet {} s.sl.peers 0).b4 6 = false then
        ((s.setSl { s.sl with holdHash := true }).enterHold).raiseEpisode Fb.sync 7 2
      else s := by
  have hgo : ¬ (s.slUp = false ∨ s.isFollower = false ∨ (s.sl.state ≠ .synced ∧ s.sl.state ≠ .hold)) := by
    rcases hst with h | h <;> simp [hup, hf, h]
  rw [State.hashMismatch, if_neg hgo]
  rfl

/-- HOLD, with Kiln in IDLE (R514). -/
theorem State.enterHold_eq {v : State} (hv : v = s.setSl { s.sl with state := .hold, clearAt := some s.angleStamp }) :
    s.enterHold = if v.kiln.state = .run ∨ v.kiln.state = .trim then v.klIdle else v := by
  subst hv
  rfl

/-- Every hold cause has been absent for a machine cycle (R514). -/
def State.holdAbsent (s : State) : Bool :=
  match s.sl.clearAt with
  | some a => decide ((2 ^ 24 : Nat) ≤ stampSub s.angleStamp a)
  | none => false

theorem State.holdExit_not (h : s.sl.state ≠ .hold ∨ s.sl.holdContract = true ∨ s.sl.holdPair = true ∨
    s.sl.clearAt.all (fun a => decide (stampSub s.angleStamp a < 2 ^ 24)) = true) :
    ¬ (s.sl.state = .hold ∧ s.holdAbsent = true ∧ s.sl.holdContract = false ∧ s.sl.holdPair = false) := by
  rintro ⟨hst, habsent, hcon, hpair⟩
  rcases h with h | h | h | h
  · exact h hst
  · simp [hcon] at h
  · simp [hpair] at h
  · rw [State.holdAbsent] at habsent
    cases hat : s.sl.clearAt with
    | none => simp [hat] at habsent
    | some a =>
      simp only [hat, Option.all_some, decide_eq_true_eq] at h habsent
      omega

theorem State.holdExit_eq (hup : s.slUp = true) : s.holdExit =
    if s.sl.state = .hold ∧ s.holdAbsent = true ∧ s.sl.holdContract = false ∧ s.sl.holdPair = false then
      ((s.setSl { s.sl with state := .synced, holdHash := false, holdPair := false }).endEpisode Fb.sync 7).followRun
    else s := by
  have hcond : (s.slUp && s.sl.state == .hold && s.holdAbsent && !s.sl.holdContract && !s.sl.holdPair) = true ↔
      s.sl.state = .hold ∧ s.holdAbsent = true ∧ s.sl.holdContract = false ∧ s.sl.holdPair = false := by
    simp [hup, and_assoc]
  rw [← ite_cond_congr (propext hcond)]
  rfl

/-! ### `SL_ENABLE` (R506, R507) -/

/-- `SL_ENABLE` in the parameter table. -/
def slEnableDef : ParamDef := ⟨P.SL_ENABLE, .rwLive, 1, .all 0, .spans [(0, 1)]⟩

theorem valueOk_SL_ENABLE (v : Nat) : valueOk P.SL_ENABLE 0 v = decide (v ≤ 1) := by
  have hval : valueOk P.SL_ENABLE 0 v = (inSpans [(0, 1)] v && true) := rfl
  rw [hval]
  simp [inSpans]

/-- A write of `SL_ENABLE` turns the link on or off. -/
theorem State.hostWrite_SL_ENABLE {v : Nat} (hup : s.hopperUp = true) (hr : s.resetting Fb.sync = false) (hv : v ≤ 1) :
    s.hostWrite P.SL_ENABLE 0 v = ((s.setPar P.SL_ENABLE 0 v).slEnable (v == 1)).done :=
  State.hostWrite_live (d := slEnableDef) rfl hup rfl Nat.one_pos (by simpa [valueOk_SL_ENABLE] using hv) hr rfl rfl

/-- A write of 1 or 0 that the command layer takes. -/
theorem exec_slEnableWrite_taken (hup : s.hopperUp = true) (hr : s.resetting Fb.sync = false) :
    exec (.slEnableWrite 1) s = .next (s.finish ((s.setPar P.SL_ENABLE 0 1).slEnable true).done) ∧
    exec (.slEnableWrite 0) s = .next (s.finish ((s.setPar P.SL_ENABLE 0 0).slEnable false).done) := by
  have htaken (v : Word) (hv : v.toNat ≤ 1) : exec (.slEnableWrite v) s =
      .next (s.finish ((s.setPar P.SL_ENABLE 0 v.toNat).slEnable (v.toNat == 1)).done) := by
    rw [exec_slEnableWrite, State.hostWrite_SL_ENABLE hup hr hv]
  exact ⟨htaken 1 (by decide), htaken 0 (by decide)⟩

theorem State.slEnable_on_again (h : s.sl.state ≠ .off) : s.slEnable true = s := if_pos h

/-- Enabling enters SEARCH, or HALTED in Halt, with the role of `SL_ROLECFG`; a leader and an active originate. -/
theorem State.slEnable_on {c : Nat} {lead : Bool} (h : s.sl.state = .off) (hc : c = s.par P.SL_ROLECFG)
    (hl : lead = (c == 0 || c == 2)) : s.slEnable true = { ((s.setPar P.SL_ROLE 0 c).setPar P.SL_POS 0 0).setPar P.SL_NDEV 0 0 with
      sl := { s.sl with
        state := (if s.flt.halted = true then .halted else .search), originates := lead
        reformLeft := (if lead = true then 64 else 0), reform := lead, hops := 0, uidByte := 0, rivals := 0
        lastValid := s.t, framed := false, closed := false, forming := false, loaded := false, within := 0
        diverged := false, timeDiv := false, peers := [], flying := [], trips := [], returned := none
        partnerLost := 0, partnerSeen := false, haltSeen := false, nextFrame := s.t, holdHash := false
        holdContract := false, holdPair := false, clearAt := none, pairAt := none } } := by
  subst hl hc
  exact if_neg (not_not.2 h)

theorem State.slEnable_off_again (h : s.sl.state = .off) : s.slEnable false = s := if_pos h

/-- Disabling ends transfers and roles, and time runs at its own rate. -/
theorem State.slEnable_off {x : State} (h : s.sl.state ≠ .off) (hx : x = (s.transferEnd false).dropStaging) : s.slEnable false =
    ({ x with slew := 0, sl := { x.sl with
      state := .off, originates := false, reformLeft := 0, reform := false, framed := false, closed := false
      forming := false, held := false, heldPins := none, takeDue := false, releaseDue := false } } : State).engRingLost := by
  subst hx
  exact if_neg h

/-! ### `SL_CTRL` (R526) -/

/-- The commands of `SL_CTRL`, taken as host writes. -/
theorem exec_slCtrl_commands (hup : s.hopperUp = true) (hr : s.resetting Fb.sync = false) :
    exec .slCtrlReform s = .next (s.finish s.slReform) ∧ exec .slCtrlRelease s = .next (s.finish s.slRelease) ∧
    exec .slCtrlResume s = .next (s.finish s.slResume) ∧ exec .slCtrlClearCounters s = .next (s.finish s.slClear) := by
  refine ⟨?_, ?_, ?_, ?_⟩
  · rw [exec_slCtrlReform, State.hostWrite_SL_CTRL hup (by decide) hr]; rfl
  · rw [exec_slCtrlRelease, State.hostWrite_SL_CTRL hup (by decide) hr]; rfl
  · rw [exec_slCtrlResume, State.hostWrite_SL_CTRL hup (by decide) hr]; rfl
  · rw [exec_slCtrlClearCounters, State.hostWrite_SL_CTRL hup (by decide) hr]; rfl

/-- Every command of `SL_CTRL` is refused while the block is being reset (R577). -/
theorem State.hostWrite_SL_CTRL_busy {v : Nat} (hup : s.hopperUp = true) (hr : s.resetting Fb.sync = true)
    (hv : valueOk P.SL_CTRL 0 v = true) : s.hostWrite P.SL_CTRL 0 v = s.answer Status.busyLocked :=
  State.hostWrite_busy (id := P.SL_CTRL) (d := ⟨P.SL_CTRL, .cmd, 1, .each [], .spans [(1, 4)]⟩) rfl nofun hup Nat.one_pos hv hr

/-- RESUME takes back a HALTED device once its fault is acknowledged and no device shows Halt (R470, R515). -/
theorem State.slResume_back {st : SlState} (h : s.sl.state = .halted) (hp : s.pendingC Fb.sync = false)
    (hs : s.sl.haltSeen = false) (hst : st = (if s.sl.originates = true then (if s.sl.closed = true then .synced else .search)
      else if s.sl.framed = true then .locking else .search)) :
    s.slResume = (({ s with sl := { s.sl with state := st, within := 0 } } : State).openWindow Fb.sync).done := by
  subst hst
  exact if_pos ⟨h, hp, hs⟩

theorem State.slResume_refused (h : s.sl.state ≠ .halted ∨ s.pendingC Fb.sync = true ∨ s.sl.haltSeen = true) :
    s.slResume = s.answer Status.notPermitted := by
  refine if_neg ?_
  rcases h with h | h | h <;> simp [h]

/-! ### The obligation -/

/-- Settles O47: each timed event in its condition and out of it, then the writes of `SL_ENABLE` and `SL_CTRL`. -/
theorem syncTimersAndCommandsComplete : Obligations.SyncTimersAndCommandsComplete := by
  unfold Obligations.SyncTimersAndCommandsComplete
  refine ⟨fun s hup hp => ?_, fun s hup => ⟨fun hr => ⟨fun v hv => ?_, ?_, ?_, ?_, ?_⟩, fun v hv => ?_,
    fun hr u w hu hw => ⟨fun hst => ?_, fun hst c lead hc hl => ?_, fun hst => ?_, fun hst x hx => ?_⟩, fun hr => ?_⟩⟩
  · have hevent (f : State → State) : s.liveEvent f = f s := State.liveEvent_running f hp
    simp only [exec_slLossTimeout, exec_reformEnd, exec_uidCompare, exec_timeDivergenceTimeout, exec_hashMismatch, exec_syncHoldExit,
      hevent]
    refine ⟨fun h => ?_, fun h lead u hlead hu hu' => ⟨fun hno => ?_, fun h2 v hv => ⟨fun hst => ?_, fun hst => ?_⟩⟩,
      fun ho hno => ?_, fun ho href hleft hcl => ⟨fun hh => ?_, ?_⟩, fun ho hno => ?_, fun ho hform href hfr => ?_, fun h => ?_,
      fun ho hr => ⟨fun hlt => ?_, fun heq => ?_, fun hgt => ?_⟩, fun h => ?_, fun hd ht hdue => ?_, fun h => ?_,
      fun hf hst lasts hlasts quiet hquiet => ⟨fun hnl hnq => ?_, fun v hv hv' hlq => ?_⟩, fun h => ?_,
      fun a hst hat hclear hcon hpair => ?_⟩
    · rw [State.slLoss_early h]
    · rw [State.slLoss_due hup h (State.lossRole hlead hu hu'), if_neg (by rintro ⟨hidle, hst⟩; exact hno.elim (by omega) (· hst))]
    · rw [State.slLoss_due hup h (State.lossRole hlead hu hu'), if_pos ⟨h2, .inl hst⟩, State.enterSearch_eq hv,
        if_neg (by simp [hst])]
    · rw [State.slLoss_due hup h (State.lossRole hlead hu hu'), if_pos ⟨h2, .inr hst⟩, State.enterSearch_eq hv, if_pos hst]
    · rw [State.reformEnd_originator hup ho, if_neg hno]
    · rw [State.reformEnd_originator hup ho, if_pos ⟨href, hleft, hcl⟩, if_pos (by omega)]
    · rintro hh _ rfl _ v rfl hv
      have hform : s.reformEnd = v.formPair := by
        rw [State.reformEnd_originator hup ho, if_pos ⟨href, hleft, hcl⟩, if_neg (by omega), hv]
        rfl
      rw [hform]
      exact ⟨rfl, fun h => by rw [State.formPair_single h]⟩
    · rw [State.reformEnd_other hup ho, if_neg hno]
    · intro v hv
      have hend : s.reformEnd = v.formPair := by
        rw [State.reformEnd_other hup ho, if_pos ⟨hform, href, hfr⟩, hv]
        rfl
      rw [hend]
      exact ⟨rfl, fun h => by rw [State.formPair_single h], fun h hn => by rw [State.formPair_alone h hn]⟩
    · rw [State.uidCompare_none h]
    · rintro _ rfl
      rw [State.uidCompare_due hup ho hr, if_pos hlt]
      exact ⟨fun hpair => by simp only [hpair, if_true]; rfl, fun hpair => by simp only [hpair, Bool.false_eq_true, if_false]; rfl⟩
    · rw [State.uidCompare_due hup ho hr, if_neg (by omega), if_pos heq.symm]; rfl
    · rw [State.uidCompare_due hup ho hr, if_neg (by omega), if_neg (by omega)]; rfl
    · rw [State.timeDiverged_none h]
    · rw [State.timeDiverged_due hup hd ht hdue]; rfl
    · rw [State.hashMismatch_none h]
    · rw [State.hashMismatch_follower hup hf hst, if_neg (mt State.hashLasts_iff.1 (mt hlasts.2 hnl)), if_neg (mt hquiet.2 hnq)]
    · rw [State.hashMismatch_follower hup hf hst]
      by_cases hl : lasts
      · rw [if_pos (State.hashLasts_iff.2 (hlasts.1 hl)), State.enterHold_eq (hv hl)]
        exact ⟨fun hk => by rw [if_pos hk], fun hk => by rw [if_neg hk]⟩
      · rw [if_neg (mt State.hashLasts_iff.1 (mt hlasts.2 hl)), if_pos (hquiet.1 (hlq.resolve_left hl)), State.enterHold_eq (hv' hl)]
        exact ⟨fun hk => by rw [if_pos hk], fun hk => by rw [if_neg hk]⟩
    · rw [State.holdExit_eq hup, if_neg (State.holdExit_not h)]
    · have habsent : s.holdAbsent = true := by simpa [State.holdAbsent, hat] using hclear
      rw [State.holdExit_eq hup, if_pos ⟨hst, habsent, hcon, hpair⟩]
      rfl
  · rw [exec_slEnableWrite, State.hostWrite_busy (id := P.SL_ENABLE) (d := slEnableDef) rfl nofun hup Nat.one_pos
      (by simpa [valueOk_SL_ENABLE] using hv) hr]
  · rw [exec_slCtrlReform, State.hostWrite_SL_CTRL_busy hup hr (by decide)]
  · rw [exec_slCtrlRelease, State.hostWrite_SL_CTRL_busy hup hr (by decide)]
  · rw [exec_slCtrlResume, State.hostWrite_SL_CTRL_busy hup hr (by decide)]
  · rw [exec_slCtrlClearCounters, State.hostWrite_SL_CTRL_busy hup hr (by decide)]
  · have hrange : valueOk P.SL_ENABLE 0 v.toNat = false := by
      rw [valueOk_SL_ENABLE]
      exact decide_eq_false (by omega)
    rw [exec_slEnableWrite, State.hostWrite_refused hup
      (State.writeCheck_range (d := slEnableDef) rfl nofun Nat.one_pos hrange) (by decide)]
  · rw [(exec_slEnableWrite_taken hup hr).1, ← hu, State.slEnable_on_again (by rw [hu]; exact hst)]
  · have hc' : c = u.par P.SL_ROLECFG := by rw [hc, hu, State.par_setPar_ne _ _ (by decide)]
    rw [(exec_slEnableWrite_taken hup hr).1, ← hu, State.slEnable_on (by rw [hu]; exact hst) hc' hl, hu]
    rfl
  · rw [(exec_slEnableWrite_taken hup hr).2, ← hw, State.slEnable_off_again (by rw [hw]; exact hst)]
  · rw [(exec_slEnableWrite_taken hup hr).2, ← hw, State.slEnable_off (by rw [hw]; exact hst) hx]
  · obtain ⟨hreform, hrelease, hresume, hclear⟩ := exec_slCtrl_commands hup hr
    rw [hreform, hrelease, hresume, hclear]
    exact ⟨fun ho => by rw [State.slReform, if_pos ho]; rfl, fun ho => by rw [State.slReform, if_neg (by simp [ho])],
      fun h => by rw [State.slRelease, if_pos h]; rfl, fun h => by rw [State.slRelease, if_neg h],
      fun hst hpend hseen st h => by rw [State.slResume_back hst hpend hseen h], fun h => by rw [State.slResume_refused h], rfl⟩

end Sys2Proof.Machine
end

section
/-! Gen-1 frames on Port S1 and personality packets on S2 and U (R400–R402, R420–R424, Table 14.7). -/

namespace Sys2Proof.Machine

theorem exec_readId (s : State) (c : PersCommand) : exec (.readId c) s = .next (s.finish (s.opReadId c)) := rfl
theorem exec_readStatus (s : State) (c : PersCommand) : exec (.readStatus c) s = .next (s.finish (s.opReadStatus c)) := rfl
theorem exec_softReset (s : State) (c : PersCommand) : exec (.softReset c) s = .next (s.finish (s.opSoftReset c)) := rfl
theorem exec_setGain (s : State) (c : PersCommand) : exec (.setGain c) s = .next (s.finish (s.opSetGain c)) := rfl
theorem exec_setFilter (s : State) (c : PersCommand) : exec (.setFilter c) s = .next (s.finish (s.opSetFilter c)) := rfl
theorem exec_startScan (s : State) (c : PersCommand) : exec (.startScan c) s = .next (s.finish (s.opStartScan c)) := rfl
theorem exec_stopScan (s : State) (c : PersCommand) : exec (.stopScan c) s = .next (s.finish (s.opStopScan c)) := rfl
theorem exec_readCh (s : State) (c : PersCommand) : exec (.readCh c) s = .next (s.finish (s.opReadCh c)) := rfl
theorem exec_setRate (s : State) (c : PersCommand) : exec (.setRate c) s = .next (s.finish (s.opSetRate c)) := rfl
theorem exec_setThrh (s : State) (c : PersCommand) : exec (.setThrh c) s = .next (s.finish (s.opSetThrh c)) := rfl
theorem exec_setThrl (s : State) (c : PersCommand) : exec (.setThrl c) s = .next (s.finish (s.opSetThrl c)) := rfl
theorem exec_persCmpCtrl (s : State) (c : PersCommand) : exec (.persCmpCtrl c) s = .next (s.finish (s.opPersCmpCtrl c)) := rfl
theorem exec_readCmp (s : State) (c : PersCommand) : exec (.readCmp c) s = .next (s.finish (s.opReadCmp c)) := rfl
theorem exec_setOut (s : State) (c : PersCommand) : exec (.setOut c) s = .next (s.finish (s.opSetOut c)) := rfl
theorem exec_readBlock (s : State) (c : PersCommand) : exec (.readBlock c) s = .next (s.finish (s.opReadBlock c)) := rfl
theorem exec_xsel (s : State) (c : PersCommand) : exec (.xsel c) s = .next (s.finish (s.opXsel c)) := rfl
theorem exec_xrdlo (s : State) (c : PersCommand) : exec (.xrdlo c) s = .next (s.finish (s.opXrdlo c)) := rfl
theorem exec_xrdhi (s : State) (c : PersCommand) : exec (.xrdhi c) s = .next (s.finish (s.opXrdhi c)) := rfl
theorem exec_xwrlo (s : State) (c : PersCommand) : exec (.xwrlo c) s = .next (s.finish (s.opXwrlo c)) := rfl
theorem exec_xwrhi (s : State) (c : PersCommand) : exec (.xwrhi c) s = .next (s.finish (s.opXwrhi c)) := rfl
theorem exec_gen1FrameDiscard (s : State) : exec .gen1FrameDiscard s = .next (s.finish s.gen1Discard) := rfl
theorem exec_gen1FrameRejected (s : State) (op : BitVec 6) (undefinedOp : Bool) :
    exec (.gen1FrameRejected op undefinedOp) s = .next (s.finish (s.gen1Rejected op.toNat undefinedOp)) := rfl

/-- GET_GAIN: the gain of the channel's cell, where it can be read (Table 14.7). -/
def State.runGetGain (x : PersArg) (s : State) : State :=
  let u := s.readParam x.port P.AC_GAIN (s.persCell x.arg)
  if u.result.status = Status.ok then u.doneQ (fieldAt u.result.data 0 2) else u

/-- SET_MODE: the mode of the channel's cell, where the part has it (Table 14.7). -/
def State.runSetMode (x : PersArg) (s : State) : PersOut :=
  if 3 < x.data ∨ (x.data = 3 ∧ x.big = false) then ⟨s.answer Status.outOfRange, [], []⟩
  else s.persWrites x.port [{ id := P.AC_MODE, inst := s.persCell x.arg, value := x.data }] []

theorem exec_getGain (s : State) (c : PersCommand) : exec (.getGain c) s =
    .next (s.finish (s.pers c { op := 0x09, channel := true, slow := 4, fast := 3 } (plainOp State.runGetGain))) := rfl
theorem exec_setMode (s : State) (c : PersCommand) : exec (.setMode c) s = .next (s.finish (s.pers c
    { op := 0x0B, data := true, channel := true, owner := true, slow := 30, fast := 25 } State.runSetMode)) := rfl

variable {s : State}

/-! ### A frame that is taken -/

/-- An OP whose reply is ready when it has executed is answered at once. -/
theorem PersOut.answered_plain (t : State) (op n : Nat) : (⟨t, [], []⟩ : PersOut).answered op n = t.s1Reply op n := rfl

/-- Outside faithful mode no reply is held back (R425). -/
theorem State.persHold_quick {port : Nat} (h : s.par P.HP_TFAITH (port - 1) ≠ 1) (us : Nat) : s.persHold port us = none :=
  if_neg (fun hc => h hc.1)

/-- A frame's command that passes steps 7 to 11 executes; one that writes may take a free device first (R402). -/
theorem State.frameRun_passes {k : PersRule} {x : PersArg} {run : PersArg → State → PersOut}
    (hentry : (s.hp.waits.filter (fun w => w.port == 1 && !w.codes.isEmpty)).length < 4)
    (hchannel : k.channel = true → x.arg < persChannels x.big) (hargs : x.arg < k.args)
    (howner : k.owner = true → s.s1Auto.owns 1 = true) :
    s.frameRun k x run = run x (if k.owner then s.s1Auto else s) := by
  have htarget : ¬ ((k.channel = true ∧ persChannels x.big ≤ x.arg) ∨ k.args ≤ x.arg) := by
    rintro (⟨hc, hle⟩ | hle)
    · exact Nat.not_le.2 (hchannel hc) hle
    · exact Nat.not_le.2 hargs hle
  have hown : ¬ (k.owner = true ∧ (if k.owner then s.s1Auto else s).owns 1 = false) := by
    rintro ⟨ho, hno⟩
    simp [ho, howner ho] at hno
  rw [State.frameRun, if_neg (Nat.not_le.2 hentry), if_neg htarget]
  exact if_neg hown

/-- What a frame of S1 with an OP of its part leads to. -/
theorem State.persFrame_eq {k : PersRule} {arg data : Nat} {run : PersArg → State → PersOut} {o : PersOut} {hold : Option Nat}
    (hh : s.hears 1 = true) (hpart : ¬ (k.big = true ∧ (s.par P.HP_PERS == 2) = false))
    (hhold : hold = (s.framed k.op).persHold 1 (if s.par P.HP_PERS == 2 then k.fast else k.slow))
    (ho : o = (s.framed k.op).frameRun k ⟨1, s.par P.HP_PERS == 2, arg, data⟩ run) : s.persFrame k arg data run =
      if o.codes.isEmpty ∧ hold = none then o.s.s1Reply k.op (s.framed k.op).hp.s1.count
      else o.s.persWait { port := 1, code := 0, opcode := k.op, seq := 0, target := 0, payload := [], crc := 0, quiet := false
                          mute := false, src := none, hold := hold } (s.framed k.op).hp.s1.count o.codes o.starts := by
  subst hhold ho
  unfold State.persFrame
  rw [if_neg (by simp [hh])]
  simp only [if_neg hpart]
  rfl

/-- A frame that S1 takes outside faithful mode executes its OP and is answered (R400–R402). -/
theorem State.persFrame_runs {k : PersRule} {arg data : Nat} {run : PersArg → State → PersOut} {x : PersArg}
    (hx : x = ⟨1, s.par P.HP_PERS == 2, arg, data⟩) (h : s.TakesFrame k.op) (hbig : k.big = true → x.big = true)
    (hchannel : k.channel = true → x.arg < persChannels x.big) (hargs : x.arg < k.args)
    (howner : k.owner = true → (s.framed k.op).s1Auto.owns 1 = true) : s.persFrame k arg data run =
      (run x (if k.owner then (s.framed k.op).s1Auto else s.framed k.op)).answered k.op (s.framed k.op).hp.s1.count := by
  have hpart : ¬ (k.big = true ∧ (s.par P.HP_PERS == 2) = false) := fun hc => by
    have hb := hbig hc.1
    rw [hx, hc.2] at hb
    exact Bool.false_ne_true hb
  have hrun := State.frameRun_passes (run := run) h.entry hchannel hargs howner
  rw [hx] at hrun
  have hhold : none = (s.framed k.op).persHold 1 (if s.par P.HP_PERS == 2 then k.fast else k.slow) :=
    (State.persHold_quick (port := 1) h.quick _).symm
  have hframe := State.persFrame_eq (run := run) (arg := arg) (data := data) h.heard hpart hhold hrun.symm
  rw [hframe, ← hx, PersOut.answered]
  simp only [and_true]

section
variable {i : Instr} {arg : BitVec 8} {data : BitVec 16} {k : PersRule} {op : Nat} {run : PersArg → State → PersOut} {x : PersArg}
  {b c t : State} (hi : exec i s = .next (s.finish (s.pers (.frame arg data) k run)))
  (hx : x = ⟨1, s.par P.HP_PERS == 2, arg.toNat, data.toNat⟩) (hb : b = s.framed op) (h : s.TakesFrame op)
  (hop : k.op = op) (hargs : x.arg < k.args)
  (hbig : k.big = true → x.big = true) (hchannel : k.channel = true → x.arg < persChannels x.big)
include hi hx hb h hop hargs hbig hchannel

/-- An OP that writes nothing executes in the state that the frame's arrival leaves. -/
theorem exec_frame_read (hk : k.owner = false) (ht : t = (run x b).answered op b.hp.s1.count) :
    exec i s = .next (s.finish t) := by
  subst hop hb ht
  have hruns := State.persFrame_runs (run := run) hx h hbig hchannel hargs (by simp [hk])
  rw [hk] at hruns
  rw [hi]
  exact congrArg (fun z => Host.Outcome.next (s.finish z)) hruns

/-- An OP that writes executes in that state, whose device S1 owns, taken where it was free (R402). -/
theorem exec_frame_write (hk : k.owner = true) (hc : c = b.s1Auto) (howns : c.owns 1 = true)
    (ht : t = (run x c).answered op b.hp.s1.count) : exec i s = .next (s.finish t) := by
  subst hop hc hb ht
  have hruns := State.persFrame_runs (run := run) hx h hbig hchannel hargs (fun _ => howns)
  rw [hk] at hruns
  rw [hi]
  exact congrArg (fun z => Host.Outcome.next (s.finish z)) hruns

end

section
variable {i : Instr} {arg : BitVec 8} {data : BitVec 16} {k : PersRule} {op : Nat} {f : PersArg → State → State} {x : PersArg}
  {b c t : State} (hi : exec i s = .next (s.finish (s.pers (.frame arg data) k (plainOp f))))
  (hx : x = ⟨1, s.par P.HP_PERS == 2, arg.toNat, data.toNat⟩) (hb : b = s.framed op) (h : s.TakesFrame op)
  (hop : k.op = op) (hargs : x.arg < k.args)
  (hbig : k.big = true → x.big = true) (hchannel : k.channel = true → x.arg < persChannels x.big)
include hi hx hb h hop hargs hbig hchannel

/-- The same of an OP that awaits no swap: it is answered at once. -/
theorem exec_frame_read_plain (hk : k.owner = false) (ht : t = (f x b).s1Reply op b.hp.s1.count) :
    exec i s = .next (s.finish t) :=
  exec_frame_read hi hx hb h hop hargs hbig hchannel hk (ht.trans (PersOut.answered_plain _ _ _).symm)

theorem exec_frame_write_plain (hk : k.owner = true) (hc : c = b.s1Auto) (howns : c.owns 1 = true)
    (ht : t = (f x c).s1Reply op b.hp.s1.count) : exec i s = .next (s.finish t) :=
  exec_frame_write hi hx hb h hop hargs hbig hchannel hk hc howns (ht.trans (PersOut.answered_plain _ _ _).symm)

end

/-- Every ARG of a frame lies within an OP that sets no limit of its own. -/
theorem arg_lt {x : PersArg} {arg : BitVec 8} {data : BitVec 16} (hx : x = ⟨1, s.par P.HP_PERS == 2, arg.toNat, data.toNat⟩) :
    x.arg < 65536 := by
  rw [hx]
  exact arg.isLt.trans (by norm_num)

section
variable {i : Instr} {p : Packet} {k : PersRule} {op bytes us : Nat} {run : PersArg → State → PersOut} {x : PersArg} {a t : State}

/-- A personality packet that passes steps 1 to 9 outside faithful mode executes its OP and is answered (R424). -/
theorem exec_packet_pers (hi : exec i s = .next (s.finish (s.persPacket p k bytes us run)))
    (hx : x = ⟨portCode p.port, true, p.target.toNat, fieldAt p.payload 0 2⟩) (ha : a = s.persAdmitted p op)
    (h : s.AdmitsPers p op) (hop : k.op = op)
    (hl : p.payload.length = bytes) (hargs : x.arg < k.args) (hchannel : k.channel = true → x.arg < 32)
    (howner : k.owner = true → a.owns (portCode p.port) = true) (ht : t = (run x a).replied p op) : exec i s = .next (s.finish t) := by
  subst hop ha ht hx
  rw [hi, State.pers_admits h hl hchannel hargs howner]

theorem target_lt (hx : x = ⟨portCode p.port, true, p.target.toNat, fieldAt p.payload 0 2⟩) : x.arg < 65536 := by
  rw [hx]
  exact p.target.isLt

end

/-! ### OPs whose DATA may be refused -/

/-- SET_MODE of a mode that the part has (Table 14.7). -/
theorem State.runSetMode_ok {x : PersArg} (h : x.data ≤ 2 ∨ (x.data = 3 ∧ x.big = true)) : State.runSetMode x s =
    s.persWrites x.port [{ id := P.AC_MODE, inst := s.persCell x.arg, value := x.data }] [] := by
  refine if_neg ?_
  rcases h with h | ⟨h, hbig⟩
  · omega
  · simp [h, hbig]

/-- GET_GAIN in terms of the state that its read leaves. -/
theorem State.runGetGain_eq {x : PersArg} {u : State} (hu : u = s.readParam x.port P.AC_GAIN (s.persCell x.arg)) :
    State.runGetGain x s = if u.result.status = Status.ok then u.doneQ (fieldAt u.result.data 0 2) else u := by
  subst hu
  rfl

/-- SET_RATE of a pace that the part has. -/
theorem State.runSetRate_ok {x : PersArg} (h : 10 ≤ x.data) : State.runSetRate x s = s.persWrites x.port
    ((List.range 4).map (fun g => { id := P.SAR_PACE, inst := 16 * g + 15, value := 100 * x.data })) [] :=
  if_neg (Nat.not_lt.2 h)

/-- READ_CMP of a comparator that can be read. -/
theorem State.runReadCmp_ok {x : PersArg} (h : s.readStatus P.CMP_STATUS (s.persCell x.arg) = Status.ok) :
    State.runReadCmp x s = (s.setPar P.CMP_EVENT (s.persCell x.arg) 0).doneQ
      (b2n (s.cmp (s.persCell x.arg)).delivered + 2 * s.par P.CMP_EVENT (s.persCell x.arg)) :=
  if_neg (not_not.2 h)

/-! ### Frames without an OP that executes (R400, R401) -/

section
variable (hh : s.hears 1 = true)
include hh

theorem State.gen1Rejected_check {op : Nat} (hop : op ≠ 0) {u : State} (hu : u = (s.bump P.HP_CRCERR 0).s1Frame op) :
    s.gen1Rejected op false = (u.answer Status.badCheck).s1Reply op u.hp.s1.count := by
  have hno : ¬ (s.hears 1 = false ∨ (false = true ∧ s.gen1Has op = true)) := by simp [hh]
  subst hu
  rw [State.gen1Rejected, if_neg hno]
  simp only [Bool.false_eq_true, if_false, if_neg hop]

theorem State.gen1Rejected_undefined {op : Nat} (hhas : s.gen1Has op = false) {u : State} (hu : u = (s.linkValid 1).s1Frame op) :
    s.gen1Rejected op true = (u.answer Status.badOpcode).s1Reply op u.hp.s1.count := by
  have hno : ¬ (s.hears 1 = false ∨ (true = true ∧ s.gen1Has op = true)) := by simp [hh, hhas]
  subst hu
  rw [State.gen1Rejected, if_neg hno]
  rfl

theorem State.opReadBlock_frame (arg : BitVec 8) (data : BitVec 16) {u : State} (hu : u = (s.linkValid 1).s1Frame 0x30) :
    s.opReadBlock (.frame arg data) = (u.answer Status.badOpcode).s1Reply 0x30 u.hp.s1.count := by
  subst hu
  exact if_neg (by simp [hh])

end

/-! ### The obligation -/

/-- Settles O33: each OP by frame, frames without one, and each OP by packet. -/
theorem genOneFramesAreAnswered : Obligations.GenOneFramesAreAnswered := by
  unfold Obligations.GenOneFramesAreAnswered
  refine ⟨?_, ?_⟩
  · rintro s arg data _ rfl
    refine ⟨?_, ?_, ?_, ?_, ?_, ?_, ?_, ?_, ?_, ?_, ?_, ?_, ?_, ?_, ?_, ?_, ?_, ?_, ?_, ?_, ?_, fun hh => ?_⟩
    · intro b hb h
      exact exec_frame_read_plain (exec_readId s _) rfl hb h rfl (arg_lt rfl) nofun nofun rfl rfl
    · intro b hb h
      exact exec_frame_read_plain (exec_readStatus s _) rfl hb h rfl (arg_lt rfl) nofun nofun rfl rfl
    · intro b c hb hs1 h ho
      exact exec_frame_write (exec_softReset s _) rfl hb h rfl (arg_lt rfl) nofun nofun rfl hs1 ho rfl
    · intro b c hb hs1 h hc ho
      exact exec_frame_write_plain (exec_setGain s _) rfl hb h rfl (arg_lt rfl) nofun (fun _ => hc) rfl hs1 ho rfl
    · intro b u hb h hc hu
      refine exec_frame_read_plain (exec_getGain s _) rfl hb h rfl (arg_lt rfl) nofun (fun _ => hc) rfl ?_
      rw [State.runGetGain_eq (x := ⟨1, _, _, _⟩) hu]
    · intro b c hb hs1 h hc ho
      exact exec_frame_write_plain (exec_setFilter s _) rfl hb h rfl (arg_lt rfl) nofun (fun _ => hc) rfl hs1 ho rfl
    · intro b c hb hs1 h hc ho hd
      refine exec_frame_write (exec_setMode s _) rfl hb h rfl (arg_lt rfl) nofun (fun _ => hc) rfl hs1 ho ?_
      rw [State.runSetMode_ok hd]
    · intro b c hb hs1 h harg ho
      exact exec_frame_write (exec_startScan s _) rfl hb h rfl harg nofun nofun rfl hs1 ho rfl
    · intro b c hb hs1 h ho
      exact exec_frame_write_plain (exec_stopScan s _) rfl hb h rfl (arg_lt rfl) nofun nofun rfl hs1 ho rfl
    · intro b hb h hc
      exact exec_frame_read_plain (exec_readCh s _) rfl hb h rfl (arg_lt rfl) nofun (fun _ => hc) rfl rfl
    · intro b c hb hs1 h ho hd
      refine exec_frame_write (exec_setRate s _) rfl hb h rfl (arg_lt rfl) nofun nofun rfl hs1 ho ?_
      rw [State.runSetRate_ok hd]
    · intro b c hb hs1 h hbig hc ho
      exact exec_frame_write_plain (exec_setThrh s _) rfl hb h rfl (arg_lt rfl) (fun _ => hbig) (fun _ => hc) rfl hs1 ho rfl
    · intro b c hb hs1 h hbig hc ho
      exact exec_frame_write_plain (exec_setThrl s _) rfl hb h rfl (arg_lt rfl) (fun _ => hbig) (fun _ => hc) rfl hs1 ho rfl
    · intro b c hb hs1 h hbig hc ho
      exact exec_frame_write_plain (exec_persCmpCtrl s _) rfl hb h rfl (arg_lt rfl) (fun _ => hbig) (fun _ => hc) rfl hs1 ho rfl
    · intro b hb h hbig hc hr
      refine exec_frame_read_plain (exec_readCmp s _) rfl hb h rfl (arg_lt rfl) (fun _ => hbig) (fun _ => hc) rfl ?_
      rw [State.runReadCmp_ok hr]
    · intro b c hb hs1 h hbig hc ho
      exact exec_frame_write_plain (exec_setOut s _) rfl hb h rfl (arg_lt rfl) (fun _ => hbig) (fun _ => hc) rfl hs1 ho rfl
    · intro b hb h harg
      exact exec_frame_read_plain (exec_xsel s _) rfl hb h rfl harg nofun nofun rfl rfl
    · intro b hb h
      exact exec_frame_read_plain (exec_xrdlo s _) rfl hb h rfl (arg_lt rfl) nofun nofun rfl rfl
    · intro b hb h
      exact exec_frame_read_plain (exec_xrdhi s _) rfl hb h rfl (arg_lt rfl) nofun nofun rfl rfl
    · intro b hb h
      exact exec_frame_read_plain (exec_xwrlo s _) rfl hb h rfl (arg_lt rfl) nofun nofun rfl rfl
    · intro b c hb hs1 h ho
      exact exec_frame_write_plain (exec_xwrhi s _) rfl hb h rfl (arg_lt rfl) nofun nofun rfl hs1 ho rfl
    · refine ⟨?_, ?_, fun u hu => ?_, fun op u hop hu => ?_, fun op u hhas hu => ?_⟩
      · rw [exec_gen1Nop, State.gen1Nop, if_pos hh]
      · rw [exec_gen1FrameDiscard, State.gen1Discard, if_pos hh]
      · rw [exec_readBlock, State.opReadBlock_frame hh arg data hu]
      · have hne : op.toNat ≠ 0 := fun h0 => hop (BitVec.eq_of_toNat_eq h0)
        rw [exec_gen1FrameRejected, State.gen1Rejected_check hh hne hu]
      · rw [exec_gen1FrameRejected, State.gen1Rejected_undefined hh hhas hu]
  · rintro s p _ _ rfl rfl
    refine ⟨?_, ?_, ?_, ?_, ?_, ?_, ?_, ?_, ?_, ?_, ?_, ?_, ?_, ?_, ?_, ?_, ?_, ?_, ?_, ?_, ?_, ?_⟩
    · intro a ha h hl
      exact exec_packet_pers (exec_readId s _) rfl ha h rfl hl (target_lt rfl) nofun nofun rfl
    · intro a ha h hl
      exact exec_packet_pers (exec_readStatus s _) rfl ha h rfl hl (target_lt rfl) nofun nofun rfl
    · intro a ha h hl ho
      exact exec_packet_pers (exec_softReset s _) rfl ha h rfl hl (target_lt rfl) nofun (fun _ => ho) rfl
    · intro a ha h hl hc ho
      exact exec_packet_pers (exec_setGain s _) rfl ha h rfl hl (target_lt rfl) (fun _ => hc) (fun _ => ho) rfl
    · intro a u ha h hl hc hu
      refine exec_packet_pers (exec_getGain s _) rfl ha h rfl hl (target_lt rfl) (fun _ => hc) nofun ?_
      rw [plainOp, State.runGetGain_eq (x := ⟨portCode p.port, _, _, _⟩) hu]
    · intro a ha h hl hc ho
      exact exec_packet_pers (exec_setFilter s _) rfl ha h rfl hl (target_lt rfl) (fun _ => hc) (fun _ => ho) rfl
    · intro a ha h hl hc ho hd
      refine exec_packet_pers (exec_setMode s _) rfl ha h rfl hl (target_lt rfl) (fun _ => hc) (fun _ => ho) ?_
      rw [State.runSetMode_ok (hd.lt_or_eq.imp Nat.le_of_lt_succ (⟨·, rfl⟩))]
    · intro a ha h hl harg ho
      exact exec_packet_pers (exec_startScan s _) rfl ha h rfl hl harg nofun (fun _ => ho) rfl
    · intro a ha h hl ho
      exact exec_packet_pers (exec_stopScan s _) rfl ha h rfl hl (target_lt rfl) nofun (fun _ => ho) rfl
    · intro a ha h hl hc
      exact exec_packet_pers (exec_readCh s _) rfl ha h rfl hl (target_lt rfl) (fun _ => hc) nofun rfl
    · intro a ha h hl ho hd
      refine exec_packet_pers (exec_setRate s _) rfl ha h rfl hl (target_lt rfl) nofun (fun _ => ho) ?_
      rw [State.runSetRate_ok hd]
    · intro a ha h hl hc ho
      exact exec_packet_pers (exec_setThrh s _) rfl ha h rfl hl (target_lt rfl) (fun _ => hc) (fun _ => ho) rfl
    · intro a ha h hl hc ho
      exact exec_packet_pers (exec_setThrl s _) rfl ha h rfl hl (target_lt rfl) (fun _ => hc) (fun _ => ho) rfl
    · intro a ha h hl hc ho
      exact exec_packet_pers (exec_persCmpCtrl s _) rfl ha h rfl hl (target_lt rfl) (fun _ => hc) (fun _ => ho) rfl
    · intro a ha h hl hc hr
      refine exec_packet_pers (exec_readCmp s _) rfl ha h rfl hl (target_lt rfl) (fun _ => hc) nofun ?_
      rw [plainOp, State.runReadCmp_ok hr]
    · intro a ha h hl hc ho
      exact exec_packet_pers (exec_setOut s _) rfl ha h rfl hl (target_lt rfl) (fun _ => hc) (fun _ => ho) rfl
    · rintro a _ _ ha h hl harg rfl rfl
      exact exec_packet_pers (exec_readBlock s _) rfl ha h rfl hl harg nofun nofun rfl
    · intro a ha h hl harg
      exact exec_packet_pers (exec_xsel s _) rfl ha h rfl hl harg nofun nofun rfl
    · intro a ha h hl
      exact exec_packet_pers (exec_xrdlo s _) rfl ha h rfl hl (target_lt rfl) nofun nofun rfl
    · intro a ha h hl
      exact exec_packet_pers (exec_xrdhi s _) rfl ha h rfl hl (target_lt rfl) nofun nofun rfl
    · intro a ha h hl
      exact exec_packet_pers (exec_xwrlo s _) rfl ha h rfl hl (target_lt rfl) nofun nofun rfl
    · intro a ha h hl ho
      exact exec_packet_pers (exec_xwrhi s _) rfl ha h rfl hl (target_lt rfl) nofun (fun _ => ho) rfl

end Sys2Proof.Machine
end
